-- ==== Sys2Proof/Word.lean ====
section
/-! DEFINITION. The data words of the window and the canonical sparse table that every part of the
state is kept in. -/

namespace Sys2Proof

/-- One dword of the manager window (R477). -/
abbrev Word := BitVec 32

/-- A sparse table from a Nat key to data: a list of pairs whose keys rise strictly. -/
abbrev Map (α : Type) := List (Nat × α)

end Sys2Proof
end

