-- ==== Sys2Proof/Types.lean ====
section
/-! DEFINITION. The data that commands bring from outside the block and that the state shares with them:
references to fetched commands, straps and pins, the content of the two NOR devices (spec/02, spec/19), and the records
found on the flash. -/

namespace Sys2Proof

/-! ### Commands of the hosts (spec/04, spec/05) -/

/-- A fetched command: the OWNER of its controller (Table QUE-1: tenant slot, 0x1000 + link index for a PF
controller, 0x1FFF for system), its submission queue and its command identifier. -/
structure CmdRef where
  owner : Nat
  sqid : Nat
  cid : Nat
  deriving DecidableEq, Repr, Inhabited

/-- A completion status (spec/04 R75, R76, R86 and the NVMe names the chapters use). [PRESUMED, unsafe: log 33] -/
inductive Status where
  | success
  | invalidOpcode
  | invalidField
  | dataTransferError
  | abortRequested
  | abortedSqDeletion
  | abortedPowerLoss
  | internalError
  | commandSequenceError
  | invalidNamespace
  | namespaceNotReady
  | namespaceWriteProtected
  | lbaOutOfRange
  | capacityExceeded
  | invalidProtection
  | invalidQueueId
  | invalidQueueSize
  | completionQueueInvalid
  | invalidQueueDeletion
  | invalidInterruptVector
  | abortLimitExceeded
  | aerLimitExceeded
  | invalidFirmwareSlot
  | invalidFirmwareImage
  | firmwareNeedsConventionalReset
  | featureNotSaveable
  | featureNotChangeable
  | invalidFormat
  | namespaceInsufficientCapacity
  | namespaceIdUnavailable
  | namespaceAlreadyAttached
  | namespaceNotAttached
  | controllerListInvalid
  | zoneBoundaryError
  | zoneIsFull
  | zoneIsReadOnly
  | zoneIsOffline
  | zoneInvalidWrite
  | tooManyActiveZones
  | tooManyOpenZones
  | invalidZoneTransition
  | writeFault
  | unrecoveredRead
  | guardCheck
  | appTagCheck
  | refTagCheck
  | anaInaccessible
  | anaTransition
  | connectInvalidParameters
  | connectInvalidHost
  | sanitizeFailed
  | sanitizeInProgress
  | deferredWriteFault
  | keySlotSpent
  | connectControllerBusy
  | transientTransport
  | serveAuthFailed
  | serveProgramInvalid
  | raw (sct sc : Nat)
  deriving DecidableEq, Repr, Inhabited

/-- One submission queue entry, as far as the queue engine and the I/O path look at it (R105, R93, R60):
`units` is the data length in 4 KiB units rounded up (0: no data), `dl` is CDW13[31:16]. -/
structure Sqe where
  cid : Nat
  opcode : Nat
  units : Nat
  fuse : Nat
  dl : Nat
  deriving DecidableEq, Repr

/-- A PCIe function (R67): the PF of a link, or VF `v` (numbered from 1) of a link. -/
inductive Fn where
  | pf (link : Nat)
  | vf (link v : Nat)
  deriving DecidableEq, Repr

/-- A write of a function's configuration space (R67, R69, R72, R75, R76): NumVFs of the link's PF; the base address of a BAR of a
function (0 the PF, v a VF; BAR 0, 2 or 4, or with `vf` the PF's VF BARs); the timeout field and the Completion Timeout Disable
bit of Device Control 2; its 10-bit Tag Requester Enable; ones that clear AER status bits. [DESIGN CHOICE, safe: log 192] -/
inductive CfgWrite where
  | numVfs (n : Nat)
  | bar (v : Nat) (vf : Bool) (i value : Nat)
  | timeout (v value : Nat) (disable : Bool)
  | tag10 (on_ : Bool)
  | aerClear (v uncor cor : Nat)
  deriving DecidableEq, Repr

/-- A write of MSI-X state (R71): the mask bit of a vector, or the function mask. -/
inductive MsixWrite where
  | vector (v : Nat) (masked : Bool)
  | function (masked : Bool)
  deriving DecidableEq, Repr

/-- An error that a link receives (R76): a poisoned TLP or an Unsupported Request completion for a command's data, a poisoned
doorbell write to a controller, or a correctable error of a controller's function, as its bit in the AER status. -/
inductive TlpError where
  | poisonedData (ref : CmdRef)
  | unsupported (ref : CmdRef)
  | poisonedDoorbell (owner : Nat)
  | correctable (owner bit : Nat)
  deriving DecidableEq, Repr

/-- The format that a Namespace create or Format NVM names (R81, R82): the LBA format, the type of protection information and its guard. -/
structure NsFormat where
  lbaf : Nat
  pi : Nat
  guard : Nat
  deriving DecidableEq, Repr

/-- What a request that the block issued to a host was for (R75). -/
inductive ReqKind where
  | data (ref : CmdRef)
  | entryFetch (owner qid : Nat)
  | listFetch (ref : CmdRef)
  | cqWrite (owner cqid : Nat)
  deriving DecidableEq, Repr

/-! ### Straps and pins (spec/20, spec/21) -/

/-- The straps as sampled (R498, Table REG-6). [DESIGN CHOICE, unsafe: log 7] -/
structure Straps where
  chart : Nat
  mgr : Nat
  pair : Nat
  holdup : Bool
  safe : Bool
  h0w : Nat
  h1w : Nat
  boot : Bool
  vreg : Nat
  deriving DecidableEq, Repr, Inhabited

/-- The levels of the input pins that the block acts on (spec/21). [DESIGN CHOICE, unsafe: log 7] -/
structure Pins where
  perstH0N : Bool
  perstH1N : Bool
  pwrLossN : Bool
  holdupOk : Bool
  tamperN : Bool
  fenceIn : Bool
  deriving DecidableEq, Repr, Inhabited

/-! ### The chart (Table CHT-6, one structure per section) -/

/-- One die kind of the DIES section. Times in µs. -/
structure DieKind where
  idBytes : Nat
  pageKiB : Nat
  planes : Nat
  pagesPerBlock : Nat
  blocksPerPlane : Nat
  tR : Nat
  tProg : Nat
  tBers : Nat
  tSusp : Nat
  wcRead : Nat
  wcProg : Nat
  wcErase : Nat
  slcProg : Nat
  unitKiB : Nat
  slcBlockKiB : Nat
  readOffsets : List Nat
  deriving DecidableEq, Repr, Inhabited

/-- The configuration of one channel (CE_MASK, LUNS_PER_CE, KIND). -/
structure ChanCfg where
  ceMask : Nat
  luns : Nat
  kind : Nat
  deriving DecidableEq, Repr, Inhabited

/-- The DIES section. `chans` lists the channels of CHANNEL_MASK in ascending order. -/
structure ChartDies where
  chans : List (Nat × ChanCfg)
  kinds : List DieKind
  toggle : Bool
  rate : Nat
  deriving DecidableEq, Repr, Inhabited

/-- The PORTS section; modes of N0 to N3: 0 off, 1, 2 or 4 logical ports. -/
structure ChartPorts where
  h0Split : Nat
  h1Split : Nat
  h0Gen : Nat
  h1Gen : Nat
  vfCount : List Nat
  nMode : List Nat
  mtu : Nat
  deriving DecidableEq, Repr, Inhabited

/-- The TENANCY section. -/
structure ChartTen where
  vfSlots : Nat
  fabricSlots : Nat
  qpoolPf : Nat
  qpoolVf : Nat
  qpoolFabric : Nat
  qpoolSystem : Nat
  maxQueues : Nat
  defQueues : Nat
  maxInflight : Nat
  maxNs : Nat
  maxQp : Nat
  deriving DecidableEq, Repr, Inhabited

/-- One constellation. `columns` lists the bits of COLUMN_MASK; `codeRate` is in per cent. -/
structure ChartCons where
  columns : List Nat
  codeRate : Nat
  zoned : Bool
  conv : Bool
  activeLimit : Nat
  openLimit : Nat
  stagger : Bool
  deriving DecidableEq, Repr, Inhabited

/-- The ZONE section. `zone4k` is ZONE_SIZE in units of 4 KiB. -/
structure ChartZone where
  planesPerSet : Nat
  zone4k : Nat
  maxZones : Nat
  devActive : Nat
  devOpen : Nat
  nsActive : Nat
  nsOpen : Nat
  granuleKiB : Nat
  deriving DecidableEq, Repr, Inhabited

/-- The BUDGET section. `lend` holds the 64 bits of LEND_MATRIX, row 0 lowest. -/
structure ChartBudget where
  meridianUs : Nat
  shares : List Nat
  reserve : Nat
  lend : Nat
  defWeight : Nat
  deriving DecidableEq, Repr, Inhabited

/-- The DRAM section. -/
structure ChartDram where
  channels : Nat
  gibPerChannel : Nat
  rate : Nat
  wbufMiB : Nat
  hotMinGiB : Nat
  hotMaxGiB : Nat
  fdpGiB : Nat
  ingots : Nat
  systemMiB : Nat
  deriving DecidableEq, Repr, Inhabited

/-- The POWER section. Powers in mW, temperatures in °C. -/
structure ChartPower where
  psMax : List Nat
  idleMs : List Nat
  duskMiB : Nat
  warn : Nat
  t1 : Nat
  t2 : Nat
  t3 : Nat
  trip : Nat
  deriving DecidableEq, Repr, Inhabited

/-- The KEYS section. -/
structure ChartKeys where
  tenantSlots : Nat
  systemSlots : Nat
  gcm : Nat
  xts : Nat
  ctr : Nat
  deriving DecidableEq, Repr, Inhabited

/-- The TIME section; `source`: 0 none, 1 to 4 PTP on N0 to N3, 5 PPS with TOD (Table SID-7). -/
structure ChartTime where
  source : Nat
  ptpDomain : Nat
  ppsWindow : Nat
  holdoverS : Nat
  deriving DecidableEq, Repr, Inhabited

/-- The MEDIA section. -/
structure ChartMedia where
  scrubH : Nat
  assayLog2 : Nat
  spareMin : Nat
  finalReserve : Nat
  deriving DecidableEq, Repr, Inhabited

/-- The PAIR section. -/
structure ChartPair where
  companion : Nat
  lanes : Nat
  resyncShare : Nat
  deriving DecidableEq, Repr, Inhabited

/-- The content of a chart. -/
structure Chart where
  magnitude : Nat
  dies : ChartDies
  ports : ChartPorts
  ten : ChartTen
  cons : List ChartCons
  zone : ChartZone
  budget : ChartBudget
  dram : ChartDram
  power : ChartPower
  keys : ChartKeys
  time : ChartTime
  media : ChartMedia
  pair : ChartPair
  deriving DecidableEq, Repr, Inhabited

/-- A section table entry (Table CHT-3). -/
structure SectionEntry where
  type : Nat
  flags : Nat
  version : Nat
  offset : Nat
  length : Nat
  crc : Nat
  deriving DecidableEq, Repr, Inhabited

/-- A chart slot of NOR, or a staged container: its bytes from offset 0 (Tables CHT-2 to CHT-4), a byte that is not listed being
erased (0xFF), and `content`, what the section bytes say: the spec gives the sections' fields (Table CHT-6) and not their bytes.
`readable` is false where the NOR device does not answer. [DESIGN CHOICE, safe: log 224] -/
structure Container where
  readable : Bool := true
  bytes : List Nat := []
  content : Chart := default
  deriving DecidableEq, Repr, Inhabited

/-- An activation pointer copy: the bytes of its sector (Table STU-2). [DESIGN CHOICE, safe: log 224] -/
structure PtrCopy where
  readable : Bool := true
  bytes : List Nat := []
  deriving DecidableEq, Repr, Inhabited

/-- A firmware image: its bytes from offset 0 (Table STU-3). [DESIGN CHOICE, safe: log 224] -/
structure FwImage where
  readable : Bool := true
  bytes : List Nat := []
  deriving DecidableEq, Repr, Inhabited

/-- The content of NOR0 and NOR1 (Tables CHT-1, STU-1). -/
structure Nor where
  ptr0 : PtrCopy := {}
  ptr1 : PtrCopy := {}
  fw1 : FwImage := {}
  fw2 : FwImage := {}
  chart0 : Container := {}
  chart1 : Container := {}
  chart2 : Container := {}
  chart3 : Container := {}
  deriving DecidableEq, Repr, Inhabited

/-- What Firmware Download staged in DRAM (R467): its bytes, and as for a container what the section bytes of a chart say. [DESIGN
CHOICE, safe: log 224] -/
structure Staged where
  bytes : List Nat := []
  content : Chart := default
  deriving DecidableEq, Repr, Inhabited

/-! ### What a chart load finds (spec/02, spec/09) -/

/-- The format record of one member (R43): its fingerprint and the REFORMATTING mark's fingerprint, if any (R42). -/
structure FormatRecord where
  member : Nat
  fingerprint : Nat
  reformatting : Option Nat
  deriving DecidableEq, Repr, Inhabited

/-- What training finds (R202, R203): the channels that did not train (with the rate each other channel reached), the
dies that do not answer or whose ID bytes differ from their kind's, the spare bytes per page of dies (R208; enough in one not listed), the NOR
devices with invalid SFDP tables, the blocks that fail R236's test of a good block, as (die, block), and, where modules were
exchanged while the power was off, the format records that are found instead of those the block left; and the populated
DRAM channels with their GiB each, which the ROM safe chart uses (R36). -/
structure Training where
  failedChannels : List Nat
  rates : List (Nat × Nat)
  badDies : List (Nat × Nat)
  spareBytes : List ((Nat × Nat) × Nat)
  sfdpBad : List Nat
  badBlocks : List (Nat × Nat)
  exchanged : Option (List FormatRecord)
  dramChannels : Nat
  dramGib : Nat
  deriving DecidableEq, Repr, Inhabited

/-! ### Time sources (spec/03) -/

/-- A PTP master as an Announce message describes it (R48, Table SID-1): its clockIdentity and that of its grandmaster. -/
structure PtpMaster where
  id : Nat
  gm : Nat
  domain : Nat
  prio1 : Nat
  clockClass : Nat
  accuracy : Nat
  variance : Nat
  prio2 : Nat
  stepsRemoved : Nat
  logSync : Int
  twoStep : Bool
  transport : Nat
  deriving DecidableEq, Repr, Inhabited

/-- A time-of-day message as received: its bytes (Table SID-2). -/
structure Tod where
  bytes : List Nat
  deriving DecidableEq, Repr, Inhabited

/-! ### Mailboxes (spec/18) -/

/-- An agent, by the path of its access (R436). -/
inductive Agent where
  | core (id : Nat)
  | manager
  | companion
  deriving DecidableEq, Repr, Inhabited

/-! ### Registers (spec/20) -/

/-- One dword access of the manager window (R477): a write with its value and byte enables, or a read. -/
inductive Access32 where
  | read (off : Nat)
  | write (off : Nat) (value : Word) (be : Nat)
  deriving DecidableEq, Repr, Inhabited

/-- A sample of the junction diode (R426, R431), in units of 0.25 °C. -/
inductive ThermSample where
  | valid (q : Int)
  | opened
  | shorted
  deriving DecidableEq, Repr, Inhabited

/-- What the Bulum link carries for a companion mailbox (R441). -/
inductive MbxFrame where
  | word (w : Word)
  | ring
  | replyWord (w : Word)
  | reply
  | owned
  | freed
  | carried
  | popped
  deriving DecidableEq, Repr, Inhabited

/-! ### What the restore finds on the flash (spec/19 Table STU-5) -/

/-- What a step of the restore reads that the block does not compute: the intact copies of the newest batch on members in
service and on the companion (R259); the dies whose block entries are not yet read (R214); the rows that the resync looks
at, each as set, row, finding of Table RED-2 and position of a torn unit; the key slots whose persisted key survives in no
copy or does not unwrap (R322); the verdict on the write-buffer headers after a warm reset (R471); and, after an incomplete dusk
drain, the ranges that the dusk blocks prove durable (R160), by their numbers. -/
structure Found where
  copies : Nat
  companion : Bool
  diesLeft : List Nat
  rows : List (Nat × Nat × Nat × Nat)
  keysBad : List Nat
  headersOk : Bool
  proved : List Nat
  deriving DecidableEq, Repr, Inhabited

/-! ### Data and die operations (spec/07 to spec/10) -/

/-- What arrives for a write (R143): the content of each of its logical blocks, or a hallmark that fails at ingress:
the failed field (0 guard, 1 application tag, 2 reference tag) and the first LBA of its 4 KiB. -/
inductive DataResult where
  | data (blocks : List Nat)
  | hallmark (field lba : Nat)
  deriving DecidableEq, Repr, Inhabited

/-- Kinds of flash operation (R169, R196). -/
inductive OpKind where
  | read | program | erase | slc
  deriving DecidableEq, Repr, Inhabited

/-- What an operation on a die is for (Table DSC-1). A set is a zone or a reclaim unit, by its key; `row` is the program
unit's index in it and `pos` the row position (R246). -/
inductive Purpose where
  /-- The codewords of a host read: the command, or the GATHER step of a program. -/
  | hostRead (ref : CmdRef) (lba n : Nat)
  /-- One read of a reconstruction: occultation, step 4 of the ladder, an out-of-service unit, or a rebuild; `part` is the row
  position, and 256 times the page within the unit where the job reads whole units. -/
  | jobRead (job part : Nat)
  /-- A retry or a soft read of a codeword that failed its hard decode. -/
  | ladderRead (dec : Nat)
  /-- The data unit or the parity unit of a row. -/
  | unit (set row pos : Nat)
  /-- A data patch or a parity patch of a read-modify-write. -/
  | patch (wr : Nat) (parity : Bool)
  /-- A program unit of patches that were collected for a die: of a small write each its data or its parity patch (R253). -/
  | patches (l : List (Nat × Bool))
  /-- A flush record of writes whose row is partly filled. -/
  | flushRecord (wrs : List Nat)
  /-- Journal batches, bitmaps, maps, tables and almanac records. -/
  | metadata
  /-- A read of the manager's admin commands. -/
  | adminRead
  /-- A relocation's read or program. -/
  | move (set : Nat)
  /-- A read or program that repairs a block set: the unit below the failed one. -/
  | repair (set row pos : Nat)
  /-- A rebuild's program: the unit of a row on the member. -/
  | rebuild (set row member : Nat)
  /-- An erase of a released block set, or of a metadata or dusk block. -/
  | erase
  /-- A read of patrol scrub, or with a shift of the retries one that tunes the threshold book (R220). -/
  | scrub (shift : Option Nat)
  /-- An assay: of a relocation's program into a set, or a sampled one. -/
  | assay (set : Nat)
  /-- A program of dusk data. -/
  | dusk
  deriving DecidableEq, Repr, Inhabited

/-- An operation that asks for a place in a die queue: blocks of one block set and the first page; `bad` is the first
LBA of the first 4 KiB whose hallmark fails at buffer-to-media (R263). -/
structure DieReq where
  ch : Nat
  die : Nat
  kind : OpKind
  blocks : List Nat
  page : Nat
  purpose : Purpose
  bad : Option Nat
  deriving DecidableEq, Repr, Inhabited

/-! ### The network (spec/11) -/

/-- What a received frame carries (R283, R288): a SEND to a queue pair, an inbound RDMA READ or WRITE, a PTP message, or
anything else. -/
inductive RoceKind where
  | send (qp psn : Nat) (last : Bool)
  | rdmaRead (qp psn : Nat)
  | rdmaWrite (qp psn : Nat)
  | ptp
  | other
  deriving DecidableEq, Repr, Inhabited

/-- A frame received on a logical port (R278 to R283): its length, its VLAN priority if tagged, its DSCP, its ECN mark,
and the bytes that its priority's part of the receive buffer holds with it (R281). -/
structure RocePacket where
  port : Nat
  bytes : Nat
  pcp : Option Nat
  dscp : Nat
  ce : Bool
  occupancy : Nat
  kind : RoceKind
  deriving DecidableEq, Repr, Inhabited

/-- A fabric Connect on a queue pair (R285, R334): `nqn` holds the bytes of its HOSTNQN, `kato` the keep-alive time in ms. -/
structure ConnectReq where
  qp : Nat
  qid : Nat
  sqsize : Nat
  cntlid : Nat
  nqn : List Nat
  kato : Nat
  discovery : Bool
  deriving DecidableEq, Repr, Inhabited

/-- The usage limits (R327). -/
inductive KeyLimit where
  | xts | gcm | ctr
  deriving DecidableEq, Repr, Inhabited

/-- The glitch detectors (R496). -/
inductive Glitch where
  | voltage | clock | temperature
  deriving DecidableEq, Repr, Inhabited

/-! ### Eclipse records (Tables TEN-4 to TEN-6) -/

/-- A queue entry of a record (Table TEN-5). -/
structure EclQueue where
  qid : Nat
  sqValid : Bool
  cqValid : Bool
  prio : Nat
  phase : Bool
  sqBase : Nat
  cqBase : Nat
  sqSize : Nat
  cqSize : Nat
  sqHead : Nat
  sqTail : Nat
  cqHead : Nat
  cqTail : Nat
  sqCqid : Nat
  vector : Nat
  ien : Bool
  dlDefault : Nat
  deriving DecidableEq, Repr, Inhabited

/-- An attachment entry of a record. -/
structure EclAttach where
  nsid : Nat
  pending : Bool
  csi : Nat
  lbaf : Nat
  nsze : Nat
  deriving DecidableEq, Repr, Inhabited

/-- A completion entry of a record (Table TEN-6): the status field without the phase bit. -/
structure EclCompletion where
  sqid : Nat
  cid : Nat
  cqid : Nat
  status : Nat
  dw0 : Nat
  dw1 : Nat
  deriving DecidableEq, Repr, Inhabited

/-- What an eclipse record holds (Table TEN-4), its CC, PENDING_AEN and FEATURES as their values. -/
structure EclRecord where
  serial : Nat
  saveTime : Nat
  saveLock : Nat
  forced : Bool
  slot : Nat
  queueCountM1 : Nat
  cc : Nat
  weight : Nat
  limit : Nat
  aens : Nat
  arbitration : Nat
  granted : Nat
  coalescing : Nat
  aenConfig : Nat
  aers : List Nat
  queues : List EclQueue
  attach : List EclAttach
  keys : List (Nat × Nat)
  completions : List EclCompletion
  deriving DecidableEq, Repr, Inhabited

/-! ### DRAM (spec/15) -/

/-- What the decoder finds at a line (R377, R386): the errors that the devices added to what was stored. -/
inductive DramVerdict where
  | clean
  | correctable (position : Nat)
  | uncorrectable
  | poisoned
  deriving DecidableEq, Repr, Inhabited

/-- Whose data a DRAM line holds (Table DRM-4). `survives`: a persisted copy of the entry survives. -/
inductive DramContent where
  | coreFetch (core : Nat)
  | coreLoad (core : Nat)
  | coreStore (core : Nat)
  | mover (channel : Nat)
  | bufferToHost (ref : CmdRef) (lba : Nat)
  | bufferToMedia (wr lba : Nat)
  | hot (nsid blk : Nat)
  | ingot
  | queueContext (owner : Nat)
  | zoneEntry (nsid zone : Nat) (survives : Bool)
  | mapEntry (nsid granule : Nat) (survives : Bool)
  | tableEntry (set : Nat) (survives : Bool)
  | bookEntry (key : Nat)
  | fabricRing (owner : Nat)
  | programSlot (slot : Nat)
  | other
  deriving DecidableEq, Repr, Inhabited

/-- A request to a DRAM controller (R374, R375, R383, R385): the address, the data of a write and the bytes it covers,
whether it activates a row (R376), and what the decoder finds of the line read; of a whole line written, what it found of
the data that the write copies (R386). -/
structure DramReq where
  addr : Nat
  write : Option Nat
  mask : Nat
  requester : Nat
  act : Bool
  content : DramContent
  found : DramVerdict
  deriving DecidableEq, Repr, Inhabited

/-! ### The binary pair (spec/16) -/

/-- What the companion sends in the identity exchange (R394): its serial, strap, fingerprint, persisted state code and
epoch, and whether it marks any region divergent. -/
structure CompanionId where
  serial : Nat
  side : Nat
  fingerprint : Nat
  state : Nat
  epoch : Nat
  diverged : List Nat
  deriving DecidableEq, Repr, Inhabited

/-- A heartbeat frame (R401). -/
structure HeartbeatFrame where
  state : Nat
  epoch : Nat
  batchSeq : Nat
  sidereal : Nat
  gapUs : Nat
  deriving DecidableEq, Repr, Inhabited

/-- The changing commands of a pair namespace (R392, R398), and the operations on the namespaces themselves, each by its
numbers: 0 create, 1 delete, 2 format, 3 sanitize with crypto erase, 4 sanitize with block erase. The actions of a zone
send: 1 close, 2 finish, 3 open, 4 reset, 5 secure reset. -/
inductive ForwardKind where
  | write (fua : Bool) (dtype dspec : Nat)
  | append
  | zeroes (deac : Bool)
  | zoneSend (action : Nat) (all : Bool)
  | deallocate (ranges : List (Nat × Nat))
  | namespaces (op : List Nat)
  deriving DecidableEq, Repr, Inhabited

/-- Mirror frames (R397, R398): a pair write's plaintext units with the verdict on their hallmarks, or a changing command
that carries no data. -/
structure MirrorData where
  seq : Nat
  kind : ForwardKind
  nsid : Nat
  slba : Nat
  nlb : Nat
  data : List Nat
  hallmarkOk : Bool
  deriving DecidableEq, Repr, Inhabited

/-- A forwarded command with its data. -/
structure Forwarded where
  seq : Nat
  kind : ForwardKind
  nsid : Nat
  slba : Nat
  nlb : Nat
  data : List Nat
  deriving DecidableEq, Repr, Inhabited

/-- What one side sends for a divergent region (R408): of a zone its WP, its void ranges, whether it is FULL and whether it
was reset securely; of a conventional region nothing of these. `blocks` holds the logical blocks from the zone's or the
region's first one on, none where a block is unmapped or its sender does not hold it durably. -/
structure CopyImage where
  wp : Nat
  voids : List (Nat × Nat)
  full : Bool
  secure : Bool
  blocks : List (Option Nat)
  deriving DecidableEq, Repr, Inhabited

end Sys2Proof
end

