-- ==== Sys2Proof/Syntax.lean ====
section
/-! DEFINITION. The commands: one constructor per row of the table of operations and events
(spec/opcode_table.json). The rows give no operand fields: the operands are what the governing rule says the command
brings (a register field, a frame, an NVMe command dword) or what it learns from outside the block (log entry 3). -/

namespace Sys2Proof

/-- The commands of the block. -/
inductive Instr where
  /-- POR_N_ASSERT (R495). -/
  | porNAssert
  /-- POR_N_DEASSERT (R462). -/
  | porNDeassert (straps : Straps) (pins : Pins) (nor : Option Nor)
  /-- SRAM_FILL_DONE (R381). -/
  | sramFillDone
  /-- NOR_BUSY_WAIT_DONE (R459). -/
  | norBusyWaitDone (dev : Nat) (finished : Bool)
  /-- FIRMWARE_BOOT (R460). -/
  | firmwareBoot
  /-- RECOVERY_LINK_RETRY (R461). -/
  | recoveryLinkRetry (h0 : Bool) (h1 : Bool)
  /-- BOOT_REC_LOAD (R461). -/
  | bootRecLoad (unlock : Nat) (image : Option FwImage)
  /-- CHART_LOAD (R35). -/
  | chartLoad (tr : Training)
  /-- RESTORE_STEP (R463). -/
  | restoreStep (n : Nat) (found : Found)
  /-- PAIR_JOURNAL_WAIT_EXPIRY (R466). -/
  | pairJournalWaitExpiry
  /-- FILL_HOLD_TIMEOUT (R465). -/
  | fillHoldTimeout
  /-- FILL_GO (R465). -/
  | fillGo (unlock : Nat)
  /-- WARM (R470). -/
  | warm (unlock : Nat)
  /-- WARM_RESET (R470). -/
  | warmReset (cause : Nat)
  /-- CHART_CTRL_LOAD (R40). -/
  | chartCtrlLoad (unlock : Nat) (slot : Nat) (arm : Bool)
  /-- CHART_CTRL_SAFE (R40). -/
  | chartCtrlSafe (unlock : Nat) (arm : Bool)
  /-- CHART_DRAIN_TIMEOUT (R40). -/
  | chartDrainTimeout
  /-- STRUCTURAL_DRAIN_DONE (R40). -/
  | structuralDrainDone (tr : Training)
  /-- MERIDIAN (R57). -/
  | meridian
  /-- PTP_SYNC (R48). -/
  | ptpSync (m : Nat) (domain : Nat) (offset : Int) (twoStep : Bool)
  /-- PTP_FOLLOW_UP (R48). -/
  | ptpFollowUp (m : Nat) (domain : Nat) (offset : Int)
  /-- PTP_ANNOUNCE (R48). -/
  | ptpAnnounce (m : PtpMaster)
  /-- PTP_DELAY_RESP (R48). -/
  | ptpDelayResp (m : Nat) (domain : Nat) (delay : Nat)
  /-- PTP_DELAY_REQ (R288). -/
  | ptpDelayReq
  /-- PTP_SYNC_TIMEOUT (R49). -/
  | ptpSyncTimeout
  /-- ANNOUNCE_RECEIPT_TIMEOUT (R49). -/
  | announceReceiptTimeout
  /-- PPS_EDGE (R51). -/
  | ppsEdge (ns : Nat)
  /-- PPS_WINDOW_CLOSE (R51). -/
  | ppsWindowClose
  /-- JUDGING_INTERVAL_END (R51). -/
  | judgingIntervalEnd
  /-- TOD_MESSAGE (R50). -/
  | todMessage (t : Tod)
  /-- ACQUIRE_TIMEOUT (R52). -/
  | acquireTimeout
  /-- HOLDOVER_TIMEOUT (R53). -/
  | holdoverTimeout
  /-- SLEW_TIMEOUT (R54). -/
  | slewTimeout
  /-- SQ_TAIL_DOORBELL (R98). -/
  | sqTailDoorbell (owner : Nat) (qid : Nat) (tail : Nat)
  /-- CQ_HEAD_DOORBELL (R98). -/
  | cqHeadDoorbell (owner : Nat) (qid : Nat) (head : Nat)
  /-- STAMP_SWEEP (R100). -/
  | stampSweep
  /-- FETCH (R102). -/
  | fetch
  /-- FETCH_READ_COMPLETE (R103). -/
  | fetchReadComplete (owner : Nat) (qid : Nat) (entries : Option (List Sqe))
  /-- CONTEXT_FILL (R92). -/
  | contextFill (owner : Nat) (qid : Nat)
  /-- COMPLETION_POST (R109). -/
  | completionPost (ref : CmdRef) (egress : Option (Nat × Nat))
  /-- CQ_FULL_WAIT_EXPIRY (R109). -/
  | cqFullWaitExpiry (owner : Nat) (cqid : Nat)
  /-- AGGREGATION_TIME_EXPIRY (R110). -/
  | aggregationTimeExpiry (owner : Nat) (vector : Nat)
  /-- VECTOR_UNMASK (R71). -/
  | vectorUnmask (fn : Fn) (w : MsixWrite)
  /-- QCOUNT_CHANGE (R97). -/
  | qcountChange (slot : Nat) (countM1 : Nat)
  /-- QCOUNT_CHANGE_DONE (R97). -/
  | qcountChangeDone
  /-- QENG_TEN_LIMIT_WRITE (R108). -/
  | qengTenLimitWrite (slot : Nat) (limit : Nat)
  /-- LINK_UP (R65). -/
  | linkUp (link : Nat) (gen : Nat) (width : Nat) (flit : Bool) (tag10 : Bool)
  /-- LINK_DOWN (R78). -/
  | linkDown (link : Nat)
  /-- HOT_RESET (R78). -/
  | hotReset (link : Nat)
  /-- PERST_ASSERT (R78). -/
  | perstAssert (port : Nat)
  /-- FUNCTION_LEVEL_RESET (R77). -/
  | functionLevelReset (fn : Fn)
  /-- FLR_COMPLETE (R77). -/
  | flrComplete (fn : Fn)
  /-- VF_ENABLE (R67). -/
  | vfEnable (link : Nat)
  /-- VF_DISABLE (R335). -/
  | vfDisable (link : Nat)
  /-- NUMVFS_WRITE (R67). -/
  | numvfsWrite (link : Nat) (w : CfgWrite)
  /-- CC_ENABLE (R93). -/
  | ccEnable (owner : Nat) (asqs : Nat) (acqs : Nat) (ams : Nat) (asq : Nat) (acq : Nat)
  /-- CONTROLLER_RESET (R335). -/
  | controllerReset (owner : Nat)
  /-- COMPLETION_TIMEOUT (R75). -/
  | completionTimeout (link : Nat) (what : ReqKind)
  /-- POISONED_TLP (R76). -/
  | poisonedTlp (link : Nat) (what : TlpError)
  /-- IDENTIFY (R81). -/
  | identify (ref : CmdRef) (cns : Nat) (nsid : Nat) (csi : Nat)
  /-- GET_LOG_PAGE (R85). -/
  | getLogPage (ref : CmdRef) (lid : Nat) (nsid : Nat) (off : Nat) (rae : Bool)
  /-- GET_LOG_C0 (R243). -/
  | getLogC0 (ref : CmdRef) (off : Nat)
  /-- GET_LOG_C1 (R164). -/
  | getLogC1 (ref : CmdRef) (nsid : Nat) (rae : Bool)
  /-- GET_LOG_C2 (R274). -/
  | getLogC2 (ref : CmdRef) (nsid : Nat) (rae : Bool)
  /-- GET_LOG_C3 (R453). -/
  | getLogC3 (ref : CmdRef) (off : Nat)
  /-- SET_FEATURES_DEADLINE_DEFAULT (R83). -/
  | setFeaturesDeadlineDefault (ref : CmdRef) (qid : Nat) (dl : Nat) (sv : Bool)
  /-- GET_FEATURES_DEADLINE_DEFAULT (R83). -/
  | getFeaturesDeadlineDefault (ref : CmdRef) (qid : Nat)
  /-- SET_FEATURES_NUMBER_OF_QUEUES (R96). -/
  | setFeaturesNumberOfQueues (ref : CmdRef) (nsq : Nat) (ncq : Nat)
  /-- GET_FEATURES_NUMBER_OF_QUEUES (R96). -/
  | getFeaturesNumberOfQueues (ref : CmdRef)
  /-- SET_FEATURES_VOLATILE_WRITE_CACHE (R153). -/
  | setFeaturesVolatileWriteCache (ref : CmdRef) (wce : Option Bool)
  /-- SET_FEATURES_POWER_MANAGEMENT (R421). -/
  | setFeaturesPowerManagement (ref : CmdRef) (ps : Nat)
  /-- GET_FEATURES_POWER_MANAGEMENT (R421). -/
  | getFeaturesPowerManagement (ref : CmdRef)
  /-- SET_FEATURES_INTERRUPT_COALESCING (R110). -/
  | setFeaturesInterruptCoalescing (ref : CmdRef) (vectorConfig : Bool) (dw11 : Nat)
  /-- SET_FEATURES_ARBITRATION (R106). -/
  | setFeaturesArbitration (ref : CmdRef) (ab : Nat) (lpw : Nat) (mpw : Nat) (hpw : Nat)
  /-- CREATE_IO_SUBMISSION_QUEUE (R96). -/
  | createIoSubmissionQueue (ref : CmdRef) (qid : Nat) (size : Nat) (base : Nat) (cqid : Nat) (prio : Nat) (pc : Bool)
  /-- CREATE_IO_COMPLETION_QUEUE (R93). -/
  | createIoCompletionQueue (ref : CmdRef) (qid : Nat) (size : Nat) (base : Nat) (vector : Nat) (ien : Bool) (pc : Bool)
  /-- DELETE_IO_SUBMISSION_QUEUE (R508). -/
  | deleteIoSubmissionQueue (ref : CmdRef) (qid : Nat)
  /-- DELETE_IO_COMPLETION_QUEUE (R96). -/
  | deleteIoCompletionQueue (ref : CmdRef) (qid : Nat)
  /-- ASYNCHRONOUS_EVENT_REQUEST (R166). -/
  | asynchronousEventRequest (ref : CmdRef)
  /-- ABORT (R303). -/
  | abort (ref : CmdRef) (sqid : Nat) (cid : Nat)
  /-- NAMESPACE_CREATE (R116). -/
  | namespaceCreate (ref : CmdRef) (cons : Nat) (csi : Nat) (nsze : Nat) (fmt : NsFormat) (handles : List Nat)
  /-- NAMESPACE_DELETE (R116). -/
  | namespaceDelete (ref : CmdRef) (nsid : Nat)
  /-- NAMESPACE_ATTACH (R338). -/
  | namespaceAttach (ref : CmdRef) (nsid : Nat) (ctrls : List Nat)
  /-- NAMESPACE_DETACH (R338). -/
  | namespaceDetach (ref : CmdRef) (nsid : Nat) (ctrls : List Nat)
  /-- FORMAT_NVM (R323). -/
  | formatNvm (ref : CmdRef) (nsid : Nat) (fmt : NsFormat) (ses : Nat)
  /-- SANITIZE_CRYPTO_ERASE (R323). -/
  | sanitizeCryptoErase (ref : CmdRef)
  /-- SANITIZE_BLOCK_ERASE (R239). -/
  | sanitizeBlockErase (ref : CmdRef)
  /-- FIRMWARE_DOWNLOAD (R467). -/
  | firmwareDownload (ref : CmdRef) (off : Nat) (len : Nat) (content : Staged)
  /-- FIRMWARE_COMMIT_WRITE (R467). -/
  | firmwareCommitWrite (ref : CmdRef) (fs : Nat)
  /-- FIRMWARE_COMMIT_WRITE_ACTIVATE (R469). -/
  | firmwareCommitWriteActivate (ref : CmdRef) (fs : Nat)
  /-- FIRMWARE_COMMIT_ACTIVATE (R469). -/
  | firmwareCommitActivate (ref : CmdRef) (dw10 : Nat)
  /-- FIRMWARE_COMMIT_CHART (R468). -/
  | firmwareCommitChart (ref : CmdRef) (fs : Nat)
  /-- READ (R60). -/
  | read (ref : CmdRef) (nsid : Nat) (slba : Nat) (nlb : Nat) (hot : Bool)
  /-- WRITE (R145). -/
  | write (ref : CmdRef) (nsid : Nat) (slba : Nat) (nlb : Nat) (fua : Bool) (dtype : Nat) (dspec : Nat)
  /-- ZONE_APPEND (R125). -/
  | zoneAppend (ref : CmdRef) (nsid : Nat) (slba : Nat) (nlb : Nat)
  /-- WRITE_ZEROES (R145). -/
  | writeZeroes (ref : CmdRef) (nsid : Nat) (slba : Nat) (nlb : Nat) (deac : Bool)
  /-- FLUSH (R151). -/
  | flush (ref : CmdRef) (nsid : Nat)
  /-- DATASET_MANAGEMENT_DEALLOCATE (R131). -/
  | datasetManagementDeallocate (ref : CmdRef) (nsid : Nat) (ranges : List (Nat × Nat))
  /-- ZONE_OPEN (R121). -/
  | zoneOpen (ref : CmdRef) (nsid : Nat) (slba : Nat) (all : Bool) (sec : Bool)
  /-- ZONE_CLOSE (R120). -/
  | zoneClose (ref : CmdRef) (nsid : Nat) (slba : Nat) (all : Bool) (sec : Bool)
  /-- ZONE_FINISH (R120). -/
  | zoneFinish (ref : CmdRef) (nsid : Nat) (slba : Nat) (all : Bool) (sec : Bool)
  /-- ZONE_RESET (R131). -/
  | zoneReset (ref : CmdRef) (nsid : Nat) (slba : Nat) (all : Bool)
  /-- SECURE_RESET (R133). -/
  | secureReset (ref : CmdRef) (nsid : Nat) (slba : Nat) (all : Bool)
  /-- ZONE_REPORT (R122). -/
  | zoneReport (ref : CmdRef) (nsid : Nat) (slba : Nat)
  /-- WRITE_DATA_RECEIVED (R143). -/
  | writeDataReceived (ref : CmdRef) (res : DataResult)
  /-- ZONE_RESET_APPLY (R132). -/
  | zoneResetApply (nsid : Nat) (zone : Nat)
  /-- ZONE_OPEN_ERASE_WAIT_END (R119). -/
  | zoneOpenEraseWaitEnd (nsid : Nat) (zone : Nat)
  /-- SECURE_RESET_COMPLETE (R133). -/
  | secureResetComplete (ref : CmdRef)
  /-- SECURE_PENDING_LIMIT_WAIT_END (R136). -/
  | securePendingLimitWaitEnd (cons : Nat)
  /-- ZONE_HOT_SIZE_WRITE (R140). -/
  | zoneHotSizeWrite (request : Nat)
  /-- HOT_CACHE_SHRINK_DONE (R140). -/
  | hotCacheShrinkDone
  /-- ZONE_NS_ATTR_WRITE (R134). -/
  | zoneNsAttrWrite (secure : Bool)
  /-- BATCH_ON_FLASH (R149). -/
  | batchOnFlash (okA : Bool) (okB : Bool) (companion : Bool)
  /-- PWR_LOSS_N_ASSERT (R157). -/
  | pwrLossNAssert
  /-- DUSK_QUIESCE_DONE (R158). -/
  | duskQuiesceDone
  /-- DUSK_DATA_DONE (R158). -/
  | duskDataDone (lost : List Nat)
  /-- DUSK_RECORD_WRITTEN (R159). -/
  | duskRecordWritten (tenUs : Nat)
  /-- HOLDUP_OK_FALL (R160). -/
  | holdupOkFall
  /-- PWR_LOSS_N_DEASSERT (R159). -/
  | pwrLossNDeassert
  /-- DIE_QUEUE_ENTRY (R182). -/
  | dieQueueEntry (r : DieReq)
  /-- OPERATION_ISSUE (R181). -/
  | operationIssue (ch : Nat) (die : Nat)
  /-- DEADLINE_PASS (R184). -/
  | deadlinePass (ch : Nat) (die : Nat) (op : Nat)
  /-- HOLD_MS_REACHED (R189). -/
  | holdMsReached (ch : Nat) (die : Nat)
  /-- PAGE_READ_DONE (R174). -/
  | pageReadDone (ch : Nat) (die : Nat) (us : Nat) (linesOk : Bool)
  /-- HARD_DECODE_DONE (R216). -/
  | hardDecodeDone (op : Nat) (ok : Bool) (bits : Nat) (hallmarkOk : Bool)
  /-- SOFT_DECODE_DONE (R216). -/
  | softDecodeDone (op : Nat) (ok : Bool) (hallmarkOk : Bool) (shift : Int)
  /-- CRUCIBLE_JOB_DONE (R248). -/
  | crucibleJobDone (job : Nat) (ok : Bool) (hallmarkOk : Bool)
  /-- PROGRAM_DONE (R229). -/
  | programDone (ch : Nat) (die : Nat) (us : Nat) (failed : List Nat)
  /-- ERASE_DONE (R230). -/
  | eraseDone (ch : Nat) (die : Nat) (us : Nat) (failed : List Nat) (assayBad : List Nat)
  /-- ERASE_SUSPEND_DONE (R190). -/
  | eraseSuspendDone (ch : Nat) (die : Nat) (us : Nat)
  /-- ERASE_RESUME_DONE (R189). -/
  | eraseResumeDone (ch : Nat) (die : Nat) (us : Nat)
  /-- OPERATION_TIMEOUT (R206). -/
  | operationTimeout (ch : Nat) (die : Nat)
  /-- DIE_RESET_TIMEOUT (R206). -/
  | dieResetTimeout (die : Nat × Nat) (answer : Option Bool)
  /-- IDLE_LEVEL_CHECK (R207). -/
  | idleLevelCheck (ch : Nat) (ok : Bool)
  /-- RECENTRE (R204). -/
  | recentre (ch : Nat) (ok : Bool)
  /-- FLASH_TEMPERATURE_READ (R205). -/
  | flashTemperatureRead (ch : Nat) (die : Nat) (temp : Int)
  /-- SCRUB_READ (R226). -/
  | scrubRead (ch : Nat) (die : Nat) (block : Nat) (lower : Nat) (upper : Nat) (between : List Nat)
  /-- SCRUB_MIDPOINT (R227). -/
  | scrubMidpoint
  /-- WEAR_LEVEL_CHECK (R235). -/
  | wearLevelCheck
  /-- BLOCK_STATE_TABLE_SNAPSHOT (R209). -/
  | blockStateTableSnapshot
  /-- MEDIA_WP_CTRL_RELEASE (R240). -/
  | mediaWpCtrlRelease (unlock : Nat)
  /-- MEDIA_RAW_CTRL_WRITE (R212). -/
  | mediaRawCtrlWrite (enable : Bool)
  /-- MEMBER_FAIL (R265). -/
  | memberFail (unlock : Nat) (m : Nat) (force : Bool)
  /-- MEMBER_INSERT (R268). -/
  | memberInsert (unlock : Nat) (m : Nat)
  /-- ISOLATION_COMPLETE (R266). -/
  | isolationComplete (m : Nat)
  /-- MEMBER_TRAINING_DONE (R268). -/
  | memberTrainingDone (m : Nat) (ok : Bool) (found : Option (List (Nat × Nat) × List (Nat × Nat)))
  /-- REBUILD_ROW (R269). -/
  | rebuildRow (m : Nat) (set : Nat) (row : Nat)
  /-- REBUILD_COMPLETE (R270). -/
  | rebuildComplete (m : Nat)
  /-- RESYNC_REGION (R261). -/
  | resyncRegion (region : Nat) (rows : List (Nat × Nat))
  /-- NET_LINK_UP (R277). -/
  | netLinkUp (p : Nat)
  /-- NET_LINK_DOWN (R277). -/
  | netLinkDown (p : Nat)
  /-- PFC_FRAME (R280). -/
  | pfcFrame (p : Nat) (prio : Nat) (quanta : Nat)
  /-- PFC_PAUSE_TIMEOUT (R281). -/
  | pfcPauseTimeout (p : Nat) (prio : Nat)
  /-- ROCE_PACKET (R283). -/
  | rocePacket (k : RocePacket)
  /-- CNP (R282). -/
  | cnp (qp : Nat)
  /-- RATE_INCREASE_TIMER (R282). -/
  | rateIncreaseTimer (qp : Nat)
  /-- ACK_SEND (R284). -/
  | ackSend (qp : Nat)
  /-- ACK (R284). -/
  | ack (qp : Nat) (psn : Nat)
  /-- NAK_SEQUENCE_ERROR (R284). -/
  | nakSequenceError (qp : Nat) (psn : Nat)
  /-- RNR_NAK (R284). -/
  | rnrNak (qp : Nat) (timer : Nat)
  /-- ACK_TIMEOUT (R284). -/
  | ackTimeout (qp : Nat)
  /-- CAPSULE (R286). -/
  | capsule (owner : Nat) (qid : Nat) (e : Sqe)
  /-- CONNECT (R334). -/
  | connect (c : ConnectReq)
  /-- KEEP_ALIVE (R285). -/
  | keepAlive (ref : CmdRef)
  /-- KEEP_ALIVE_EXPIRY (R287). -/
  | keepAliveExpiry (owner : Nat)
  /-- ARP_REQUEST (R278). -/
  | arpRequest (p : Nat) (addr : Nat)
  /-- NEIGHBOR_SOLICITATION (R278). -/
  | neighborSolicitation (p : Nat) (addr : Nat)
  /-- CONNECTION_REQUEST (R283). -/
  | connectionRequest (p : Nat) (hostNqn : Nat) (qid : Nat)
  /-- SERVE (R291). -/
  | serve (ref : CmdRef) (slot : Option Nat) (len : Nat) (words : List Nat)
  /-- SERVE_CONTEXT_WAIT_END (R290). -/
  | serveContextWaitEnd (ref : CmdRef)
  /-- GATHER (R296). -/
  | gather (ref : CmdRef) (egress : Option (Nat × Nat))
  /-- OPEN (R297). -/
  | openStep (ref : CmdRef)
  /-- CIPHER (R298). -/
  | cipher (ref : CmdRef)
  /-- EMIT (R299). -/
  | emit (ref : CmdRef)
  /-- SEND (R300). -/
  | send (ref : CmdRef)
  /-- POST (R301). -/
  | post (ref : CmdRef)
  /-- SERVE_SLOT_LOAD (R304). -/
  | serveSlotLoad (slot : Nat) (owner : Nat)
  /-- SERVE_SLOT_CLEAR (R304). -/
  | serveSlotClear (slot : Nat)
  /-- SQP_CONNECT (R305). -/
  | sqpConnect (owner : Nat)
  /-- SQP_DESTROY (R305). -/
  | sqpDestroy
  /-- SQP_PEER_ACCEPT (R305). -/
  | sqpPeerAccept (handle : Nat)
  /-- SQP_PEER_REJECT (R305). -/
  | sqpPeerReject (handle : Nat)
  /-- SQP_CONNECT_TIMEOUT (R305). -/
  | sqpConnectTimeout (handle : Nat)
  /-- NET_ADDR_COMMIT (R307). -/
  | netAddrCommit (attr : Nat)
  /-- KEY_LOAD (R317). -/
  | keyLoad (kind : Nat) (owner : Nat) (force : Bool)
  /-- KEY_GENERATE (R318). -/
  | keyGenerate (kind : Nat) (owner : Nat) (force : Bool)
  /-- KEY_CLEAR (R315). -/
  | keyClear
  /-- KEY_NS_BIND (R320). -/
  | keyNsBind (slot : Nat)
  /-- KEY_LIMIT_WRITE (R327). -/
  | keyLimitWrite (which : KeyLimit) (value : Nat)
  /-- GLITCH_DETECTOR_TRIP (R496). -/
  | glitchDetectorTrip (kind : Glitch)
  /-- TAMPER (R328). -/
  | tamper
  /-- ECLIPSE (R344). -/
  | eclipse (slot : Nat) (force : Bool) (link : Nat)
  /-- ECLIPSE_DRAIN_DONE (R345). -/
  | eclipseDrainDone (slot : Nat)
  /-- TEN_ECL_TIMEOUT (R345). -/
  | tenEclTimeout (slot : Nat)
  /-- ECLIPSE_RECORD_WRITTEN (R346). -/
  | eclipseRecordWritten (slot : Nat) (dmaOk : Bool)
  /-- RESUME (R335). -/
  | resume (slot : Nat)
  /-- RESTORE (R349). -/
  | restore (slot : Nat) (link : Nat)
  /-- RESTORE_RECORD_READ (R350). -/
  | restoreRecordRead (slot : Nat) (rec : Option (List Nat))
  /-- RELEASE (R335). -/
  | release (slot : Nat)
  /-- TEN_WEIGHT_WRITE (R336). -/
  | tenWeightWrite (slot : Nat) (weight : Nat)
  /-- TEN_NQN_WRITE (R334). -/
  | tenNqnWrite (slot : Nat) (hash : Nat)
  /-- CELL_ALLOCATE (R358). -/
  | cellAllocate (requester : Nat) (reserve : Bool) (pool : Nat)
  /-- WHOLE_BUFFER_ALLOCATE (R359). -/
  | wholeBufferAllocate (requester : Nat) (reserve : Bool) (pool : Nat) (cells : Nat)
  /-- WHOLE_BUFFER_HOLD (R359). -/
  | wholeBufferHold (pool : Nat)
  /-- SHARE (R361). -/
  | share (requester : Nat) (handle : Nat) (uncorrectable : Option Nat) (corrected : Nat) (holder : Option CmdRef)
  /-- RELEASE_CHAIN (R361). -/
  | releaseChain (requester : Nat) (handle : Nat) (uncorrectable : Option Nat) (corrected : Nat) (holder : Option CmdRef)
  /-- DRAM_HASH_APPLY (R373). -/
  | dramHashApply
  /-- DRAM_FILL (R382). -/
  | dramFill
  /-- DRAM_FILL_DONE (R382). -/
  | dramFillDone
  /-- DRAM_NR_SEED_WRITE (R376). -/
  | dramNrSeedWrite (seed : Nat)
  /-- DRAM_REQUEST (R375). -/
  | dramRequest (r : DramReq)
  /-- DRAM_SCRUB (R380). -/
  | dramScrub (addr : Nat) (verdict : DramVerdict)
  /-- READ_RAW (R388). -/
  | readRaw (unlock : Nat) (space : Nat)
  /-- WRITE_RAW (R388). -/
  | writeRaw (unlock : Nat) (space : Nat)
  /-- ECC_TEST_WRITE (R388). -/
  | eccTestWrite (unlock : Nat) (space : Nat)
  /-- BULUM_LINK_TRAINED (R395). -/
  | bulumLinkTrained (lanes : Nat)
  /-- BULUM_TRAINING_RETRY (R395). -/
  | bulumTrainingRetry
  /-- BLOCK_LOCK_LOST (R396). -/
  | blockLockLost (lane : Nat)
  /-- IDENTITY_EXCHANGE (R394). -/
  | identityExchange (c : CompanionId)
  /-- HEARTBEAT (R401). -/
  | heartbeat (h : HeartbeatFrame)
  /-- HEARTBEAT_SEND (R401). -/
  | heartbeatSend
  /-- HEARTBEAT_TIMEOUT (R401). -/
  | heartbeatTimeout
  /-- FENCE_DEFERRAL_EXPIRY (R401). -/
  | fenceDeferralExpiry
  /-- FENCE_SETTLE_EXPIRY (R402). -/
  | fenceSettleExpiry
  /-- FENCE_IN_ASSERT (R402). -/
  | fenceInAssert
  /-- MIRROR_FRAME (R397). -/
  | mirrorFrame (f : MirrorData)
  /-- MIRROR_ACK (R146). -/
  | mirrorAck (seq : Nat) (ok : Bool)
  /-- ACK_REPLAY_TIMEOUT (R399). -/
  | ackReplayTimeout (seq : Nat)
  /-- FORWARDED_COMMAND (R398). -/
  | forwardedCommand (f : Forwarded)
  /-- FORWARD_RESPONSE (R398). -/
  | forwardResponse (ref : CmdRef) (st : Status) (lba : Nat)
  /-- COMPANION_BATCH (R400). -/
  | companionBatch (seq : Nat) (epoch : Nat)
  /-- CODEWORD_REQUEST (R400). -/
  | codewordRequest (nsid : Nat) (lba : Nat) (n : Nat)
  /-- CODEWORD_RESPONSE (R272). -/
  | codewordResponse (ask : Nat) (ok : Bool)
  /-- HOME_CONFIRM (R393). -/
  | homeConfirm (cons : Nat) (toB : Bool)
  /-- SECURE_RESET_CONFIRM (R400). -/
  | secureResetConfirm (ref : CmdRef)
  /-- PAIR_HOME_WRITE (R393). -/
  | pairHomeWrite (j : Nat) (value : Nat)
  /-- YIELD (R404). -/
  | yield (unlock : Nat)
  /-- SURVIVE (R404). -/
  | survive (unlock : Nat)
  /-- RESYNC_COPY (R408). -/
  | resyncCopy (nsid : Nat) (region : Nat) (image : CopyImage)
  /-- AUTO_RETAIN_IDLE (R411). -/
  | autoRetainIdle (d : Nat)
  /-- DOMAIN_WAKE (R415). -/
  | domainWake (d : Nat) (source : Nat)
  /-- DOMAIN_READY (R412). -/
  | domainReady (d : Nat) (ns : Nat)
  /-- WAKE_TIMEOUT (R74). -/
  | wakeTimeout (d : Nat)
  /-- MEMBER_WAKE_TIMEOUT (R416). -/
  | memberWakeTimeout (d : Nat)
  /-- PWR_VP_CTRL_WRITE (R418). -/
  | pwrVpCtrlWrite (target : Nat)
  /-- VREG_ACK (R419). -/
  | vregAck
  /-- VREG_TIMEOUT (R419). -/
  | vregTimeout
  /-- PWR_CLK_CTRL_WRITE (R418). -/
  | pwrClkCtrlWrite (dp : Nat) (core : Nat)
  /-- PLL_RELOCK_DONE (R418). -/
  | pllRelockDone
  /-- POWER_STATE_CHANGE (R421). -/
  | powerStateChange
  /-- IDLE_TIMER_EXPIRY (R422). -/
  | idleTimerExpiry (n : Nat)
  /-- THERMAL_SAMPLE (R426). -/
  | thermalSample (x : ThermSample)
  /-- THERMAL_LEVEL_EXIT (R427). -/
  | thermalLevelExit
  /-- MBX_LOCK_READ (R437). -/
  | mbxLockRead (m : Nat) (a : Agent)
  /-- MBX_RELEASE (R437). -/
  | mbxRelease (m : Nat) (a : Agent) (id : Nat)
  /-- MBX_SEND (R439). -/
  | mbxSend (m : Nat) (a : Agent) (w : Word)
  /-- MBX_RECV (R439). -/
  | mbxRecv (m : Nat) (a : Agent)
  /-- MBX_REPLY_SEND (R439). -/
  | mbxReplySend (m : Nat) (a : Agent) (w : Word)
  /-- MBX_REPLY_RECV (R439). -/
  | mbxReplyRecv (m : Nat) (a : Agent)
  /-- RING (R440). -/
  | ring (m : Nat) (a : Agent)
  /-- REPLY (R440). -/
  | reply (m : Nat) (a : Agent)
  /-- FLUSH_MAILBOX (R440). -/
  | flushMailbox (m : Nat) (a : Agent)
  /-- MBX_TIMEOUT (R441). -/
  | mbxTimeout (m : Nat)
  /-- MBX_BREAK (R442). -/
  | mbxBreak (m : Nat) (a : Agent) (unlock : Nat)
  /-- COMPANION_MAILBOX_FRAME (R441). -/
  | companionMailboxFrame (m : Nat) (f : MbxFrame)
  /-- EVT_PENDING_CLEAR (R445). -/
  | evtPendingClear (w : Nat) (mask : Nat) (same : List Nat)
  /-- ALM_LIST_WRITE (R450). -/
  | almListWrite (list : Nat) (entry : Nat) (valid : Bool) (off : Nat)
  /-- ALM_READ (R455). -/
  | almRead (hi : Nat)
  /-- ALM_READ_DONE (R455). -/
  | almReadDone (ok : Bool)
  /-- WDT_CORE_KICK (R472). -/
  | wdtCoreKick (a : Agent) (key : Nat)
  /-- WDT_DEV_KICK (R472). -/
  | wdtDevKick (a : Agent) (key : Nat)
  /-- CORE_WATCHDOG_EXPIRY (R472). -/
  | coreWatchdogExpiry (core : Nat)
  /-- DEVICE_WATCHDOG_HALF (R472). -/
  | deviceWatchdogHalf
  /-- DEVICE_WATCHDOG_EXPIRY (R472). -/
  | deviceWatchdogExpiry
  /-- BOOT_WATCHDOG_EXPIRY (R471). -/
  | bootWatchdogExpiry
  /-- DBG_UNLOCK_GO (R487). -/
  | dbgUnlockGo (unlock : Nat) (lock : Bool)
  /-- DBG_UNLOCK_LOCK (R486). -/
  | dbgUnlockLock (unlock : Nat)
  /-- JTAG_UNLOCK (R486). -/
  | jtagUnlock
  /-- OTP_PROGRAM (R488). -/
  | otpProgram (unlock : Nat) (readbackOk : Bool)
  /-- WINDOW_READ (R87). -/
  | windowRead (off : Nat) (count : Nat)
  /-- WINDOW_WRITE (R87). -/
  | windowWrite (off : Nat) (count : Nat) (data : List Word)
  /-- READ_NVME_MI_DATA_STRUCTURE (R88). -/
  | readNvmeMiDataStructure (dtyp : Nat)
  /-- NVM_SUBSYSTEM_HEALTH_STATUS_POLL (R88). -/
  | nvmSubsystemHealthStatusPoll
  /-- CONTROLLER_HEALTH_STATUS_POLL (R88). -/
  | controllerHealthStatusPoll (sctl : Nat) (maxrent : Nat)
  /-- CONFIGURATION_GET (R88). -/
  | configurationGet (id : Nat)
  /-- ADMIN_TUNNEL (R88). -/
  | adminTunnel (owner : Nat) (identify : Bool) (cns : Nat) (nsid : Nat) (csi : Nat) (lid : Nat) (off : Nat)
  /-- MI_COMMAND_REFUSED (R22). -/
  | miCommandRefused (opcode : Nat)
  /-- LO_REGISTER_READ (R479). -/
  | loRegisterRead (off : Nat)
  /-- READ_CLEAR (R7). -/
  | readClear (off : Nat) (same : Nat)
  /-- REGISTER_WRITE (R7). -/
  | registerWrite (off : Nat) (value : Word) (be : Nat)
  /-- HOLDUP_OK_RISE (R157). -/
  | holdupOkRise
  /-- FENCE_IN_DEASSERT (R403). -/
  | fenceInDeassert
  /-- PERST_DEASSERT (R494). -/
  | perstDeassert (port : Nat)
  /-- ALIGNMENT_MARK (R396). -/
  | alignmentMark (lane : Nat) (offset : Option Int)
  /-- FULL_RETRAINING_DONE (R204). -/
  | fullRetrainingDone (ch : Nat) (ok : Bool)
  /-- PAUSE_QUANTA_EXPIRY (R280). -/
  | pauseQuantaExpiry (p : Nat) (prio : Nat)
  /-- RNR_RETRY_TIMER_EXPIRY (R284). -/
  | rnrRetryTimerExpiry (qp : Nat)
  /-- APST_TRANSITION (R421). -/
  | apstTransition (owner : Nat) (ps : Nat)
  /-- MIRROR_CREDIT (R397). -/
  | mirrorCredit (mib : Nat)
  /-- SLOT_WRITE_DONE (R469). -/
  | slotWriteDone (ok : Bool)
  deriving DecidableEq, Repr

end Sys2Proof
end

