-- ==== Sys2Proof/Decode.lean ====
section
/-! DEFINITION. The opcode table lists the commands of a block and gives none of them bits, so no word spells a command
(log entry 1). -/

namespace Sys2Proof

/-- The command that a word of `nbits` bits spells by the opcode table: none, because no row has bits. [DESIGN CHOICE, safe: log 1]
-/
def decodeTableWord (_nbits _w : Nat) : Option Instr := none

end Sys2Proof
end

