-- ==== Sys2Proof/Config.lean ====
section
/-! DEFINITION. What the spec leaves open: constants without a body, so that no proof can see their value (log
entries 5 and 6). Where one is applied to a counter of the state, each use reads a fresh value. -/

namespace Sys2Proof.Config

/-- A value that the spec does not give, fresh at each use (the DRBG's output, a challenge, an unstated result). [DESIGN CHOICE,
safe: log 5] -/
opaque freeValue : Nat → Nat

/-- The servo's new frequency correction, in 2⁻³² ns per SYSCLK cycle (R53: "Servo updates the correction"; the control law is not
given), from the correction in force, the measured offset and the use counter. [DESIGN CHOICE, safe: log 6, 28] -/
opaque servo : Int → Int → Nat → Int

/-- The 128 check bits of a 64-byte line under the Crirax symbol code (R377; the code's matrix is not given). [DESIGN CHOICE, safe:
log 6, 50] -/
opaque dramCheck : Nat → Nat

/-- What the symbol decoder makes of a line's data and check bits that do not belong together: 0 clean, 1 correctable with the
symbol position and the corrected data, 2 uncorrectable (R377, R388). [DESIGN CHOICE, safe: log 6, 50; DEDUCED, unsafe: log 165]
-/
opaque dramDecode : Nat → Nat → Nat × Nat × Nat

/-- The 8 check bits of an 8-byte word under SEC-DED (72,64), and its decoder, as for a line (R378). [DESIGN CHOICE, safe: log 6] -/
opaque sramCheck : Nat → Nat
/-- Decoding of an SRAM word (R378). [DESIGN CHOICE, safe: log 6] -/
opaque sramDecode : Nat → Nat → Nat × Nat × Nat

/-- The size of control memory in bytes (not given). [DESIGN CHOICE, safe: log 6] -/
opaque controlMemory : Nat

/-- The byte offset in control memory of the descriptor of a buffer cell, by its handle (R365; the layout is not given). [DESIGN
CHOICE, safe: log 6] -/
opaque descriptorAt : Nat → Nat

/-- The reserved check patterns of poison (R386; their values are not given). [DESIGN CHOICE, safe: log 6] -/
opaque dramPoison : Nat
/-- The poison pattern of an SRAM word (R386). [DESIGN CHOICE, safe: log 6] -/
opaque sramPoison : Nat

/-- The key that AES-KW unwraps under a KEK from the bytes of a wrapping of so many words: none where the integrity check fails
(R317). [DESIGN CHOICE, safe: log 6] -/
opaque unwrap : Nat → List Nat → Option Nat

/-- The guard of a block of zero data in a guard format (0 16b, 1 32b, 2 64b), for so many blocks in 4 KiB (R126). [DESIGN CHOICE,
safe: log 6] -/
opaque zeroGuard : Nat → Nat → Nat

/-- The CRC-64 of NVMe over the 4,096 bytes of a 4 KiB block of plaintext (R262; the polynomial is not given). [DESIGN CHOICE, safe:
log 6, 229] -/
opaque crc64 : Nat → Nat

/-- AES-256-XTS of a block of data (R310): from the key, the tweak, the place of the block in its 4 KiB data unit and the blocks in
such a unit, the permutation that the cipher makes of the block's values, as transpositions one after another. [DESIGN CHOICE,
safe: log 6, 221] -/
opaque xts : Nat → Nat → Nat → Nat → List (Nat × Nat)

/-- AES-256-GCM decryption (R297): from the key, the IV, the additional data, the ciphertext and the tag, the plaintext; none where
the tag does not verify. [DESIGN CHOICE, safe: log 6] -/
opaque gcmOpen : Nat → Nat → Nat → Nat → Nat → Option Nat

/-- The AES encryption of a 16-byte block, a little-endian number, under a key (R298). [DESIGN CHOICE, safe: log 6] -/
opaque aes : Nat → Nat → Nat

/-- SHA-384 of a list of bytes, as its 48 bytes (R29, R30, R457, R458). [DESIGN CHOICE, safe: log 6] -/
opaque sha384 : List Nat → List Nat

/-- ECDSA P-384 with SHA-384: does the signature (r, s) of a message verify under a public key, given by its bytes (R29)? [DESIGN
CHOICE, safe: log 6] -/
opaque ecdsaP384 : List Nat → List Nat → Nat → Nat → Bool

/-- The hash of the Crirax firmware key, which the boot ROM holds (R458; its value is not given). [DESIGN CHOICE, safe: log 6] -/
opaque firmwareKeyHash : Nat

/-- What the OTP row reads back after programming (R488). [DESIGN CHOICE, safe: log 6] -/
opaque otpReadback : List Nat → Bool

/-- What a facility whose behaviour the spec leaves open reads as while debug is unlocked (R489). [DESIGN CHOICE, safe: log 6, 153]
-/
opaque debugFacility : Nat → Nat

/-- The recovery image that stands in host memory at an address, with a length, for a use counter (R461); none where the DMA fails.
[DESIGN CHOICE, safe: log 6] -/
opaque hostImage : Nat → Nat → Nat → Option FwImage

end Sys2Proof.Config
end

