-- ==== Sys2Proof/Machine/Regs.lean ====
section
/-! DEFINITION. Every field of every register of the manager window (spec/20_register_map.md and the
register tables at the end of each chapter): window address, instances, bits, access type and reset value. A name is the
register's name followed by the field's. Bits that no field names are reserved: they read 0 and ignore writes. -/

namespace Sys2Proof.Machine

/-- The access types of R7. -/
inductive Access where
  | ro | rw | w1c | wo | rc | rws
  deriving DecidableEq, Repr

/-- Where a field's reset value comes from (R482). For every source but `value` and `fixed`, `Field.reset` is
what the field reads as before the source is read (log entry 7). -/
inductive ResetSrc where
  | value | chart | persisted | otp | strap | pin | image | firmware | drbg | fixed | table
  deriving DecidableEq, Repr

/-- One field of a register. `dims` lists stride and count of each index, the widest stride first. [DESIGN CHOICE, unsafe: log 7] -/
structure Field where
  addr : Nat
  dims : List (Nat × Nat)
  hi : Nat
  lo : Nat
  acc : Access
  reset : Nat
  src : ResetSrc
  deriving DecidableEq, Repr

namespace Reg

/-! Block DEV: spec/20_register_map.md, REG-6. -/

def DEV_ID_VENDOR : Field := ⟨0x0, [], 31, 16, .ro, 8151, .value⟩
def DEV_ID_PART : Field := ⟨0x0, [], 15, 0, .ro, 0x9128, .value⟩
def DEV_REV_STEP_LETTER : Field := ⟨0x4, [], 15, 8, .ro, 66, .value⟩
def DEV_REV_STEP_NUMBER : Field := ⟨0x4, [], 7, 0, .ro, 1, .value⟩
def DEV_FW_EDITION : Field := ⟨0x8, [], 31, 24, .ro, 0, .image⟩
def DEV_FW_SLOT : Field := ⟨0x8, [], 1, 0, .ro, 0, .image⟩
def DEV_FW_REV_LO_REVISION : Field := ⟨0xC, [], 31, 0, .ro, 0, .image⟩
def DEV_FW_REV_HI_REVISION : Field := ⟨0x10, [], 31, 0, .ro, 0, .image⟩
def DEV_STRAPS_VREG : Field := ⟨0x14, [], 14, 13, .ro, 0, .strap⟩
def DEV_STRAPS_BOOT : Field := ⟨0x14, [], 12, 12, .ro, 0, .strap⟩
def DEV_STRAPS_H1W : Field := ⟨0x14, [], 11, 10, .ro, 0, .strap⟩
def DEV_STRAPS_H0W : Field := ⟨0x14, [], 9, 8, .ro, 0, .strap⟩
def DEV_STRAPS_SAFE : Field := ⟨0x14, [], 7, 7, .ro, 0, .strap⟩
def DEV_STRAPS_HOLDUP : Field := ⟨0x14, [], 6, 6, .ro, 0, .strap⟩
def DEV_STRAPS_PAIR : Field := ⟨0x14, [], 5, 4, .ro, 0, .strap⟩
def DEV_STRAPS_MGR : Field := ⟨0x14, [], 3, 2, .ro, 0, .strap⟩
def DEV_STRAPS_CHART : Field := ⟨0x14, [], 1, 0, .ro, 0, .strap⟩
def DEV_ACC_ERR_PARTIAL : Field := ⟨0x18, [], 31, 24, .rc, 0, .value⟩
def DEV_ACC_ERR_UNLOCK : Field := ⟨0x18, [], 23, 16, .rc, 0, .value⟩
def DEV_ACC_ERR_LOADING : Field := ⟨0x18, [], 15, 8, .rc, 0, .value⟩
def DEV_SCRATCH_DATA : Field := ⟨0x20, [(4, 4)], 31, 0, .rws, 0, .value⟩

/-- The fields of block DEV. -/
def blockDEV : List Field :=
  [DEV_ID_VENDOR, DEV_ID_PART, DEV_REV_STEP_LETTER, DEV_REV_STEP_NUMBER, DEV_FW_EDITION, DEV_FW_SLOT, DEV_FW_REV_LO_REVISION, DEV_FW_REV_HI_REVISION, DEV_STRAPS_VREG, DEV_STRAPS_BOOT, DEV_STRAPS_H1W, DEV_STRAPS_H0W, DEV_STRAPS_SAFE, DEV_STRAPS_HOLDUP, DEV_STRAPS_PAIR, DEV_STRAPS_MGR, DEV_STRAPS_CHART, DEV_ACC_ERR_PARTIAL, DEV_ACC_ERR_UNLOCK, DEV_ACC_ERR_LOADING, DEV_SCRATCH_DATA]

/-! Block CHART: spec/02_chart.md, CHT-10, CHT-11, CHT-12, CHT-13, CHT-14. -/

def CHART_STATUS_STATE : Field := ⟨0x10000, [], 31, 28, .ro, 0, .value⟩
def CHART_STATUS_SOURCE : Field := ⟨0x10000, [], 27, 24, .ro, 15, .value⟩
def CHART_STATUS_RESULT : Field := ⟨0x10000, [], 23, 16, .ro, 0, .value⟩
def CHART_STATUS_SECTION : Field := ⟨0x10000, [], 15, 8, .ro, 0, .value⟩
def CHART_STATUS_REFORMATTED : Field := ⟨0x10000, [], 2, 2, .ro, 0, .value⟩
def CHART_STATUS_FORMATTED_BLANK : Field := ⟨0x10000, [], 1, 1, .ro, 0, .value⟩
def CHART_STATUS_FALLBACK : Field := ⟨0x10000, [], 0, 0, .ro, 0, .value⟩
def CHART_CTRL_UNLOCK : Field := ⟨0x10004, [], 31, 16, .wo, 0, .value⟩
def CHART_CTRL_REFORMAT_ARM : Field := ⟨0x10004, [], 8, 8, .wo, 0, .value⟩
def CHART_CTRL_SLOT : Field := ⟨0x10004, [], 5, 4, .wo, 0, .value⟩
def CHART_CTRL_SAFE : Field := ⟨0x10004, [], 1, 1, .wo, 0, .value⟩
def CHART_CTRL_LOAD : Field := ⟨0x10004, [], 0, 0, .wo, 0, .value⟩
def CHART_ID_VALUE : Field := ⟨0x10008, [], 31, 0, .ro, 0, .chart⟩
def CHART_GEN_VALUE : Field := ⟨0x1000C, [], 31, 0, .ro, 0, .chart⟩
def CHART_INFO_FORMAT_VERSION : Field := ⟨0x10010, [], 15, 8, .ro, 0, .value⟩
def CHART_INFO_MAGNITUDE : Field := ⟨0x10010, [], 1, 0, .ro, 3, .value⟩
def CHART_DRAIN_TIMEOUT_MS : Field := ⟨0x10020, [], 13, 0, .rws, 2000, .value⟩
def CHART_REFUSED_COUNT : Field := ⟨0x10024, [], 15, 0, .rc, 0, .value⟩
def CHART_SLOT_RESULT_SLOT3 : Field := ⟨0x10030, [], 31, 24, .ro, 255, .value⟩
def CHART_SLOT_RESULT_SLOT2 : Field := ⟨0x10030, [], 23, 16, .ro, 255, .value⟩
def CHART_SLOT_RESULT_SLOT1 : Field := ⟨0x10030, [], 15, 8, .ro, 255, .value⟩
def CHART_SLOT_RESULT_SLOT0 : Field := ⟨0x10030, [], 7, 0, .ro, 255, .value⟩
def CHART_FPRINT_VALUE : Field := ⟨0x10040, [(4, 12)], 31, 0, .ro, 0, .value⟩
def CHART_FLASH_FPRINT_VALUE : Field := ⟨0x10080, [(4, 12)], 31, 0, .ro, 0, .value⟩

/-- The fields of block CHART. -/
def blockCHART : List Field :=
  [CHART_STATUS_STATE, CHART_STATUS_SOURCE, CHART_STATUS_RESULT, CHART_STATUS_SECTION, CHART_STATUS_REFORMATTED, CHART_STATUS_FORMATTED_BLANK, CHART_STATUS_FALLBACK, CHART_CTRL_UNLOCK, CHART_CTRL_REFORMAT_ARM, CHART_CTRL_SLOT, CHART_CTRL_SAFE, CHART_CTRL_LOAD, CHART_ID_VALUE, CHART_GEN_VALUE, CHART_INFO_FORMAT_VERSION, CHART_INFO_MAGNITUDE, CHART_DRAIN_TIMEOUT_MS, CHART_REFUSED_COUNT, CHART_SLOT_RESULT_SLOT3, CHART_SLOT_RESULT_SLOT2, CHART_SLOT_RESULT_SLOT1, CHART_SLOT_RESULT_SLOT0, CHART_FPRINT_VALUE, CHART_FLASH_FPRINT_VALUE]

/-! Block TIME: spec/03_sidereal_time.md, SID-7, SID-8, SID-9. -/

def TIME_STATUS_STATE : Field := ⟨0x20000, [], 31, 29, .ro, 0, .value⟩
def TIME_STATUS_SOURCE : Field := ⟨0x20000, [], 28, 26, .ro, 0, .value⟩
def TIME_STATUS_TRACEABLE : Field := ⟨0x20000, [], 25, 25, .ro, 0, .value⟩
def TIME_STATUS_EVER_LOCKED : Field := ⟨0x20000, [], 24, 24, .ro, 0, .value⟩
def TIME_STATUS_UNLOCKED_S : Field := ⟨0x20000, [], 15, 0, .ro, 0, .value⟩
def TIME_NOW_LO_NOW : Field := ⟨0x20008, [], 31, 0, .ro, 0, .value⟩
def TIME_NOW_HI_NOW : Field := ⟨0x2000C, [], 31, 0, .ro, 0, .value⟩
def TIME_OFFSET_NS : Field := ⟨0x20010, [], 31, 0, .ro, 0, .value⟩
def TIME_FREQ_ADJ_PPB : Field := ⟨0x20014, [], 31, 0, .ro, 0, .value⟩
def TIME_HOLD_BOUND_NS : Field := ⟨0x20018, [], 31, 0, .ro, 0xffffffff, .value⟩
def TIME_HOLD_DRIFT_PPB : Field := ⟨0x2001C, [], 15, 0, .rws, 1000, .value⟩
def TIME_PPS_WINDOW_NS : Field := ⟨0x20040, [], 31, 0, .ro, 2000, .value⟩
def TIME_PPS_COUNT_REJECTED : Field := ⟨0x20044, [], 31, 16, .rc, 0, .value⟩
def TIME_PPS_COUNT_MISSED : Field := ⟨0x20044, [], 15, 0, .rc, 0, .value⟩
def TIME_TOD_COUNT_REJECTED : Field := ⟨0x20048, [], 31, 16, .rc, 0, .value⟩
def TIME_TOD_COUNT_DISCARDED : Field := ⟨0x20048, [], 15, 0, .rc, 0, .value⟩
def TIME_MERIDIAN_US : Field := ⟨0x20050, [], 31, 0, .ro, 250, .value⟩
def TIME_MSEQ_LO_SEQ : Field := ⟨0x20058, [], 31, 0, .ro, 0, .value⟩
def TIME_MSEQ_HI_SEQ : Field := ⟨0x2005C, [], 31, 0, .ro, 0, .value⟩
def TIME_STEP_COUNT_COUNT : Field := ⟨0x20060, [], 15, 0, .rc, 0, .value⟩
def TIME_LAST_STEP_NS : Field := ⟨0x20064, [], 31, 0, .ro, 0, .value⟩
def TIME_PTP_MASTER0_ID : Field := ⟨0x20070, [], 31, 0, .ro, 0, .value⟩
def TIME_PTP_MASTER1_ID : Field := ⟨0x20074, [], 31, 0, .ro, 0, .value⟩
def TIME_PTP_STAT_DOMAIN : Field := ⟨0x20078, [], 31, 24, .ro, 0, .value⟩
def TIME_PTP_STAT_STEPS_REMOVED : Field := ⟨0x20078, [], 23, 16, .ro, 0, .value⟩
def TIME_PTP_STAT_CLOCK_CLASS : Field := ⟨0x20078, [], 15, 8, .ro, 255, .value⟩
def TIME_PTP_STAT_TWO_STEP : Field := ⟨0x20078, [], 7, 7, .ro, 0, .value⟩
def TIME_PTP_STAT_TRANSPORT : Field := ⟨0x20078, [], 6, 5, .ro, 0, .value⟩

/-- The fields of block TIME. -/
def blockTIME : List Field :=
  [TIME_STATUS_STATE, TIME_STATUS_SOURCE, TIME_STATUS_TRACEABLE, TIME_STATUS_EVER_LOCKED, TIME_STATUS_UNLOCKED_S, TIME_NOW_LO_NOW, TIME_NOW_HI_NOW, TIME_OFFSET_NS, TIME_FREQ_ADJ_PPB, TIME_HOLD_BOUND_NS, TIME_HOLD_DRIFT_PPB, TIME_PPS_WINDOW_NS, TIME_PPS_COUNT_REJECTED, TIME_PPS_COUNT_MISSED, TIME_TOD_COUNT_REJECTED, TIME_TOD_COUNT_DISCARDED, TIME_MERIDIAN_US, TIME_MSEQ_LO_SEQ, TIME_MSEQ_HI_SEQ, TIME_STEP_COUNT_COUNT, TIME_LAST_STEP_NS, TIME_PTP_MASTER0_ID, TIME_PTP_MASTER1_ID, TIME_PTP_STAT_DOMAIN] ++
  [TIME_PTP_STAT_STEPS_REMOVED, TIME_PTP_STAT_CLOCK_CLASS, TIME_PTP_STAT_TWO_STEP, TIME_PTP_STAT_TRANSPORT]

/-! Block PWR: spec/17_power_thermal.md, PWR-9, WRT-7, WRT-8. -/

def PWR_STATUS_PS : Field := ⟨0x30000, [], 31, 29, .ro, 0, .value⟩
def PWR_STATUS_PS_TARGET : Field := ⟨0x30000, [], 28, 26, .ro, 0, .value⟩
def PWR_STATUS_VP : Field := ⟨0x30000, [], 25, 24, .ro, 3, .value⟩
def PWR_STATUS_VREG : Field := ⟨0x30000, [], 23, 22, .ro, 0, .strap⟩
def PWR_STATUS_VREG_FAULT : Field := ⟨0x30000, [], 21, 21, .ro, 0, .value⟩
def PWR_STATUS_IDLE : Field := ⟨0x30000, [], 20, 20, .ro, 0, .value⟩
def PWR_VP_CTRL_BUSY : Field := ⟨0x30004, [], 31, 31, .ro, 0, .value⟩
def PWR_VP_CTRL_RESULT : Field := ⟨0x30004, [], 30, 28, .ro, 0, .value⟩
def PWR_VP_CTRL_TARGET : Field := ⟨0x30004, [], 1, 0, .rw, 3, .value⟩
def PWR_CLK_CTRL_BUSY : Field := ⟨0x30008, [], 31, 31, .ro, 0, .value⟩
def PWR_CLK_CTRL_RESULT : Field := ⟨0x30008, [], 30, 28, .ro, 0, .value⟩
def PWR_CLK_CTRL_DP_MHZ : Field := ⟨0x30008, [], 23, 12, .rw, 1600, .value⟩
def PWR_CLK_CTRL_CORE_MHZ : Field := ⟨0x30008, [], 11, 0, .rw, 2200, .value⟩
def PWR_IDLE_TIMER_MS : Field := ⟨0x30010, [(4, 4)], 15, 0, .rw, 0, .chart⟩
def PWR_AUTO_RETAIN_IDLE_US : Field := ⟨0x30020, [], 31, 16, .rw, 1000, .value⟩
def PWR_AUTO_RETAIN_PD34 : Field := ⟨0x30020, [], 2, 2, .rw, 1, .value⟩
def PWR_AUTO_RETAIN_PD33 : Field := ⟨0x30020, [], 1, 1, .rw, 1, .value⟩
def PWR_AUTO_RETAIN_PD13 : Field := ⟨0x30020, [], 0, 0, .rw, 1, .value⟩
def PWR_WAKE_LAST_DOMAIN : Field := ⟨0x30030, [], 31, 26, .ro, 0, .value⟩
def PWR_WAKE_LAST_SOURCE : Field := ⟨0x30030, [], 25, 22, .ro, 0, .value⟩
def PWR_WAKE_LAST_CAUSE : Field := ⟨0x30030, [], 21, 20, .ro, 0, .value⟩
def PWR_WAKE_LAST_TIME_NS : Field := ⟨0x30030, [], 15, 0, .ro, 0, .value⟩
def PWR_WAKE_ERR_VALID : Field := ⟨0x30034, [], 31, 31, .w1c, 0, .value⟩
def PWR_WAKE_ERR_DOMAIN : Field := ⟨0x30034, [], 30, 25, .ro, 0, .value⟩
def PWR_DOM_STATE_STATE : Field := ⟨0x30100, [(4, 36)], 31, 30, .ro, 0, .value⟩
def PWR_DOM_STATE_OFF_ALLOWED : Field := ⟨0x30100, [(4, 36)], 29, 29, .ro, 0, .fixed⟩
def PWR_DOM_STATE_WAKE_MAX_US : Field := ⟨0x30100, [(4, 36)], 15, 8, .ro, 0, .fixed⟩
def PWR_DOM_STATE_LAST_WAKE_US : Field := ⟨0x30100, [(4, 36)], 7, 0, .ro, 0, .value⟩
def PWR_WBUF_LEVEL_MIB : Field := ⟨0x30800, [], 16, 0, .ro, 0, .value⟩
def PWR_WBUF_LIMIT_DUSK_SHORT : Field := ⟨0x30804, [], 31, 31, .ro, 0, .value⟩
def PWR_WBUF_LIMIT_MIB : Field := ⟨0x30804, [], 16, 0, .ro, 0, .chart⟩
def PWR_DUSK_STATUS_STATE : Field := ⟨0x30810, [], 31, 28, .ro, 0, .value⟩
def PWR_DUSK_STATUS_ARMED : Field := ⟨0x30810, [], 27, 27, .ro, 0, .value⟩
def PWR_DUSK_STATUS_HOLDUP_OK : Field := ⟨0x30810, [], 26, 26, .ro, 0, .pin⟩
def PWR_DUSK_STATUS_STRAP_HOLDUP : Field := ⟨0x30810, [], 25, 25, .ro, 0, .strap⟩
def PWR_DUSK_LAST_VALID : Field := ⟨0x30814, [], 31, 31, .w1c, 0, .value⟩
def PWR_DUSK_LAST_COMPLETE : Field := ⟨0x30814, [], 30, 30, .ro, 0, .value⟩
def PWR_DUSK_LAST_HOLDUP_FELL : Field := ⟨0x30814, [], 29, 29, .ro, 0, .value⟩
def PWR_DUSK_LAST_DURATION : Field := ⟨0x30814, [], 15, 0, .ro, 0, .value⟩
def PWR_DUSK_BYTES_MIB : Field := ⟨0x30818, [], 16, 0, .ro, 0, .value⟩
def PWR_DEFER_COUNT_COUNT : Field := ⟨0x30820, [], 15, 0, .rc, 0, .value⟩

/-- The fields of block PWR. -/
def blockPWR : List Field :=
  [PWR_STATUS_PS, PWR_STATUS_PS_TARGET, PWR_STATUS_VP, PWR_STATUS_VREG, PWR_STATUS_VREG_FAULT, PWR_STATUS_IDLE, PWR_VP_CTRL_BUSY, PWR_VP_CTRL_RESULT, PWR_VP_CTRL_TARGET, PWR_CLK_CTRL_BUSY, PWR_CLK_CTRL_RESULT, PWR_CLK_CTRL_DP_MHZ, PWR_CLK_CTRL_CORE_MHZ, PWR_IDLE_TIMER_MS, PWR_AUTO_RETAIN_IDLE_US, PWR_AUTO_RETAIN_PD34, PWR_AUTO_RETAIN_PD33, PWR_AUTO_RETAIN_PD13, PWR_WAKE_LAST_DOMAIN, PWR_WAKE_LAST_SOURCE, PWR_WAKE_LAST_CAUSE, PWR_WAKE_LAST_TIME_NS, PWR_WAKE_ERR_VALID, PWR_WAKE_ERR_DOMAIN] ++
  [PWR_DOM_STATE_STATE, PWR_DOM_STATE_OFF_ALLOWED, PWR_DOM_STATE_WAKE_MAX_US, PWR_DOM_STATE_LAST_WAKE_US, PWR_WBUF_LEVEL_MIB, PWR_WBUF_LIMIT_DUSK_SHORT, PWR_WBUF_LIMIT_MIB, PWR_DUSK_STATUS_STATE, PWR_DUSK_STATUS_ARMED, PWR_DUSK_STATUS_HOLDUP_OK, PWR_DUSK_STATUS_STRAP_HOLDUP, PWR_DUSK_LAST_VALID, PWR_DUSK_LAST_COMPLETE, PWR_DUSK_LAST_HOLDUP_FELL, PWR_DUSK_LAST_DURATION, PWR_DUSK_BYTES_MIB, PWR_DEFER_COUNT_COUNT]

/-! Block THERM: spec/17_power_thermal.md, PWR-11. -/

def THERM_STATUS_LEVEL : Field := ⟨0x40000, [], 31, 30, .ro, 0, .value⟩
def THERM_STATUS_WARN : Field := ⟨0x40000, [], 29, 29, .ro, 0, .value⟩
def THERM_STATUS_FAULT : Field := ⟨0x40000, [], 28, 28, .ro, 0, .value⟩
def THERM_STATUS_FLASH_LIMIT : Field := ⟨0x40000, [], 27, 27, .ro, 0, .value⟩
def THERM_STATUS_TEMP : Field := ⟨0x40000, [], 11, 0, .ro, 0, .value⟩
def THERM_RAW_FAULT_KIND : Field := ⟨0x40004, [], 31, 30, .ro, 0, .value⟩
def THERM_RAW_SAMPLE : Field := ⟨0x40004, [], 11, 0, .ro, 0, .value⟩
def THERM_THRESH0_T3 : Field := ⟨0x40008, [], 31, 24, .rw, 0, .chart⟩
def THERM_THRESH0_T2 : Field := ⟨0x40008, [], 23, 16, .rw, 0, .chart⟩
def THERM_THRESH0_T1 : Field := ⟨0x40008, [], 15, 8, .rw, 0, .chart⟩
def THERM_THRESH0_WARN : Field := ⟨0x40008, [], 7, 0, .rw, 0, .chart⟩
def THERM_THRESH1_TRIP : Field := ⟨0x4000C, [], 7, 0, .rw, 0, .chart⟩
def THERM_FLASH_CFG_LIMIT : Field := ⟨0x40010, [], 15, 8, .rw, 85, .value⟩
def THERM_FLASH_CFG_WARN : Field := ⟨0x40010, [], 7, 0, .rw, 80, .value⟩
def THERM_FLASH_MEMBER : Field := ⟨0x40014, [], 31, 28, .ro, 0, .value⟩
def THERM_FLASH_TEMP : Field := ⟨0x40014, [], 7, 0, .ro, 0, .value⟩
def THERM_MAX_TEMP : Field := ⟨0x40018, [], 11, 0, .rc, 0, .value⟩
def THERM_TIME_THROTTLED_S : Field := ⟨0x4001C, [], 31, 16, .rc, 0, .value⟩
def THERM_TIME_WARN_S : Field := ⟨0x4001C, [], 15, 0, .rc, 0, .value⟩

/-- The fields of block THERM. -/
def blockTHERM : List Field :=
  [THERM_STATUS_LEVEL, THERM_STATUS_WARN, THERM_STATUS_FAULT, THERM_STATUS_FLASH_LIMIT, THERM_STATUS_TEMP, THERM_RAW_FAULT_KIND, THERM_RAW_SAMPLE, THERM_THRESH0_T3, THERM_THRESH0_T2, THERM_THRESH0_T1, THERM_THRESH0_WARN, THERM_THRESH1_TRIP, THERM_FLASH_CFG_LIMIT, THERM_FLASH_CFG_WARN, THERM_FLASH_MEMBER, THERM_FLASH_TEMP, THERM_MAX_TEMP, THERM_TIME_THROTTLED_S, THERM_TIME_WARN_S]

/-! Block EVT: spec/18_mailboxes_events_almanac.md, MBX-5, MBX-7. -/

def EVT_STATUS_OOB : Field := ⟨0x50000, [], 31, 31, .ro, 0, .strap⟩
def EVT_STATUS_LAST : Field := ⟨0x50000, [], 10, 0, .ro, 0, .value⟩
def EVT_PENDING_BITS : Field := ⟨0x50100, [(4, 36)], 31, 0, .w1c, 0, .value⟩
def EVT_PENDING_SUM_BITS : Field := ⟨0x50200, [(4, 2)], 31, 0, .ro, 0, .value⟩
def EVT_COUNT_SEL_SOURCE : Field := ⟨0x50300, [], 10, 0, .rw, 0, .value⟩
def EVT_COUNT_SUPPRESSED : Field := ⟨0x50304, [], 31, 16, .rc, 0, .value⟩
def EVT_COUNT_OCCURRED : Field := ⟨0x50304, [], 15, 0, .rc, 0, .value⟩
def EVT_ROUTE_MGR : Field := ⟨0x51000, [(4, 1152)], 31, 31, .rw, 0, .value⟩
def EVT_ROUTE_VECTOR : Field := ⟨0x51000, [(4, 1152)], 30, 20, .rw, 0, .value⟩
def EVT_ROUTE_FW_CLUSTER : Field := ⟨0x51000, [(4, 1152)], 17, 16, .ro, 0, .firmware⟩
def EVT_ROUTE_FW : Field := ⟨0x51000, [(4, 1152)], 15, 15, .ro, 0, .firmware⟩
def EVT_ROUTE_LIST : Field := ⟨0x51000, [(4, 1152)], 7, 0, .rw, 0, .firmware⟩

/-- The fields of block EVT. -/
def blockEVT : List Field :=
  [EVT_STATUS_OOB, EVT_STATUS_LAST, EVT_PENDING_BITS, EVT_PENDING_SUM_BITS, EVT_COUNT_SEL_SOURCE, EVT_COUNT_SUPPRESSED, EVT_COUNT_OCCURRED, EVT_ROUTE_MGR, EVT_ROUTE_VECTOR, EVT_ROUTE_FW_CLUSTER, EVT_ROUTE_FW, EVT_ROUTE_LIST]

/-! Block MBX: spec/18_mailboxes_events_almanac.md, MBX-5, MBX-6. -/

def MBX_LOCK_OWNER : Field := ⟨0x60000, [(256, 52)], 7, 0, .ro, 0, .value⟩
def MBX_RELEASE_ID : Field := ⟨0x60004, [(256, 52)], 7, 0, .wo, 0, .value⟩
def MBX_SEND_DATA : Field := ⟨0x60008, [(256, 52)], 31, 0, .wo, 0, .value⟩
def MBX_RECV_DATA : Field := ⟨0x6000C, [(256, 52)], 31, 0, .rc, 0, .value⟩
def MBX_REPLY_SEND_DATA : Field := ⟨0x60010, [(256, 52)], 31, 0, .wo, 0, .value⟩
def MBX_REPLY_RECV_DATA : Field := ⟨0x60014, [(256, 52)], 31, 0, .rc, 0, .value⟩
def MBX_DOORBELL_FLUSH : Field := ⟨0x60018, [(256, 52)], 2, 2, .wo, 0, .value⟩
def MBX_DOORBELL_REPLY : Field := ⟨0x60018, [(256, 52)], 1, 1, .wo, 0, .value⟩
def MBX_DOORBELL_RING : Field := ⟨0x60018, [(256, 52)], 0, 0, .wo, 0, .value⟩
def MBX_STATUS_BROKEN : Field := ⟨0x6001C, [(256, 52)], 31, 31, .w1c, 0, .value⟩
def MBX_STATUS_TIMEOUT : Field := ⟨0x6001C, [(256, 52)], 30, 30, .w1c, 0, .value⟩
def MBX_STATUS_OVERFLOW : Field := ⟨0x6001C, [(256, 52)], 29, 29, .w1c, 0, .value⟩
def MBX_STATUS_RX_PENDING : Field := ⟨0x6001C, [(256, 52)], 28, 28, .ro, 0, .value⟩
def MBX_STATUS_TX_PENDING : Field := ⟨0x6001C, [(256, 52)], 27, 27, .ro, 0, .value⟩
def MBX_STATUS_FWD_WORDS : Field := ⟨0x6001C, [(256, 52)], 23, 20, .ro, 0, .value⟩
def MBX_STATUS_REPLY_WORDS : Field := ⟨0x6001C, [(256, 52)], 19, 16, .ro, 0, .value⟩
def MBX_TIMEOUT_US : Field := ⟨0x60020, [(256, 52)], 15, 0, .rw, 1000, .value⟩
def MBX_BREAK_UNLOCK : Field := ⟨0x60024, [(256, 52)], 31, 16, .wo, 0, .value⟩
def MBX_BREAK_BREAK : Field := ⟨0x60024, [(256, 52)], 0, 0, .wo, 0, .value⟩
def MBX_STAT_REFUSED : Field := ⟨0x60028, [(256, 52)], 31, 16, .rc, 0, .value⟩
def MBX_STAT_UNDERFLOW : Field := ⟨0x60028, [(256, 52)], 15, 0, .rc, 0, .value⟩
def MBX_SUM_RX_LO_BITS : Field := ⟨0x68000, [], 31, 0, .ro, 0, .value⟩
def MBX_SUM_RX_HI_BITS : Field := ⟨0x68004, [], 31, 0, .ro, 0, .value⟩
def MBX_SUM_TO_LO_BITS : Field := ⟨0x68008, [], 31, 0, .ro, 0, .value⟩
def MBX_SUM_TO_HI_BITS : Field := ⟨0x6800C, [], 31, 0, .ro, 0, .value⟩

/-- The fields of block MBX. -/
def blockMBX : List Field :=
  [MBX_LOCK_OWNER, MBX_RELEASE_ID, MBX_SEND_DATA, MBX_RECV_DATA, MBX_REPLY_SEND_DATA, MBX_REPLY_RECV_DATA, MBX_DOORBELL_FLUSH, MBX_DOORBELL_REPLY, MBX_DOORBELL_RING, MBX_STATUS_BROKEN, MBX_STATUS_TIMEOUT, MBX_STATUS_OVERFLOW, MBX_STATUS_RX_PENDING, MBX_STATUS_TX_PENDING, MBX_STATUS_FWD_WORDS, MBX_STATUS_REPLY_WORDS, MBX_TIMEOUT_US, MBX_BREAK_UNLOCK, MBX_BREAK_BREAK, MBX_STAT_REFUSED, MBX_STAT_UNDERFLOW, MBX_SUM_RX_LO_BITS, MBX_SUM_RX_HI_BITS, MBX_SUM_TO_LO_BITS] ++
  [MBX_SUM_TO_HI_BITS]

/-! Block ALM: spec/18_mailboxes_events_almanac.md, MBX-8. -/

def ALM_STATUS_SAFE_RING : Field := ⟨0x70000, [], 31, 31, .ro, 0, .value⟩
def ALM_STATUS_FLASH_OK : Field := ⟨0x70000, [], 30, 30, .ro, 0, .value⟩
def ALM_STATUS_UNFLUSHED : Field := ⟨0x70000, [], 14, 0, .ro, 0, .value⟩
def ALM_SEQ_LO_SEQ : Field := ⟨0x70008, [], 31, 0, .ro, 0, .persisted⟩
def ALM_SEQ_HI_SEQ : Field := ⟨0x7000C, [], 31, 0, .ro, 0, .persisted⟩
def ALM_OLDEST_LO_SEQ : Field := ⟨0x70010, [], 31, 0, .ro, 0, .persisted⟩
def ALM_OLDEST_HI_SEQ : Field := ⟨0x70014, [], 31, 0, .ro, 0, .persisted⟩
def ALM_DROPPED_OVERWRITTEN : Field := ⟨0x70018, [], 31, 16, .rc, 0, .value⟩
def ALM_DROPPED_DROPPED : Field := ⟨0x70018, [], 15, 0, .rc, 0, .value⟩
def ALM_READ_SEQ_LO_SEQ : Field := ⟨0x70020, [], 31, 0, .rw, 0, .persisted⟩
def ALM_READ_SEQ_HI_SEQ : Field := ⟨0x70024, [], 31, 0, .rw, 0, .persisted⟩
def ALM_READ_STATUS_BUSY : Field := ⟨0x70028, [], 31, 31, .ro, 0, .value⟩
def ALM_READ_STATUS_RESULT : Field := ⟨0x70028, [], 30, 28, .ro, 0, .value⟩
def ALM_READ_DATA_DATA : Field := ⟨0x70100, [(4, 32)], 31, 0, .ro, 0, .value⟩
def ALM_LIST_SEL_LIST : Field := ⟨0x70200, [], 15, 8, .rw, 0, .value⟩
def ALM_LIST_SEL_ENTRY : Field := ⟨0x70200, [], 3, 0, .rw, 0, .value⟩
def ALM_LIST_DATA_VALID : Field := ⟨0x70204, [], 31, 31, .rw, 0, .firmware⟩
def ALM_LIST_DATA_OFFSET : Field := ⟨0x70204, [], 25, 0, .rw, 0, .firmware⟩

/-- The fields of block ALM. -/
def blockALM : List Field :=
  [ALM_STATUS_SAFE_RING, ALM_STATUS_FLASH_OK, ALM_STATUS_UNFLUSHED, ALM_SEQ_LO_SEQ, ALM_SEQ_HI_SEQ, ALM_OLDEST_LO_SEQ, ALM_OLDEST_HI_SEQ, ALM_DROPPED_OVERWRITTEN, ALM_DROPPED_DROPPED, ALM_READ_SEQ_LO_SEQ, ALM_READ_SEQ_HI_SEQ, ALM_READ_STATUS_BUSY, ALM_READ_STATUS_RESULT, ALM_READ_DATA_DATA, ALM_LIST_SEL_LIST, ALM_LIST_SEL_ENTRY, ALM_LIST_DATA_VALID, ALM_LIST_DATA_OFFSET]

/-! Block WDT: spec/19_startup.md, STU-11. -/

def WDT_STATUS_BOOT_EXPIRED : Field := ⟨0x80000, [], 31, 31, .w1c, 0, .value⟩
def WDT_STATUS_DEV_EXPIRED : Field := ⟨0x80000, [], 30, 30, .w1c, 0, .value⟩
def WDT_STATUS_HALF : Field := ⟨0x80000, [], 29, 29, .w1c, 0, .value⟩
def WDT_STATUS_BOOT_RUNNING : Field := ⟨0x80000, [], 28, 28, .ro, 1, .value⟩
def WDT_STATUS_BOOT_MARKS : Field := ⟨0x80000, [], 1, 0, .ro, 0, .value⟩
def WDT_CFG_DEV_MS : Field := ⟨0x80004, [], 31, 16, .rws, 500, .value⟩
def WDT_CFG_CORE_MS : Field := ⟨0x80004, [], 15, 6, .rws, 10, .value⟩
def WDT_BOOT_CFG_DEV_DISABLE : Field := ⟨0x80008, [], 31, 31, .rws, 0, .value⟩
def WDT_BOOT_CFG_BOOT_S : Field := ⟨0x80008, [], 6, 0, .rws, 30, .value⟩
def WDT_DEV_KICK_KEY : Field := ⟨0x80010, [], 15, 0, .wo, 0, .value⟩
def WDT_CORE_KICK_KEY : Field := ⟨0x80014, [], 15, 0, .wo, 0, .value⟩
def WDT_CORE_EXP_CORES : Field := ⟨0x80020, [], 31, 0, .rc, 0, .value⟩
def WDT_DEV_REMAIN_MS : Field := ⟨0x80024, [], 13, 0, .ro, 500, .value⟩

/-- The fields of block WDT. -/
def blockWDT : List Field :=
  [WDT_STATUS_BOOT_EXPIRED, WDT_STATUS_DEV_EXPIRED, WDT_STATUS_HALF, WDT_STATUS_BOOT_RUNNING, WDT_STATUS_BOOT_MARKS, WDT_CFG_DEV_MS, WDT_CFG_CORE_MS, WDT_BOOT_CFG_DEV_DISABLE, WDT_BOOT_CFG_BOOT_S, WDT_DEV_KICK_KEY, WDT_CORE_KICK_KEY, WDT_CORE_EXP_CORES, WDT_DEV_REMAIN_MS]

/-! Block BOOT: spec/19_startup.md, STU-10, STU-9. -/

def BOOT_STATUS_STAGE : Field := ⟨0x90000, [], 31, 28, .ro, 0, .value⟩
def BOOT_STATUS_FW_SLOT : Field := ⟨0x90000, [], 27, 26, .ro, 0, .value⟩
def BOOT_STATUS_NEXT_SLOT : Field := ⟨0x90000, [], 25, 24, .ro, 0, .value⟩
def BOOT_STATUS_FW_FALLBACK : Field := ⟨0x90000, [], 23, 23, .ro, 0, .value⟩
def BOOT_STATUS_NOR_WAITED : Field := ⟨0x90000, [], 22, 22, .ro, 0, .value⟩
def BOOT_STATUS_LAST_RESET : Field := ⟨0x90000, [], 21, 19, .ro, 0, .value⟩
def BOOT_STATUS_EDITION : Field := ⟨0x90000, [], 15, 8, .ro, 0, .image⟩
def BOOT_FW_RESULT_PTR0 : Field := ⟨0x90004, [], 31, 28, .ro, 0, .value⟩
def BOOT_FW_RESULT_PTR1 : Field := ⟨0x90004, [], 27, 24, .ro, 0, .value⟩
def BOOT_FW_RESULT_SLOT2 : Field := ⟨0x90004, [], 7, 4, .ro, 15, .value⟩
def BOOT_FW_RESULT_SLOT1 : Field := ⟨0x90004, [], 3, 0, .ro, 15, .value⟩
def BOOT_PTR_SEQ0_SEQ : Field := ⟨0x90008, [], 31, 0, .ro, 0, .value⟩
def BOOT_PTR_SEQ1_SEQ : Field := ⟨0x9000C, [], 31, 0, .ro, 0, .value⟩
def BOOT_CTRL_UNLOCK : Field := ⟨0x90010, [], 31, 16, .wo, 0, .value⟩
def BOOT_CTRL_FILL_GO : Field := ⟨0x90010, [], 1, 1, .wo, 0, .value⟩
def BOOT_CTRL_WARM : Field := ⟨0x90010, [], 0, 0, .wo, 0, .value⟩
def BOOT_CFG_HOLD_FILL : Field := ⟨0x90014, [], 0, 0, .rws, 0, .value⟩
def BOOT_TIME_READY_MS : Field := ⟨0x90018, [], 31, 16, .ro, 0, .value⟩
def BOOT_TIME_ADMIN_MS : Field := ⟨0x90018, [], 15, 0, .ro, 0, .value⟩
def BOOT_NS_PENDING_COUNT : Field := ⟨0x9001C, [], 16, 0, .ro, 0, .value⟩
def BOOT_REC_ADDR_LO_ADDR : Field := ⟨0x90020, [], 31, 0, .rw, 0, .value⟩
def BOOT_REC_ADDR_HI_ADDR : Field := ⟨0x90024, [], 31, 0, .rw, 0, .value⟩
def BOOT_REC_LEN_BYTES : Field := ⟨0x90028, [], 21, 0, .rw, 0, .value⟩
def BOOT_REC_CTRL_UNLOCK : Field := ⟨0x9002C, [], 31, 16, .wo, 0, .value⟩
def BOOT_REC_CTRL_LOAD : Field := ⟨0x9002C, [], 0, 0, .wo, 0, .value⟩
def BOOT_REC_STATUS_BUSY : Field := ⟨0x90030, [], 31, 31, .ro, 0, .value⟩
def BOOT_REC_STATUS_RESULT : Field := ⟨0x90030, [], 30, 27, .ro, 0, .value⟩

/-- The fields of block BOOT. -/
def blockBOOT : List Field :=
  [BOOT_STATUS_STAGE, BOOT_STATUS_FW_SLOT, BOOT_STATUS_NEXT_SLOT, BOOT_STATUS_FW_FALLBACK, BOOT_STATUS_NOR_WAITED, BOOT_STATUS_LAST_RESET, BOOT_STATUS_EDITION, BOOT_FW_RESULT_PTR0, BOOT_FW_RESULT_PTR1, BOOT_FW_RESULT_SLOT2, BOOT_FW_RESULT_SLOT1, BOOT_PTR_SEQ0_SEQ, BOOT_PTR_SEQ1_SEQ, BOOT_CTRL_UNLOCK, BOOT_CTRL_FILL_GO, BOOT_CTRL_WARM, BOOT_CFG_HOLD_FILL, BOOT_TIME_READY_MS, BOOT_TIME_ADMIN_MS, BOOT_NS_PENDING_COUNT, BOOT_REC_ADDR_LO_ADDR, BOOT_REC_ADDR_HI_ADDR, BOOT_REC_LEN_BYTES, BOOT_REC_CTRL_UNLOCK] ++
  [BOOT_REC_CTRL_LOAD, BOOT_REC_STATUS_BUSY, BOOT_REC_STATUS_RESULT]

/-! Block QENG: spec/05_queues_arbitration.md, QUE-5, QUE-6, QUE-7, QUE-8. -/

def QENG_POOL_FREE_FREE : Field := ⟨0x100000, [(4, 4)], 20, 0, .ro, 0, .chart⟩
def QENG_INFLIGHT_RESERVE : Field := ⟨0x100010, [], 31, 19, .ro, 0, .value⟩
def QENG_INFLIGHT_GENERAL : Field := ⟨0x100010, [], 18, 0, .ro, 0, .value⟩
def QENG_DRR_QUANTUM_UNITS : Field := ⟨0x100020, [], 8, 0, .rw, 4, .value⟩
def QENG_PF_WEIGHT_WEIGHT : Field := ⟨0x100040, [(4, 8)], 15, 0, .rw, 0, .chart⟩
def QENG_DB_ERR_VALID : Field := ⟨0x100060, [], 31, 31, .w1c, 0, .value⟩
def QENG_DB_ERR_KIND : Field := ⟨0x100060, [], 30, 29, .ro, 0, .value⟩
def QENG_DB_ERR_OWNER : Field := ⟨0x100060, [], 28, 16, .ro, 0, .value⟩
def QENG_DB_ERR_QID : Field := ⟨0x100060, [], 15, 0, .ro, 0, .value⟩
def QENG_DB_COUNT_COUNT : Field := ⟨0x100064, [], 31, 0, .rc, 0, .value⟩
def QENG_QCOUNT_CTRL_GO : Field := ⟨0x100070, [], 31, 31, .wo, 0, .value⟩
def QENG_QCOUNT_CTRL_SLOT : Field := ⟨0x100070, [], 27, 16, .wo, 0, .value⟩
def QENG_QCOUNT_CTRL_COUNT : Field := ⟨0x100070, [], 15, 0, .wo, 0, .value⟩
def QENG_QCOUNT_STATUS_BUSY : Field := ⟨0x100074, [], 31, 31, .ro, 0, .value⟩
def QENG_QCOUNT_STATUS_RESULT : Field := ⟨0x100074, [], 30, 28, .ro, 0, .value⟩
def QENG_QCOUNT_STATUS_SLOT : Field := ⟨0x100074, [], 27, 16, .ro, 0, .value⟩
def QENG_QCOUNT_STATUS_COUNT : Field := ⟨0x100074, [], 15, 0, .ro, 0, .value⟩
def QENG_CACHE_STAT_MISSES : Field := ⟨0x100080, [], 31, 16, .rc, 0, .value⟩
def QENG_CACHE_STAT_HITS : Field := ⟨0x100080, [], 15, 0, .rc, 0, .value⟩
def QENG_TEN_LIMIT_LIMIT : Field := ⟨0x104000, [(4, 4096)], 18, 0, .rw, 0, .chart⟩
def QENG_TEN_INFLIGHT_COUNT : Field := ⟨0x108000, [(4, 4096)], 18, 0, .ro, 0, .value⟩

/-- The fields of block QENG. -/
def blockQENG : List Field :=
  [QENG_POOL_FREE_FREE, QENG_INFLIGHT_RESERVE, QENG_INFLIGHT_GENERAL, QENG_DRR_QUANTUM_UNITS, QENG_PF_WEIGHT_WEIGHT, QENG_DB_ERR_VALID, QENG_DB_ERR_KIND, QENG_DB_ERR_OWNER, QENG_DB_ERR_QID, QENG_DB_COUNT_COUNT, QENG_QCOUNT_CTRL_GO, QENG_QCOUNT_CTRL_SLOT, QENG_QCOUNT_CTRL_COUNT, QENG_QCOUNT_STATUS_BUSY, QENG_QCOUNT_STATUS_RESULT, QENG_QCOUNT_STATUS_SLOT, QENG_QCOUNT_STATUS_COUNT, QENG_CACHE_STAT_MISSES, QENG_CACHE_STAT_HITS, QENG_TEN_LIMIT_LIMIT, QENG_TEN_INFLIGHT_COUNT]

/-! Block TEN: spec/13_tenants_migration.md, TEN-10, TEN-11. -/

def TEN_STATE_STATE : Field := ⟨0x200000, [(256, 4096)], 31, 28, .ro, 0, .value⟩
def TEN_STATE_KIND : Field := ⟨0x200000, [(256, 4096)], 27, 27, .ro, 0, .chart⟩
def TEN_STATE_RESERVED_NQN : Field := ⟨0x200000, [(256, 4096)], 26, 26, .ro, 0, .value⟩
def TEN_STATE_PATH : Field := ⟨0x200000, [(256, 4096)], 25, 22, .ro, 0, .value⟩
def TEN_STATE_VF : Field := ⟨0x200000, [(256, 4096)], 9, 0, .ro, 0, .chart⟩
def TEN_EPOCH_EPOCH : Field := ⟨0x200004, [(256, 4096)], 15, 0, .ro, 0, .value⟩
def TEN_WEIGHT_WEIGHT : Field := ⟨0x200008, [(256, 4096)], 15, 0, .rw, 0, .chart⟩
def TEN_COUNTS_ATTACH : Field := ⟨0x20000C, [(256, 4096)], 31, 21, .ro, 0, .value⟩
def TEN_COUNTS_KEYS : Field := ⟨0x20000C, [(256, 4096)], 20, 10, .ro, 0, .value⟩
def TEN_ECL_CTRL_GO : Field := ⟨0x200010, [(256, 4096)], 31, 31, .wo, 0, .value⟩
def TEN_ECL_CTRL_OP : Field := ⟨0x200010, [(256, 4096)], 30, 28, .wo, 0, .value⟩
def TEN_ECL_CTRL_FORCE : Field := ⟨0x200010, [(256, 4096)], 27, 27, .wo, 0, .value⟩
def TEN_ECL_CTRL_LINK : Field := ⟨0x200010, [(256, 4096)], 26, 24, .wo, 0, .value⟩
def TEN_ECL_STATUS_BUSY : Field := ⟨0x200014, [(256, 4096)], 31, 31, .ro, 0, .value⟩
def TEN_ECL_STATUS_RESULT : Field := ⟨0x200014, [(256, 4096)], 30, 27, .ro, 0, .value⟩
def TEN_ECL_STATUS_LATE_DB : Field := ⟨0x200014, [(256, 4096)], 15, 0, .rc, 0, .value⟩
def TEN_REC_ADDR_LO_ADDR : Field := ⟨0x200018, [(256, 4096)], 31, 0, .rw, 0, .value⟩
def TEN_REC_ADDR_HI_ADDR : Field := ⟨0x20001C, [(256, 4096)], 31, 0, .rw, 0, .value⟩
def TEN_REC_MAX_BYTES : Field := ⟨0x200020, [(256, 4096)], 22, 0, .rw, 0, .value⟩
def TEN_REC_LEN_BYTES : Field := ⟨0x200024, [(256, 4096)], 22, 0, .ro, 0, .value⟩
def TEN_ECL_TIMEOUT_MS : Field := ⟨0x200028, [(256, 4096)], 13, 0, .rw, 1000, .value⟩
def TEN_RESET_STAT_RESETS : Field := ⟨0x20002C, [(256, 4096)], 31, 16, .rc, 0, .value⟩
def TEN_RESET_STAT_SUPPRESSED : Field := ⟨0x20002C, [(256, 4096)], 15, 0, .rc, 0, .value⟩
def TEN_NQN_LO_HASH : Field := ⟨0x200030, [(256, 4096)], 31, 0, .rw, 0, .persisted⟩
def TEN_NQN_HI_HASH : Field := ⟨0x200034, [(256, 4096)], 31, 0, .rw, 0, .persisted⟩

/-- The fields of block TEN. -/
def blockTEN : List Field :=
  [TEN_STATE_STATE, TEN_STATE_KIND, TEN_STATE_RESERVED_NQN, TEN_STATE_PATH, TEN_STATE_VF, TEN_EPOCH_EPOCH, TEN_WEIGHT_WEIGHT, TEN_COUNTS_ATTACH, TEN_COUNTS_KEYS, TEN_ECL_CTRL_GO, TEN_ECL_CTRL_OP, TEN_ECL_CTRL_FORCE, TEN_ECL_CTRL_LINK, TEN_ECL_STATUS_BUSY, TEN_ECL_STATUS_RESULT, TEN_ECL_STATUS_LATE_DB, TEN_REC_ADDR_LO_ADDR, TEN_REC_ADDR_HI_ADDR, TEN_REC_MAX_BYTES, TEN_REC_LEN_BYTES, TEN_ECL_TIMEOUT_MS, TEN_RESET_STAT_RESETS, TEN_RESET_STAT_SUPPRESSED, TEN_NQN_LO_HASH] ++
  [TEN_NQN_HI_HASH]

/-! Block ZONE: spec/06_zones_placement.md, ZON-10, ZON-11, ZON-12, ZON-9. -/

def ZONE_ACTIVE_COUNT : Field := ⟨0x300000, [], 16, 0, .ro, 0, .value⟩
def ZONE_OPEN_COUNT : Field := ⟨0x300004, [], 15, 0, .ro, 0, .value⟩
def ZONE_TABLE_LO_ADDR : Field := ⟨0x300008, [], 31, 0, .ro, 0, .value⟩
def ZONE_TABLE_HI_ADDR : Field := ⟨0x30000C, [], 31, 0, .ro, 0, .value⟩
def ZONE_HOT_SIZE_BUSY : Field := ⟨0x300010, [], 31, 31, .ro, 0, .value⟩
def ZONE_HOT_SIZE_CURRENT : Field := ⟨0x300010, [], 23, 16, .ro, 0, .chart⟩
def ZONE_HOT_SIZE_REQUEST : Field := ⟨0x300010, [], 7, 0, .rw, 0, .chart⟩
def ZONE_HOT_CTRL_TENANT_PCT : Field := ⟨0x300014, [], 6, 0, .rw, 100, .value⟩
def ZONE_HOT_STAT_INSERTS : Field := ⟨0x300018, [], 31, 16, .rc, 0, .value⟩
def ZONE_HOT_STAT_HITS : Field := ⟨0x300018, [], 15, 0, .rc, 0, .value⟩
def ZONE_SEC_STAT_RESIDUE : Field := ⟨0x300020, [], 31, 16, .rc, 0, .value⟩
def ZONE_SEC_STAT_PENDING : Field := ⟨0x300020, [], 15, 0, .ro, 0, .value⟩
def ZONE_SEC_PENDING_COUNT : Field := ⟨0x300024, [], 20, 0, .ro, 0, .value⟩
def ZONE_ERR_VALID : Field := ⟨0x300030, [], 31, 31, .w1c, 0, .value⟩
def ZONE_ERR_CHECK : Field := ⟨0x300030, [], 30, 27, .ro, 0, .value⟩
def ZONE_ERR_ZONE : Field := ⟨0x300030, [], 22, 0, .ro, 0, .value⟩
def ZONE_NS_SEL_NSID : Field := ⟨0x300040, [], 16, 0, .rw, 1, .value⟩
def ZONE_NS_ATTR_SECURE : Field := ⟨0x300044, [], 0, 0, .rw, 0, .value⟩
def ZONE_NS_LIMIT_OPEN_M1 : Field := ⟨0x300048, [], 31, 16, .rw, 0, .chart⟩
def ZONE_NS_LIMIT_ACTIVE_M1 : Field := ⟨0x300048, [], 15, 0, .rw, 0, .chart⟩
def ZONE_NS_INFO_VALID : Field := ⟨0x30004C, [], 31, 31, .ro, 0, .value⟩
def ZONE_NS_INFO_KIND : Field := ⟨0x30004C, [], 9, 8, .ro, 0, .value⟩
def ZONE_NS_INFO_CONS : Field := ⟨0x30004C, [], 7, 0, .ro, 0, .value⟩
def ZONE_CONS_ACTIVE_COUNT : Field := ⟨0x301000, [(8, 256)], 16, 0, .ro, 0, .value⟩
def ZONE_CONS_OPEN_COUNT : Field := ⟨0x301004, [(8, 256)], 15, 0, .ro, 0, .value⟩
def ZONE_CONS_SETS_SLOTS : Field := ⟨0x301800, [(4, 256)], 21, 0, .ro, 0, .value⟩
def ZONE_CONS_COMMIT_SLOTS : Field := ⟨0x301C00, [(4, 256)], 21, 0, .ro, 0, .value⟩

/-- The fields of block ZONE. -/
def blockZONE : List Field :=
  [ZONE_ACTIVE_COUNT, ZONE_OPEN_COUNT, ZONE_TABLE_LO_ADDR, ZONE_TABLE_HI_ADDR, ZONE_HOT_SIZE_BUSY, ZONE_HOT_SIZE_CURRENT, ZONE_HOT_SIZE_REQUEST, ZONE_HOT_CTRL_TENANT_PCT, ZONE_HOT_STAT_INSERTS, ZONE_HOT_STAT_HITS, ZONE_SEC_STAT_RESIDUE, ZONE_SEC_STAT_PENDING, ZONE_SEC_PENDING_COUNT, ZONE_ERR_VALID, ZONE_ERR_CHECK, ZONE_ERR_ZONE, ZONE_NS_SEL_NSID, ZONE_NS_ATTR_SECURE, ZONE_NS_LIMIT_OPEN_M1, ZONE_NS_LIMIT_ACTIVE_M1, ZONE_NS_INFO_VALID, ZONE_NS_INFO_KIND, ZONE_NS_INFO_CONS, ZONE_CONS_ACTIVE_COUNT] ++
  [ZONE_CONS_OPEN_COUNT, ZONE_CONS_SETS_SLOTS, ZONE_CONS_COMMIT_SLOTS]

/-! Block CELL: spec/14_buffer_cells.md, CEL-7, CEL-8, CEL-9. -/

def CELL_STATUS_HOLD : Field := ⟨0x380000, [], 31, 31, .ro, 0, .value⟩
def CELL_STATUS_EMPTY : Field := ⟨0x380000, [], 30, 28, .ro, 0, .value⟩
def CELL_STATUS_RES_LOW : Field := ⟨0x380000, [], 27, 25, .ro, 0, .value⟩
def CELL_STATUS_QUARANTINED : Field := ⟨0x380000, [], 15, 0, .ro, 0, .value⟩
def CELL_LEAF_FREE_RESERVE : Field := ⟨0x380010, [], 28, 17, .ro, 2048, .value⟩
def CELL_LEAF_FREE_GENERAL : Field := ⟨0x380010, [], 16, 0, .ro, 0x1f800, .value⟩
def CELL_SHEET_FREE_RESERVE : Field := ⟨0x380014, [], 18, 12, .ro, 64, .value⟩
def CELL_SHEET_FREE_GENERAL : Field := ⟨0x380014, [], 11, 0, .ro, 4032, .value⟩
def CELL_INGOT_FREE_RESERVE : Field := ⟨0x380018, [], 28, 17, .ro, 0, .chart⟩
def CELL_INGOT_FREE_GENERAL : Field := ⟨0x380018, [], 16, 0, .ro, 0, .chart⟩
def CELL_INGOT_INFO_RESERVE_SIZE : Field := ⟨0x38001C, [], 29, 18, .ro, 0, .chart⟩
def CELL_INGOT_INFO_COUNT : Field := ⟨0x38001C, [], 17, 0, .ro, 0, .chart⟩
def CELL_LOW_GENERAL : Field := ⟨0x380020, [(4, 3)], 16, 0, .rc, 0, .table⟩
def CELL_STAT_TO_INGOT : Field := ⟨0x380030, [], 31, 16, .rc, 0, .value⟩
def CELL_STAT_TO_SHEET : Field := ⟨0x380030, [], 15, 0, .rc, 0, .value⟩
def CELL_WAIT_HOLDS : Field := ⟨0x380034, [], 31, 16, .rc, 0, .value⟩
def CELL_WAIT_WAITS : Field := ⟨0x380034, [], 15, 0, .rc, 0, .value⟩
def CELL_ERR_VALID : Field := ⟨0x380040, [], 31, 31, .w1c, 0, .value⟩
def CELL_ERR_KIND : Field := ⟨0x380040, [], 30, 29, .ro, 0, .value⟩
def CELL_ERR_REQUESTER : Field := ⟨0x380040, [], 28, 25, .ro, 0, .value⟩
def CELL_ERR_HANDLE_HANDLE : Field := ⟨0x380044, [], 31, 0, .ro, 0xc0000000, .value⟩
def CELL_ERR_COUNT_COUNT : Field := ⟨0x380048, [], 15, 0, .rc, 0, .value⟩
def CELL_DESC_SEL_HANDLE : Field := ⟨0x380050, [], 31, 0, .rw, 0xc0000000, .value⟩
def CELL_DESC_LO_ALLOC : Field := ⟨0x380054, [], 31, 31, .ro, 0, .value⟩
def CELL_DESC_LO_REFCNT : Field := ⟨0x380054, [], 30, 23, .ro, 0, .value⟩
def CELL_DESC_LO_FILL : Field := ⟨0x380054, [], 16, 0, .ro, 0, .value⟩
def CELL_DESC_HI_NEXT : Field := ⟨0x380058, [], 31, 0, .ro, 0, .value⟩

/-- The fields of block CELL. -/
def blockCELL : List Field :=
  [CELL_STATUS_HOLD, CELL_STATUS_EMPTY, CELL_STATUS_RES_LOW, CELL_STATUS_QUARANTINED, CELL_LEAF_FREE_RESERVE, CELL_LEAF_FREE_GENERAL, CELL_SHEET_FREE_RESERVE, CELL_SHEET_FREE_GENERAL, CELL_INGOT_FREE_RESERVE, CELL_INGOT_FREE_GENERAL, CELL_INGOT_INFO_RESERVE_SIZE, CELL_INGOT_INFO_COUNT, CELL_LOW_GENERAL, CELL_STAT_TO_INGOT, CELL_STAT_TO_SHEET, CELL_WAIT_HOLDS, CELL_WAIT_WAITS, CELL_ERR_VALID, CELL_ERR_KIND, CELL_ERR_REQUESTER, CELL_ERR_HANDLE_HANDLE, CELL_ERR_COUNT_COUNT, CELL_DESC_SEL_HANDLE, CELL_DESC_LO_ALLOC] ++
  [CELL_DESC_LO_REFCNT, CELL_DESC_LO_FILL, CELL_DESC_HI_NEXT]

/-! Block DSCH: spec/08_die_scheduling.md, DSC-10, DSC-11, DSC-12, DSC-8, DSC-9. -/

def DSCH_SHARE_C01_CY : Field := ⟨0x400000, [], 25, 16, .rw, 0, .chart⟩
def DSCH_SHARE_C01_CX : Field := ⟨0x400000, [], 9, 0, .rw, 0, .chart⟩
def DSCH_SHARE_C23_CY : Field := ⟨0x400004, [], 25, 16, .rw, 0, .chart⟩
def DSCH_SHARE_C23_CX : Field := ⟨0x400004, [], 9, 0, .rw, 0, .chart⟩
def DSCH_SHARE_C45_CY : Field := ⟨0x400008, [], 25, 16, .rw, 0, .chart⟩
def DSCH_SHARE_C45_CX : Field := ⟨0x400008, [], 9, 0, .rw, 0, .chart⟩
def DSCH_SHARE_C67_CY : Field := ⟨0x40000C, [], 25, 16, .rw, 0, .chart⟩
def DSCH_SHARE_C67_CX : Field := ⟨0x40000C, [], 9, 0, .rw, 0, .chart⟩
def DSCH_SHARE_CTRL_PENDING : Field := ⟨0x400010, [], 31, 31, .ro, 0, .value⟩
def DSCH_SHARE_CTRL_RESULT : Field := ⟨0x400010, [], 30, 28, .ro, 0, .value⟩
def DSCH_SHARE_CTRL_APPLY : Field := ⟨0x400010, [], 0, 0, .wo, 0, .value⟩
def DSCH_BUDGET_INFO_THROTTLE_PCT : Field := ⟨0x400018, [], 31, 24, .ro, 100, .value⟩
def DSCH_BUDGET_INFO_RESERVE : Field := ⟨0x400018, [], 23, 16, .ro, 0, .chart⟩
def DSCH_BUDGET_INFO_MERIDIAN_US : Field := ⟨0x400018, [], 12, 0, .ro, 0, .chart⟩
def DSCH_LEND_LO_ROWS_0_3 : Field := ⟨0x400020, [], 31, 0, .ro, 0, .chart⟩
def DSCH_LEND_HI_ROWS_4_7 : Field := ⟨0x400024, [], 31, 0, .ro, 0, .chart⟩
def DSCH_SUSPEND_CFG_HOLD_MS : Field := ⟨0x400030, [], 23, 16, .rw, 10, .value⟩
def DSCH_SUSPEND_CFG_SUSPEND_MAX : Field := ⟨0x400030, [], 11, 8, .rw, 8, .value⟩
def DSCH_SUSPEND_CFG_MIN_RUN : Field := ⟨0x400030, [], 7, 0, .rw, 50, .value⟩
def DSCH_BEST_EFFORT_MS : Field := ⟨0x400034, [], 9, 0, .rw, 100, .value⟩
def DSCH_PRED_STATUS_COLD : Field := ⟨0x400038, [], 31, 31, .ro, 1, .value⟩
def DSCH_PRED_STATUS_MERIDIANS : Field := ⟨0x400038, [], 6, 0, .ro, 0, .value⟩
def DSCH_LEDGER_SEL_OWNER : Field := ⟨0x400040, [], 28, 16, .rw, 0, .value⟩
def DSCH_LEDGER_SEL_CONS : Field := ⟨0x400040, [], 7, 0, .rw, 0, .value⟩
def DSCH_LEDGER_BAL_DIE_US : Field := ⟨0x400044, [], 31, 0, .ro, 0, .value⟩
def DSCH_LEDGER_GRANT_VALID : Field := ⟨0x400048, [], 31, 31, .ro, 0, .value⟩
def DSCH_LEDGER_GRANT_DIE_US : Field := ⟨0x400048, [], 30, 0, .ro, 0, .value⟩
def DSCH_LEDGER_MET_COUNT : Field := ⟨0x400050, [], 31, 0, .rc, 0, .value⟩
def DSCH_LEDGER_MISSED_COUNT : Field := ⟨0x400054, [], 31, 0, .rc, 0, .value⟩
def DSCH_LEDGER_LOST_COUNT : Field := ⟨0x400058, [], 31, 0, .rc, 0, .value⟩
def DSCH_LEDGER_OCC_COUNT : Field := ⟨0x40005C, [], 31, 0, .rc, 0, .value⟩
def DSCH_CONS_MODE_CURRENT : Field := ⟨0x400400, [(4, 256)], 31, 31, .ro, 0, .chart⟩
def DSCH_CONS_MODE_COMPLIANT : Field := ⟨0x400400, [(4, 256)], 30, 30, .ro, 0, .value⟩
def DSCH_CONS_MODE_OCC_PCT : Field := ⟨0x400400, [(4, 256)], 23, 16, .rw, 10, .value⟩
def DSCH_CONS_MODE_IDLE_SHARE : Field := ⟨0x400400, [(4, 256)], 8, 8, .rw, 1, .value⟩
def DSCH_CONS_MODE_OCC_ENABLE : Field := ⟨0x400400, [(4, 256)], 1, 1, .rw, 1, .value⟩
def DSCH_CONS_MODE_MODE : Field := ⟨0x400400, [(4, 256)], 0, 0, .rw, 0, .chart⟩
def DSCH_CH_STATUS_DIES : Field := ⟨0x401000, [(8192, 128)], 25, 20, .ro, 0, .chart⟩
def DSCH_CH_STATUS_BUSY : Field := ⟨0x401000, [(8192, 128)], 19, 14, .ro, 0, .value⟩
def DSCH_CH_STATUS_QUEUED : Field := ⟨0x401000, [(8192, 128)], 9, 0, .ro, 0, .value⟩
def DSCH_CH_STAT_SUSPENDS : Field := ⟨0x401004, [(8192, 128)], 31, 16, .rc, 0, .value⟩
def DSCH_CH_STAT_OCC_SOURCED : Field := ⟨0x401004, [(8192, 128)], 15, 0, .rc, 0, .value⟩
def DSCH_CH_STAT2_LENDS : Field := ⟨0x401008, [(8192, 128)], 31, 16, .rc, 0, .value⟩
def DSCH_CH_STAT2_FORCED : Field := ⟨0x401008, [(8192, 128)], 15, 0, .rc, 0, .value⟩
def DSCH_DIE_STATE_OP : Field := ⟨0x401100, [(8192, 128), (4, 32)], 31, 28, .ro, 0, .value⟩
def DSCH_DIE_STATE_SUSPENDS : Field := ⟨0x401100, [(8192, 128), (4, 32)], 27, 24, .ro, 0, .value⟩
def DSCH_DIE_STATE_POPULATED : Field := ⟨0x401100, [(8192, 128), (4, 32)], 23, 23, .ro, 0, .chart⟩
def DSCH_DIE_STATE_COLD : Field := ⟨0x401100, [(8192, 128), (4, 32)], 22, 22, .ro, 1, .value⟩
def DSCH_DIE_STATE_RESERVE_USED : Field := ⟨0x401100, [(8192, 128), (4, 32)], 17, 16, .ro, 0, .value⟩
def DSCH_DIE_STATE_GENERAL_USED : Field := ⟨0x401100, [(8192, 128), (4, 32)], 11, 8, .ro, 0, .value⟩
def DSCH_CLASS_TOKENS_DIE_US : Field := ⟨0x401200, [(8192, 128), (32, 32), (4, 8)], 23, 0, .ro, 0, .value⟩
def DSCH_RESERVE_TOKENS_DIE_US : Field := ⟨0x401600, [(8192, 128), (4, 32)], 23, 0, .ro, 0, .value⟩
def DSCH_PRED_SEL_KIND : Field := ⟨0x401700, [(8192, 128)], 9, 8, .rw, 0, .value⟩
def DSCH_PRED_SEL_DIE : Field := ⟨0x401700, [(8192, 128)], 4, 0, .rw, 0, .value⟩
def DSCH_PRED_VAL_COLD : Field := ⟨0x401704, [(8192, 128)], 31, 31, .ro, 1, .value⟩
def DSCH_PRED_VAL_DEVIATION : Field := ⟨0x401704, [(8192, 128)], 30, 16, .ro, 0, .value⟩
def DSCH_PRED_VAL_MEAN : Field := ⟨0x401704, [(8192, 128)], 15, 0, .ro, 0, .value⟩

/-- The fields of block DSCH. -/
def blockDSCH : List Field :=
  [DSCH_SHARE_C01_CY, DSCH_SHARE_C01_CX, DSCH_SHARE_C23_CY, DSCH_SHARE_C23_CX, DSCH_SHARE_C45_CY, DSCH_SHARE_C45_CX, DSCH_SHARE_C67_CY, DSCH_SHARE_C67_CX, DSCH_SHARE_CTRL_PENDING, DSCH_SHARE_CTRL_RESULT, DSCH_SHARE_CTRL_APPLY, DSCH_BUDGET_INFO_THROTTLE_PCT, DSCH_BUDGET_INFO_RESERVE, DSCH_BUDGET_INFO_MERIDIAN_US, DSCH_LEND_LO_ROWS_0_3, DSCH_LEND_HI_ROWS_4_7, DSCH_SUSPEND_CFG_HOLD_MS, DSCH_SUSPEND_CFG_SUSPEND_MAX, DSCH_SUSPEND_CFG_MIN_RUN, DSCH_BEST_EFFORT_MS, DSCH_PRED_STATUS_COLD, DSCH_PRED_STATUS_MERIDIANS, DSCH_LEDGER_SEL_OWNER, DSCH_LEDGER_SEL_CONS] ++
  [DSCH_LEDGER_BAL_DIE_US, DSCH_LEDGER_GRANT_VALID, DSCH_LEDGER_GRANT_DIE_US, DSCH_LEDGER_MET_COUNT, DSCH_LEDGER_MISSED_COUNT, DSCH_LEDGER_LOST_COUNT, DSCH_LEDGER_OCC_COUNT, DSCH_CONS_MODE_CURRENT, DSCH_CONS_MODE_COMPLIANT, DSCH_CONS_MODE_OCC_PCT, DSCH_CONS_MODE_IDLE_SHARE, DSCH_CONS_MODE_OCC_ENABLE, DSCH_CONS_MODE_MODE, DSCH_CH_STATUS_DIES, DSCH_CH_STATUS_BUSY, DSCH_CH_STATUS_QUEUED, DSCH_CH_STAT_SUSPENDS, DSCH_CH_STAT_OCC_SOURCED, DSCH_CH_STAT2_LENDS, DSCH_CH_STAT2_FORCED, DSCH_DIE_STATE_OP, DSCH_DIE_STATE_SUSPENDS, DSCH_DIE_STATE_POPULATED, DSCH_DIE_STATE_COLD] ++
  [DSCH_DIE_STATE_RESERVE_USED, DSCH_DIE_STATE_GENERAL_USED, DSCH_CLASS_TOKENS_DIE_US, DSCH_RESERVE_TOKENS_DIE_US, DSCH_PRED_SEL_KIND, DSCH_PRED_SEL_DIE, DSCH_PRED_VAL_COLD, DSCH_PRED_VAL_DEVIATION, DSCH_PRED_VAL_MEAN]

/-! Block MEDIA: spec/09_media_management.md, MED-17, MED-18, MED-19, MED-20, MED-21. -/

def MEDIA_STATUS_READ_ONLY : Field := ⟨0x500000, [], 31, 31, .ro, 0, .persisted⟩
def MEDIA_STATUS_BOOK_RESTORED : Field := ⟨0x500000, [], 30, 30, .ro, 0, .value⟩
def MEDIA_STATUS_WEAR_RESTORED : Field := ⟨0x500000, [], 29, 29, .ro, 0, .value⟩
def MEDIA_STATUS_RAW : Field := ⟨0x500000, [], 28, 28, .ro, 0, .value⟩
def MEDIA_STATUS_SCRUB_BEHIND : Field := ⟨0x500000, [], 27, 27, .ro, 0, .value⟩
def MEDIA_STATUS_SPARE_WARN : Field := ⟨0x500000, [], 26, 26, .ro, 0, .value⟩
def MEDIA_STATUS_CONS_WP : Field := ⟨0x500000, [], 8, 0, .ro, 0, .value⟩
def MEDIA_WP_CTRL_UNLOCK : Field := ⟨0x500004, [], 31, 16, .wo, 0, .value⟩
def MEDIA_WP_CTRL_RELEASE : Field := ⟨0x500004, [], 0, 0, .wo, 0, .value⟩
def MEDIA_ENDURANCE_CYCLES : Field := ⟨0x500008, [], 19, 0, .rw, 0, .persisted⟩
def MEDIA_SCRUB_CFG_DISTURB_K : Field := ⟨0x500010, [], 31, 24, .rw, 200, .value⟩
def MEDIA_SCRUB_CFG_REFRESH_PCT : Field := ⟨0x500010, [], 23, 16, .rw, 60, .value⟩
def MEDIA_SCRUB_CFG_PERIOD_H : Field := ⟨0x500010, [], 11, 0, .rw, 0, .chart⟩
def MEDIA_ASSAY_CFG_ERASE_LIMIT : Field := ⟨0x500014, [], 31, 24, .rw, 16, .value⟩
def MEDIA_ASSAY_CFG_LIMIT_PCT : Field := ⟨0x500014, [], 23, 16, .rw, 50, .value⟩
def MEDIA_ASSAY_CFG_MARGIN : Field := ⟨0x500014, [], 15, 12, .rw, 4, .value⟩
def MEDIA_ASSAY_CFG_SAMPLE_LOG2 : Field := ⟨0x500014, [], 4, 0, .rw, 0, .chart⟩
def MEDIA_LADDER_CFG_EARLY_STRIPE : Field := ⟨0x500018, [], 8, 8, .rw, 0, .value⟩
def MEDIA_LADDER_CFG_RETRY_MAX : Field := ⟨0x500018, [], 2, 0, .rw, 6, .value⟩
def MEDIA_WL_CFG_ENABLE : Field := ⟨0x50001C, [], 31, 31, .rw, 1, .value⟩
def MEDIA_WL_CFG_DELTA : Field := ⟨0x50001C, [], 15, 0, .rw, 500, .value⟩
def MEDIA_SCRUB_STATUS_BEHIND : Field := ⟨0x500020, [], 31, 31, .ro, 0, .value⟩
def MEDIA_SCRUB_STATUS_PROGRESS : Field := ⟨0x500020, [], 30, 24, .ro, 0, .value⟩
def MEDIA_SCRUB_STATUS_PASSES : Field := ⟨0x500020, [], 15, 0, .ro, 0, .value⟩
def MEDIA_LADDER_STAT_RETRY : Field := ⟨0x500030, [], 31, 16, .rc, 0, .value⟩
def MEDIA_LADDER_STAT_SOFT : Field := ⟨0x500030, [], 15, 0, .rc, 0, .value⟩
def MEDIA_LADDER_STAT2_STRIPE : Field := ⟨0x500034, [], 31, 16, .rc, 0, .value⟩
def MEDIA_LADDER_STAT2_UNRECOVERED : Field := ⟨0x500034, [], 15, 0, .rc, 0, .value⟩
def MEDIA_REFUSED_COUNT : Field := ⟨0x500038, [], 15, 0, .rc, 0, .value⟩
def MEDIA_ERR_VALID : Field := ⟨0x500040, [], 31, 31, .w1c, 0, .value⟩
def MEDIA_ERR_RESULT : Field := ⟨0x500040, [], 30, 24, .ro, 0, .value⟩
def MEDIA_ERR_CHANNEL : Field := ⟨0x500040, [], 23, 17, .ro, 0, .value⟩
def MEDIA_ERR_DIE : Field := ⟨0x500040, [], 16, 12, .ro, 0, .value⟩
def MEDIA_ERR_LOC_BLOCK : Field := ⟨0x500044, [], 31, 16, .ro, 0, .value⟩
def MEDIA_ERR_LOC_PAGE : Field := ⟨0x500044, [], 15, 0, .ro, 0, .value⟩
def MEDIA_RAW_CTRL_PERMITTED : Field := ⟨0x500050, [], 31, 31, .ro, 0, .value⟩
def MEDIA_RAW_CTRL_ENABLE : Field := ⟨0x500050, [], 0, 0, .rw, 0, .value⟩
def MEDIA_BLK_SEL_CHANNEL : Field := ⟨0x500060, [], 31, 25, .rw, 0, .value⟩
def MEDIA_BLK_SEL_DIE : Field := ⟨0x500060, [], 24, 20, .rw, 0, .value⟩
def MEDIA_BLK_SEL_BLOCK : Field := ⟨0x500060, [], 15, 0, .rw, 0, .value⟩
def MEDIA_BLK_INFO_VALID : Field := ⟨0x500064, [], 31, 31, .ro, 0, .value⟩
def MEDIA_BLK_INFO_STATE : Field := ⟨0x500064, [], 30, 27, .ro, 0, .value⟩
def MEDIA_BLK_INFO_POOL : Field := ⟨0x500064, [], 25, 24, .ro, 0, .value⟩
def MEDIA_BLK_INFO_FLAGS : Field := ⟨0x500064, [], 23, 16, .ro, 0, .value⟩
def MEDIA_BLK_INFO_NEXT_PAGE : Field := ⟨0x500064, [], 15, 0, .ro, 0, .value⟩
def MEDIA_BLK_WEAR_ERASE_COUNT : Field := ⟨0x500068, [], 31, 12, .ro, 0, .value⟩
def MEDIA_BLK_WEAR_READ_K : Field := ⟨0x500068, [], 11, 0, .ro, 0, .value⟩
def MEDIA_MEMBER_HEALTH_SPARE_PCT : Field := ⟨0x500100, [(4, 16)], 31, 24, .ro, 0, .value⟩
def MEDIA_MEMBER_HEALTH_WEAR_PCT : Field := ⟨0x500100, [(4, 16)], 23, 16, .ro, 0, .value⟩
def MEDIA_MEMBER_HEALTH_FINAL : Field := ⟨0x500100, [(4, 16)], 7, 7, .ro, 0, .value⟩
def MEDIA_MEMBER_HEALTH_SPARE_WARN : Field := ⟨0x500100, [(4, 16)], 6, 6, .ro, 0, .value⟩
def MEDIA_CH_STATUS_TRAINED : Field := ⟨0x501000, [(4, 128)], 31, 31, .ro, 0, .value⟩
def MEDIA_CH_STATUS_INTERFACE : Field := ⟨0x501000, [(4, 128)], 30, 30, .ro, 0, .chart⟩
def MEDIA_CH_STATUS_BUS_FAULT : Field := ⟨0x501000, [(4, 128)], 29, 29, .ro, 0, .value⟩
def MEDIA_CH_STATUS_RATE : Field := ⟨0x501000, [(4, 128)], 21, 16, .ro, 0, .value⟩
def MEDIA_CH_STATUS_RECENTRES : Field := ⟨0x501000, [(4, 128)], 15, 0, .ro, 0, .value⟩
def MEDIA_DIE_SPARE_IN_SERVICE : Field := ⟨0x502000, [(128, 128), (4, 32)], 31, 31, .ro, 0, .chart⟩
def MEDIA_DIE_SPARE_FAILED : Field := ⟨0x502000, [(128, 128), (4, 32)], 30, 30, .ro, 0, .value⟩
def MEDIA_DIE_SPARE_SPARE : Field := ⟨0x502000, [(128, 128), (4, 32)], 29, 16, .ro, 0, .value⟩
def MEDIA_DIE_SPARE_RETIRED : Field := ⟨0x502000, [(128, 128), (4, 32)], 15, 0, .ro, 0, .value⟩

/-- The fields of block MEDIA. -/
def blockMEDIA : List Field :=
  [MEDIA_STATUS_READ_ONLY, MEDIA_STATUS_BOOK_RESTORED, MEDIA_STATUS_WEAR_RESTORED, MEDIA_STATUS_RAW, MEDIA_STATUS_SCRUB_BEHIND, MEDIA_STATUS_SPARE_WARN, MEDIA_STATUS_CONS_WP, MEDIA_WP_CTRL_UNLOCK, MEDIA_WP_CTRL_RELEASE, MEDIA_ENDURANCE_CYCLES, MEDIA_SCRUB_CFG_DISTURB_K, MEDIA_SCRUB_CFG_REFRESH_PCT, MEDIA_SCRUB_CFG_PERIOD_H, MEDIA_ASSAY_CFG_ERASE_LIMIT, MEDIA_ASSAY_CFG_LIMIT_PCT, MEDIA_ASSAY_CFG_MARGIN, MEDIA_ASSAY_CFG_SAMPLE_LOG2, MEDIA_LADDER_CFG_EARLY_STRIPE, MEDIA_LADDER_CFG_RETRY_MAX, MEDIA_WL_CFG_ENABLE, MEDIA_WL_CFG_DELTA, MEDIA_SCRUB_STATUS_BEHIND, MEDIA_SCRUB_STATUS_PROGRESS, MEDIA_SCRUB_STATUS_PASSES] ++
  [MEDIA_LADDER_STAT_RETRY, MEDIA_LADDER_STAT_SOFT, MEDIA_LADDER_STAT2_STRIPE, MEDIA_LADDER_STAT2_UNRECOVERED, MEDIA_REFUSED_COUNT, MEDIA_ERR_VALID, MEDIA_ERR_RESULT, MEDIA_ERR_CHANNEL, MEDIA_ERR_DIE, MEDIA_ERR_LOC_BLOCK, MEDIA_ERR_LOC_PAGE, MEDIA_RAW_CTRL_PERMITTED, MEDIA_RAW_CTRL_ENABLE, MEDIA_BLK_SEL_CHANNEL, MEDIA_BLK_SEL_DIE, MEDIA_BLK_SEL_BLOCK, MEDIA_BLK_INFO_VALID, MEDIA_BLK_INFO_STATE, MEDIA_BLK_INFO_POOL, MEDIA_BLK_INFO_FLAGS, MEDIA_BLK_INFO_NEXT_PAGE, MEDIA_BLK_WEAR_ERASE_COUNT, MEDIA_BLK_WEAR_READ_K, MEDIA_MEMBER_HEALTH_SPARE_PCT] ++
  [MEDIA_MEMBER_HEALTH_WEAR_PCT, MEDIA_MEMBER_HEALTH_FINAL, MEDIA_MEMBER_HEALTH_SPARE_WARN, MEDIA_CH_STATUS_TRAINED, MEDIA_CH_STATUS_INTERFACE, MEDIA_CH_STATUS_BUS_FAULT, MEDIA_CH_STATUS_RATE, MEDIA_CH_STATUS_RECENTRES, MEDIA_DIE_SPARE_IN_SERVICE, MEDIA_DIE_SPARE_FAILED, MEDIA_DIE_SPARE_SPARE, MEDIA_DIE_SPARE_RETIRED]

/-! Block CRU: spec/10_redundancy.md, RED-10, RED-11, RED-12, RED-9. -/

def CRU_STATUS_DEGRADED : Field := ⟨0x600000, [], 31, 31, .ro, 0, .value⟩
def CRU_STATUS_REBUILD : Field := ⟨0x600000, [], 30, 30, .ro, 0, .value⟩
def CRU_STATUS_RESYNC : Field := ⟨0x600000, [], 29, 29, .ro, 0, .value⟩
def CRU_STATUS_COLUMN_RELOC : Field := ⟨0x600000, [], 28, 28, .ro, 0, .value⟩
def CRU_STATUS_RESULT : Field := ⟨0x600000, [], 27, 25, .ro, 0, .value⟩
def CRU_STATUS_IN_SERVICE : Field := ⟨0x600000, [], 20, 16, .ro, 0, .chart⟩
def CRU_STATUS_OUT_MASK : Field := ⟨0x600000, [], 15, 0, .ro, 0, .value⟩
def CRU_MEMBER_CTRL_UNLOCK : Field := ⟨0x600004, [], 31, 16, .wo, 0, .value⟩
def CRU_MEMBER_CTRL_ACTION : Field := ⟨0x600004, [], 9, 8, .wo, 0, .value⟩
def CRU_MEMBER_CTRL_FORCE : Field := ⟨0x600004, [], 4, 4, .wo, 0, .value⟩
def CRU_MEMBER_CTRL_MEMBER : Field := ⟨0x600004, [], 3, 0, .wo, 0, .value⟩
def CRU_FAIL_CFG_DIE_LIMIT : Field := ⟨0x600008, [], 7, 0, .rw, 8, .value⟩
def CRU_REBUILD_STATUS_ACTIVE : Field := ⟨0x600010, [], 31, 31, .ro, 0, .value⟩
def CRU_REBUILD_STATUS_MEMBER : Field := ⟨0x600010, [], 27, 24, .ro, 0, .value⟩
def CRU_REBUILD_STATUS_QUEUED : Field := ⟨0x600010, [], 23, 16, .ro, 0, .value⟩
def CRU_REBUILD_DONE_UNITS : Field := ⟨0x600014, [], 31, 0, .ro, 0, .value⟩
def CRU_REBUILD_TOTAL_UNITS : Field := ⟨0x600018, [], 31, 0, .ro, 0, .value⟩
def CRU_LOST_COUNT : Field := ⟨0x600020, [], 15, 0, .rc, 0, .value⟩
def CRU_DIRTY_REGIONS : Field := ⟨0x600030, [], 21, 0, .ro, 0, .value⟩
def CRU_RESYNC_ACTIVE : Field := ⟨0x600034, [], 31, 31, .ro, 0, .value⟩
def CRU_RESYNC_FULL : Field := ⟨0x600034, [], 30, 30, .ro, 0, .value⟩
def CRU_RESYNC_REMAINING : Field := ⟨0x600034, [], 21, 0, .ro, 0, .value⟩
def CRU_JOURNAL_COPY_A : Field := ⟨0x600040, [], 31, 28, .ro, 0, .value⟩
def CRU_JOURNAL_COPY_B : Field := ⟨0x600040, [], 27, 24, .ro, 0, .value⟩
def CRU_JOURNAL_PAIR : Field := ⟨0x600040, [], 23, 23, .ro, 0, .value⟩
def CRU_JOURNAL_SEQ_LO_SEQ : Field := ⟨0x600048, [], 31, 0, .ro, 0, .value⟩
def CRU_JOURNAL_SEQ_HI_SEQ : Field := ⟨0x60004C, [], 31, 0, .ro, 0, .value⟩
def CRU_RMW_CFG_MAX_4K : Field := ⟨0x600050, [], 6, 0, .rw, 16, .value⟩
def CRU_RMW_NS_ENABLE : Field := ⟨0x600054, [], 0, 0, .rw, 0, .value⟩
def CRU_ROWX_USED : Field := ⟨0x600058, [], 20, 0, .ro, 0, .value⟩
def CRU_RMW_STAT_PATCHES : Field := ⟨0x60005C, [], 31, 16, .rc, 0, .value⟩
def CRU_RMW_STAT_FALLBACK : Field := ⟨0x60005C, [], 15, 0, .rc, 0, .value⟩
def CRU_HALL_STAT_INGRESS : Field := ⟨0x600060, [], 31, 24, .rc, 0, .value⟩
def CRU_HALL_STAT_TO_MEDIA : Field := ⟨0x600060, [], 23, 16, .rc, 0, .value⟩
def CRU_HALL_STAT_MEDIA_READ : Field := ⟨0x600060, [], 15, 8, .rc, 0, .value⟩
def CRU_HALL_STAT_EGRESS : Field := ⟨0x600060, [], 7, 0, .rc, 0, .value⟩
def CRU_HALL_ERR_VALID : Field := ⟨0x600064, [], 31, 31, .w1c, 0, .value⟩
def CRU_HALL_ERR_POINT : Field := ⟨0x600064, [], 30, 29, .ro, 0, .value⟩
def CRU_HALL_ERR_FIELD : Field := ⟨0x600064, [], 28, 27, .ro, 0, .value⟩
def CRU_HALL_ERR_NSID : Field := ⟨0x600064, [], 16, 0, .ro, 0, .value⟩
def CRU_HALL_LBA_LO_LBA : Field := ⟨0x600068, [], 31, 0, .ro, 0, .value⟩
def CRU_HALL_LBA_HI_LBA : Field := ⟨0x60006C, [], 31, 0, .ro, 0, .value⟩
def CRU_LANES_BUSY : Field := ⟨0x600070, [], 15, 0, .ro, 0, .value⟩
def CRU_MEMBER_STATE_STATE : Field := ⟨0x600100, [(4, 16)], 31, 28, .ro, 0, .chart⟩
def CRU_MEMBER_STATE_CAUSE : Field := ⟨0x600100, [(4, 16)], 27, 25, .ro, 0, .value⟩
def CRU_MEMBER_STATE_DIES_FAILED : Field := ⟨0x600100, [(4, 16)], 24, 16, .ro, 0, .value⟩
def CRU_MEMBER_STATE_PROGRESS : Field := ⟨0x600100, [(4, 16)], 6, 0, .ro, 0, .value⟩

/-- The fields of block CRU. -/
def blockCRU : List Field :=
  [CRU_STATUS_DEGRADED, CRU_STATUS_REBUILD, CRU_STATUS_RESYNC, CRU_STATUS_COLUMN_RELOC, CRU_STATUS_RESULT, CRU_STATUS_IN_SERVICE, CRU_STATUS_OUT_MASK, CRU_MEMBER_CTRL_UNLOCK, CRU_MEMBER_CTRL_ACTION, CRU_MEMBER_CTRL_FORCE, CRU_MEMBER_CTRL_MEMBER, CRU_FAIL_CFG_DIE_LIMIT, CRU_REBUILD_STATUS_ACTIVE, CRU_REBUILD_STATUS_MEMBER, CRU_REBUILD_STATUS_QUEUED, CRU_REBUILD_DONE_UNITS, CRU_REBUILD_TOTAL_UNITS, CRU_LOST_COUNT, CRU_DIRTY_REGIONS, CRU_RESYNC_ACTIVE, CRU_RESYNC_FULL, CRU_RESYNC_REMAINING, CRU_JOURNAL_COPY_A, CRU_JOURNAL_COPY_B] ++
  [CRU_JOURNAL_PAIR, CRU_JOURNAL_SEQ_LO_SEQ, CRU_JOURNAL_SEQ_HI_SEQ, CRU_RMW_CFG_MAX_4K, CRU_RMW_NS_ENABLE, CRU_ROWX_USED, CRU_RMW_STAT_PATCHES, CRU_RMW_STAT_FALLBACK, CRU_HALL_STAT_INGRESS, CRU_HALL_STAT_TO_MEDIA, CRU_HALL_STAT_MEDIA_READ, CRU_HALL_STAT_EGRESS, CRU_HALL_ERR_VALID, CRU_HALL_ERR_POINT, CRU_HALL_ERR_FIELD, CRU_HALL_ERR_NSID, CRU_HALL_LBA_LO_LBA, CRU_HALL_LBA_HI_LBA, CRU_LANES_BUSY, CRU_MEMBER_STATE_STATE, CRU_MEMBER_STATE_CAUSE, CRU_MEMBER_STATE_DIES_FAILED, CRU_MEMBER_STATE_PROGRESS]

/-! Block DRAM: spec/15_dram_ecc.md, DRM-7. -/

def DRAM_STATUS_FILL_DONE : Field := ⟨0x700000, [], 31, 31, .ro, 0, .value⟩
def DRAM_STATUS_HASH_LOCKED : Field := ⟨0x700000, [], 30, 30, .ro, 0, .value⟩
def DRAM_STATUS_TRAINED : Field := ⟨0x700000, [], 23, 16, .ro, 0, .value⟩
def DRAM_STATUS_RATE : Field := ⟨0x700000, [], 12, 0, .ro, 0, .chart⟩
def DRAM_HASH_MASK : Field := ⟨0x700010, [(4, 9)], 31, 0, .rw, 0, .table⟩
def DRAM_HASH_CTRL_PENDING : Field := ⟨0x700040, [], 31, 31, .ro, 0, .value⟩
def DRAM_HASH_CTRL_RESULT : Field := ⟨0x700040, [], 30, 28, .ro, 0, .value⟩
def DRAM_HASH_CTRL_APPLY : Field := ⟨0x700040, [], 0, 0, .wo, 0, .value⟩
def DRAM_FILL_BASE_MIB : Field := ⟨0x700050, [], 18, 0, .rw, 0, .value⟩
def DRAM_FILL_LEN_MIB : Field := ⟨0x700054, [], 18, 0, .rw, 0, .value⟩
def DRAM_FILL_CTRL_GO : Field := ⟨0x700058, [], 31, 31, .wo, 0, .value⟩
def DRAM_FILL_STATUS_BUSY : Field := ⟨0x70005C, [], 31, 31, .ro, 0, .value⟩
def DRAM_FILL_STATUS_RESULT : Field := ⟨0x70005C, [], 30, 28, .ro, 0, .value⟩
def DRAM_FILL_STATUS_FILLED : Field := ⟨0x70005C, [], 18, 0, .ro, 0, .value⟩
def DRAM_NR_CFG_ENABLE : Field := ⟨0x700060, [], 31, 31, .rw, 1, .value⟩
def DRAM_NR_CFG_DISTANCE : Field := ⟨0x700060, [], 9, 8, .rw, 1, .value⟩
def DRAM_NR_CFG_K : Field := ⟨0x700060, [], 4, 0, .rw, 10, .value⟩
def DRAM_NR_SEED_SEED : Field := ⟨0x700064, [], 31, 0, .wo, 0, .value⟩
def DRAM_SCRUB_CFG_PROGRESS : Field := ⟨0x700068, [], 30, 24, .ro, 0, .value⟩
def DRAM_SCRUB_CFG_PERIOD_H : Field := ⟨0x700068, [], 7, 0, .rw, 24, .value⟩
def DRAM_PART_BASE_MIB : Field := ⟨0x700080, [(4, 8)], 18, 0, .ro, 0, .chart⟩
def DRAM_CH_STATUS_TRAINED : Field := ⟨0x701000, [(65536, 8)], 31, 31, .ro, 0, .value⟩
def DRAM_CH_STATUS_ORG : Field := ⟨0x701000, [(65536, 8)], 30, 29, .ro, 0, .chart⟩
def DRAM_CH_STATUS_POPULATED : Field := ⟨0x701000, [(65536, 8)], 28, 28, .ro, 0, .chart⟩
def DRAM_CH_STAT_FORWARDS : Field := ⟨0x701004, [(65536, 8)], 31, 16, .rc, 0, .value⟩
def DRAM_CH_STAT_INORDER : Field := ⟨0x701004, [(65536, 8)], 15, 0, .rc, 0, .value⟩
def DRAM_NR_STAT_ISSUED : Field := ⟨0x701008, [(65536, 8)], 31, 16, .rc, 0, .value⟩
def DRAM_NR_STAT_DROPPED : Field := ⟨0x701008, [(65536, 8)], 15, 0, .rc, 0, .value⟩

/-- The fields of block DRAM. -/
def blockDRAM : List Field :=
  [DRAM_STATUS_FILL_DONE, DRAM_STATUS_HASH_LOCKED, DRAM_STATUS_TRAINED, DRAM_STATUS_RATE, DRAM_HASH_MASK, DRAM_HASH_CTRL_PENDING, DRAM_HASH_CTRL_RESULT, DRAM_HASH_CTRL_APPLY, DRAM_FILL_BASE_MIB, DRAM_FILL_LEN_MIB, DRAM_FILL_CTRL_GO, DRAM_FILL_STATUS_BUSY, DRAM_FILL_STATUS_RESULT, DRAM_FILL_STATUS_FILLED, DRAM_NR_CFG_ENABLE, DRAM_NR_CFG_DISTANCE, DRAM_NR_CFG_K, DRAM_NR_SEED_SEED, DRAM_SCRUB_CFG_PROGRESS, DRAM_SCRUB_CFG_PERIOD_H, DRAM_PART_BASE_MIB, DRAM_CH_STATUS_TRAINED, DRAM_CH_STATUS_ORG, DRAM_CH_STATUS_POPULATED] ++
  [DRAM_CH_STAT_FORWARDS, DRAM_CH_STAT_INORDER, DRAM_NR_STAT_ISSUED, DRAM_NR_STAT_DROPPED]

/-! Block ECC: spec/15_dram_ecc.md, DRM-9. -/

def ECC_DRAM_CE_SUBCH_B : Field := ⟨0x780000, [(4, 8)], 31, 16, .rc, 0, .value⟩
def ECC_DRAM_CE_SUBCH_A : Field := ⟨0x780000, [(4, 8)], 15, 0, .rc, 0, .value⟩
def ECC_DRAM_UE_SUBCH_B : Field := ⟨0x780020, [(4, 8)], 31, 16, .rc, 0, .value⟩
def ECC_DRAM_UE_SUBCH_A : Field := ⟨0x780020, [(4, 8)], 15, 0, .rc, 0, .value⟩
def ECC_DEV_SEL_CHANNEL : Field := ⟨0x780040, [], 7, 5, .rw, 0, .value⟩
def ECC_DEV_SEL_SUBCH : Field := ⟨0x780040, [], 4, 4, .rw, 0, .value⟩
def ECC_DEV_SEL_POSITION : Field := ⟨0x780040, [], 3, 0, .rw, 0, .value⟩
def ECC_DEV_COUNT_COUNT : Field := ⟨0x780044, [], 15, 0, .rc, 0, .value⟩
def ECC_CE_THRESH_COUNT : Field := ⟨0x780048, [], 15, 0, .rw, 256, .value⟩
def ECC_SRAM_STAT_CORRECTED : Field := ⟨0x780050, [], 31, 16, .rc, 0, .value⟩
def ECC_SRAM_STAT_UNCORRECTABLE : Field := ⟨0x780050, [], 15, 0, .rc, 0, .value⟩
def ECC_ERR_VALID : Field := ⟨0x780060, [], 31, 31, .w1c, 0, .value⟩
def ECC_ERR_SPACE : Field := ⟨0x780060, [], 30, 29, .ro, 0, .value⟩
def ECC_ERR_REQUESTER : Field := ⟨0x780060, [], 28, 25, .ro, 0, .value⟩
def ECC_ERR_POISON : Field := ⟨0x780060, [], 24, 24, .ro, 0, .value⟩
def ECC_ERR_CHANNEL : Field := ⟨0x780060, [], 23, 21, .ro, 0, .value⟩
def ECC_ERR_SUBCH : Field := ⟨0x780060, [], 20, 20, .ro, 0, .value⟩
def ECC_ERR_ADDR_LO_ADDR : Field := ⟨0x780064, [], 31, 0, .ro, 0, .value⟩
def ECC_ERR_ADDR_HI_ADDR : Field := ⟨0x780068, [], 31, 0, .ro, 0, .value⟩
def ECC_TEST_CTRL_UNLOCK : Field := ⟨0x780100, [], 31, 16, .wo, 0, .value⟩
def ECC_TEST_CTRL_SPACE : Field := ⟨0x780100, [], 5, 4, .wo, 0, .value⟩
def ECC_TEST_CTRL_OP : Field := ⟨0x780100, [], 2, 0, .wo, 0, .value⟩
def ECC_TEST_STATUS_BUSY : Field := ⟨0x780104, [], 31, 31, .ro, 0, .value⟩
def ECC_TEST_STATUS_RESULT : Field := ⟨0x780104, [], 30, 28, .ro, 0, .value⟩
def ECC_TEST_STATUS_POSITION : Field := ⟨0x780104, [], 7, 4, .ro, 0, .value⟩
def ECC_TEST_STATUS_DECODE : Field := ⟨0x780104, [], 1, 0, .ro, 0, .value⟩
def ECC_TEST_ADDR_LO_ADDR : Field := ⟨0x780108, [], 31, 0, .rw, 0, .value⟩
def ECC_TEST_ADDR_HI_ADDR : Field := ⟨0x78010C, [], 31, 0, .rw, 0, .value⟩
def ECC_TEST_DATA_DATA : Field := ⟨0x780140, [(4, 16)], 31, 0, .rw, 0, .value⟩
def ECC_TEST_CHECK_CHECK : Field := ⟨0x780180, [(4, 4)], 31, 0, .rw, 0, .value⟩

/-- The fields of block ECC. -/
def blockECC : List Field :=
  [ECC_DRAM_CE_SUBCH_B, ECC_DRAM_CE_SUBCH_A, ECC_DRAM_UE_SUBCH_B, ECC_DRAM_UE_SUBCH_A, ECC_DEV_SEL_CHANNEL, ECC_DEV_SEL_SUBCH, ECC_DEV_SEL_POSITION, ECC_DEV_COUNT_COUNT, ECC_CE_THRESH_COUNT, ECC_SRAM_STAT_CORRECTED, ECC_SRAM_STAT_UNCORRECTABLE, ECC_ERR_VALID, ECC_ERR_SPACE, ECC_ERR_REQUESTER, ECC_ERR_POISON, ECC_ERR_CHANNEL, ECC_ERR_SUBCH, ECC_ERR_ADDR_LO_ADDR, ECC_ERR_ADDR_HI_ADDR, ECC_TEST_CTRL_UNLOCK, ECC_TEST_CTRL_SPACE, ECC_TEST_CTRL_OP, ECC_TEST_STATUS_BUSY, ECC_TEST_STATUS_RESULT] ++
  [ECC_TEST_STATUS_POSITION, ECC_TEST_STATUS_DECODE, ECC_TEST_ADDR_LO_ADDR, ECC_TEST_ADDR_HI_ADDR, ECC_TEST_DATA_DATA, ECC_TEST_CHECK_CHECK]

/-! Block KEY: spec/12_cipher_keys.md, KEY-6, KEY-7, KEY-8. -/

def KEY_STATUS_ALARM : Field := ⟨0x800000, [], 31, 31, .ro, 0, .value⟩
def KEY_STATUS_KEK_READY : Field := ⟨0x800000, [], 30, 30, .ro, 0, .value⟩
def KEY_STATUS_SPENT : Field := ⟨0x800000, [], 27, 14, .ro, 0, .value⟩
def KEY_STATUS_LOADED : Field := ⟨0x800000, [], 13, 0, .ro, 0, .value⟩
def KEY_CFG_ALARM_PURGE : Field := ⟨0x800004, [], 0, 0, .rws, 0, .value⟩
def KEY_ALARM_VALID : Field := ⟨0x800008, [], 31, 31, .ro, 0, .value⟩
def KEY_ALARM_TAMPER : Field := ⟨0x800008, [], 27, 27, .ro, 0, .value⟩
def KEY_ALARM_DEBUG : Field := ⟨0x800008, [], 26, 26, .ro, 0, .value⟩
def KEY_ALARM_TEMP : Field := ⟨0x800008, [], 25, 25, .ro, 0, .value⟩
def KEY_ALARM_CLOCK : Field := ⟨0x800008, [], 24, 24, .ro, 0, .value⟩
def KEY_ALARM_VOLTAGE : Field := ⟨0x800008, [], 23, 23, .ro, 0, .value⟩
def KEY_LIMIT_GCM_GCM_M1 : Field := ⟨0x800010, [], 31, 0, .rw, 0, .chart⟩
def KEY_LIMIT_XTS_LO_DU : Field := ⟨0x800018, [], 31, 0, .rw, 0, .chart⟩
def KEY_LIMIT_XTS_HI_DU : Field := ⟨0x80001C, [], 8, 0, .rw, 0, .chart⟩
def KEY_LIMIT_CTR_LO_BYTES : Field := ⟨0x800020, [], 31, 0, .rw, 0, .chart⟩
def KEY_LIMIT_CTR_HI_BYTES : Field := ⟨0x800024, [], 18, 0, .rw, 0, .chart⟩
def KEY_SLOT_SEL_SLOT : Field := ⟨0x800040, [], 12, 0, .rw, 0, .value⟩
def KEY_SLOT_INFO_STATE : Field := ⟨0x800044, [], 31, 30, .ro, 0, .value⟩
def KEY_SLOT_INFO_KIND : Field := ⟨0x800044, [], 29, 28, .ro, 0, .value⟩
def KEY_SLOT_INFO_POOL : Field := ⟨0x800044, [], 27, 27, .ro, 0, .chart⟩
def KEY_SLOT_INFO_OWNER : Field := ⟨0x800044, [], 12, 0, .ro, 0, .value⟩
def KEY_SLOT_COUNT_LO_COUNT : Field := ⟨0x800048, [], 31, 0, .ro, 0, .value⟩
def KEY_SLOT_COUNT_HI_COUNT : Field := ⟨0x80004C, [], 31, 0, .ro, 0, .value⟩
def KEY_SLOT_CTRL_GO : Field := ⟨0x800050, [], 31, 31, .wo, 0, .value⟩
def KEY_SLOT_CTRL_OP : Field := ⟨0x800050, [], 30, 28, .wo, 0, .value⟩
def KEY_SLOT_CTRL_KIND : Field := ⟨0x800050, [], 27, 26, .wo, 0, .value⟩
def KEY_SLOT_CTRL_FORCE : Field := ⟨0x800050, [], 25, 25, .wo, 0, .value⟩
def KEY_SLOT_CTRL_OWNER : Field := ⟨0x800050, [], 12, 0, .wo, 0, .value⟩
def KEY_SLOT_STATUS_BUSY : Field := ⟨0x800054, [], 31, 31, .ro, 0, .value⟩
def KEY_SLOT_STATUS_RESULT : Field := ⟨0x800054, [], 30, 27, .ro, 0, .value⟩
def KEY_SLOT_STATUS_SLOT : Field := ⟨0x800054, [], 12, 0, .ro, 0, .value⟩
def KEY_SLOT_NS_COUNT : Field := ⟨0x800058, [], 16, 0, .ro, 0, .value⟩
def KEY_NS_BIND_GO : Field := ⟨0x800060, [], 31, 31, .wo, 0, .value⟩
def KEY_NS_BIND_RESULT : Field := ⟨0x800060, [], 30, 28, .ro, 0, .value⟩
def KEY_NS_BIND_SLOT : Field := ⟨0x800060, [], 12, 0, .rw, 0, .value⟩
def KEY_USE_STAT_SPENT_REFUSALS : Field := ⟨0x800070, [], 31, 16, .rc, 0, .value⟩
def KEY_USE_STAT_UNWRAP_FAILS : Field := ⟨0x800070, [], 15, 0, .rc, 0, .value⟩
def KEY_OTP_SERIAL_LO_SERIAL : Field := ⟨0x800080, [], 31, 0, .ro, 0, .otp⟩
def KEY_OTP_SERIAL_HI_SERIAL : Field := ⟨0x800084, [], 31, 0, .ro, 0, .otp⟩
def KEY_OTP_LOT_LO_LOT : Field := ⟨0x800088, [], 31, 0, .ro, 0, .otp⟩
def KEY_OTP_LOT_HI_LOT : Field := ⟨0x80008C, [], 31, 0, .ro, 0, .otp⟩
def KEY_OTP_STATUS_SERIAL_PROG : Field := ⟨0x800090, [], 31, 31, .ro, 0, .otp⟩
def KEY_OTP_STATUS_LOT_PROG : Field := ⟨0x800090, [], 30, 30, .ro, 0, .otp⟩
def KEY_OTP_STATUS_ROOT_PROG : Field := ⟨0x800090, [], 29, 29, .ro, 0, .otp⟩
def KEY_OTP_STATUS_SEED_PROG : Field := ⟨0x800090, [], 28, 28, .ro, 0, .otp⟩
def KEY_OTP_STATUS_LOCKED : Field := ⟨0x800090, [], 27, 27, .ro, 0, .otp⟩
def KEY_OTP_STATUS_CRC_OK : Field := ⟨0x800090, [], 26, 26, .ro, 0, .otp⟩
def KEY_OTP_ROOTHASH_HASH : Field := ⟨0x8000C0, [(4, 12)], 31, 0, .ro, 0, .otp⟩
def KEY_WRAP_DATA : Field := ⟨0x800100, [(4, 18)], 31, 0, .wo, 0, .value⟩

/-- The fields of block KEY. -/
def blockKEY : List Field :=
  [KEY_STATUS_ALARM, KEY_STATUS_KEK_READY, KEY_STATUS_SPENT, KEY_STATUS_LOADED, KEY_CFG_ALARM_PURGE, KEY_ALARM_VALID, KEY_ALARM_TAMPER, KEY_ALARM_DEBUG, KEY_ALARM_TEMP, KEY_ALARM_CLOCK, KEY_ALARM_VOLTAGE, KEY_LIMIT_GCM_GCM_M1, KEY_LIMIT_XTS_LO_DU, KEY_LIMIT_XTS_HI_DU, KEY_LIMIT_CTR_LO_BYTES, KEY_LIMIT_CTR_HI_BYTES, KEY_SLOT_SEL_SLOT, KEY_SLOT_INFO_STATE, KEY_SLOT_INFO_KIND, KEY_SLOT_INFO_POOL, KEY_SLOT_INFO_OWNER, KEY_SLOT_COUNT_LO_COUNT, KEY_SLOT_COUNT_HI_COUNT, KEY_SLOT_CTRL_GO] ++
  [KEY_SLOT_CTRL_OP, KEY_SLOT_CTRL_KIND, KEY_SLOT_CTRL_FORCE, KEY_SLOT_CTRL_OWNER, KEY_SLOT_STATUS_BUSY, KEY_SLOT_STATUS_RESULT, KEY_SLOT_STATUS_SLOT, KEY_SLOT_NS_COUNT, KEY_NS_BIND_GO, KEY_NS_BIND_RESULT, KEY_NS_BIND_SLOT, KEY_USE_STAT_SPENT_REFUSALS, KEY_USE_STAT_UNWRAP_FAILS, KEY_OTP_SERIAL_LO_SERIAL, KEY_OTP_SERIAL_HI_SERIAL, KEY_OTP_LOT_LO_LOT, KEY_OTP_LOT_HI_LOT, KEY_OTP_STATUS_SERIAL_PROG, KEY_OTP_STATUS_LOT_PROG, KEY_OTP_STATUS_ROOT_PROG, KEY_OTP_STATUS_SEED_PROG, KEY_OTP_STATUS_LOCKED, KEY_OTP_STATUS_CRC_OK, KEY_OTP_ROOTHASH_HASH] ++
  [KEY_WRAP_DATA]

/-! Block SERVE: spec/11_fabric_serve.md, SRV-20, SRV-21. -/

def SERVE_STATUS_ENGINE_BUSY : Field := ⟨0x900000, [], 31, 16, .ro, 0, .value⟩
def SERVE_STATUS_CONTEXTS : Field := ⟨0x900000, [], 10, 0, .ro, 0, .value⟩
def SERVE_CFG_TEN_MAX : Field := ⟨0x900004, [], 23, 16, .rw, 64, .value⟩
def SERVE_CFG_MAX_MIB : Field := ⟨0x900004, [], 6, 0, .rw, 64, .value⟩
def SERVE_SLOT_CTRL_GO : Field := ⟨0x900010, [], 31, 31, .wo, 0, .value⟩
def SERVE_SLOT_CTRL_OP : Field := ⟨0x900010, [], 30, 29, .wo, 0, .value⟩
def SERVE_SLOT_CTRL_OWNER : Field := ⟨0x900010, [], 28, 16, .wo, 0, .value⟩
def SERVE_SLOT_CTRL_SLOT : Field := ⟨0x900010, [], 15, 0, .wo, 0, .value⟩
def SERVE_SLOT_STATUS_BUSY : Field := ⟨0x900014, [], 31, 31, .ro, 0, .value⟩
def SERVE_SLOT_STATUS_RESULT : Field := ⟨0x900014, [], 30, 28, .ro, 0, .value⟩
def SERVE_SLOT_STATUS_SLOT : Field := ⟨0x900014, [], 15, 0, .ro, 0, .value⟩
def SERVE_ERR_VALID : Field := ⟨0x900020, [], 31, 31, .w1c, 0, .value⟩
def SERVE_ERR_POSITION : Field := ⟨0x900020, [], 30, 24, .ro, 0, .value⟩
def SERVE_ERR_SC : Field := ⟨0x900020, [], 23, 16, .ro, 0, .value⟩
def SERVE_ERR_SCT : Field := ⟨0x900020, [], 15, 13, .ro, 0, .value⟩
def SERVE_ERR_OWNER : Field := ⟨0x900020, [], 12, 0, .ro, 0, .value⟩
def SERVE_STAT_FAILED : Field := ⟨0x900024, [], 31, 16, .rc, 0, .value⟩
def SERVE_STAT_DONE : Field := ⟨0x900024, [], 15, 0, .rc, 0, .value⟩
def SERVE_BYTES_MIB : Field := ⟨0x900028, [], 31, 0, .rc, 0, .value⟩
def SERVE_STAGE_DATA : Field := ⟨0x902000, [(4, 1056)], 31, 0, .rw, 0, .value⟩

/-- The fields of block SERVE. -/
def blockSERVE : List Field :=
  [SERVE_STATUS_ENGINE_BUSY, SERVE_STATUS_CONTEXTS, SERVE_CFG_TEN_MAX, SERVE_CFG_MAX_MIB, SERVE_SLOT_CTRL_GO, SERVE_SLOT_CTRL_OP, SERVE_SLOT_CTRL_OWNER, SERVE_SLOT_CTRL_SLOT, SERVE_SLOT_STATUS_BUSY, SERVE_SLOT_STATUS_RESULT, SERVE_SLOT_STATUS_SLOT, SERVE_ERR_VALID, SERVE_ERR_POSITION, SERVE_ERR_SC, SERVE_ERR_SCT, SERVE_ERR_OWNER, SERVE_STAT_FAILED, SERVE_STAT_DONE, SERVE_BYTES_MIB, SERVE_STAGE_DATA]

/-! Block NET: spec/11_fabric_serve.md, SRV-17, SRV-18, SRV-19. -/

def NET_PORT_STATUS_UP : Field := ⟨0xA00000, [(4, 16)], 31, 31, .ro, 0, .value⟩
def NET_PORT_STATUS_SPEED : Field := ⟨0xA00000, [(4, 16)], 30, 28, .ro, 0, .value⟩
def NET_PORT_STATUS_MODE : Field := ⟨0xA00000, [(4, 16)], 27, 26, .ro, 0, .chart⟩
def NET_PORT_STATUS_FEC_LOCK : Field := ⟨0xA00000, [(4, 16)], 25, 25, .ro, 0, .value⟩
def NET_PORT_STATUS_PTP_SOURCE : Field := ⟨0xA00000, [(4, 16)], 24, 24, .ro, 0, .chart⟩
def NET_PORT_STATUS_PAUSED : Field := ⟨0xA00000, [(4, 16)], 23, 16, .ro, 0, .value⟩
def NET_PORT_STATUS_LINK_DOWNS : Field := ⟨0xA00000, [(4, 16)], 15, 0, .ro, 0, .value⟩
def NET_MAC_LO_BYTES_2_5 : Field := ⟨0xA00040, [(8, 16)], 31, 0, .rw, 0, .otp⟩
def NET_MAC_HI_BYTES_0_1 : Field := ⟨0xA00044, [(8, 16)], 15, 0, .rw, 0, .otp⟩
def NET_PFC_CFG_ENABLE : Field := ⟨0xA000C0, [(4, 16)], 31, 24, .rw, 8, .value⟩
def NET_PFC_CFG_XOFF : Field := ⟨0xA000C0, [(4, 16)], 23, 16, .rw, 64, .value⟩
def NET_PFC_CFG_XON : Field := ⟨0xA000C0, [(4, 16)], 15, 8, .rw, 48, .value⟩
def NET_PRIO_CFG_ROCE_PRIO : Field := ⟨0xA00100, [], 31, 29, .rw, 3, .value⟩
def NET_PRIO_CFG_CNP_PRIO : Field := ⟨0xA00100, [], 28, 26, .rw, 6, .value⟩
def NET_PRIO_CFG_PTP_PRIO : Field := ⟨0xA00100, [], 25, 23, .rw, 7, .value⟩
def NET_PRIO_CFG_ROCE_DSCP : Field := ⟨0xA00100, [], 22, 17, .rw, 26, .value⟩
def NET_PRIO_CFG_CNP_DSCP : Field := ⟨0xA00100, [], 16, 11, .rw, 48, .value⟩
def NET_PRIO_CFG_TRUST : Field := ⟨0xA00100, [], 10, 10, .rw, 1, .value⟩
def NET_CC_CFG_ENABLE : Field := ⟨0xA00104, [], 31, 31, .rw, 1, .value⟩
def NET_CC_CFG_G_LOG2 : Field := ⟨0xA00104, [], 27, 24, .rw, 8, .value⟩
def NET_CC_CFG_CNP_GAP_US : Field := ⟨0xA00104, [], 23, 16, .rw, 50, .value⟩
def NET_CC_CFG_T_INC_US : Field := ⟨0xA00104, [], 15, 0, .rw, 55, .value⟩
def NET_CC_CFG2_RAI_MBPS : Field := ⟨0xA00108, [], 31, 16, .rw, 40, .value⟩
def NET_CC_CFG2_RATE_MIN_MBPS : Field := ⟨0xA00108, [], 15, 0, .rw, 100, .value⟩
def NET_QP_CFG_ACK_TIMEOUT : Field := ⟨0xA0010C, [], 28, 24, .rw, 14, .value⟩
def NET_QP_CFG_RETRY_CNT : Field := ⟨0xA0010C, [], 23, 21, .rw, 7, .value⟩
def NET_QP_CFG_RNR_RETRY : Field := ⟨0xA0010C, [], 20, 18, .rw, 7, .value⟩
def NET_QP_CFG_RNR_TIMER : Field := ⟨0xA0010C, [], 17, 13, .rw, 1, .value⟩
def NET_STAT_PAUSE_RX_PAUSE : Field := ⟨0xA00200, [(8, 16)], 31, 16, .rc, 0, .value⟩
def NET_STAT_PAUSE_TX_PAUSE : Field := ⟨0xA00200, [(8, 16)], 15, 0, .rc, 0, .value⟩
def NET_STAT_RDMA_CNP_TX : Field := ⟨0xA00204, [(8, 16)], 31, 24, .rc, 0, .value⟩
def NET_STAT_RDMA_CNP_RX : Field := ⟨0xA00204, [(8, 16)], 23, 16, .rc, 0, .value⟩
def NET_STAT_RDMA_RETRANS : Field := ⟨0xA00204, [(8, 16)], 15, 8, .rc, 0, .value⟩
def NET_STAT_RDMA_DROPS : Field := ⟨0xA00204, [(8, 16)], 7, 0, .rc, 0, .value⟩
def NET_ADDR_SEL_PORT : Field := ⟨0xA00300, [], 19, 16, .rw, 0, .value⟩
def NET_ADDR_SEL_IPV6 : Field := ⟨0xA00300, [], 8, 8, .rw, 0, .value⟩
def NET_ADDR_SEL_INDEX : Field := ⟨0xA00300, [], 1, 0, .rw, 0, .value⟩
def NET_ADDR_DATA_ADDR : Field := ⟨0xA00304, [(4, 4)], 31, 0, .rw, 0, .value⟩
def NET_ADDR_ATTR_VALID : Field := ⟨0xA00314, [], 31, 31, .rw, 0, .value⟩
def NET_ADDR_ATTR_COMMIT : Field := ⟨0xA00314, [], 30, 30, .wo, 0, .value⟩
def NET_ADDR_ATTR_PREFIX : Field := ⟨0xA00314, [], 27, 20, .rw, 0, .value⟩
def NET_ADDR_ATTR_VLAN_ID : Field := ⟨0xA00314, [], 11, 0, .rw, 0, .value⟩
def NET_SQP_SEL_HANDLE : Field := ⟨0xA00400, [], 15, 0, .rw, 0, .value⟩
def NET_SQP_ADDR_ADDR : Field := ⟨0xA00404, [(4, 4)], 31, 0, .rw, 0, .value⟩
def NET_SQP_ATTR_SERVICE : Field := ⟨0xA00414, [], 31, 16, .rw, 0, .value⟩
def NET_SQP_ATTR_PORT : Field := ⟨0xA00414, [], 15, 12, .rw, 0, .value⟩
def NET_SQP_ATTR_PMTU : Field := ⟨0xA00414, [], 11, 10, .rw, 3, .value⟩
def NET_SQP_CTRL_GO : Field := ⟨0xA00418, [], 31, 31, .wo, 0, .value⟩
def NET_SQP_CTRL_OP : Field := ⟨0xA00418, [], 30, 29, .wo, 0, .value⟩
def NET_SQP_CTRL_OWNER : Field := ⟨0xA00418, [], 28, 16, .wo, 0, .value⟩
def NET_SQP_STATUS_BUSY : Field := ⟨0xA0041C, [], 31, 31, .ro, 0, .value⟩
def NET_SQP_STATUS_RESULT : Field := ⟨0xA0041C, [], 30, 28, .ro, 0, .value⟩
def NET_SQP_STATUS_STATE : Field := ⟨0xA0041C, [], 27, 26, .ro, 0, .value⟩
def NET_SQP_STATUS_OWNER : Field := ⟨0xA0041C, [], 25, 13, .ro, 0, .value⟩
def NET_QP_COUNT_IN_USE : Field := ⟨0xA00500, [], 18, 0, .ro, 0, .value⟩
def NET_DROP_PTP : Field := ⟨0xA00504, [], 31, 16, .rc, 0, .value⟩
def NET_DROP_RNR_NAK : Field := ⟨0xA00504, [], 15, 0, .rc, 0, .value⟩

/-- The fields of block NET. -/
def blockNET : List Field :=
  [NET_PORT_STATUS_UP, NET_PORT_STATUS_SPEED, NET_PORT_STATUS_MODE, NET_PORT_STATUS_FEC_LOCK, NET_PORT_STATUS_PTP_SOURCE, NET_PORT_STATUS_PAUSED, NET_PORT_STATUS_LINK_DOWNS, NET_MAC_LO_BYTES_2_5, NET_MAC_HI_BYTES_0_1, NET_PFC_CFG_ENABLE, NET_PFC_CFG_XOFF, NET_PFC_CFG_XON, NET_PRIO_CFG_ROCE_PRIO, NET_PRIO_CFG_CNP_PRIO, NET_PRIO_CFG_PTP_PRIO, NET_PRIO_CFG_ROCE_DSCP, NET_PRIO_CFG_CNP_DSCP, NET_PRIO_CFG_TRUST, NET_CC_CFG_ENABLE, NET_CC_CFG_G_LOG2, NET_CC_CFG_CNP_GAP_US, NET_CC_CFG_T_INC_US, NET_CC_CFG2_RAI_MBPS, NET_CC_CFG2_RATE_MIN_MBPS] ++
  [NET_QP_CFG_ACK_TIMEOUT, NET_QP_CFG_RETRY_CNT, NET_QP_CFG_RNR_RETRY, NET_QP_CFG_RNR_TIMER, NET_STAT_PAUSE_RX_PAUSE, NET_STAT_PAUSE_TX_PAUSE, NET_STAT_RDMA_CNP_TX, NET_STAT_RDMA_CNP_RX, NET_STAT_RDMA_RETRANS, NET_STAT_RDMA_DROPS, NET_ADDR_SEL_PORT, NET_ADDR_SEL_IPV6, NET_ADDR_SEL_INDEX, NET_ADDR_DATA_ADDR, NET_ADDR_ATTR_VALID, NET_ADDR_ATTR_COMMIT, NET_ADDR_ATTR_PREFIX, NET_ADDR_ATTR_VLAN_ID, NET_SQP_SEL_HANDLE, NET_SQP_ADDR_ADDR, NET_SQP_ATTR_SERVICE, NET_SQP_ATTR_PORT, NET_SQP_ATTR_PMTU, NET_SQP_CTRL_GO] ++
  [NET_SQP_CTRL_OP, NET_SQP_CTRL_OWNER, NET_SQP_STATUS_BUSY, NET_SQP_STATUS_RESULT, NET_SQP_STATUS_STATE, NET_SQP_STATUS_OWNER, NET_QP_COUNT_IN_USE, NET_DROP_PTP, NET_DROP_RNR_NAK]

/-! Block HOST: spec/04_host_ports.md, HST-11, HST-12, HST-13. -/

def HOST_LINK_STATUS_UP : Field := ⟨0xB00000, [(4, 8)], 31, 31, .ro, 0, .value⟩
def HOST_LINK_STATUS_GEN : Field := ⟨0xB00000, [(4, 8)], 30, 28, .ro, 0, .value⟩
def HOST_LINK_STATUS_WIDTH : Field := ⟨0xB00000, [(4, 8)], 27, 23, .ro, 0, .value⟩
def HOST_LINK_STATUS_FLIT : Field := ⟨0xB00000, [(4, 8)], 22, 22, .ro, 0, .value⟩
def HOST_LINK_STATUS_TAG10 : Field := ⟨0xB00000, [(4, 8)], 21, 21, .ro, 0, .value⟩
def HOST_LINK_STATUS_DEGRADED : Field := ⟨0xB00000, [(4, 8)], 20, 20, .ro, 0, .value⟩
def HOST_LINK_STATUS_RECOVERIES : Field := ⟨0xB00000, [(4, 8)], 15, 0, .ro, 0, .value⟩
def HOST_FN_INFO_FIRST_SLOT : Field := ⟨0xB00020, [(4, 8)], 27, 16, .ro, 0, .value⟩
def HOST_FN_INFO_VF_COUNT : Field := ⟨0xB00020, [(4, 8)], 9, 0, .ro, 0, .value⟩
def HOST_ERR_COUNT_CPL_TIMEOUT : Field := ⟨0xB00040, [(4, 8)], 31, 24, .rc, 0, .value⟩
def HOST_ERR_COUNT_POISON_UR : Field := ⟨0xB00040, [(4, 8)], 23, 16, .rc, 0, .value⟩
def HOST_ERR_COUNT_CORRECTABLE : Field := ⟨0xB00040, [(4, 8)], 15, 8, .rc, 0, .value⟩
def HOST_ERR_COUNT_FLR : Field := ⟨0xB00040, [(4, 8)], 7, 0, .rc, 0, .value⟩
def HOST_WIN_ERR_VALID : Field := ⟨0xB00060, [], 31, 31, .w1c, 0, .value⟩
def HOST_WIN_ERR_WRITE : Field := ⟨0xB00060, [], 30, 30, .ro, 0, .value⟩
def HOST_WIN_ERR_OFFSET : Field := ⟨0xB00060, [], 25, 0, .ro, 0, .value⟩
def HOST_MI_STATUS_MGR : Field := ⟨0xB00070, [], 31, 30, .ro, 0, .strap⟩
def HOST_MI_STATUS_MI_MANAGER : Field := ⟨0xB00070, [], 29, 29, .ro, 0, .strap⟩
def HOST_MI_STATUS_REFUSED : Field := ⟨0xB00070, [], 15, 0, .rc, 0, .value⟩

/-- The fields of block HOST. -/
def blockHOST : List Field :=
  [HOST_LINK_STATUS_UP, HOST_LINK_STATUS_GEN, HOST_LINK_STATUS_WIDTH, HOST_LINK_STATUS_FLIT, HOST_LINK_STATUS_TAG10, HOST_LINK_STATUS_DEGRADED, HOST_LINK_STATUS_RECOVERIES, HOST_FN_INFO_FIRST_SLOT, HOST_FN_INFO_VF_COUNT, HOST_ERR_COUNT_CPL_TIMEOUT, HOST_ERR_COUNT_POISON_UR, HOST_ERR_COUNT_CORRECTABLE, HOST_ERR_COUNT_FLR, HOST_WIN_ERR_VALID, HOST_WIN_ERR_WRITE, HOST_WIN_ERR_OFFSET, HOST_MI_STATUS_MGR, HOST_MI_STATUS_MI_MANAGER, HOST_MI_STATUS_REFUSED]

/-! Block PAIR: spec/16_binary_pair.md, PAI-7. -/

def PAIR_STATUS_STATE : Field := ⟨0xC00000, [], 31, 28, .ro, 0, .value⟩
def PAIR_STATUS_SIDE : Field := ⟨0xC00000, [], 27, 26, .ro, 0, .strap⟩
def PAIR_STATUS_FENCE_OUT : Field := ⟨0xC00000, [], 25, 25, .ro, 0, .value⟩
def PAIR_STATUS_FENCE_IN : Field := ⟨0xC00000, [], 24, 24, .ro, 0, .pin⟩
def PAIR_STATUS_LINK_UP : Field := ⟨0xC00000, [], 23, 23, .ro, 0, .value⟩
def PAIR_STATUS_LANES : Field := ⟨0xC00000, [], 22, 19, .ro, 0, .value⟩
def PAIR_STATUS_RESYNC_TARGET : Field := ⟨0xC00000, [], 18, 18, .ro, 0, .value⟩
def PAIR_STATUS_RESULT : Field := ⟨0xC00000, [], 17, 15, .ro, 0, .value⟩
def PAIR_CTRL_UNLOCK : Field := ⟨0xC00004, [], 31, 16, .wo, 0, .value⟩
def PAIR_CTRL_ACTION : Field := ⟨0xC00004, [], 1, 0, .wo, 0, .value⟩
def PAIR_EPOCH_EPOCH : Field := ⟨0xC00008, [], 31, 0, .ro, 0, .persisted⟩
def PAIR_COMPANION_LO_SERIAL : Field := ⟨0xC00010, [], 31, 0, .ro, 0, .value⟩
def PAIR_COMPANION_HI_SERIAL : Field := ⟨0xC00014, [], 31, 0, .ro, 0, .value⟩
def PAIR_STAT_LATE_ACK : Field := ⟨0xC00020, [], 31, 16, .rc, 0, .value⟩
def PAIR_STAT_REPLAYS : Field := ⟨0xC00020, [], 15, 0, .rc, 0, .value⟩
def PAIR_LOCK_STAT_MISSED : Field := ⟨0xC00024, [], 31, 16, .rc, 0, .value⟩
def PAIR_LOCK_STAT_REJECTED : Field := ⟨0xC00024, [], 15, 0, .rc, 0, .value⟩
def PAIR_HB_STAT_SUSPECTS : Field := ⟨0xC00028, [], 31, 16, .rc, 0, .value⟩
def PAIR_HB_STAT_MAX_GAP_US : Field := ⟨0xC00028, [], 15, 0, .rc, 0, .value⟩
def PAIR_DIVERGE_REGIONS : Field := ⟨0xC00030, [], 24, 0, .ro, 0, .persisted⟩
def PAIR_RESYNC_ACTIVE : Field := ⟨0xC00034, [], 31, 31, .ro, 0, .value⟩
def PAIR_RESYNC_REMAINING : Field := ⟨0xC00034, [], 24, 0, .ro, 0, .value⟩
def PAIR_MIRROR_CREDIT_MIB : Field := ⟨0xC00038, [], 16, 0, .ro, 0, .value⟩
def PAIR_HOME_SIDE_B : Field := ⟨0xC00040, [(4, 8)], 31, 0, .rw, 0, .value⟩

/-- The fields of block PAIR. -/
def blockPAIR : List Field :=
  [PAIR_STATUS_STATE, PAIR_STATUS_SIDE, PAIR_STATUS_FENCE_OUT, PAIR_STATUS_FENCE_IN, PAIR_STATUS_LINK_UP, PAIR_STATUS_LANES, PAIR_STATUS_RESYNC_TARGET, PAIR_STATUS_RESULT, PAIR_CTRL_UNLOCK, PAIR_CTRL_ACTION, PAIR_EPOCH_EPOCH, PAIR_COMPANION_LO_SERIAL, PAIR_COMPANION_HI_SERIAL, PAIR_STAT_LATE_ACK, PAIR_STAT_REPLAYS, PAIR_LOCK_STAT_MISSED, PAIR_LOCK_STAT_REJECTED, PAIR_HB_STAT_SUSPECTS, PAIR_HB_STAT_MAX_GAP_US, PAIR_DIVERGE_REGIONS, PAIR_RESYNC_ACTIVE, PAIR_RESYNC_REMAINING, PAIR_MIRROR_CREDIT_MIB, PAIR_HOME_SIDE_B]

/-! Block DBG: spec/20_register_map.md, REG-8. -/

def DBG_STATUS_UNLOCKED : Field := ⟨0xF00000, [], 31, 31, .ro, 0, .otp⟩
def DBG_STATUS_JTAG_OPEN : Field := ⟨0xF00000, [], 30, 30, .ro, 0, .otp⟩
def DBG_STATUS_POLICY : Field := ⟨0xF00000, [], 29, 27, .ro, 0, .otp⟩
def DBG_STATUS_ROW_LOCKED : Field := ⟨0xF00000, [], 26, 26, .ro, 0, .otp⟩
def DBG_STATUS_GOS : Field := ⟨0xF00000, [], 15, 0, .ro, 0, .value⟩
def DBG_CHALLENGE_LO_VALUE : Field := ⟨0xF00008, [], 31, 0, .ro, 0, .drbg⟩
def DBG_CHALLENGE_HI_VALUE : Field := ⟨0xF0000C, [], 31, 0, .ro, 0, .drbg⟩
def DBG_UNLOCK_UNLOCK : Field := ⟨0xF00010, [], 31, 16, .wo, 0, .value⟩
def DBG_UNLOCK_LOCK : Field := ⟨0xF00010, [], 1, 1, .wo, 0, .value⟩
def DBG_UNLOCK_GO : Field := ⟨0xF00010, [], 0, 0, .wo, 0, .value⟩
def DBG_OTP_CTRL_UNLOCK : Field := ⟨0xF00014, [], 31, 16, .wo, 0, .value⟩
def DBG_OTP_CTRL_PROGRAM : Field := ⟨0xF00014, [], 0, 0, .wo, 0, .value⟩
def DBG_OTP_STATUS_BUSY : Field := ⟨0xF00018, [], 31, 31, .ro, 0, .value⟩
def DBG_OTP_STATUS_RESULT : Field := ⟨0xF00018, [], 30, 28, .ro, 0, .value⟩
def DBG_TOKEN_DATA : Field := ⟨0xF00100, [(4, 128)], 31, 0, .wo, 0, .value⟩
def DBG_OTP_DATA_DATA : Field := ⟨0xF00400, [(4, 25)], 31, 0, .wo, 0, .value⟩

/-- The fields of block DBG. -/
def blockDBG : List Field :=
  [DBG_STATUS_UNLOCKED, DBG_STATUS_JTAG_OPEN, DBG_STATUS_POLICY, DBG_STATUS_ROW_LOCKED, DBG_STATUS_GOS, DBG_CHALLENGE_LO_VALUE, DBG_CHALLENGE_HI_VALUE, DBG_UNLOCK_UNLOCK, DBG_UNLOCK_LOCK, DBG_UNLOCK_GO, DBG_OTP_CTRL_UNLOCK, DBG_OTP_CTRL_PROGRAM, DBG_OTP_STATUS_BUSY, DBG_OTP_STATUS_RESULT, DBG_TOKEN_DATA, DBG_OTP_DATA_DATA]

end Reg

/-- Every field, by block base (Table REG-1). -/
def regBlocks : List (Nat × Nat × List Field) :=
  [(0x0, 0x10000, Reg.blockDEV),
   (0x10000, 0x10000, Reg.blockCHART),
   (0x20000, 0x10000, Reg.blockTIME),
   (0x30000, 0x10000, Reg.blockPWR),
   (0x40000, 0x10000, Reg.blockTHERM),
   (0x50000, 0x10000, Reg.blockEVT),
   (0x60000, 0x10000, Reg.blockMBX),
   (0x70000, 0x10000, Reg.blockALM),
   (0x80000, 0x10000, Reg.blockWDT),
   (0x90000, 0x10000, Reg.blockBOOT),
   (0x100000, 0x100000, Reg.blockQENG),
   (0x200000, 0x100000, Reg.blockTEN),
   (0x300000, 0x80000, Reg.blockZONE),
   (0x380000, 0x80000, Reg.blockCELL),
   (0x400000, 0x100000, Reg.blockDSCH),
   (0x500000, 0x100000, Reg.blockMEDIA),
   (0x600000, 0x100000, Reg.blockCRU),
   (0x700000, 0x80000, Reg.blockDRAM),
   (0x780000, 0x80000, Reg.blockECC),
   (0x800000, 0x100000, Reg.blockKEY),
   (0x900000, 0x100000, Reg.blockSERVE),
   (0xA00000, 0x100000, Reg.blockNET),
   (0xB00000, 0x100000, Reg.blockHOST),
   (0xC00000, 0x100000, Reg.blockPAIR),
   (0xF00000, 0x100000, Reg.blockDBG)]

end Sys2Proof.Machine
end

