-- ==== Sys2Proof/Machine/State.lean ====
section
/-! DEFINITION. The state of the block: every register field, buffer, queue, counter, mode and pin the spec gives the
T9, one structure per chapter, as plain data. The default of each field is its value right after reset. -/

namespace Sys2Proof.Machine

/-! ### Outputs of a command -/


/-- One completion entry as written (R109). -/
structure Cqe where
  owner : Nat
  cqid : Nat
  slot : Nat
  phase : Bool
  sqid : Nat
  sqHead : Nat
  cid : Nat
  status : Status
  dw0 : Nat
  dw1 : Nat
  deriving DecidableEq, Repr

/-- What leaves the block during one command. [DESIGN CHOICE, safe: log 13] -/
inductive Out where
  | cqe (e : Cqe)
  | msix (owner vector : Nat)
  | coreInterrupt (core : Nat)
  | clusterInterrupt (cluster : Nat)
  | regValue (v : Word)
  | data (what : String) (l : List Nat)
  | fetchRead (owner qid count : Nat)
  | aen (owner kind info page : Nat)
  | net (what : String) (l : List Nat)
  | bulum (what : String) (l : List Nat)
  | mi (status : String) (l : List Nat)
  | regulator (point : Nat)
  | eclipse (link addr : Nat) (record : List Nat)
  deriving DecidableEq, Repr

/-! ### Time (spec/03) -/

/-- Lock states (Table SID-3). -/
inductive LockState where
  | unlocked | acquiring | locked | holdover | freerun
  deriving DecidableEq, Repr, Inhabited

/-- The codes of TIME_STATUS.STATE (Table SID-7). -/
def LockState.code : LockState → Nat
  | .unlocked => 0 | .acquiring => 1 | .locked => 2 | .holdover => 3 | .freerun => 4

/-- The outcome of a judging interval so far (R51). -/
inductive Judged where
  | none | accepted | rejected
  deriving DecidableEq, Repr, Inhabited

/-- A run of consistent out-of-window offsets, or of disagreeing messages (R51 rules 3 and 4). -/
structure Run where
  first : Int
  len : Nat
  deriving DecidableEq, Repr, Inhabited

/-- A predicted PPS edge: its sidereal instant and the TAI second that labels it (R51, R52). -/
structure Prediction where
  edge : Nat
  label : Nat
  deriving DecidableEq, Repr, Inhabited

/-- How the message of the predicted second stands (R51, R52). -/
inductive TodVerdict where
  | none | agrees | bad
  deriving DecidableEq, Repr, Inhabited

/-- The PPS and TOD source (R50 to R52). -/
structure Pps where
  pred : Option Prediction := none
  judged : Judged := .none
  bridged : Bool := false
  run : Option Run := none
  missed : Nat := 0
  tod : TodVerdict := .none
  todNext : TodVerdict := .none
  anchor : Bool := false
  todRun : Option Run := none
  pendingLabel : Option Nat := none
  qual : Nat := 0
  lastEdge : Option Nat := none
  lastTod : Option Nat := none
  deriving DecidableEq, Repr

/-- The PTP source (R48, R49). -/
structure Ptp where
  masters : List PtpMaster := []
  selected : Option Nat := none
  pendingSync : Option Int := none
  good : Nat := 0
  run : Option Run := none
  delay : Nat := 0
  delayPending : Bool := false
  deriving DecidableEq, Repr

/-- The sidereal clock, its lock state and the meridians (R46 to R62, R507). `now` counts local SYSCLK
nanoseconds since cold reset; `frac` and the corrections are in units of 2⁻³² ns, the corrections per SYSCLK cycle. -/
structure TimeState where
  now : Nat := 0
  sid : Nat := 0
  frac : Nat := 0
  corr : Int := 0
  slewCorr : Int := 0
  slewLeft : Option Int := none
  stepNext : Bool := false
  lock : LockState := .unlocked
  cameFrom : LockState := .unlocked
  everLocked : Bool := false
  holdStart : Option Nat := none
  holdExpired : Bool := false
  entryOffset : Nat := 0
  leftLocked : Nat := 0
  source : Nat := 0
  holdoverS : Nat := 30
  offset : Int := 0
  lastStep : Int := 0
  pps : Pps := {}
  ptp : Ptp := {}
  mseq : Nat := 0
  running : Bool := false
  interval : Nat := 250000
  nextMeridian : Nat := 0
  periodStart : Int := 0
  curStretched : Bool := false
  nextStretched : Bool := false
  deriving DecidableEq, Repr

/-! ### Events, almanac, mailboxes (spec/18) -/

/-- Counts of one source (R444). -/
structure EvtCount where
  occurred : Nat := 0
  suppressed : Nat := 0
  deriving DecidableEq, Repr

/-- An almanac record (Table MBX-3). `detail` holds what the source's chapter says the record carries beside its
snapshots; `born` is the PD00 cycle count, in ns, at its creation (R448). -/
structure AlmRec where
  seq : Nat
  sidereal : Nat
  opSeconds : Nat
  lock : LockState
  traceable : Bool
  shadow : Bool
  snaps : List (Nat × Bool × Nat)
  powerCycles : Nat
  event : Nat
  cause : Nat
  rep : Nat
  detail : List Int
  born : Nat
  deriving DecidableEq, Repr, Inhabited

/-- The event controller beside its registers: counts and the marks of the rate limits, the value being the instant
(or meridian number) of the last recorded occurrence. -/
structure EvtState where
  counts : Map EvtCount := []
  marks : Map Nat := []
  deriving DecidableEq, Repr

/-- An entry of a snapshot list (R450, Table MBX-8): VALID and the window offset. -/
structure SnapEntry where
  valid : Bool := false
  off : Nat := 0
  deriving DecidableEq, Repr, Inhabited

/-- The almanac (R446 to R453): `ring` and `shadow` hold unflushed records and `flash` the flushed ones, each newest
first; `lists` holds the snapshot lists, keyed 16 × list + entry. -/
structure AlmState where
  seq : Nat := 0
  mark : Nat := 0
  ring : List AlmRec := []
  shadow : List AlmRec := []
  flash : List AlmRec := []
  shadowLost : Nat := 0
  lostPending : Nat := 0
  wrapped : Nat := 0
  opSeconds : Nat := 0
  opFlash : Nat := 0
  powerCycles : Nat := 0
  lists : Map SnapEntry := []
  readSeq : Option Nat := none
  readRec : Option AlmRec := none
  resumed : Bool := false
  deriving DecidableEq, Repr

/-- One mailbox (R436 to R443). `owner` is an agent ID, 0 when the lock is free; `timed` counts the words queued before
the last RING that are not yet popped; `wire` counts the words the Bulum link has not yet carried. -/
structure Mailbox where
  owner : Nat := 0
  fwd : List Word := []
  rep : List Word := []
  rx : Bool := false
  tx : Bool := false
  broken : Bool := false
  timeout : Bool := false
  overflow : Bool := false
  timed : Option Nat := none
  wire : Nat := 0
  deriving DecidableEq, Repr, Inhabited

/-! ### Queues and controllers (spec/04, spec/05) -/

/-- A recorded doorbell (R100): the tail it made visible, its instant in sidereal ns, its expiry mark, and
whether its entries were restored from an eclipse record (R350). -/
structure Stamp where
  tail : Nat
  time : Nat
  expired : Bool
  lost : Bool := false
  deriving DecidableEq, Repr, Inhabited

/-- A queue context (Table QUE-1). -/
structure QCtx where
  sqBase : Nat := 0
  cqBase : Nat := 0
  sqSize : Nat := 0
  cqSize : Nat := 0
  sqTail : Nat := 0
  sqHead : Nat := 0
  cqTail : Nat := 0
  cqHead : Nat := 0
  sqCqid : Nat := 0
  vector : Nat := 0
  ien : Bool := false
  dlDefault : Nat := 0
  epoch : Nat := 0
  sqValid : Bool := false
  cqValid : Bool := false
  prio : Nat := 0
  phase : Bool := true
  inflight : Nat := 0
  stampA : Option Stamp := none
  stampB : Option Stamp := none
  fetching : Nat := 0
  deleting : Option Nat := none
  fullNoted : Bool := false
  deriving DecidableEq, Repr, Inhabited

/-- The deadline of a read (R60, R183, R184). -/
inductive Deadline where
  | none
  | live (at_ : Nat)
  | lost (at_ : Nat)
  deriving DecidableEq, Repr, Inhabited

/-- How far a fetched command has come. [DESIGN CHOICE, unsafe: log 9] -/
inductive Phase where
  | fetched
  | accepted
  | waiting (why : Nat)
  | done (s : Status) (dw0 dw1 : Nat)
  deriving DecidableEq, Repr, Inhabited

/-- A command that holds a command context (R108). `stamp` is the base of R60 (`none`: expired stamp). -/
structure Cmd where
  ref : CmdRef
  opcode : Nat
  units : Nat
  dl : Nat
  stamp : Option Nat
  fetchedAt : Nat
  seq : Nat
  nsid : Nat
  reserve : Bool
  epoch : Nat
  urgent : Bool
  deadline : Deadline
  phase : Phase
  deriving DecidableEq, Repr, Inhabited

/-- One NVMe controller: a PF, VF or fabric controller, keyed by its OWNER (R67, R68, R77, R93, R106, R110). `errs` is its Error
Information log, newest first, and `nsChanged` its Changed Attached Namespace list; `ctxs` are the numbers of the contexts that a
tenant's controller holds, the admin queue's first (R91). -/
structure Ctrl where
  en : Bool := false
  rdy : Bool := false
  cfs : Bool := false
  enPending : Bool := false
  ams : Nat := 0
  ab : Nat := 0
  lpw : Nat := 0
  mpw : Nat := 0
  hpw : Nat := 0
  aggThr : Nat := 0
  aggTime : Nat := 0
  coalNoneVectors : List Nat := []
  unmasked : List Nat := []
  fnMask : Bool := false
  pba : List Nat := []
  held : List (Nat × Nat) := []
  aers : List CmdRef := []
  aenMasked : List Nat := []
  aenPending : List (Nat × Nat × Nat) := []
  ps : Nat := 0
  psLastOp : Nat := 0
  flr : Bool := false
  queues : Nat := 0
  ctxs : List Nat := []
  active : Bool := false
  errs : List (CmdRef × Status) := []
  nsChanged : List Nat := []
  deriving DecidableEq, Repr, Inhabited

/-- An access that waits for its context to be read from DRAM (R92). -/
inductive CtxWait where
  | tail (v time : Nat)
  | head (v : Nat)
  deriving DecidableEq, Repr, Inhabited

/-- The queue engine beside its registers: contexts keyed 65536 × owner + qid, commands by `cmdKey`, second-tier deficits, the
controller last served, the round-robin places of the queues and what is left of each class's share of a round, written and
applied weights and limits that differ from the chart's, and fabric rings. `stored` is the queue-context table in DRAM: the
bytes of a context by its number (R91, R92). [DESIGN CHOICE, unsafe: log 189] -/
structure QueueState where
  ctx : Map QCtx := []
  cached : List Nat := []
  fills : List Nat := []
  cmds : Map Cmd := []
  deficit : Map Int := []
  turn : Nat := 0
  rr : Map Nat := []
  wrr : Map Nat := []
  pendingWeight : Map Nat := []
  applied : Map Nat := []
  limits : Map Nat := []
  rings : Map (List Sqe) := []
  quantum : Nat := 4
  qcount : Option (Nat × Nat) := none
  stored : Map (List Nat) := []
  stopped : Bool := false
  waits : List (Nat × CtxWait) := []
  seq : Nat := 0
  deriving DecidableEq, Repr

/-- One link (R65, R66, R67) beside its registers. -/
structure Link where
  vfEnable : Bool := false
  numVfs : Nat := 0
  enabled : Nat := 0
  deriving DecidableEq, Repr, Inhabited

/-- What a host writes in a function's configuration space (R69, R75 to R77): the base addresses of its BARs and, in a PF, of its
VFs' BARs, the timeout field and disable bit of Device Control 2, and the AER status bits. [PRESUMED, unsafe: log 226] -/
structure FnCfg where
  bars : List (Nat × Nat) := []
  vfBars : List (Nat × Nat) := []
  timeout : Nat := 0
  timeoutOff : Bool := false
  aerUncor : Nat := 0
  aerCor : Nat := 0
  deriving DecidableEq, Repr, Inhabited

/-- The host ports: links keyed by link index, controllers keyed by OWNER, configuration spaces keyed 65536 × link + VF number, 0
for the PF. -/
structure HostState where
  links : Map Link := []
  cfg : Map FnCfg := []
  ctrls : Map Ctrl := []
  deriving DecidableEq, Repr

/-! ### Power and thermal (spec/17) -/

/-- Domain states (R411, Table PWR-2). -/
inductive DomState where
  | on | retain | off | waking
  deriving DecidableEq, Repr, Inhabited

/-- The codes of PWR_DOM_STATE.STATE. -/
def DomState.code : DomState → Nat
  | .on => 0 | .retain => 1 | .off => 2 | .waking => 3

/-- One power domain: `stalled` holds the accesses that wait for it, oldest first; `fromOff` remembers that the wake in progress
left OFF; `shadowed` that its control state is kept in PD00. [DESIGN CHOICE, unsafe: log 97] -/
structure Domain where
  state : DomState := .on
  fromOff : Bool := false
  shadowed : Bool := false
  cause : Nat := 0
  source : Nat := 0
  stalled : List Access32 := []
  deriving DecidableEq, Repr, Inhabited

/-- Power and thermal control beside their registers. `filtered` counts 0.25 °C ÷ 4096; `psWait` lists the Set
Features commands that complete when the power state they ask for is in force; `lastOp` is the last operational state
that was in force (R424); `warnNs` and `critNs` are the times at or above THERM_WARN and THERM_T3 (R432). -/
structure PowerState where
  dom : Map Domain := []
  vpAsked : Option Nat := none
  clkAsked : Option (Nat × Nat) := none
  clocksStopped : Bool := false
  psMoving : Bool := false
  lastOp : Nat := 0
  psWait : List CmdRef := []
  filtered : Int := 0
  filterLoaded : Bool := false
  reloadNext : Bool := false
  hot : Nat := 0
  faulty : Bool := false
  validRun : Nat := 0
  flashHot : Map Int := []
  flashCap : Bool := false
  tripped : Bool := false
  thermTripN : Bool := true
  division : Nat := 1
  skip : Nat := 0
  warnNs : Nat := 0
  critNs : Nat := 0
  deriving DecidableEq, Repr

/-! ### The chart (spec/02) -/

/-- The codes of CHART_STATUS.STATE (Table CHT-11). -/
inductive ChartPhase where
  | none | loading | sealed | safe | draining
  deriving DecidableEq, Repr, Inhabited

def ChartPhase.code : ChartPhase → Nat
  | .none => 0 | .loading => 1 | .sealed => 2 | .safe => 3 | .draining => 4

/-- Why the load in progress runs (R24, R40). -/
inductive LoadKind where
  | cold | warm
  | structural (slot : Nat) (arm : Bool)
  | structuralSafe (arm : Bool)
  deriving DecidableEq, Repr, Inhabited

/-- The chart in force and the load or drain in progress (R24 to R45). `records` are the format records on the members, and
`formatted` the dies that the flash was formatted for. [DESIGN CHOICE, unsafe: log 7] -/
structure ChartState where
  phase : ChartPhase := .none
  cur : Chart := default
  safeInForce : Bool := true
  formatVersion : Nat := 0
  serial : Nat := 0
  generation : Nat := 0
  fingerprint : Nat := 0
  flashFprint : Nat := 0
  kind : LoadKind := .cold
  timedOut : Bool := false
  records : List FormatRecord := []
  formatted : Option ChartDies := none
  deriving DecidableEq, Repr

/-! ### Start-up (spec/19, spec/20, spec/21) -/

/-- The manager in force (R19). -/
inductive Manager where
  | pf (link : Nat)
  | mi
  deriving DecidableEq, Repr, Inhabited

/-- The OTP identity row by its bytes; one that is not listed is unprogrammed and reads 0 (R330, Table KEY-3). [DESIGN CHOICE,
unsafe: log 7] -/
structure Otp where
  bytes : List Nat := []
  deriving DecidableEq, Repr, Inhabited

/-- A Firmware Commit in progress (R467 to R469). -/
structure Commit where
  ref : CmdRef
  fs : Nat
  activate : Bool
  chart : Bool
  deriving DecidableEq, Repr, Inhabited

/-- Start-up, firmware and debug access beside their registers. -/
structure BootState where
  porN : Bool := true
  running : Bool := false
  sramFilled : Bool := false
  straps : Straps := default
  pins : Pins := ⟨true, true, true, false, true, false⟩
  manager : Manager := .pf 0
  nor : Nor := {}
  nor0Failed : Bool := false
  nor1Failed : Bool := false
  otp : Otp := {}
  policyInForce : Nat := 0
  staged : Option Staged := none
  commit : Option Commit := none
  booting : Nat := 0
  image : Option FwImage := none
  edition : Nat := 0
  editionsSeen : List Nat := []
  stepsDone : List Nat := []
  warm : Bool := false
  fillHeld : Bool := false
  bulumWait : Bool := false
  recovery : Bool := false
  recoveryLink : Option Nat := none
  coreExpiries : Map (List Nat) := []
  dbgUnlocked : Bool := true
  jtagOpen : Bool := true
  jtagPermitted : Bool := false
  challenge : Nat := 0
  resetAsked : Option Nat := none
  fillQueue : List (Nat × Nat) := []
  found : Option Found := none
  recoveryWaited : Bool := false
  resetAt : Nat := 0
  detectorsArmed : Bool := false
  deriving DecidableEq, Repr

/-! ### Namespaces and zones (spec/06, spec/07) -/

/-- An entry of log C1h or C2h (Tables WRT-4, RED-6): `kind` is KIND or CAUSE, `members` the MEMBERS of log C2h, and
`left` the LBAs of a lost range that nothing has rewritten (R274). -/
structure LogEntry where
  seq : Nat
  slba : Nat
  nlb : Nat
  kind : Nat
  zoned : Bool
  acked : Bool
  column : Nat
  members : Nat
  left : List Nat
  time : Nat
  almSeq : Nat
  lock : LockState
  deriving DecidableEq, Repr, Inhabited

/-- A log of one namespace: TOTAL, DROPPED and the entries, oldest first (R164, R274). -/
structure NsLog where
  total : Nat := 0
  dropped : Nat := 0
  entries : List LogEntry := []
  deriving DecidableEq, Repr, Inhabited

/-- A namespace (R116, R117, R127, R134, R142, R163, R252, R319). `pi` is its type of protection information, 0 none, and `guard` its
guard: 0 16b, 1 32b, 2 64b (Table HST-5). `handles` is its Placement Handle List; `slots` are
its committed block-set slots; `zoneBase` is the index of its first zone in the zone table. -/
structure Ns where
  cons : Nat
  zoned : Bool
  nsze : Nat
  lbaf : Nat
  pi : Nat
  guard : Nat
  handles : List Nat
  slots : Nat
  zoneBase : Nat
  zoneCount : Nat
  openM1 : Nat
  activeM1 : Nat
  secure : Bool
  rmw : Bool
  keySlot : Option Nat
  deferred : NsLog
  lost : NsLog
  deriving DecidableEq, Repr, Inhabited

/-- Zone states (Table ZON-3). -/
inductive ZoneSt where
  | empty | iopen | eopen | closed | full | offline
  deriving DecidableEq, Repr, Inhabited

/-- The ZS values of the standard (Table ZON-2). -/
def ZoneSt.code : ZoneSt → Nat
  | .empty => 1 | .iopen => 2 | .eopen => 3 | .closed => 4 | .full => 14 | .offline => 15

/-- A zone table entry (Table ZON-2). `voids` lists void ranges from ZSLBA; `committed` is the pointer kept in the
journal (R155). -/
structure Zone where
  st : ZoneSt := .empty
  voids : List (Nat × Nat) := []
  relocating : Bool := false
  unwrittenFull : Bool := false
  wp : Nat := 0
  reserved : Nat := 0
  committed : Nat := 0
  column : Option Nat := none
  sets : List Nat := []
  lastWrite : Nat := 0
  openSeq : Nat := 0
  deriving DecidableEq, Repr, Inhabited

/-- A reclaim unit that holds block sets (R127): its column and sets, the handle that holds it, the granules taken, and
whether it is a patch unit (R253). -/
structure Ru where
  cons : Nat
  column : Nat
  sets : List Nat
  held : Option (Nat × Nat)
  taken : Nat
  patch : Bool
  relocating : Bool
  deriving DecidableEq, Repr, Inhabited

/-! ### Media and redundancy (spec/09, spec/10) -/

/-- Block states (Table MED-6). -/
inductive BlockSt where
  | erased | open_ | full | erasing | suspect | retired
  deriving DecidableEq, Repr, Inhabited

def BlockSt.code : BlockSt → Nat
  | .erased => 0 | .open_ => 1 | .full => 2 | .erasing => 3 | .suspect => 4 | .retired => 5

/-- A block state table entry (Table MED-6), with the block's plane. -/
structure Block where
  st : BlockSt := .erased
  weak : Bool := false
  reerases : Nat := 0
  lwAssay : Bool := false
  new : Bool := false
  weakCount : Nat := 0
  pool : Nat := 0
  plane : Nat := 0
  nextPage : Nat := 0
  eraseCount : Nat := 0
  readCount : Nat := 0
  raw : Bool := false
  deriving DecidableEq, Repr, Inhabited

/-- Member states (Table RED-4). -/
inductive MemberSt where
  | inService | isolating | failed | training | rebuilding
  deriving DecidableEq, Repr, Inhabited

def MemberSt.code : MemberSt → Nat
  | .inService => 0 | .isolating => 1 | .failed => 2 | .training => 3 | .rebuilding => 4

/-- A member (R264 to R270): its state and cause, and the rebuild's cursors: the rows already rebuilt, as (set, row). [DESIGN
CHOICE, unsafe: log 72] -/
structure Member where
  st : MemberSt := .inService
  cause : Nat := 0
  rebuilt : List (Nat × Nat) := []
  total : Nat := 0
  deriving DecidableEq, Repr, Inhabited

/-- A stripe row (R246 to R251): the positions whose units have passed, those out of service when it was opened, and whether the
parity unit has passed. `openRow` marks a row that resync continues (R193, R260), `regions` the dirty regions its programs touch
(R257). [DESIGN CHOICE, unsafe: log 188] -/
structure Row where
  passed : List Nat := []
  out : List Nat := []
  parity : Bool := false
  openRow : Bool := false
  regions : List Nat := []
  deriving DecidableEq, Repr, Inhabited

/-- Kinds of row exception (R255); a patch names the granule slot that holds the codewords now. -/
inductive RowxKind where
  | patch (slot : Nat)
  | excluded
  | lost
  deriving DecidableEq, Repr, Inhabited

/-- A row exception table entry (R255): a row position and the mask of its codeword offsets. -/
structure Rowx where
  set : Nat
  row : Nat
  pos : Nat
  mask : Nat
  kind : RowxKind
  deriving DecidableEq, Repr, Inhabited

/-- The life counters and temperature history of a member (Table MED-13). -/
structure Health where
  programFails : Nat := 0
  eraseFails : Nat := 0
  retries : Nat := 0
  soft : Nat := 0
  stripe : Nat := 0
  unrecovered : Nat := 0
  scrubPages : Nat := 0
  assayFails : Nat := 0
  tempNow : Int := 0
  tempMax : Int := 0
  tempMaxTime : Nat := 0
  errHist : Map Nat := []
  tempHist : Map Nat := []
  deriving DecidableEq, Repr, Inhabited

/-- An acknowledgement record (R150). -/
structure Ack where
  nsid : Nat
  slba : Nat
  nlb : Nat
  batch : Nat
  deriving DecidableEq, Repr, Inhabited

/-! ### The pair (spec/16) -/

/-- Pair states (Table PAI-2). -/
inductive PairSt where
  | joining | paired | suspect | survivor | fenced | resync | mismatch | notM0
  deriving DecidableEq, Repr, Inhabited

def PairSt.code : PairSt → Nat
  | .joining => 0 | .paired => 1 | .suspect => 2 | .survivor => 3 | .fenced => 4 | .resync => 5 | .mismatch => 6
  | .notM0 => 15

/-! ### What the journal keeps (R149, R209, R264, R405) -/

/-- Everything that a journal batch persists. The live copy is in DRAM; the closed batches and the copy on flash are snapshots of
it. Keys: zones 2³² × NSID + zone; the conventional map 2⁴⁰ × NSID + granule; content 2⁶⁴ × NSID + LBA; blocks 2¹⁶ × die + block
and block sets 2¹⁶ × die + set, with die = 32 × channel + position; rows 2³² × set + row. `content` is what the media hold by
the committed map; an unwritten block reads 0. `keys` holds the wrapped key and the count mark of each bound system slot (R322,
R326). [DESIGN CHOICE, unsafe: log 7] -/
structure Nv where
  ns : Map Ns := []
  zones : Map Zone := []
  rus : Map Ru := []
  map : Map Nat := []
  content : Map Nat := []
  rows : Map Row := []
  rowx : List Rowx := []
  blocks : Map Block := []
  sets : Map (List Nat) := []
  spare0 : Map Nat := []
  members : Map Member := []
  attach : Map Nat := []
  nqn : Map Nat := []
  acks : List Ack := []
  dirty : List Nat := []
  health : Map Health := []
  readOnly : Bool := false
  cycles : Nat := 3000
  mediaErrors : Nat := 0
  read4k : Nat := 0
  written4k : Nat := 0
  pairSt : PairSt := .joining
  pairEpoch : Nat := 0
  diverge : List (Nat × Nat) := []
  keys : Map (Nat × Nat) := []
  deriving DecidableEq, Repr, Inhabited

/-- A closed journal batch that is not yet on flash. -/
structure Batch where
  no : Nat
  nv : Nv
  deriving DecidableEq, Repr, Inhabited

/-! ### The write path (spec/07) -/

/-- A range in the write buffer (R143 to R152): one write, or one 256 KiB unit of a conventional write. Its place is `zone` and
`offset` (the first block in the zone), or `ru` (its slots in reclaim units). [DESIGN CHOICE, unsafe: log 188] -/
structure Wr where
  ref : CmdRef
  nsid : Nat
  slba : Nat
  nlb : Nat
  zone : Option Nat
  offset : Nat
  ru : List (Nat × Nat)
  handle : Nat
  fua : Bool
  rmw : Bool
  zeroes : Bool
  data : List Nat
  got : Bool
  void : Bool
  needAck : Bool
  acked : Bool
  completed : Option Nat
  rowsDone : Bool
  committed : Option Nat
  flushed : Bool
  patchData : Bool
  patchParity : Bool
  oldData : Bool := false
  oldParity : Bool := false
  dealloc : List Nat := []
  recorded : List Nat := []
  inDusk : Bool := false
  deriving DecidableEq, Repr, Inhabited

/-- The stripe journal: the number of the batch that collects, the closed ones oldest first, the newest on flash and the one before
it, and the commands that complete when a batch is on flash. The rest is what the flash and its metadata areas hold at a restart
beside the batches: what the dies' blocks and rows physically hold, the flush records, the ranges that an incomplete dusk drain
had in its blocks, the acknowledged ranges that were not durable, whether the last end was unclean, the persisted threshold
book, and a purge owed after an alarm (R329). [DESIGN CHOICE, unsafe: log 7, 101; DEDUCED, unsafe: log 92] -/
structure Journal where
  openNo : Nat := 1
  closed : List Batch := []
  onFlash : Nat := 0
  disk : Nv := {}
  waiting : List (Nat × CmdRef) := []
  late : Bool := false
  prev : Nv := {}
  blocks : Map Block := []
  rows : Map Row := []
  flushed : Map Wr := []
  part : Map Wr := []
  lost : List (Nat × Nat × Nat) := []
  unclean : Bool := false
  book : Map (List Int × Nat) := []
  bookAt : Nat := 0
  purge : Bool := false
  copies : List (Nat × Nat) := []
  pairFlash : Nat := 0
  seen : Map Nat := []
  deriving DecidableEq, Repr

/-- Dusk drain states (Table WRT-7). -/
inductive Dusk where
  | idle | quiesce | data | metadata | done
  deriving DecidableEq, Repr, Inhabited

def Dusk.code : Dusk → Nat
  | .idle => 0 | .quiesce => 1 | .data => 2 | .metadata => 3 | .done => 4

/-- The last dusk record on flash (R159, R168): its data and the drain's outcome. -/
structure DuskRecord where
  nv : Nv
  wrs : Map Wr
  mib : Nat
  deriving DecidableEq, Repr, Inhabited

/-- The write buffer: ranges by number, waiting flushes with the ranges they wait for, the drain. [DESIGN CHOICE, unsafe: log 189]
-/
structure WriteState where
  wr : Map Wr := []
  next : Nat := 0
  flushes : Map (List Nat) := []
  dusk : Dusk := .idle
  duskRecord : Option DuskRecord := none
  duskLost : Bool := false
  duskMiB : Nat := 0
  duskLast : Option (Nat × Nat × Bool) := none
  holdupFell : Bool := false
  deriving DecidableEq, Repr

/-- A reset in progress, or a secure deallocation: the zones to which it has not yet applied (R132, R136), the block
sets whose secure erase it awaits (R133, R134), whether one of them left residue (R135), and whether the companion has
confirmed (R400). -/
structure ZoneWait where
  ref : CmdRef
  nsid : Nat
  zones : List Nat
  secure : Bool
  left : List Nat
  residue : Bool
  companion : Bool
  granules : List Nat
  batch : Nat
  deriving DecidableEq, Repr, Inhabited

/-- A block of the hot cache (R137 to R139): `blk` is the 4 KiB index in the namespace. -/
structure HotBlock where
  nsid : Nat
  blk : Nat
  data : List Nat
  owner : Nat
  deriving DecidableEq, Repr, Inhabited

/-- The zone engine beside its tables: resets and secure operations by command, commands that wait for an opening, the cache with
the most recent block first, and the block sets released for erase with the batch that must be on flash first (R154).
`fdpShort`: handles whose unit was taken from them before it was full; `fdp`: the FDP events of log 23h, newest first, as type
(0 Reclaim Unit Not Fully Written, 80h Media Reallocated), constellation and reclaim unit (R130). [DESIGN CHOICE, unsafe: log
173] -/
structure ZoneState where
  resets : Map ZoneWait := []
  openWaits : List (Nat × CmdRef) := []
  hot : List HotBlock := []
  hotHits : Nat := 0
  hotInserts : Nat := 0
  openSeq : Nat := 0
  released : List (Nat × Nat) := []
  secureSets : List Nat := []
  secureWaits : List Nat := []
  fdpShort : List (Nat × Nat) := []
  fdp : List (Nat × Nat × Nat) := []
  deriving DecidableEq, Repr

/-! ### Reads (spec/08, spec/09) -/

/-- A read command in execution: each of its blocks, known or still to come from media. -/
structure ReadJob where
  ref : CmdRef
  nsid : Nat
  slba : Nat
  hot : Bool
  blocks : List (Option Nat)
  deriving DecidableEq, Repr, Inhabited

/-! ### Die scheduling (spec/08) -/

/-- An operation in a die queue or running (R170). Costs are in 1/256 die-µs; classes 0 to 7, 8 the reserve tag, 9 a
drain operation. `snap` is the content read, as it stood at issue (R132); `surplus` marks an issue under IDLE_SHARE. -/
structure DieOp where
  id : Nat
  kind : OpKind
  cls : Nat
  owner : Nat
  cons : Option Nat
  deadline : Deadline
  base : Nat
  arrival : Nat
  cost : Nat
  blocks : List Nat
  page : Nat
  purpose : Purpose
  reserve : Bool
  openRow : Bool
  surplus : Bool
  fromReserve : Bool
  recovers : Option Nat
  snap : List Nat
  assay : Bool
  deriving DecidableEq, Repr, Inhabited

/-- What a die is doing (DSCH_DIE_STATE.OP). -/
inductive DieBusy where
  | idle
  | running (op : DieOp)
  | suspending (op by_ : DieOp)
  | resuming (op : DieOp)
  | resetting
  deriving DecidableEq, Repr, Inhabited

/-- An erase in progress or suspended: since when, and in ns the time that it ran before its last suspend and that it has been
suspended. -/
structure Erase where
  op : DieOp
  since : Nat
  ran : Nat
  suspends : Nat
  spent : Nat
  refused : Bool
  holdReached : Bool
  deriving DecidableEq, Repr, Inhabited

/-- A running average pair of the predictor (R196), in µs, with the count of completed operations. -/
structure Pred where
  mean : Nat := 0
  dev : Nat := 0
  count : Nat := 0
  deriving DecidableEq, Repr, Inhabited

/-- One die (R169 to R175, R196, R206). `since` is the local time at which its operation started; `run` describes the erase in progress, its start and suspends. -/
structure Die where
  since : Nat := 0
  queue : List DieOp := []
  held : List DieOp := []
  drain : List DieOp := []
  busy : DieBusy := .idle
  erase : Option Erase := none
  run : Option Erase := none
  tokens : Map Int := []
  pred : Map Pred := []
  failed : Bool := false
  timeouts : List Nat := []
  samples : Nat := 0
  temp : Int := 0
  deriving DecidableEq, Repr, Inhabited

/-- A ledger (R176, R177, R185, R195): balance and grant in 1/256 die-µs. -/
structure Ledger where
  exists_ : Bool := false
  bal : Int := 0
  grant : Nat := 0
  met : Nat := 0
  missed : Nat := 0
  lost : Nat := 0
  occ : Nat := 0
  deriving DecidableEq, Repr, Inhabited

/-- Why a crucible job reconstructs. -/
inductive JobKind where
  | occult (op : DieOp) (ch die : Nat)
  | ladder (dec : Nat)
  | outOfService (ref : CmdRef) (lba n : Nat)
  | move (set : Nat)
  | repair
  | patch (wr : Nat) (parity : Bool)
  | rebuild (set row member : Nat)
  | companion (nsid lba : Nat)
  deriving DecidableEq, Repr, Inhabited

/-- A crucible job (R248): what it serves, the reads that are still to come, by their part, the positions that cannot be read with
the codeword offsets concerned, its content, the base of its read under R60, the codeword offsets in their units, and the lane that it
holds. -/
structure Job where
  kind : JobKind
  set : Nat
  row : Nat
  pos : Nat
  left : List Nat
  bad : List (Nat × Nat)
  snap : List Nat
  cls : Nat
  owner : Nat
  cons : Option Nat
  deadline : Deadline
  base : Nat := 0
  mask : Nat := 1
  lane : Option Nat := none
  deriving DecidableEq, Repr, Inhabited

/-- A codeword read on its way through the ladder (R216): its place among the codewords of its operation, its step, and the retry
within step 2. -/
structure Dec where
  op : DieOp
  ch : Nat
  die : Nat
  step : Nat
  retry : Nat
  early : Bool
  softLeft : Nat
  hallmark : Bool
  cw : Nat := 0
  deriving DecidableEq, Repr, Inhabited

/-- A relocation (R231 to R235, R251, R267): `why` is 0 refresh, 1 free space, 2 wear, 3 column. `column` and `sets` are the
destination's until the switch and the source's after it. A zone keeps its key; the valid granules of a reclaim unit move to unit `dest`,
each in `moves` as its map key, its source slot and its destination slot (R232). `got` lists the source units that
have been decoded and passed the hallmark check, by row key and position, `pages` the pages of those not yet whole, by block key and
page; `todo` the destination units whose copy has not passed its assay, as row and position, `passed` those programmed, `assayed` the
pages whose assay has passed. -/
structure Reloc where
  set : Nat
  column : Nat
  sets : List Nat
  why : Nat
  dest : Nat
  moves : List (Nat × Nat × Nat)
  got : List (Nat × Nat)
  pages : List (Nat × Nat)
  passed : List (Nat × Nat)
  assayed : List (Nat × Nat)
  todo : List (Nat × Nat)
  switched : Option Nat
  deriving DecidableEq, Repr, Inhabited

/-- The scrub of a block in progress (R220, R226): the pages not yet read and decoded; the pages, one of each type, that a tuning of the
threshold book reads; corrected bits and number of the codewords that decoded at step 1; whether the block is to be refreshed; and for
each shift of a tuning the corrected bits that it showed, with the number of its reads still to come. -/
structure ScrubRun where
  left : List Nat
  probes : List Nat
  bits : Nat
  words : Nat
  mark : Bool
  tune : Map Nat
  tuneLeft : Nat
  deriving DecidableEq, Repr, Inhabited

/-- The die schedulers and the media engines beside their registers. Dies are keyed 32 × channel + position, ledgers 256 × owner +
constellation, writer slots 256 × constellation + column; `shares` are C0 to C7 and `throttle` THROTTLE_PCT in force, `mode` the
stagger modes in force, `occSpent` the occultation spend of the period. `retraining` holds the channels in a full retraining
with its start, `sinceCentre` each package's temperature at its channel's last centring and `recentreDue` the channels that R204
has centre again; `scrubFrom` when the scrub pass began, `scrubAt` when a block was last scrubbed, with its READ_COUNT then;
`repairGot` the units below a failed one that have been read or rebuilt for its repair (R229), `rebuildStarted` and
`rebuildReady` the rows whose unit a rebuild reads, and holds for its program (R269). [DESIGN CHOICE, unsafe: log 189] -/
structure MediaState where
  die : Map Die := []
  nextOp : Nat := 0
  dec : Map Dec := []
  job : Map Job := []
  nextJob : Nat := 0
  reads : Map ReadJob := []
  ledger : Map Ledger := []
  slot : Map Nat := []
  slotWait : Map (List Nat) := []
  shares : List Nat := []
  throttle : Nat := 100
  mode : Map Bool := []
  compliant : List Nat := []
  occSpent : Map Nat := []
  meridians : Nat := 0
  memberSince : Map Nat := []
  retraining : Map Nat := []
  sinceCentre : Map Int := []
  recentreDue : List Nat := []
  scrubbed : List Nat := []
  scrubFrom : Nat := 0
  scrubs : Map ScrubRun := []
  scrubAt : Map (Nat × Nat) := []
  repairGot : List (Nat × Nat × Nat) := []
  rebuildStarted : List (Nat × Nat) := []
  rebuildReady : List (Nat × Nat) := []
  refresh : List Nat := []
  reloc : Map Reloc := []
  book : Map (List Int × Nat) := []
  retryCount : Nat := 0
  patchCount : Nat := 0
  rebuiltUnits : Nat := 0
  restoredDies : List Nat := []
  wearRestored : Bool := false
  consWp : List Nat := []
  columnOut : List Nat := []
  rebuildQueue : List Nat := []
  resyncLeft : List Nat := []
  resyncFull : Bool := false
  marked : List Nat := []
  spareWarned : List Nat := []
  scrubNoted : Bool := false
  patchUnits : Map (List (Nat × Bool)) := []
  deriving DecidableEq, Repr
/-! ### The network and the serve engines (spec/11) -/

/-- A logical network port (R277 to R281): the priorities that the partner holds paused, those of them recorded as EV1026,
and the priorities that this side holds paused; the transmit time it has saved up, in 10⁻⁸ bytes, and the queue pair it sent from
last (R289). -/
structure NetPort where
  up : Bool := false
  paused : Nat := 0
  noted : Nat := 0
  pausing : Nat := 0
  credit : Nat := 0
  served : Nat := 0
  deriving DecidableEq, Repr, Inhabited

/-- What a queue pair serves. -/
inductive QpUse where
  | fresh
  | nvme (owner qid : Nat)
  | serve (handle : Nat)
  deriving DecidableEq, Repr, Inhabited

/-- What a message is: an RDMA WRITE or a SEND of a program, its closing message with immediate data (R300), or the data of a
fabric read. -/
inductive MsgKind where
  | write | send | writeImm | sendImm | readData | readReq
  deriving DecidableEq, Repr, Inhabited

/-- A message that a queue pair has still to send (R289, R300): the command it belongs to, none once its program has stopped; the
bytes sent of its length; its address; its data, `unit` bytes in each number; the bytes that an RDMA READ asks for. -/
structure Msg where
  ref : Option CmdRef
  kind : MsgKind
  sent : Nat := 0
  len : Nat
  rkey : Nat := 0
  addr : Nat := 0
  unit : Nat := 1
  data : List Nat := []
  imm : Nat := 0
  ask : Nat := 0
  deriving DecidableEq, Repr, Inhabited

/-- A queue pair (R282 to R284). Rates are in kb/s and `alpha` in 2⁻²⁰. `next` is the PSN of the next packet to send,
`acked` the oldest one not acknowledged, `expect` the next PSN to receive, `unacked` the packets received and not yet
acknowledged; the timers and counts are those of NET_QP_CFG at its creation; `sendq` the messages it has still to send, and `credit` the
transmit time saved up under its rate, in 10⁻⁸ bytes (R289); `asked` the commands whose RDMA READ is outstanding, with the PSN after it
(R283). -/
structure Qp where
  port : Nat
  use : QpUse
  error : Bool
  rate : Nat
  target : Nat
  alpha : Nat
  steps : Nat
  lastCnp : Option Nat
  next : Nat
  acked : Nat
  expect : Nat
  unacked : Nat
  retries : Nat
  rnr : Nat
  rnrWait : Bool
  pmtu : Nat
  ackTimeout : Nat
  retryCnt : Nat
  rnrRetry : Nat
  sendq : List Msg := []
  credit : Nat := 0
  asked : List (CmdRef × Nat) := []
  deriving DecidableEq, Repr, Inhabited

/-- A fabric association (R285, R287), keyed by the OWNER of its controller; `since` is the local time at which its
keep-alive timer last started. -/
structure Assoc where
  port : Nat
  hash : Nat
  qps : List Nat
  kato : Nat
  since : Nat
  deriving DecidableEq, Repr, Inhabited

/-- An address entry of a logical port (R278, R307). -/
structure NetAddr where
  valid : Bool
  addr : Nat
  prefix_ : Nat
  vlan : Nat
  deriving DecidableEq, Repr, Inhabited

/-- Serve queue-pair states (Table SRV-11). -/
inductive SqpSt where
  | idle | connecting | ready | error
  deriving DecidableEq, Repr, Inhabited

/-- The codes of NET_SQP_STATUS.STATE. -/
def SqpSt.code : SqpSt → Nat
  | .idle => 0 | .connecting => 1 | .ready => 2 | .error => 3

/-- A serve queue pair (R305). -/
structure Sqp where
  st : SqpSt := .idle
  owner : Nat := 0
  qp : Nat := 0
  deriving DecidableEq, Repr, Inhabited

/-- The network beside its registers: ports by logical port index, queue pairs by number, associations by OWNER, address entries
keyed 8 × port + 4 × (IPv6) + index, serve queue pairs by handle. [DESIGN CHOICE, unsafe: log 189] -/
structure NetState where
  ports : Map NetPort := []
  qps : Map Qp := []
  nextQp : Nat := 1
  assocs : Map Assoc := []
  addrs : Map NetAddr := []
  sqps : Map Sqp := []
  deriving DecidableEq, Repr

/-- A step of a program (R295 to R301). `lenP` and `addrP` are parameter indices plus 1, 0 for none; `buf` and `sbuf` the
primary and the secondary buffer, `off` the offset in the primary one. -/
inductive ServeStep where
  | gather (lenP addrP buf off nsid : Nat) (hot : Bool) (ranges : List (Nat × Nat))
  | openStep (lenP buf sbuf off key aad src len : Nat)
  | cipher (lenP buf sbuf off key scheme : Nat) (map : Bool) (len mapOff iv : Nat)
  | emit (buf off len data positions : Nat)
  | send (lenP addrP buf off qp kind len rkey remote : Nat) (imm : Option Nat)
  | post (ackWait : Bool) (value : Nat)
  deriving DecidableEq, Repr, Inhabited

/-- A program (R292): the buffer sizes, the parameters, and the steps with their positions. -/
structure Program where
  positions : Nat
  bufs : List Nat
  params : List Nat
  steps : List (Nat × ServeStep)
  deriving DecidableEq, Repr, Inhabited

/-- A program slot (R304): its owner and the dwords of its program. -/
structure ProgSlot where
  owner : Nat
  words : List Nat
  deriving DecidableEq, Repr, Inhabited

/-- A running program (R290, R294, R301): its engine, its steps still to run, its buffers as little-endian numbers and the
chains that hold them, the ranges that the current GATHER still has to read with the place of the next, and the last PSN
sent on each serve queue pair. `ready`: its buffers are allocated; `measured`: its gathers have been counted in a ledger (R185); `sending`: the packets sent of a SEND step that has
queued its messages. -/
structure Run1 where
  ref : CmdRef
  engine : Nat
  prog : Program
  left : List (Nat × ServeStep)
  ready : Bool
  bufs : List Nat
  chains : List Nat
  ranges : Option (List (Nat × Nat))
  place : Nat
  sent : List (Nat × Nat)
  measured : Bool := false
  sending : Option Nat := none
  deriving DecidableEq, Repr, Inhabited

/-- A Serve command that waits for a context (R290): its slot or its program's dwords. -/
structure ServeWait where
  ref : CmdRef
  slot : Option Nat
  words : List Nat
  len : Nat
  deriving DecidableEq, Repr, Inhabited

/-- The serve engines beside their registers: running programs by command, the status and the data of a GATHER's read, waiting commands, and program slots. -/
structure ServeState where
  runs : Map Run1 := []
  got : Map (Status × List Nat) := []
  waits : List ServeWait := []
  slots : Map ProgSlot := []
  deriving DecidableEq, Repr


/-! ### Keys (spec/12) -/

/-- Slot kinds (Table KEY-1). -/
inductive KeyKind where
  | none | xts | gcm | cipher
  deriving DecidableEq, Repr, Inhabited

def KeyKind.code : KeyKind → Nat
  | .none => 0 | .xts => 1 | .gcm => 2 | .cipher => 3

/-- The kind of a code (Table KEY-7). -/
def KeyKind.ofCode (n : Nat) : KeyKind := if n = 1 then .xts else if n = 2 then .gcm else if n = 3 then .cipher else .none

/-- A key slot that is not EMPTY (R312): its key, kind, owner and COUNT. -/
structure KeySlot where
  spent : Bool
  kind : KeyKind
  owner : Nat
  key : Nat
  count : Nat
  deriving DecidableEq, Repr, Inhabited

/-- A request of KEY_SLOT_CTRL that waits for its batch (R321), with the command that completes with it, if any. -/
structure KeyWait where
  batch : Nat
  slot : Nat
  ref : Option CmdRef
  deriving DecidableEq, Repr, Inhabited

/-- The key store beside its registers: the slots that are not EMPTY, or all WIPED after an alarm (R328); the requests
that wait for a batch; the device KEK (R316); the namespaces whose key was not restored (R322). -/
structure KeyState where
  slots : Map KeySlot := []
  wiped : Bool := false
  kek : Option Nat := none
  waits : List KeyWait := []
  sinceReseed : Nat := 0
  notRestored : List Nat := []
  keyReady : List Nat := []
  cause : Map Bool := []
  deriving DecidableEq, Repr

/-! ### Tenants (spec/13) -/

/-- Tenant states (Table TEN-1). -/
inductive TenPhase where
  | inactive | active | resetting | quiesce | eclipsed | restoring
  deriving DecidableEq, Repr, Inhabited

/-- The codes of TEN_STATE.STATE (Table TEN-10). -/
def TenPhase.code : TenPhase → Nat
  | .inactive => 0 | .active => 1 | .resetting => 2 | .quiesce => 3 | .eclipsed => 4 | .restoring => 5

/-- One tenant slot (R333 to R350). `recorded`: an eclipse record was written since the quiesce; `frozen`: the record has
been taken, so that nothing more is posted; `resumeAtMeridian`: fetch stays stopped until the next meridian;
`released`: CSTS.CFS is 1 after a RELEASE; `captured`: the completions of a forced eclipse; `owed`: restored completions,
by queue and command identifier, that are posted before any newly fetched command completes. -/
structure Tenant where
  phase : TenPhase := .inactive
  epoch : Nat := 0
  path : Nat := 0
  force : Bool := false
  forced : Bool := false
  link : Nat := 0
  recorded : Bool := false
  frozen : Bool := false
  resumeAtMeridian : Bool := false
  released : Bool := false
  captured : List EclCompletion := []
  owed : List (Nat × Nat) := []
  deriving DecidableEq, Repr, Inhabited

/-- The tenant table; for each detached pair of owner and namespace the number of the first command fetched after
the detach (R338); and the attachments restored with PENDING = 1 (R350). -/
structure TenantState where
  slots : Map Tenant := []
  detached : Map Nat := []
  pendingSeen : List Nat := []
  deriving DecidableEq, Repr
/-! ### Buffer cells (spec/14) -/

/-- The descriptor of an allocated cell (Table CEL-3). -/
structure Cell where
  refcnt : Nat
  fill : Nat
  next : Nat
  deriving DecidableEq, Repr, Inhabited

/-- A whole-buffer request that waits (R359); `ref` names the Serve command it is for. -/
structure WholeWait where
  requester : Nat
  reserve : Bool
  cells : Nat
  ref : Option CmdRef
  deriving DecidableEq, Repr, Inhabited

/-- The cell pools (R353 to R366): the descriptors of the allocated cells by handle, the cells withdrawn, the free cells of
each reserve part, the lowest general free counts, the waiting whole-buffer requests and the pools on hold. A cell that
is neither allocated nor withdrawn is free. -/
structure CellState where
  cells : Map Cell := []
  withdrawn : List Nat := []
  reserve : List Nat := [2048, 64, 0]
  low : List Nat := [129024, 4032, 0]
  queues : Map (List WholeWait) := []
  hold : List Nat := []
  deriving DecidableEq, Repr

/-! ### DRAM (spec/15) -/

/-- A line or word as stored: its data, its check bits where they are not the computed ones (R388), and poison (R386). -/
structure DramLine where
  data : Nat
  check : Option Nat
  poison : Bool
  deriving DecidableEq, Repr, Inhabited

/-- A queued write (R374, R375). -/
structure DramWrite where
  line : Nat
  metadata : Bool
  data : Nat
  poison : Bool
  deriving DecidableEq, Repr, Inhabited

/-- The DRAM controllers beside their registers: the masks in force, the filled granules as disjoint rising ranges (first, count),
the fill in progress and what waits for it, the lines and SRAM words whose content is not zero data with computed check bits,
the write queues, LFSRs and neighbour-refresh queues of the subchannels (2n + s), the positions whose threshold has been
recorded, the mover channels halted, and the data passed on poisoned toward a host: the command's key and the first logical
block. [DESIGN CHOICE, unsafe: log 49] -/
structure DramState where
  masks : List Nat := [0, 0, 0, 0, 0, 0, 0, 0, 0]
  filled : List (Nat × Nat) := []
  filling : Option (Nat × Nat) := none
  waiting : List DramReq := []
  lines : Map DramLine := []
  words : Map DramLine := []
  writes : Map (List DramWrite) := []
  lfsr : Map Nat := []
  refresh : Map (List (Nat × List Nat)) := []
  devCount : Map Nat := []
  devNoted : List Nat := []
  halted : List Nat := []
  poisoned : List (Nat × Nat) := []
  deriving DecidableEq, Repr


/-! ### The pair link (spec/16) -/

/-- A lane's block lock (R396): consecutive marks missed or rejected, and the run of consistent rejected marks. -/
structure Lane where
  bad : Nat := 0
  run : Option Run := none
  deriving DecidableEq, Repr, Inhabited

/-- A codeword that the companion was asked for before it is declared lost (R272): the read that waits for it, if any, its
logical blocks, its place, the other positions that cannot be read, and the ladder that ended at it. -/
structure Ask where
  ref : Option CmdRef
  nsid : Nat
  lba : Nat
  n : Nat
  set : Nat
  row : Nat
  pos : Nat
  others : List Nat
  dec : Option Dec
  deriving DecidableEq, Repr, Inhabited

/-- The pair beside its registers and the journal. `sent`: writes whose mirror frames await an acknowledgement; `opAcks`: commands
without data that do, with their completion dwords, and in `opRanges` the namespace and ranges they changed; `placed`: the
companion's frames that have been placed; `forwards`: the commands forwarded to the other side by their number, `approved` those
that it has ordered; home changes written and confirmed; the companion's last four batches; the mirror credit left and held, in
4 KiB units, and what this side has granted that is not in use; the resync's regions left (namespace, region), the ranges that
this side lost under R162, the zones reset securely as SURVIVOR; FENCE_OUT (`asserted`) and the fence sequence; `resolved`:
SURVIVOR by R404; `cameFrom`: the state before JOINING; `early`: the companion's identity, where it came before the journal was
restored. [DEDUCED, unsafe: log 90; DESIGN CHOICE, unsafe: log 189] -/
structure PairState where
  sent : List Nat := []
  opAcks : Map (CmdRef × Nat × Nat) := []
  opRanges : Map (Nat × List (Nat × Nat)) := []
  placed : List Nat := []
  forwards : Map (CmdRef × Forwarded) := []
  nextForward : Nat := 0
  approved : List CmdRef := []
  nsOps : List CmdRef := []
  homeWant : Map Nat := []
  homeOk : List Nat := []
  batches : List (Nat × Nat) := []
  credit : Nat := 0
  granted : Nat := 0
  given : Nat := 0
  left : List (Nat × Nat) := []
  lostRanges : List (Nat × Nat × Nat × Nat) := []
  secureZones : List Nat := []
  asks : Map Ask := []
  nextAsk : Nat := 0
  asserted : Bool := false
  deferring : Bool := false
  resolved : Bool := false
  fenceLowSince : Option Nat := none
  linkUp : Bool := false
  heartbeats : Bool := false
  cameFrom : PairSt := .joining
  early : Option CompanionId := none
  lanes : Map Lane := []
  deriving DecidableEq, Repr

/-! ### The whole state -/

/-- The state of the T9. `regs` holds the register fields that have no other home, keyed 32 × window address + low
bit, a field that is not listed holding its reset value; `latch` holds the _HI latches and the _LO values written
(R479); `units` what is counted below the unit of a field that counts in larger units, by its key; `freeCtr` is the model's own counter: it numbers the free values (log entry 5). -/
structure State where
  regs : Map Nat := []
  latch : Map Nat := []
  loWrite : Map Nat := []
  pending : List Instr := []
  out : List Out := []
  freeCtr : Nat := 0
  time : TimeState := {}
  evt : EvtState := {}
  alm : AlmState := {}
  mbx : Map Mailbox := []
  q : QueueState := {}
  host : HostState := {}
  power : PowerState := {}
  chart : ChartState := {}
  boot : BootState := {}
  nv : Nv := {}
  jr : Journal := {}
  wp : WriteState := {}
  zone : ZoneState := {}
  md : MediaState := {}
  net : NetState := {}
  serve : ServeState := {}
  key : KeyState := {}
  ten : TenantState := {}
  cell : CellState := {}
  dram : DramState := {}
  units : Map Nat := []
  pair : PairState := {}
  deriving DecidableEq, Repr

/-- The block right after reset: every field at its reset value, nothing pending. -/
def State.reset : State := {}

/-- Reasons for which the block stops. The spec gives the block none: every command has an effect or leaves the state
as it is. -/
inductive Fault where
  /-- Raised by no command; kept so that the type is inhabited. Safe. -/
  | none
  deriving DecidableEq, Repr

/-- Reasons for which a command is turned away by the model. -/
inductive Refusal where
  /-- A command without a meaning yet. Safe: no claim can be made about it. -/
  | notModelled (mnemonic : String)
  deriving DecidableEq, Repr

end Sys2Proof.Machine
end

