-- ==== Sys2Proof/Machine/Bytes.lean ====
section
/-! DEFINITION. Bytes: numbers in little-endian and big-endian order (R6), CRC-32, and the structures that the spec lays out by
offsets: chart containers (Tables CHT-2 to CHT-4), activation pointers and firmware images (Tables STU-2, STU-3), the signature
block, eclipse records (Tables TEN-4 to TEN-6), and the OTP identity row (Table KEY-3). -/

namespace Sys2Proof.Machine

/-! ### Numbers and slices -/

/-- The number that bytes give in little-endian order. -/
def leNat : List Nat → Nat
  | [] => 0
  | b :: l => b % 256 + 256 * leNat l

/-- The number that bytes give in big-endian order. -/
def beNat (l : List Nat) : Nat := leNat l.reverse

/-- The `n` low bytes of a number, least significant first. -/
def leBytes : Nat → Nat → List Nat
  | 0, _ => []
  | n + 1, v => v % 256 :: leBytes n (v / 256)

/-- The `n` low bytes of a number, most significant first. -/
def beBytes (n v : Nat) : List Nat := (leBytes n v).reverse

/-- `n` bytes from `off`; a byte beyond the list reads `d`. -/
def slice (d : Nat) (l : List Nat) (off n : Nat) : List Nat :=
  let x := (l.drop off).take n
  x ++ List.replicate (n - x.length) d

/-- The little-endian field of `n` bytes at `off` (R6). -/
def leAt (d : Nat) (l : List Nat) (off n : Nat) : Nat := leNat (slice d l off n)

/-- `n` zero bytes stand at `off`. -/
def zerosAt (d : Nat) (l : List Nat) (off n : Nat) : Bool := (slice d l off n).all (· % 256 == 0)

/-- One bit of the CRC. -/
def crcStep (c : Nat) : Nat := if c % 2 = 1 then Nat.xor (c / 2) 0xEDB88320 else c / 2

/-- One byte of the CRC. -/
def crcByte (c b : Nat) : Nat := (List.range 8).foldl (fun c _ => crcStep c) (Nat.xor c (b % 256))

/-- CRC-32 with the IEEE 802.3 polynomial. -/
def crc32 (l : List Nat) : Nat := Nat.xor (l.foldl crcByte 0xFFFFFFFF) 0xFFFFFFFF

/-- One bit of CRC-16. -/
def crc16Step (c : Nat) : Nat := if c / 32768 % 2 = 1 then Nat.xor (c * 2 % 65536) 0x1021 else c * 2 % 65536

/-- CRC-16/CCITT-FALSE. -/
def crc16 (l : List Nat) : Nat :=
  l.foldl (fun c b => (List.range 8).foldl (fun c _ => crc16Step c) (Nat.xor c (b % 256 * 256))) 0xFFFF

/-! ### Structures in memory (R6) -/

/-- Fields of given sizes one after another, each little-endian. -/
def layout (l : List (Nat × Nat)) : List Nat := (l.map fun e => leBytes e.1 e.2).flatten

/-! ### The signature block (R29, R30, Table CHT-4) -/

/-- The public key of the signature block at `off`. -/
def sigKey (l : List Nat) (off : Nat) : List Nat := slice 255 l (off + 0x08) 97

/-- The block has the layout of Table CHT-4, and the signature verifies under its own key over the bytes from 0 up to and including
block offset 0x6F (R29). -/
def sigVerifies (l : List Nat) (off : Nat) : Bool :=
  leAt 255 l off 2 == 1 && zerosAt 255 l (off + 0x02) 2 && leAt 255 l (off + 0x04) 2 == 97 && leAt 255 l (off + 0x06) 2 == 96 &&
    zerosAt 255 l (off + 0x69) 7 && zerosAt 255 l (off + 0xD0) 48 &&
    Config.ecdsaP384 (sigKey l off) (slice 255 l 0 (off + 0x70)) (beNat (slice 255 l (off + 0x70) 48))
      (beNat (slice 255 l (off + 0xA0) 48))

/-- The SHA-384 hash of the block's key, as the number whose low byte is the hash's byte 0. -/
def sigKeyHash (l : List Nat) (off : Nat) : Nat := leNat (Config.sha384 (sigKey l off)) % 2 ^ 384

end Sys2Proof.Machine

namespace Sys2Proof
open Machine

/-! ### Chart containers (R26, R27) -/

/-- A header field of a container (Table CHT-2). -/
def Container.field (k : Container) (off n : Nat) : Nat := leAt 255 k.bytes off n

def Container.formatVersion (k : Container) : Nat := k.field 0x04 2
def Container.totalLength (k : Container) : Nat := k.field 0x08 4
def Container.sectionCount (k : Container) : Nat := k.field 0x0C 2
def Container.flags (k : Container) : Nat := k.field 0x0E 2
def Container.serial (k : Container) : Nat := k.field 0x10 4
def Container.generation (k : Container) : Nat := k.field 0x14 4
def Container.magnitude (k : Container) : Nat := k.field 0x18 1
def Container.minEdition (k : Container) : Nat := k.field 0x19 1
def Container.signatureOffset (k : Container) : Nat := k.field 0x20 4
def Container.bindSerial (k : Container) : Nat := k.field 0x24 4
/-- TOPOLOGY_FINGERPRINT, as the number whose low dword holds bytes 0 to 3 of the hash (R45). -/
def Container.fingerprint (k : Container) : Nat := k.field 0x30 48

/-- The section table (Table CHT-3); of a SECTION_COUNT above 24 the first 24 entries. -/
def Container.sections (k : Container) : List SectionEntry :=
  (List.range (min k.sectionCount 24)).map fun i =>
    let a := 128 + 16 * i
    { type := k.field a 1, flags := k.field (a + 1) 1, version := k.field (a + 2) 2, offset := k.field (a + 4) 4
      length := k.field (a + 8) 4, crc := k.field (a + 12) 4 }

/-- The bytes of a section. -/
def Container.sectionBytes (k : Container) (e : SectionEntry) : List Nat := slice 255 k.bytes e.offset e.length

/-- A section's CRC matches; one that runs past the largest container has none that could. -/
def Container.crcMatches (k : Container) (e : SectionEntry) : Bool :=
  decide (e.offset + e.length ≤ 2097152) && crc32 (k.sectionBytes e) == e.crc

/-- The chart that the container holds: MAGNITUDE from the header, the rest from the sections. [DESIGN CHOICE, safe: log 224] -/
def Container.chart (k : Container) : Chart := { k.content with magnitude := k.magnitude }

/-- The bytes of the first section of a type. -/
def Container.bytesOf (k : Container) (type : Nat) : List Nat :=
  match k.sections.find? fun e => e.type == type with
  | some e => k.sectionBytes e
  | none => []

/-- The topology fields in the order of the fingerprint: MAGNITUDE, the DIES section, COLUMN_MASK and CODE_RATE of each
constellation, the ZONE section. The bytes of the two CONS fields are the mask's 32 bytes and the rate in per cent. -/
def Container.topologyBytes (k : Container) : List Nat :=
  [k.magnitude] ++ k.bytesOf 1 ++
    (k.content.cons.map fun c => leBytes 32 ((c.columns.map fun i => 2 ^ i).sum) ++ [c.codeRate]).flatten ++ k.bytesOf 5

/-- The fingerprint of the topology fields. -/
def Container.topologyHash (k : Container) : Nat := leNat (Config.sha384 k.topologyBytes) % 2 ^ 384

/-! ### Activation pointers and firmware images (R457, R458) -/

def PtrCopy.field (p : PtrCopy) (off n : Nat) : Nat := leAt 255 p.bytes off n
def PtrCopy.seq (p : PtrCopy) : Nat := p.field 0x04 4
def PtrCopy.slot (p : PtrCopy) : Nat := p.field 0x08 1
def PtrCopy.imageHash (p : PtrCopy) : Nat := p.field 0x10 48

/-- MAGIC and CRC match, SLOT is 1 or 2, and the reserved fields are 0 (R457). -/
def PtrCopy.good (p : PtrCopy) : Bool :=
  p.field 0 4 == 0x31544341 && crc32 (slice 255 p.bytes 0 0x7C) == p.field 0x7C 4 && (p.slot == 1 || p.slot == 2) &&
    zerosAt 255 p.bytes 0x09 3 && zerosAt 255 p.bytes 0x40 60

/-- A pointer copy as an activation writes it (Table STU-2). -/
def ptrCopy (seq slot edition hash : Nat) : PtrCopy :=
  let body := leBytes 4 0x31544341 ++ leBytes 4 seq ++ [slot % 256, 0, 0, 0] ++ leBytes 4 edition ++ leBytes 48 hash ++
    List.replicate 60 0
  { bytes := body ++ leBytes 4 (crc32 body) }

def FwImage.field (i : FwImage) (off n : Nat) : Nat := leAt 255 i.bytes off n
def FwImage.edition (i : FwImage) : Nat := i.field 0x06 2
def FwImage.totalLength (i : FwImage) : Nat := i.field 0x08 4
/-- REVISION, its first character in the low byte. -/
def FwImage.revision (i : FwImage) : Nat := i.field 0x14 8
/-- The SHA-384 of the image from offset 0 to its signature block. -/
def FwImage.hash (i : FwImage) : Nat := leNat (Config.sha384 (slice 255 i.bytes 0 (i.totalLength - 256))) % 2 ^ 384

/-- The header of Table STU-3 but for MAGIC: its CRC, FORMAT, lengths and reserved fields. -/
def FwImage.formatOk (i : FwImage) : Bool :=
  crc32 (slice 255 i.bytes 0 0xFC) == i.field 0xFC 4 && i.field 0x04 2 == 1 && 1 ≤ i.edition && i.edition ≤ 255 &&
    1024 ≤ i.totalLength && i.totalLength ≤ 3145728 && i.totalLength % 256 == 0 && i.field 0x0C 4 + 512 == i.totalLength &&
    zerosAt 255 i.bytes 0x1C 4 && zerosAt 255 i.bytes 0x50 172

/-- BODY_HASH is the SHA-384 of the body. -/
def FwImage.bodyHashOk (i : FwImage) : Bool :=
  i.field 0x20 48 == leNat (Config.sha384 (slice 255 i.bytes 256 (i.totalLength - 512))) % 2 ^ 384

/-- The signature verifies, under the key whose hash the boot ROM holds (R458). -/
def FwImage.sigOk (i : FwImage) : Bool :=
  sigKeyHash i.bytes (i.totalLength - 256) == Config.firmwareKeyHash && sigVerifies i.bytes (i.totalLength - 256)

/-! ### Eclipse records (R348, Tables TEN-4 to TEN-6) -/

/-- A queue entry (Table TEN-5). -/
def EclQueue.bytes (q : EclQueue) : List Nat :=
  layout [(2, q.qid), (1, q.sqValid.toNat + 2 * q.cqValid.toNat + 4 * (q.prio % 4) + 16 * q.phase.toNat), (1, 0), (8, q.sqBase),
    (8, q.cqBase), (2, q.sqSize), (2, q.cqSize), (2, q.sqHead), (2, q.sqTail), (2, q.cqHead), (2, q.cqTail), (2, q.sqCqid),
    (2, q.vector % 2048 + 32768 * q.ien.toNat), (2, q.dlDefault), (10, 0)]

/-- The queue entry at `o`. -/
def EclQueue.read (l : List Nat) (o : Nat) : EclQueue :=
  let f := fun (off n : Nat) => leAt 255 l (o + off) n
  let fl := f 0x02 1
  let v := f 0x22 2
  { qid := f 0x00 2, sqValid := fl % 2 == 1, cqValid := fl / 2 % 2 == 1, prio := fl / 4 % 4, phase := fl / 16 % 2 == 1
    sqBase := f 0x04 8, cqBase := f 0x0C 8, sqSize := f 0x14 2, cqSize := f 0x16 2, sqHead := f 0x18 2, sqTail := f 0x1A 2
    cqHead := f 0x1C 2, cqTail := f 0x1E 2, sqCqid := f 0x20 2, vector := v % 2048, ien := 32768 ≤ v, dlDefault := f 0x24 2 }

def EclAttach.bytes (a : EclAttach) : List Nat :=
  layout [(4, a.nsid), (1, a.pending.toNat), (1, a.csi), (1, a.lbaf), (1, 0), (8, a.nsze)]

def EclAttach.read (l : List Nat) (o : Nat) : EclAttach :=
  let f := fun (off n : Nat) => leAt 255 l (o + off) n
  { nsid := f 0 4, pending := f 4 1 % 2 == 1, csi := f 5 1, lbaf := f 6 1, nsze := f 8 8 }

def EclCompletion.bytes (c : EclCompletion) : List Nat :=
  layout [(4, c.dw0), (4, c.dw1), (2, c.sqid), (2, c.cid), (2, c.status), (2, c.cqid)]

def EclCompletion.read (l : List Nat) (o : Nat) : EclCompletion :=
  let f := fun (off n : Nat) => leAt 255 l (o + off) n
  { dw0 := f 0 4, dw1 := f 4 4, sqid := f 8 2, cid := f 0x0A 2, status := f 0x0C 2, cqid := f 0x0E 2 }

/-- The length of a record in bytes (R348). -/
def EclRecord.size (r : EclRecord) : Nat :=
  256 + 48 * r.queues.length + 16 * r.attach.length + 8 * r.keys.length + 16 * r.completions.length

/-- The CRC of a record: its field taken as 0. -/
def eclCrc (l : List Nat) : Nat := crc32 (l.take 0x0C ++ [0, 0, 0, 0] ++ l.drop 0x10)

/-- A record as it is written (Table TEN-4). -/
def EclRecord.bytes (r : EclRecord) : List Nat :=
  let l := layout [(4, 0x314C4345), (2, 1), (2, 256), (4, r.size), (4, 0), (8, r.serial), (8, r.saveTime), (1, r.saveLock),
      (1, r.forced.toNat), (2, r.slot), (2, r.queueCountM1), (2, r.queues.length - 1), (2, r.attach.length), (2, r.keys.length),
      (4, r.completions.length), (4, r.cc), (2, r.weight), (2, 0), (4, r.limit), (4, r.aens), (4, r.arbitration), (4, r.granted),
      (4, r.coalescing), (4, r.aenConfig), (1, r.aers.length), (15, 0)] ++
    layout ((List.range 16).map fun i => (2, r.aers.getD i 0)) ++ leBytes 128 0 ++
    (r.queues.map (·.bytes)).flatten ++ (r.attach.map (·.bytes)).flatten ++
    (r.keys.map fun k => layout [(2, k.1), (1, k.2), (5, 0)]).flatten ++ (r.completions.map (·.bytes)).flatten
  l.take 0x0C ++ leBytes 4 (eclCrc l) ++ l.drop 0x10

/-- Check 1 of R349: MAGIC, VERSION, HEADER_SIZE, TOTAL_LENGTH, which the counts of the arrays give, and CRC. -/
def eclHeaderOk (l : List Nat) : Bool :=
  let f := fun (off n : Nat) => leAt 255 l off n
  let n := 256 + 48 * (f 0x26 2 + 1) + 16 * f 0x28 2 + 8 * f 0x2A 2 + 16 * f 0x2C 4
  f 0 4 == 0x314C4345 && f 0x04 2 == 1 && f 0x06 2 == 256 && f 0x08 4 == n && decide (n ≤ l.length) &&
    f 0x0C 4 == eclCrc (l.take n)

/-- What a record holds, its arrays one after another (R348). -/
def EclRecord.read (l : List Nat) : EclRecord :=
  let f := fun (off n : Nat) => leAt 255 l off n
  let q := f 0x26 2 + 1
  let a := f 0x28 2
  let k := f 0x2A 2
  let c := f 0x2C 4
  { serial := f 0x10 8, saveTime := f 0x18 8, saveLock := f 0x20 1, forced := f 0x21 1 % 2 == 1, slot := f 0x22 2
    queueCountM1 := f 0x24 2, cc := f 0x30 4, weight := f 0x34 2, limit := f 0x38 4, aens := f 0x3C 4, arbitration := f 0x40 4
    granted := f 0x44 4, coalescing := f 0x48 4, aenConfig := f 0x4C 4
    aers := (List.range (min (f 0x50 1) 16)).map fun i => f (0x60 + 2 * i) 2
    queues := (List.range q).map fun i => EclQueue.read l (256 + 48 * i)
    attach := (List.range a).map fun i => EclAttach.read l (256 + 48 * q + 16 * i)
    keys := (List.range k).map fun i =>
      let o := 256 + 48 * q + 16 * a + 8 * i
      (f o 2, f (o + 2) 1)
    completions := (List.range c).map fun i => EclCompletion.read l (256 + 48 * q + 16 * a + 8 * k + 16 * i) }

/-- The hash of the host of a Connect (R334): bytes 0 to 7 of SHA-384 over the HOSTNQN up to its first zero byte. -/
def ConnectReq.hash (c : ConnectReq) : Nat :=
  leNat ((Config.sha384 ((c.nqn.map (· % 256)).takeWhile (· ≠ 0))).take 8)

/-! ### Time-of-day messages (R50, Table SID-2) -/

/-- SYNC, VERSION, length and CRC are right (R50). -/
def Tod.wellFormed (m : Tod) : Bool :=
  m.bytes.length == 16 && m.bytes.take 3 == [0x54, 0x44, 1] && crc16 (m.bytes.take 14) == leAt 0 m.bytes 0x0E 2

def Tod.valid (m : Tod) : Bool := leAt 0 m.bytes 0x03 1 % 2 == 1
def Tod.seconds (m : Tod) : Nat := leAt 0 m.bytes 0x04 6

end Sys2Proof

namespace Sys2Proof.Machine

/-! ### The OTP identity row (R330, Table KEY-3) -/

/-- A field of the row; an unprogrammed byte reads 0. -/
def Otp.field (o : Otp) (off n : Nat) : Nat := leAt 0 o.bytes off n
def Otp.serial (o : Otp) : Nat := o.field 0x00 8
def Otp.lot (o : Otp) : Nat := o.field 0x08 8
def Otp.rootHash (o : Otp) : Nat := o.field 0x10 48
def Otp.kekSeed (o : Otp) : Nat := o.field 0x40 32

/-- The device KEK: bytes 0 to 31 of SHA-384 over the seed, the serial and the bytes 4B 45 4B 31 (R316). -/
def Otp.kek (o : Otp) : Nat :=
  leNat ((Config.sha384 (leBytes 32 o.kekSeed ++ leBytes 8 o.serial ++ [0x4B, 0x45, 0x4B, 0x31])).take 32)

def Otp.lock (o : Otp) : Nat := o.field 0x60 4
def Otp.locked (o : Otp) : Bool := o.lock % 2 == 1
def Otp.policy (o : Otp) : Nat := o.lock / 2 % 8
def Otp.crcOk (o : Otp) : Bool := crc32 (slice 0 o.bytes 0 0x64) == o.field 0x64 4

/-- The row that 100 bytes give as they are programmed: ROW_LOCKED is set whatever they say, and CRC is computed (R488). -/
def otpRowOf (l : List Nat) : Otp :=
  let x := slice 0 l 0 0x64
  let body := x.take 0x60 ++ leBytes 4 (leAt 0 x 0x60 4 / 2 * 2 + 1)
  { bytes := body ++ leBytes 4 (crc32 body) }

end Sys2Proof.Machine
end

