-- ==== Sys2Proof/Machine/Maps.lean ====
section
/-! DEFINITION. The operations of the canonical sparse tables (Sys2Proof.Map). -/

namespace Sys2Proof.Machine

variable {α : Type}

/-- The entry of key `k`. -/
def mapGet? : Map α → Nat → Option α
  | [], _ => none
  | (k', v) :: m, k => if k = k' then some v else mapGet? m k

/-- The entry of key `k`, or `d`. -/
def mapGet (m : Map α) (k : Nat) (d : α) : α := (mapGet? m k).getD d

/-- Is key `k` listed? -/
def mapHas (m : Map α) (k : Nat) : Bool := (mapGet? m k).isSome

/-- Enter `v` under key `k`, keeping the keys rising. -/
def mapSet : Map α → Nat → α → Map α
  | [], k, v => [(k, v)]
  | (k', v') :: m, k, v =>
    if k = k' then (k, v) :: m
    else if k < k' then (k, v) :: (k', v') :: m
    else (k', v') :: mapSet m k v

/-- Remove the entry of key `k`. -/
def mapErase (m : Map α) (k : Nat) : Map α := m.filter fun e => decide (e.1 ≠ k)

/-- Enter `v`, or remove the entry when `v` is what an unlisted key reads as. -/
def mapPut [DecidableEq α] (m : Map α) (k : Nat) (v d : α) : Map α :=
  if v = d then mapErase m k else mapSet m k v

/-- Change the entry of key `k`, when it is listed. -/
def mapMod (m : Map α) (k : Nat) (f : α → α) : Map α := m.map fun e => if e.1 = k then (k, f e.2) else e

/-- Change every entry. -/
def mapAll (m : Map α) (f : Nat → α → α) : Map α := m.map fun p => (p.1, f p.1 p.2)

/-- Keep the entries for which `p` holds. -/
def mapKeep (m : Map α) (p : Nat → α → Bool) : Map α := m.filter fun e => p e.1 e.2

/-- The entries for which `p` holds, counted. -/
def mapCount (m : Map α) (p : Nat → α → Bool) : Nat := (m.filter fun e => p e.1 e.2).length

/-- Does some entry satisfy `p`? -/
def mapAny (m : Map α) (p : Nat → α → Bool) : Bool := m.any fun e => p e.1 e.2

/-- The keys rise strictly: the canonical form. -/
def mapWf : Map α → Bool
  | [] => true
  | [_] => true
  | (k, _) :: (k', v') :: m => decide (k < k') && mapWf ((k', v') :: m)

/-- `(n, v)` pairs of a plain list, numbered from `i`. -/
def mapOfList (i : Nat) : List α → Map α
  | [] => []
  | v :: l => (i, v) :: mapOfList (i + 1) l

end Sys2Proof.Machine
end

