-- ==== Sys2Proof/Machine/Fields.lean ====
section
/-! DEFINITION. Reading and writing the register fields that the sparse table holds, and the bit arithmetic of
registers. -/

namespace Sys2Proof.Machine

/-- The number of bits of a field. -/
def Field.width (f : Field) : Nat := f.hi - f.lo + 1

/-- The key of a field in the table of the state. -/
def Field.key (f : Field) : Nat := f.addr * 32 + f.lo

/-- Instance `i` of a field that has instances. -/
def Field.at (f : Field) (i : Nat) : Field :=
  match f.dims with
  | (stride, _) :: ds => { f with addr := f.addr + stride * i, dims := ds }
  | [] => f

/-- The instance numbers of the field that lies at window address `a`, if one does. -/
def Field.indexAux (off : Nat) : List (Nat × Nat) → Option (List Nat)
  | [] => if off = 0 then some [] else none
  | (stride, count) :: ds =>
    if off / stride < count then (Field.indexAux (off % stride) ds).map (off / stride :: ·) else none

def Field.index? (f : Field) (a : Nat) : Option (List Nat) :=
  if a < f.addr then none else Field.indexAux (a - f.addr) f.dims

/-- A field's value in the table of the state. -/
def State.rd (s : State) (f : Field) : Nat := (mapGet? s.regs f.key).getD f.reset

/-- Write a field in the table of the state, as many low bits of `v` as the field has. -/
def State.wr (s : State) (f : Field) (v : Nat) : State :=
  { s with regs := mapPut s.regs f.key (v % 2 ^ f.width) f.reset }

/-- Count `n` more in a field that saturates. -/
def State.bump (s : State) (f : Field) (n : Nat := 1) : State :=
  s.wr f (min (s.rd f + n) (2 ^ f.width - 1))

/-- Count `n` in a field that counts in units of `unit`. [DESIGN CHOICE, unsafe: log 131] -/
def State.bumpUnits (s : State) (f : Field) (unit : Nat) (n : Nat := 1) : State :=
  let t := mapGet s.units f.key 0 + n
  ({ s with units := mapPut s.units f.key (t % unit) 0 }).bump f (t / unit)

/-- A one-bit field read as a truth value. -/
def State.on (s : State) (f : Field) : Bool := s.rd f != 0

/-- Write a one-bit field. -/
def State.set (s : State) (f : Field) (b : Bool) : State := s.wr f b.toNat

/-- Apply `f` where `c` holds. -/
def State.when (s : State) (c : Bool) (f : State → State) : State := if c then f s else s

/-- Add outputs of the command in progress. [DESIGN CHOICE, safe: log 13] -/
def State.emit (s : State) (l : List Out) : State := { s with out := s.out ++ l }

/-- Apply `f` for each element of a list, in order. -/
def State.each {α : Type} (s : State) (l : List α) (f : State → α → State) : State := l.foldl f s

/-- Is bit `i` of `n` set? -/
def bit (n i : Nat) : Bool := n.testBit i

/-- Bits `hi` to `lo` of `n`. -/
def bits (n hi lo : Nat) : Nat := n / 2 ^ lo % 2 ^ (hi - lo + 1)

/-- The `w` low bits of a two's complement number that saturates at the ends of its range (R64). -/
def signed (w : Nat) (v : Int) : Nat :=
  ((min (max v (-(2 ^ (w - 1)))) (2 ^ (w - 1) - 1)) % (2 ^ w : Int)).toNat

/-- `v` limited to the range from `lo` to `hi`. -/
def clampInt (lo hi v : Int) : Int := min (max v lo) hi

end Sys2Proof.Machine
end

