-- ==== Sys2Proof/Machine/Flags.lean ====
section
/-! DEFINITION. Status fields that follow from the rest of the state: their values as a read of the register finds
them. Each chapter's computed flags stand together, with the rule that gives them. -/

namespace Sys2Proof.Machine

/-! ### Time (spec/03 R46, R53 to R57, R62, R64) -/

/-- TRACEABLE (R62): in LOCKED; in HOLDOVER, or in ACQUIRING entered from HOLDOVER, until the holdover timer
reaches HOLDOVER_S. -/
def TimeState.traceable (t : TimeState) : Bool :=
  match t.lock with
  | .locked => true
  | .holdover => !t.holdExpired
  | .acquiring => decide (t.cameFrom = .holdover) && !t.holdExpired
  | _ => false

/-- Whole seconds since LOCKED was last left, or since the cold reset (Table SID-7). -/
def TimeState.unlockedS (t : TimeState) : Nat :=
  if t.lock = .locked then 0 else min ((t.now - t.leftLocked) / 1000000000) 0xFFFF

/-- The frequency correction in force in ppb (R46, R54): one unit of 2⁻³² ns in 40 ns is 25,000,000 ÷ 2³² ppb. -/
def TimeState.ppb (t : TimeState) : Int :=
  clampInt (-250000) 250000 ((t.corr + t.slewCorr) * 25000000 / 4294967296)

/-- TIME_HOLD_BOUND (R56), for the drift of TIME_HOLD_DRIFT in ppb. -/
def TimeState.holdBound (t : TimeState) (drift : Nat) : Nat :=
  if t.lock = .locked then 0
  else if t.traceable then
    min (t.entryOffset + 50 + drift * (t.now - t.holdStart.getD t.now) / 1000000000) 0xFFFFFFFF
  else 0xFFFFFFFF

/-- The selected PTP master (R48). -/
def Ptp.master (p : Ptp) : Option PtpMaster := p.masters.find? fun m => some m.id = p.selected

/-! ### Mailboxes (spec/18 R439, R440) -/

/-- Mailbox `m`; one that nothing has touched is in its reset state. -/
def State.mailbox (s : State) (m : Nat) : Mailbox := mapGet s.mbx m {}

/-- The word whose bit i is `p` of mailbox `base + i`, for the 52 mailboxes. -/
def State.mbxBits (s : State) (base : Nat) (p : Mailbox → Bool) : Nat :=
  (List.range 32).foldl
    (fun w i => if base + i < 52 ∧ p (s.mailbox (base + i)) = true then w + 2 ^ i else w) 0

/-! ### Power (spec/17 R411, Table PWR-1) -/

/-- The state of domain `d`. -/
def State.domain (s : State) (d : Nat) : Domain := mapGet s.power.dom d {}

/-- R411: only PD09 to PD12, PD14 and PD15 to PD30 may be OFF. -/
def offAllowed (d : Nat) : Bool := (9 ≤ d && d ≤ 12) || d == 14 || (15 ≤ d && d ≤ 30)

/-- The wake time from RETAIN in µs (Table PWR-1). -/
def wakeRetainUs (d : Nat) : Nat :=
  if d = 0 then 0 else if d ≤ 4 then 10 else if d ≤ 6 then 4 else if d = 7 then 6 else if d = 8 then 2
  else if d ≤ 12 then 8 else if d = 13 then 6 else if d = 14 then 8 else if d ≤ 30 then 12
  else if d ≤ 32 then 20 else if d ≤ 34 then 6 else 2

/-- The longer wake time of Table PWR-1: 40 µs from OFF where a domain may be OFF. -/
def wakeMaxUs (d : Nat) : Nat := if offAllowed d then 40 else wakeRetainUs d

end Sys2Proof.Machine
end

