-- ==== Sys2Proof/Machine/Queries.lean ====
section
/-! DEFINITION. Questions about the state that several chapters and the registers share: who exists, what the chart in force says, and
how much of each resource is in use. None of them changes anything. -/

namespace Sys2Proof.Machine

/-- The key of a command context. [DESIGN CHOICE, unsafe: log 19] -/
def cmdKey (r : CmdRef) : Nat := (r.owner * 65536 + r.sqid) * 65536 + r.cid

/-- The opcode of a Serve command (R291). -/
def serveOpcode : Nat := 0x95

/-- The key of a queue context. -/
def qKey (owner qid : Nat) : Nat := owner * 65536 + qid

/-- The OWNER encoding of the PF controller of a link (Table QUE-1). -/
def pfOwner (link : Nat) : Nat := 0x1000 + link

/-- The OWNER of firmware and internal queues (Table QUE-1). -/
def systemOwner : Nat := 0x1FFF

/-- The owner under which a command that the companion forwarded runs on this side (R398). [DESIGN CHOICE, safe: log 86] -/
def companionOwner : Nat := 0x2000

/-- Is the owner a tenant slot? -/
def isTenant (owner : Nat) : Bool := owner < 0x1000

/-- The queue context of a queue; one that nothing created is in its reset state. -/
def State.qctx (s : State) (owner qid : Nat) : QCtx := mapGet s.q.ctx (qKey owner qid) {}

/-- The controller of an owner. -/
def State.ctrl (s : State) (owner : Nat) : Ctrl := mapGet s.host.ctrls owner {}

/-- Is a chart from a slot in force? -/
def State.charted (s : State) : Bool := !s.chart.safeInForce

/-- The magnitude in force, 3 on the ROM safe chart (Table CHT-13). -/
def State.magnitude (s : State) : Nat := if s.chart.safeInForce then 3 else s.chart.cur.magnitude

/-- A pair (M0) is in force. -/
def State.isPair (s : State) : Bool := s.charted && s.chart.cur.magnitude == 0

/-- The number of links of a split: x16, 2 × x8, 4 × x4, disabled (R25). -/
def splitLinks (split : Nat) : Nat := if split = 0 then 1 else if split = 1 then 2 else if split = 2 then 4 else 0

/-- The split of a host port: the sealed chart's, or the width strap's (R25); H0 runs at x16 in RECOVERY where both straps
read 11 (R461). -/
def State.split (s : State) (port : Nat) : Nat :=
  if s.boot.recovery && s.boot.straps.h0w == 3 && s.boot.straps.h1w == 3 && port == 0 then 0
  else if s.charted then (if port = 0 then s.chart.cur.ports.h0Split else s.chart.cur.ports.h1Split)
  else if port = 0 then s.boot.straps.h0w else s.boot.straps.h1w

/-- Does link index `l` exist? -/
def State.hasLink (s : State) (l : Nat) : Bool := l < 8 && decide (l % 4 < splitLinks (s.split (l / 4)))

/-- TotalVFs of a link: its VF_COUNT in the sealed chart (R67). [DESIGN CHOICE, safe: log 184] -/
def State.totalVfs (s : State) (l : Nat) : Nat :=
  if s.charted && s.hasLink l then s.chart.cur.ports.vfCount.getD l 0 else 0

/-- The tenant slot of VF 1 of a link (R68). -/
def State.firstSlot (s : State) (l : Nat) : Nat := ((List.range l).map s.totalVfs).sum

/-- A tenant slot. -/
def State.tenant (s : State) (t : Nat) : Tenant := mapGet s.ten.slots t {}

/-- VF_SLOTS and FABRIC_SLOTS of the sealed chart (R333). -/
def State.vfSlots (s : State) : Nat := if s.charted then s.chart.cur.ten.vfSlots else 0

/-- Is the owner a fabric slot (R333)? -/
def State.isFabric (s : State) (owner : Nat) : Bool := isTenant owner && decide (s.vfSlots ≤ owner)

/-- The pool of an owner's contexts: 0 PF, 1 VF, 2 fabric, 3 system. -/
def State.poolOf (s : State) (owner : Nat) : Nat :=
  if owner = systemOwner then 3 else if isTenant owner then (if s.isFabric owner then 2 else 1) else 0

/-- The links of the sealed chart. -/
def State.linkList (s : State) : List Nat := (List.range 8).filter s.hasLink

/-- A pool's size in the chart in force. -/
def State.poolSize (s : State) (p : Nat) : Nat :=
  let t := s.chart.cur.ten
  if p = 0 then t.qpoolPf else if p = 1 then t.qpoolVf else if p = 2 then t.qpoolFabric else t.qpoolSystem

/-- The contexts of each PF controller: QPOOL_PF divided equally among the links, at most 65,536 (R95). -/
def State.pfQueues (s : State) : Nat := min (s.poolSize 0 / max s.linkList.length 1) 65536

/-- The number of a pool's first context: they are numbered in pool order (R91). -/
def State.poolStart (s : State) (p : Nat) : Nat := ((List.range p).map s.poolSize).sum

/-- The contexts of a pool that controllers hold: each PF controller its share, a tenant its own, the system pool those in use. -/
def State.poolTaken (s : State) (p : Nat) : Nat :=
  if p = 0 then s.linkList.length * s.pfQueues
  else if p = 3 then mapCount s.q.ctx fun k _ => k / 65536 == systemOwner
  else ((s.host.ctrls.filter fun e => isTenant e.1 && s.poolOf e.1 == p).map fun e => e.2.queues).sum

/-- Contexts of a pool that no controller holds. -/
def State.poolFree (s : State) (p : Nat) : Nat := s.poolSize p - s.poolTaken p

/-- The first `n` numbers from `k` on that are not taken. [DESIGN CHOICE, unsafe: log 193] -/
def firstFree (taken : List Nat) : Nat → Nat → Nat → List Nat
  | 0, _, _ => []
  | f + 1, k, n =>
    if n = 0 then [] else if taken.contains k then firstFree taken f (k + 1) n else k :: firstFree taken f (k + 1) (n - 1)

/-- The numbers of `n` free contexts of a tenant's pool, the lowest first (R91). [DESIGN CHOICE, unsafe: log 193] -/
def State.freeCtxs (s : State) (t n : Nat) : List Nat :=
  let taken := (s.host.ctrls.map fun e => e.2.ctxs).flatten
  firstFree taken (n + taken.length) (s.poolStart (s.poolOf t)) n

/-- The number of the context of a queue (R91): a PF controller's contexts follow one another in link order. [DESIGN CHOICE, unsafe:
log 193] -/
def State.ctxNumber (s : State) (owner qid : Nat) : Option Nat :=
  if owner = systemOwner then some (s.poolStart 3 + qid)
  else if isTenant owner then (s.ctrl owner).ctxs[qid]?
  else some ((s.linkList.filter (· + 0x1000 < owner)).length * s.pfQueues + qid)

/-- The link of a controller: 8 for a controller without one. -/
def State.linkOf (s : State) (owner : Nat) : Nat :=
  if 0x4000 ≤ owner then (owner - 0x4000) / 1024
  else if 0x1000 ≤ owner then min (owner - 0x1000) 8
  else ((List.range 8).find? fun l => decide (s.firstSlot l ≤ owner) && decide (owner < s.firstSlot l + s.totalVfs l)).getD 8

/-- The key of the configuration space of a controller's function. -/
def State.cfgKey (s : State) (owner : Nat) : Nat :=
  let l := s.linkOf owner
  65536 * l + (if 0x4000 ≤ owner then (owner - 0x4000) % 1024 else if isTenant owner then owner - s.firstSlot l + 1 else 0)

/-- The configuration space of a controller's function. -/
def State.cfgOf (s : State) (owner : Nat) : FnCfg := mapGet s.host.cfg (s.cfgKey owner) {}

/-- Entries between head and tail of a submission queue. -/
def QCtx.visible (c : QCtx) : Nat := (c.sqTail + (c.sqSize + 1) - c.sqHead) % (c.sqSize + 1)

/-- The weight the manager wrote for a slot or a PF controller. [DEDUCED, unsafe: log 109] -/
def State.weight (s : State) (owner : Nat) : Nat := mapGet s.q.pendingWeight owner s.chart.cur.budget.defWeight

/-- A slot's in-flight limit (R108). -/
def State.limit (s : State) (t : Nat) : Nat := mapGet s.q.limits t s.chart.cur.ten.maxInflight

/-- Command contexts that a slot holds: its commands of the current epoch (R108, R342). -/
def State.tenantInflight (s : State) (t : Nat) : Nat :=
  mapCount s.q.cmds fun _ c => decide (c.ref.owner = t) && decide (c.epoch = (s.tenant t).epoch)

/-- Command contexts in use, of the reserve and of the general pool (R108). -/
def State.ctxUsed (s : State) (reserve : Bool) : Nat := mapCount s.q.cmds fun _ c => decide (c.reserve = reserve) && c.ref.owner != companionOwner

/-- The key of an attachment. -/
def attachKey (owner nsid : Nat) : Nat := owner * 4294967296 + nsid

/-- The namespaces attached to a controller. -/
def State.attached (s : State) (owner : Nat) : List Nat :=
  (s.nv.attach.filter fun e => decide (e.1 / 4294967296 = owner)).map fun e => e.1 % 4294967296

/-- The populated members of a chart, in order. -/
def chartMembers (c : Chart) : List Nat := (c.dies.chans.map fun p => p.1 / 8).eraseDups

def State.members (s : State) : List Nat := if s.charted then chartMembers s.chart.cur else []

/-- M, the number of populated members. -/
def State.memberCount (s : State) : Nat := s.members.length

def State.member (s : State) (m : Nat) : Member := mapGet s.nv.members m {}

/-- Is a member in service? -/
def State.memberUp (s : State) (m : Nat) : Bool := decide ((s.member m).st = .inService)

/-- The key of a die: 32 × channel + position. -/
def dieKey (ch die : Nat) : Nat := ch * 32 + die

/-- The die of column `c` in member `m` (R114). -/
def columnDie (m c : Nat) : Nat := dieKey (8 * m + c / 32) (c % 32)

/-- The column of a die. -/
def columnOf (d : Nat) : Nat := d / 32 % 8 * 32 + d % 32

/-- The die kind of a column. -/
def chartKind (c : Chart) (col : Nat) : DieKind :=
  match c.dies.chans.find? fun p => p.1 % 8 = col / 32 with
  | some p => c.dies.kinds.getD p.2.kind default
  | none => default

/-- Is a die position populated? -/
def chartPopulated (c : Chart) (ch die : Nat) : Bool :=
  match c.dies.chans.find? fun p => p.1 = ch with
  | some p => bit p.2.ceMask (die / 4) && decide (die % 4 < p.2.luns)
  | none => false

def State.die (s : State) (d : Nat) : Die := mapGet s.md.die d {}

def State.consOf (s : State) (k : Nat) : ChartCons := s.chart.cur.cons.getD k default

/-- Logical blocks in 4 KiB of a format (Table HST-5). -/
def lbas4k (lbaf : Nat) : Nat := if lbaf = 4 ∨ lbaf = 5 then 8 else 1

def Ns.per4k (n : Ns) : Nat := lbas4k n.lbaf

def State.ns? (s : State) (nsid : Nat) : Option Ns := mapGet? s.nv.ns nsid

def ZoneSt.active : ZoneSt → Bool
  | .iopen => true | .eopen => true | .closed => true | _ => false

def ZoneSt.isOpen : ZoneSt → Bool
  | .iopen => true | .eopen => true | _ => false

/-- Zones of the device, of a constellation or of a namespace in a kind of state. -/
def State.countZones (s : State) (p : Nat → Bool) (st : ZoneSt → Bool) : Nat :=
  mapCount s.nv.zones fun k z => p (k / 4294967296) && st z.st

def State.nsCons (s : State) (nsid : Nat) : Option Nat := (s.ns? nsid).map (·.cons)

/-- The key of a block and of a block set on a die. -/
def blockKey (d b : Nat) : Nat := d * 65536 + b

def State.block (s : State) (d b : Nat) : Block := mapGet s.nv.blocks (blockKey d b) {}

/-- The blocks of a block set. -/
def State.setBlocks (s : State) (d b : Nat) : List Nat := mapGet s.nv.sets (blockKey d b) []

/-- The space that ranges hold in the write buffer until their rows are complete, in 4 KiB units (R144). -/
def State.buffer4k (s : State) : Nat :=
  (s.wp.wr.map fun e =>
    if e.2.rowsDone || e.2.void then 0 else (e.2.nlb + ((s.ns? e.2.nsid).map (·.per4k)).getD 1 - 1) /
      ((s.ns? e.2.nsid).map (·.per4k)).getD 1).sum

/-- The block sets of a die. -/
def State.setsOf (s : State) (d : Nat) : List Nat :=
  (s.nv.sets.filter fun e => decide (e.1 / 65536 = d)).map fun e => e.1 % 65536

/-- Is the namespace ready (R321, R322, R329, R464)? -/
def State.nsReady (s : State) (nsid : Nat) : Bool :=
  !s.key.wiped && s.key.keyReady.contains nsid &&
    !(s.key.waits.any fun w => decide (((s.ns? nsid).bind (·.keySlot)) = some w.slot))

/-- INGOT_COUNT: 0 on the ROM safe chart (R353). [DEDUCED, unsafe: log 48] -/
def State.ingots (s : State) : Nat := if s.charted then s.chart.cur.dram.ingots else 0

/-- The cells of a pool, and the size of its reserve part (Table CEL-1). -/
def State.poolCells (s : State) (p : Nat) : Nat := if p = 0 then 131072 else if p = 1 then 4096 else s.ingots
def State.poolReserve (s : State) (p : Nat) : Nat := if p = 0 then 2048 else if p = 1 then 64 else s.ingots / 64

/-- A handle, its pool and its index. -/
def handleOf (p i : Nat) : Nat := p * 2 ^ 30 + i
def handlePool (h : Nat) : Nat := h / 2 ^ 30
def handleIndex (h : Nat) : Nat := h % 2 ^ 17

/-- Allocated cells of a pool, and cells withdrawn from it. -/
def State.cellsUsed (s : State) (p : Nat) : Nat :=
  mapCount s.cell.cells (fun h _ => handlePool h == p && !s.cell.withdrawn.contains h) +
    (s.cell.withdrawn.filter fun h => handlePool h == p).length

/-- Free cells of the reserve and of the general part. -/
def State.cellReserve (s : State) (p : Nat) : Nat := s.cell.reserve.getD p 0
def State.cellGeneral (s : State) (p : Nat) : Nat := s.poolCells p - s.cellsUsed p - s.cellReserve p

def State.keySlot? (s : State) (k : Nat) : Option KeySlot := mapGet? s.key.slots k

/-- The channel, the position and the member of a die. -/
def dieCh (d : Nat) : Nat := d / 32
def diePos (d : Nat) : Nat := d % 32
def dieMember (d : Nat) : Nat := d / 256

/-- The populated dies of the sealed chart, in order. -/
def State.allDies (s : State) : List Nat :=
  if s.charted then
    ((s.chart.cur.dies.chans.map fun p =>
      ((List.range 32).filter fun i => bit p.2.ceMask (i / 4) && decide (i % 4 < p.2.luns)).map fun i => dieKey p.1 i)).flatten
  else []

def State.populated (s : State) (d : Nat) : Bool := s.charted && chartPopulated s.chart.cur (dieCh d) (diePos d)

/-- Is the die in service? -/
def State.dieUp (s : State) (d : Nat) : Bool := s.populated d && s.memberUp (dieMember d) && !(s.die d).failed

/-- The die kind of a die. -/
def State.kindOf (s : State) (d : Nat) : DieKind := chartKind s.chart.cur (columnOf d)

/-- The blocks of a die, with their numbers. -/
def State.blocksOf (s : State) (d : Nat) : List (Nat × Block) :=
  (s.nv.blocks.filter fun e => decide (e.1 / 65536 = d)).map fun e => (e.1 % 65536, e.2)

/-- The spare count s of a die (R236): its spare blocks in service. -/
def State.spares (s : State) (d : Nat) : Nat :=
  ((s.blocksOf d).filter fun e => decide (e.2.pool = 1) && decide (e.2.st ≠ .retired)).length

def State.retired (s : State) (d : Nat) : Nat := ((s.blocksOf d).filter fun e => decide (e.2.st = .retired)).length

/-- The block sets of a die none of whose blocks is retired. -/
def State.goodSets (s : State) (d : Nat) : Nat :=
  ((s.setsOf d).filter fun b => (s.setBlocks d b).all fun k => decide ((s.block d k).st ≠ .retired)).length

/-- The slots of a constellation (R117): for each column in service the smallest count among its dies in service, less 2. -/
def State.consSlots (s : State) (k : Nat) : Nat :=
  ((s.consOf k).columns.map fun c =>
    if s.md.columnOut.contains c then 0
    else
      let l := (s.members.filter s.memberUp).map fun m => s.goodSets (columnDie m c)
      match l with
      | [] => 0
      | x :: xs => xs.foldl min x - 2).sum

/-- The committed slots of a constellation. -/
def State.consCommit (s : State) (k : Nat) : Nat := ((s.nv.ns.filter fun e => e.2.cons == k).map fun e => e.2.slots).sum

/-- Meridians since the seal, or since the die's member came into service. -/
def State.pastMeridians (s : State) (d : Nat) : Nat := s.md.meridians - mapGet s.md.memberSince (dieMember d) 0

def State.predOf (s : State) (d : Nat) (k : Nat) : Pred := mapGet (s.die d).pred k {}

/-- Is a predictor cold (R197)? -/
def State.cold (s : State) (d : Nat) (k : Nat) : Bool :=
  decide (s.pastMeridians d < 64) || decide ((s.predOf d k).count < 32)

/-- The balance of class x (0 to 7) or of the reserve (8) on a die, in 1/256 die-µs. -/
def State.tok (s : State) (d x : Nat) : Int := mapGet (s.die d).tokens x 0

def ledgerKey (owner cons : Nat) : Nat := owner * 256 + cons

def State.ledger (s : State) (owner cons : Nat) : Ledger := mapGet s.md.ledger (ledgerKey owner cons) {}

/-- Does a slot belong to the system pool (R312)? -/
def State.systemSlot (s : State) (k : Nat) : Bool := decide (s.chart.cur.keys.tenantSlots ≤ k)

/-- The namespaces bound to a slot. -/
def State.boundTo (s : State) (k : Nat) : List Nat := (s.nv.ns.filter fun e => decide (e.2.keySlot = some k)).map (·.1)

/-- The key slots that an owner holds (R339). -/
def State.keysOwned (s : State) (owner : Nat) : Nat := mapCount s.key.slots fun _ x => x.owner == owner

/-- The Available Spare term of a die. -/
def State.spareTerm (s : State) (d : Nat) : Nat :=
  let f := s.chart.cur.media.finalReserve
  let s0 := mapGet s.nv.spare0 d 0
  if s0 ≤ f then 0 else min (100 * (s.spares d - f) / (s0 - f)) 100

/-- The threshold term of a die. -/
def State.thresholdTerm (s : State) (d : Nat) : Nat :=
  let f := s.chart.cur.media.finalReserve
  let s0 := mapGet s.nv.spare0 d 0
  if s0 ≤ f then 100 else (100 * (s.chart.cur.media.spareMin - f) + (s0 - f - 1)) / (s0 - f)

/-- The data blocks' erases of a die, and how many they are. -/
def State.dieWear (s : State) (d : Nat) : Nat × Nat :=
  let l := ((s.blocksOf d).filter fun e => decide (e.2.pool = 0)).map fun e => e.2.eraseCount
  (l.sum, l.length)

/-- Available Spare, its threshold and Percentage Used over some dies. -/
def State.spareFields (s : State) (l : List Nat) : Nat × Nat × Nat :=
  (l.foldl (fun a d => min a (s.spareTerm d)) 100, l.foldl (fun a d => max a (s.thresholdTerm d)) 0,
   min (l.foldl (fun a d => max a (let w := s.dieWear d; 100 * w.1 / (max w.2 1 * max s.nv.cycles 1))) 0) 255)

/-- The dies in service. -/
def State.diesUp (s : State) : List Nat := s.allDies.filter s.dieUp

/-- MEDIA_STATUS.SPARE_WARN: a die in service has come to SPARE_MIN (R237). -/
def State.spareWarn (s : State) : Bool := s.diesUp.any fun d => decide (s.spares d ≤ s.chart.cur.media.spareMin)

/-- PWR_DUSK_STATUS.ARMED (R157). -/
def State.armed (s : State) : Bool := s.boot.straps.holdup && s.boot.pins.holdupOk

/-- Does a command count as in flight: any but an Asynchronous Event Request that is held (R166, R422)? [DEDUCED, unsafe: log 27] -/
def State.busyCommand (s : State) (r : CmdRef) : Bool := !(s.ctrl r.owner).aers.contains r

/-- In PS3 and PS4, patrol scrub, DRAM scrub and wear leveling pause (R422). -/
def State.pausedPs (s : State) : Bool := decide (3 ≤ s.rd Reg.PWR_STATUS_PS)

/-- Condition 2 of R422: the device is idle. [DEDUCED, unsafe: log 27] -/
def State.deviceIdle (s : State) : Bool :=
  !(mapAny s.q.cmds fun _ c => s.busyCommand c.ref) && !(mapAny s.q.ctx fun _ c => c.sqValid && decide (0 < c.visible)) &&
    (s.q.rings.all fun e => e.2.isEmpty) && s.serve.runs.isEmpty && s.serve.waits.isEmpty &&
    (s.wp.wr.all fun e => e.2.rowsDone) && s.md.resyncLeft.isEmpty && decide (s.nv.pairSt ≠ .resync) &&
    s.md.reloc.isEmpty && s.md.rebuildQueue.isEmpty &&
    !(s.nv.members.any fun e => decide (e.2.st = .rebuilding)) && decide (s.wp.dusk = .idle) &&
    decide (s.chart.phase ≠ .draining)

/-- The priority and the DSCP of the packets that the T9 sends (R279). -/
def State.roceTag (s : State) : List Nat := [s.rd Reg.NET_PRIO_CFG_ROCE_PRIO, s.rd Reg.NET_PRIO_CFG_ROCE_DSCP]

end Sys2Proof.Machine
end

