-- ==== Sys2Proof/Machine/Geometry.lean ====
section
/-! DEFINITION. The geometry of zones, reclaim units and rows: sizes, keys, and where a 4 KiB unit of a set lies (spec/06 R117, R118, R127,
R129; spec/10 R246). -/

namespace Sys2Proof.Machine

/-! ### Constellations and zone geometry (R117, R118, R127) -/

/-- The constellation of a column, if any. -/
def State.consOfColumn (s : State) (col : Nat) : Option Nat :=
  (List.range s.chart.cur.cons.length).find? fun k => (s.consOf k).columns.contains col

/-- B, the bytes of a block set (R118). -/
def State.blockSetBytes (s : State) : Nat :=
  match s.chart.cur.cons with
  | k :: _ =>
    let d := chartKind s.chart.cur (k.columns.getD 0 0)
    s.chart.cur.zone.planesPerSet * d.pagesPerBlock * d.pageKiB * 1024
  | [] => 0

/-- ZCAP and RUNS, in 4 KiB units (R118, R127). -/
def State.zcap4k (s : State) : Nat := (s.memberCount - 1) * s.blockSetBytes / 4096

/-- ZSZE and ZCAP of a namespace in logical blocks. -/
def State.zoneLbas (s : State) (n : Ns) : Nat := s.chart.cur.zone.zone4k * n.per4k
def State.zcap (s : State) (n : Ns) : Nat := s.zcap4k * n.per4k

/-- 4 KiB units of a program unit of a column. -/
def State.unit4k (s : State) (col : Nat) : Nat := max ((chartKind s.chart.cur col).unitKiB / 4) 1

/-- The row and the row position of the 4 KiB unit at offset `o` of a set on a column (R246). -/
def State.rowOf (s : State) (col o : Nat) : Nat × Nat :=
  let m := s.memberCount
  let u := s.unit4k col
  let row := o / ((m - 1) * u)
  (row, ((row + col) % m + 1 + o / u % (m - 1)) % m)

/-- The parity position of a row (R246). -/
def State.parityPos (s : State) (col row : Nat) : Nat := (row + col) % s.memberCount

/-- The data unit of a row at a position (R246); `none` for the parity unit. -/
def State.dataUnit (s : State) (col row pos : Nat) : Option Nat :=
  if pos = s.parityPos col row then none else some ((pos + s.memberCount - s.parityPos col row - 1) % s.memberCount)

/-- The position of data unit `j` of a row (R246). -/
def State.dataPos (s : State) (col row j : Nat) : Nat := (s.parityPos col row + 1 + j) % s.memberCount

/-- The place in its set, in 4 KiB units, of codeword `off` of data unit `j` of a row (R246). -/
def State.wordIndex (s : State) (col row j off : Nat) : Nat := (row * (s.memberCount - 1) + j) * s.unit4k col + off

/-! ### Keys and tables -/

/-- The key of a zone, which is also the key of the set it holds. -/
def zoneKey (nsid zone : Nat) : Nat := nsid * 4294967296 + zone

/-- The key of a reclaim unit as a set: above every zone's. -/
def ruKey (ru : Nat) : Nat := 2 ^ 60 + ru

/-- The key of a row. -/
def rowKey (set row : Nat) : Nat := set * 4294967296 + row

/-- The key of a logical block's content. -/
def contentKey (nsid lba : Nat) : Nat := nsid * 2 ^ 64 + lba

def State.zoneAt (s : State) (nsid z : Nat) : Zone := mapGet s.nv.zones (zoneKey nsid z) {}

/-- The zones of a namespace that are not in their initial state. -/
def State.zonesOf (s : State) (nsid : Nat) : List (Nat × Zone) :=
  (s.nv.zones.filter fun e => decide (e.1 / 4294967296 = nsid)).map fun e => (e.1 % 4294967296, e.2)

/-- A zone's index in the zone table. -/
def State.zoneIndex (s : State) (nsid z : Nat) : Nat := ((s.ns? nsid).map (·.zoneBase)).getD 0 + z

/-- The column and the block sets of a set: a zone or a reclaim unit. -/
def State.setPlace (s : State) (set : Nat) : Option (Nat × List Nat) :=
  if set < 2 ^ 60 then
    match mapGet? s.nv.zones set with
    | some z => z.column.map fun c => (c, z.sets)
    | none => none
  else (mapGet? s.nv.rus (set - 2 ^ 60)).map fun r => (r.column, r.sets)

/-- The constellation of a set. -/
def State.setCons (s : State) (set : Nat) : Option Nat :=
  if set < 2 ^ 60 then s.nsCons (set / 4294967296) else (mapGet? s.nv.rus (set - 2 ^ 60)).map (·.cons)

def State.row (s : State) (set row : Nat) : Row := mapGet s.nv.rows (rowKey set row) {}

/-! ### Reclaim units (R129) -/

/-- G, the granules of a reclaim unit, and the 4 KiB units of a granule. -/
def State.granule4k (s : State) : Nat := max (s.chart.cur.zone.granuleKiB / 4) 1
def State.ruGranules (s : State) : Nat := s.zcap4k / s.granule4k

/-- A reclaim unit's number on the device: its slot within its constellation (R129) with the constellation above it. -/
def ruId (cons no : Nat) : Nat := cons * 4294967296 + no

/-- The reclaim unit of a granule slot of a constellation: a slot is the unit's number times G plus the granule's offset (R129). -/
def State.unitOf (s : State) (cons slot : Nat) : Nat := ruId cons (slot / max s.ruGranules 1)

/-- The granule's offset in its reclaim unit. -/
def State.slotOff (s : State) (slot : Nat) : Nat := slot % max s.ruGranules 1

/-! ### The write buffer's level (R168) -/

/-- Has the unit that holds the 4 KiB at offset `o` of a set passed its program? -/
def State.unitPassed (s : State) (set o : Nat) : Bool :=
  match s.setPlace set with
  | some (col, _) => let p := s.rowOf col o; (s.row set p.1).passed.contains p.2
  | none => false

/-- The 4 KiB units of a buffered range whose data is there and not yet programmed. -/
def State.unprogrammedOf (s : State) (w : Wr) : Nat :=
  let per := ((s.ns? w.nsid).map (·.per4k)).getD 1
  let cons := ((s.ns? w.nsid).map (·.cons)).getD 0
  if w.rowsDone || w.void || !w.got then 0
  else
    let units := fun (a n : Nat) => (List.range ((a + n - 1) / per + 1 - a / per)).map (a / per + ·)
    match w.zone with
    | some z => ((units w.offset w.nlb).filter fun o => !s.unitPassed (zoneKey w.nsid z) o).length
    | none => ((units w.slba w.nlb).filter fun u => match w.ru.find? fun g => decide (g.1 = u / s.granule4k) with
      | some g => !s.unitPassed (ruKey (s.unitOf cons g.2)) (s.slotOff g.2 * s.granule4k + u % s.granule4k)
      | none => true).length

/-- PWR_WBUF_LEVEL in 4 KiB units. -/
def State.unprogrammed4k (s : State) : Nat := (s.wp.wr.map fun e => s.unprogrammedOf e.2).sum

end Sys2Proof.Machine
end

