-- ==== Sys2Proof/Machine/Operands.lean ====
section
/-! DEFINITION. The operand forms of the window: which field a window offset and a bit name, which power domain
serves an offset, what a computed field reads as, and a read without side effects. -/

namespace Sys2Proof.Machine

/-- The fields of the register at window offset `a` (R475), each with its instance numbers. -/
def fieldsAt (a : Nat) : List (Field × List Nat) :=
  match regBlocks.find? fun b => b.1 ≤ a && a < b.1 + b.2.1 with
  | none => []
  | some b => b.2.2.filterMap fun f => (f.index? a).map fun ix => (f, ix)

/-- Does the offset name a register (R475)? -/
def namesRegister (a : Nat) : Bool := !(fieldsAt a).isEmpty

/-- R476: the device-wide offsets of every DSCH and DRAM instance are the same registers, those of instance 0. -/
def canonical (a : Nat) : Nat :=
  if 0x400000 ≤ a ∧ a < 0x500000 ∧ (a - 0x400000) % 0x2000 < 0x1000 then 0x400000 + (a - 0x400000) % 0x2000
  else if 0x700000 ≤ a ∧ a < 0x780000 ∧ (a - 0x700000) % 0x10000 < 0x1000 then 0x700000 + (a - 0x700000) % 0x10000
  else a

/-- The power domain that serves a window offset (Table REG-1, R476). -/
def domainOf (a : Nat) : Nat :=
  if a < 0x50000 then 0
  else if a < 0x70000 then 6
  else if a < 0x100000 then 0
  else if a < 0x380000 then 6
  else if a < 0x400000 then 5
  else if a < 0x500000 then
    if (a - 0x400000) % 0x2000 < 0x1000 then 6 else 15 + (a - 0x400000) / 0x2000 / 8
  else if a < 0x700000 then 6
  else if a < 0x780000 then
    if (a - 0x700000) % 0x10000 < 0x1000 then 6 else if (a - 0x700000) / 0x10000 < 4 then 31 else 32
  else if a < 0x800000 then 6
  else if a < 0x900000 then 8
  else if a < 0xA00000 then 13
  else if a < 0xC00000 then 6
  else if a < 0xF00000 then 0
  else if a < 0xF01000 then 0 else 35

end Sys2Proof.Machine
end

