-- ==== Sys2Proof/Machine/Views.lean ====
section
/-! DEFINITION. What each register field reads as where it follows from the rest of the state, and a read without side effects
(R7, R475, R480). -/

namespace Sys2Proof.Machine

/-! ### What the registers report (the register tables of each chapter)

Each function gives the fields of its blocks that follow from the rest of the state: `k` is the field's key, `i` and `j` the first two
instance numbers. `none` stands for a field that the table of the state holds. -/

/-- Word `i` of a number, the lowest 32 bits first. -/
def wordOf (n i : Nat) : Nat := n / 2 ^ (32 * i) % 2 ^ 32

/-- A truth value as a one-bit field. -/
def flag (b : Bool) : Option Nat := some b.toNat

/-- A balance in 1/256 die-µs as a signed field of die-µs, rounded toward 0. -/
def dieUs (w : Nat) (v : Int) : Nat := signed w (v.tdiv 256)

/-- DEV (Table REG-6), CHART (Tables CHT-10 to CHT-13). -/
def State.viewDev (s : State) (k i : Nat) : Option Nat :=
  let t := s.boot.straps
  let c := s.chart
  if k = Reg.DEV_STRAPS_VREG.key then some t.vreg
  else if k = Reg.DEV_STRAPS_BOOT.key then flag t.boot
  else if k = Reg.DEV_STRAPS_H1W.key then some t.h1w
  else if k = Reg.DEV_STRAPS_H0W.key then some t.h0w
  else if k = Reg.DEV_STRAPS_SAFE.key then flag t.safe
  else if k = Reg.DEV_STRAPS_HOLDUP.key then flag t.holdup
  else if k = Reg.DEV_STRAPS_PAIR.key then some t.pair
  else if k = Reg.DEV_STRAPS_MGR.key then some t.mgr
  else if k = Reg.DEV_STRAPS_CHART.key then some t.chart
  else if k = Reg.CHART_STATUS_STATE.key then some c.phase.code
  else if k = Reg.CHART_ID_VALUE.key then some (if s.charted then c.serial else 0)
  else if k = Reg.CHART_GEN_VALUE.key then some (if s.charted then c.generation else 0)
  else if k = Reg.CHART_INFO_FORMAT_VERSION.key then some (if s.charted then c.formatVersion else 0)
  else if k = Reg.CHART_INFO_MAGNITUDE.key then some s.magnitude
  else if k = Reg.CHART_FPRINT_VALUE.key then some (if s.charted then wordOf c.fingerprint i else 0)
  else if k = Reg.CHART_FLASH_FPRINT_VALUE.key then some (wordOf c.flashFprint i)
  else none

/-- TIME (Tables SID-6, SID-7). -/
def State.viewTime (s : State) (k : Nat) : Option Nat :=
  let t := s.time
  if k = Reg.TIME_STATUS_STATE.key then some t.lock.code
  else if k = Reg.TIME_STATUS_SOURCE.key then some t.source
  else if k = Reg.TIME_STATUS_TRACEABLE.key then flag t.traceable
  else if k = Reg.TIME_STATUS_EVER_LOCKED.key then flag t.everLocked
  else if k = Reg.TIME_STATUS_UNLOCKED_S.key then some t.unlockedS
  else if k = Reg.TIME_NOW_LO_NOW.key then some (wordOf t.sid 0)
  else if k = Reg.TIME_NOW_HI_NOW.key then some (wordOf t.sid 1)
  else if k = Reg.TIME_OFFSET_NS.key then some (signed 32 t.offset)
  else if k = Reg.TIME_FREQ_ADJ_PPB.key then some (signed 32 t.ppb)
  else if k = Reg.TIME_HOLD_BOUND_NS.key then some (t.holdBound (s.rd Reg.TIME_HOLD_DRIFT_PPB))
  else if k = Reg.TIME_MSEQ_LO_SEQ.key then some (wordOf t.mseq 0)
  else if k = Reg.TIME_MSEQ_HI_SEQ.key then some (wordOf t.mseq 1)
  else if k = Reg.TIME_LAST_STEP_NS.key then some (signed 32 t.lastStep)
  else if k = Reg.TIME_PTP_MASTER0_ID.key then some (wordOf (t.ptp.selected.getD 0) 0)
  else if k = Reg.TIME_PTP_MASTER1_ID.key then some (wordOf (t.ptp.selected.getD 0) 1)
  else if k = Reg.TIME_PTP_STAT_STEPS_REMOVED.key then
    some (min ((t.ptp.master.map fun m => m.stepsRemoved + 1).getD 0) 0xFF)
  else if k = Reg.TIME_PTP_STAT_CLOCK_CLASS.key then some ((t.ptp.master.map (·.clockClass)).getD 0xFF)
  else if k = Reg.TIME_PTP_STAT_TWO_STEP.key then some ((t.ptp.master.map (·.twoStep.toNat)).getD 0)
  else if k = Reg.TIME_PTP_STAT_TRANSPORT.key then some ((t.ptp.master.map (·.transport)).getD 0)
  else none

/-- The hottest flash package (R205): its die and its reading. -/
def State.hottest (s : State) : Nat × Int :=
  match s.power.flashHot with
  | [] => (0, 0)
  | x :: l => l.foldl (fun a e => if a.2 < e.2 then e else a) x

/-- PWR (Tables PWR-9, WRT-6), THERM (Table PWR-11). -/
def State.viewPwr (s : State) (k i : Nat) : Option Nat :=
  if k = Reg.PWR_DOM_STATE_STATE.key then some (s.domain i).state.code
  else if k = Reg.PWR_DOM_STATE_OFF_ALLOWED.key then flag (offAllowed i)
  else if k = Reg.PWR_DOM_STATE_WAKE_MAX_US.key then some (wakeMaxUs i)
  else if k = Reg.PWR_STATUS_VREG.key then some s.boot.straps.vreg
  else if k = Reg.PWR_STATUS_IDLE.key then flag s.deviceIdle
  else if k = Reg.PWR_WBUF_LEVEL_MIB.key then some ((s.unprogrammed4k + 255) / 256)
  else if k = Reg.PWR_DUSK_STATUS_STATE.key then some s.wp.dusk.code
  else if k = Reg.PWR_DUSK_STATUS_ARMED.key then flag s.armed
  else if k = Reg.PWR_DUSK_STATUS_HOLDUP_OK.key then flag s.boot.pins.holdupOk
  else if k = Reg.PWR_DUSK_STATUS_STRAP_HOLDUP.key then flag s.boot.straps.holdup
  else if k = Reg.THERM_STATUS_TEMP.key then some (signed 12 (s.power.filtered / 4096))
  else if k = Reg.THERM_STATUS_FAULT.key then flag s.power.faulty
  else if k = Reg.THERM_STATUS_FLASH_LIMIT.key then flag s.power.flashCap
  else if k = Reg.THERM_FLASH_MEMBER.key then some (dieMember s.hottest.1)
  else if k = Reg.THERM_FLASH_TEMP.key then some (signed 8 s.hottest.2)
  else none

/-- The dwords of an almanac record (Table MBX-3). -/
def AlmRec.word (r : AlmRec) (i : Nat) : Nat :=
  let flags := r.lock.code + 8 * r.traceable.toNat + 16 * r.shadow.toNat
  if i < 2 then wordOf r.seq i
  else if i < 4 then wordOf r.sidereal (i - 2)
  else if i = 4 then wordOf r.opSeconds 0
  else if i = 5 then wordOf r.opSeconds 1 % 2 ^ 16 + flags * 2 ^ 16 + r.snaps.length * 2 ^ 24
  else if i = 6 then r.powerCycles
  else if i = 7 then r.event + r.cause * 2 ^ 11 + r.rep * 2 ^ 16
  else match r.snaps.drop ((i - 8) / 2) with
    | [] => 0
    | x :: _ => if i % 2 = 0 then x.1 + x.2.1.toNat * 2 ^ 31 else x.2.2

/-- The oldest retained record's number, 0 when none is retained. [DESIGN CHOICE, unsafe: log 15] -/
def AlmState.oldest (a : AlmState) : Nat := (((a.ring ++ a.flash).getLast?).map (·.seq)).getD 0

/-- The owner that a read of a mailbox shows (R437, R441): a companion mailbox shows its pair only while the link is up. -/
def State.mbxOwner (s : State) (m : Nat) : Nat :=
  let o := (s.mailbox m).owner
  if (m = 50 ∨ m = 51) ∧ o = 96 ∧ s.pair.linkUp = false then 0 else o

/-- EVT, MBX and ALM (Tables MBX-6 to MBX-8). -/
def State.viewEvt (s : State) (k i : Nat) : Option Nat :=
  let m := s.mailbox i
  let n := s.rd Reg.EVT_COUNT_SEL_SOURCE
  let e := 16 * s.rd Reg.ALM_LIST_SEL_LIST + s.rd Reg.ALM_LIST_SEL_ENTRY
  if k = Reg.EVT_STATUS_OOB.key then flag (decide (s.boot.manager = .mi))
  else if k = Reg.EVT_PENDING_SUM_BITS.key then
    some ((List.range 32).foldl (fun w j =>
      if 32 * i + j < 36 ∧ s.rd (Reg.EVT_PENDING_BITS.at (32 * i + j)) ≠ 0 then w + 2 ^ j else w) 0)
  else if k = Reg.EVT_COUNT_SUPPRESSED.key then some (min (mapGet s.evt.counts n {}).suppressed 0xFFFF)
  else if k = Reg.EVT_COUNT_OCCURRED.key then some (min (mapGet s.evt.counts n {}).occurred 0xFFFF)
  else if k = Reg.MBX_LOCK_OWNER.key then some (s.mbxOwner i)
  else if k = Reg.MBX_STATUS_BROKEN.key then flag m.broken
  else if k = Reg.MBX_STATUS_TIMEOUT.key then flag m.timeout
  else if k = Reg.MBX_STATUS_OVERFLOW.key then flag m.overflow
  else if k = Reg.MBX_STATUS_RX_PENDING.key then flag m.rx
  else if k = Reg.MBX_STATUS_TX_PENDING.key then flag m.tx
  else if k = Reg.MBX_STATUS_FWD_WORDS.key then some m.fwd.length
  else if k = Reg.MBX_STATUS_REPLY_WORDS.key then some m.rep.length
  else if k = Reg.MBX_RECV_DATA.key then some ((m.fwd.headD 0#32).toNat)
  else if k = Reg.MBX_REPLY_RECV_DATA.key then some ((m.rep.headD 0#32).toNat)
  else if k = Reg.MBX_SUM_RX_LO_BITS.key then some (s.mbxBits 0 (·.rx))
  else if k = Reg.MBX_SUM_RX_HI_BITS.key then some (s.mbxBits 32 (·.rx))
  else if k = Reg.MBX_SUM_TO_LO_BITS.key then some (s.mbxBits 0 (·.timeout))
  else if k = Reg.MBX_SUM_TO_HI_BITS.key then some (s.mbxBits 32 (·.timeout))
  else if k = Reg.ALM_SEQ_LO_SEQ.key then some (wordOf s.alm.seq 0)
  else if k = Reg.ALM_SEQ_HI_SEQ.key then some (wordOf s.alm.seq 1)
  else if k = Reg.ALM_OLDEST_LO_SEQ.key then some (wordOf s.alm.oldest 0)
  else if k = Reg.ALM_OLDEST_HI_SEQ.key then some (wordOf s.alm.oldest 1)
  else if k = Reg.ALM_STATUS_UNFLUSHED.key then some s.alm.ring.length
  else if k = Reg.ALM_STATUS_SAFE_RING.key then flag (decide (s.chart.phase = .safe))
  else if k = Reg.ALM_READ_DATA_DATA.key then some (((s.alm.readRec.map fun r => r.word i)).getD 0)
  else if k = Reg.ALM_LIST_DATA_VALID.key then flag (mapGet s.alm.lists e {}).valid
  else if k = Reg.ALM_LIST_DATA_OFFSET.key then some (mapGet s.alm.lists e {}).off
  else none

/-- BOOT (Table STU-10). -/
def State.viewBoot (s : State) (k : Nat) : Option Nat :=
  if k = Reg.BOOT_NS_PENDING_COUNT.key then some ((s.nv.ns.filter fun e => !s.nsReady e.1).length)
  else none

/-- QENG (Tables QUE-6 to QUE-8). -/
def State.viewQeng (s : State) (k i : Nat) : Option Nat :=
  if k = Reg.QENG_POOL_FREE_FREE.key then some (s.poolFree i)
  else if k = Reg.QENG_INFLIGHT_RESERVE.key then some (s.ctxUsed true)
  else if k = Reg.QENG_INFLIGHT_GENERAL.key then some (s.ctxUsed false)
  else if k = Reg.QENG_TEN_LIMIT_LIMIT.key then some (s.limit i)
  else if k = Reg.QENG_TEN_INFLIGHT_COUNT.key then some (s.tenantInflight i)
  else none

/-- The VF number of a VF slot (R68): that of the link whose slots hold it; 0 for any other slot. -/
def State.slotVf (s : State) (t : Nat) : Nat :=
  match (List.range 8).find? fun l => decide (s.firstSlot l ≤ t) && decide (t < s.firstSlot l + s.totalVfs l) with
  | some l => t - s.firstSlot l + 1
  | none => 0

/-- TEN (Tables TEN-10, TEN-11). -/
def State.viewTen (s : State) (k t : Nat) : Option Nat :=
  let x := s.tenant t
  let nqn := mapGet s.nv.nqn t 0
  if k = Reg.TEN_STATE_STATE.key then some x.phase.code
  else if k = Reg.TEN_STATE_KIND.key then flag (s.charted && s.isFabric t)
  else if k = Reg.TEN_STATE_RESERVED_NQN.key then flag (nqn != 0)
  else if k = Reg.TEN_STATE_PATH.key then some x.path
  else if k = Reg.TEN_STATE_VF.key then some (s.slotVf t)
  else if k = Reg.TEN_EPOCH_EPOCH.key then some x.epoch
  else if k = Reg.TEN_WEIGHT_WEIGHT.key then some (s.weight t)
  else if k = Reg.TEN_COUNTS_ATTACH.key then some (s.attached t).length
  else if k = Reg.TEN_COUNTS_KEYS.key then some (s.keysOwned t)
  else if k = Reg.TEN_NQN_LO_HASH.key then some (wordOf nqn 0)
  else if k = Reg.TEN_NQN_HI_HASH.key then some (wordOf nqn 1)
  else none

/-- The namespace that ZONE_NS_SEL selects (R480). -/
def State.selectedNs (s : State) : Option Ns := s.ns? (s.rd Reg.ZONE_NS_SEL_NSID)

/-- ZONE (Tables ZON-5 to ZON-7). [DEDUCED, unsafe: log 137] -/
def State.viewZone (s : State) (k i : Nat) : Option Nat :=
  let n := s.selectedNs
  let pend := s.zone.secureSets.length
  let table := s.rd (Reg.DRAM_PART_BASE_MIB.at 2) * 2 ^ 20
  if k = Reg.ZONE_ACTIVE_COUNT.key then some (s.countZones (fun _ => true) ZoneSt.active)
  else if k = Reg.ZONE_OPEN_COUNT.key then some (s.countZones (fun _ => true) ZoneSt.isOpen)
  else if k = Reg.ZONE_TABLE_LO_ADDR.key then some (wordOf table 0)
  else if k = Reg.ZONE_TABLE_HI_ADDR.key then some (wordOf table 1)
  else if k = Reg.ZONE_SEC_STAT_PENDING.key then some (min pend 0xFFFF)
  else if k = Reg.ZONE_SEC_PENDING_COUNT.key then some pend
  else if k = Reg.ZONE_NS_ATTR_SECURE.key then flag ((n.map (·.secure)).getD false)
  else if k = Reg.ZONE_NS_LIMIT_OPEN_M1.key then some ((n.map (·.openM1)).getD 0)
  else if k = Reg.ZONE_NS_LIMIT_ACTIVE_M1.key then some ((n.map (·.activeM1)).getD 0)
  else if k = Reg.ZONE_NS_INFO_VALID.key then flag n.isSome
  else if k = Reg.ZONE_NS_INFO_KIND.key then some ((n.map fun x => if x.zoned then 1 else 2).getD 0)
  else if k = Reg.ZONE_NS_INFO_CONS.key then some ((n.map (·.cons)).getD 0)
  else if k = Reg.ZONE_CONS_ACTIVE_COUNT.key then some (s.countZones (fun id => s.nsCons id = some i) ZoneSt.active)
  else if k = Reg.ZONE_CONS_OPEN_COUNT.key then some (s.countZones (fun id => s.nsCons id = some i) ZoneSt.isOpen)
  else if k = Reg.ZONE_CONS_SETS_SLOTS.key then some (if s.charted then s.consSlots i else 0)
  else if k = Reg.ZONE_CONS_COMMIT_SLOTS.key then some (s.consCommit i)
  else none

/-- CELL (Tables CEL-5, CEL-6). -/
def State.viewCell (s : State) (k i : Nat) : Option Nat :=
  let g := s.cellGeneral
  let r := s.cellReserve
  let d := mapGet? s.cell.cells (s.rd Reg.CELL_DESC_SEL_HANDLE)
  let bitsOf := fun (p : Nat → Bool) => (p 0).toNat + 2 * (p 1).toNat + 4 * (p 2).toNat
  if k = Reg.CELL_STATUS_HOLD.key then flag (!s.cell.hold.isEmpty)
  else if k = Reg.CELL_STATUS_EMPTY.key then some (bitsOf fun p => decide (g p = 0))
  else if k = Reg.CELL_STATUS_RES_LOW.key then some (bitsOf fun p => decide (r p * 2 < s.poolReserve p))
  else if k = Reg.CELL_LEAF_FREE_RESERVE.key then some (r 0)
  else if k = Reg.CELL_LEAF_FREE_GENERAL.key then some (g 0)
  else if k = Reg.CELL_SHEET_FREE_RESERVE.key then some (r 1)
  else if k = Reg.CELL_SHEET_FREE_GENERAL.key then some (g 1)
  else if k = Reg.CELL_INGOT_FREE_RESERVE.key then some (r 2)
  else if k = Reg.CELL_INGOT_FREE_GENERAL.key then some (g 2)
  else if k = Reg.CELL_INGOT_INFO_RESERVE_SIZE.key then some (s.poolReserve 2)
  else if k = Reg.CELL_INGOT_INFO_COUNT.key then some s.ingots
  else if k = Reg.CELL_LOW_GENERAL.key then some (s.cell.low.getD i 0)
  else if k = Reg.CELL_DESC_LO_ALLOC.key then flag d.isSome
  else if k = Reg.CELL_DESC_LO_REFCNT.key then some ((d.map (·.refcnt)).getD 0)
  else if k = Reg.CELL_DESC_LO_FILL.key then some ((d.map (·.fill)).getD 0)
  else if k = Reg.CELL_DESC_HI_NEXT.key then some ((d.map (·.next)).getD 0)
  else none

/-- DSCH_DIE_STATE.OP (Table DSC-12); the reset of a die has no code and reads 0. [DESIGN CHOICE, unsafe: log 136] -/
def Die.opCode (x : Die) : Nat :=
  match x.busy with
  | .idle => if x.erase.isSome then 4 else 0
  | .running o =>
    (match o.kind with
      | .read => if x.erase.isSome then 6 else 1
      | .erase => 3
      | _ => if x.erase.isSome then 5 else 2)
  | .suspending _ _ => 7
  | .resuming _ => 7
  | .resetting => 0

/-- The suspends of the current erase. -/
def Die.suspends (x : Die) : Nat :=
  match x.erase with
  | some e => e.suspends
  | none => (x.run.map (·.suspends)).getD 0

/-- The selected ledger (R480). -/
def State.selectedLedger (s : State) : Ledger :=
  s.ledger (s.rd Reg.DSCH_LEDGER_SEL_OWNER) (s.rd Reg.DSCH_LEDGER_SEL_CONS)

/-- The dies of a channel. -/
def chanDies (c : Nat) : List Nat := (List.range 32).map (dieKey c)

/-- The device-wide registers of DSCH (Tables DSC-8 to DSC-11). -/
def State.viewDsch (s : State) (k i : Nat) : Option Nat :=
  let l := s.selectedLedger
  if k = Reg.DSCH_BUDGET_INFO_THROTTLE_PCT.key then some s.md.throttle
  else if k = Reg.DSCH_PRED_STATUS_COLD.key then flag (decide (s.md.meridians < 64))
  else if k = Reg.DSCH_PRED_STATUS_MERIDIANS.key then some (min s.md.meridians 64)
  else if k = Reg.DSCH_LEDGER_BAL_DIE_US.key then some (if l.exists_ then dieUs 32 l.bal else 0)
  else if k = Reg.DSCH_LEDGER_GRANT_VALID.key then flag l.exists_
  else if k = Reg.DSCH_LEDGER_GRANT_DIE_US.key then some (l.grant / 256)
  else if k = Reg.DSCH_LEDGER_MET_COUNT.key then some (min l.met 0xFFFFFFFF)
  else if k = Reg.DSCH_LEDGER_MISSED_COUNT.key then some (min l.missed 0xFFFFFFFF)
  else if k = Reg.DSCH_LEDGER_LOST_COUNT.key then some (min l.lost 0xFFFFFFFF)
  else if k = Reg.DSCH_LEDGER_OCC_COUNT.key then some (min l.occ 0xFFFFFFFF)
  else if k = Reg.DSCH_CONS_MODE_CURRENT.key then flag (mapGet s.md.mode i false)
  else if k = Reg.DSCH_CONS_MODE_COMPLIANT.key then flag (s.md.compliant.contains i)
  else none

/-- The channel registers of DSCH (Table DSC-12): channel `c`, die position `d`, class `x`. -/
def State.viewChan (s : State) (k c d x : Nat) : Option Nat :=
  let die := s.die (dieKey c d)
  let sel := dieKey c (s.rd (Reg.DSCH_PRED_SEL_DIE.at c))
  let kind := s.rd (Reg.DSCH_PRED_SEL_KIND.at c)
  if k = Reg.DSCH_CH_STATUS_DIES.key then some ((chanDies c).filter s.populated).length
  else if k = Reg.DSCH_CH_STATUS_BUSY.key then some ((chanDies c).filter fun y => decide ((s.die y).busy ≠ .idle)).length
  else if k = Reg.DSCH_CH_STATUS_QUEUED.key then some ((chanDies c).map fun y => (s.die y).queue.length).sum
  else if k = Reg.DSCH_DIE_STATE_OP.key then some die.opCode
  else if k = Reg.DSCH_DIE_STATE_SUSPENDS.key then some die.suspends
  else if k = Reg.DSCH_DIE_STATE_POPULATED.key then flag (s.populated (dieKey c d))
  else if k = Reg.DSCH_DIE_STATE_COLD.key then flag ((List.range 4).any fun y => s.cold (dieKey c d) y)
  else if k = Reg.DSCH_DIE_STATE_RESERVE_USED.key then some (die.queue.filter fun o => o.reserve).length
  else if k = Reg.DSCH_DIE_STATE_GENERAL_USED.key then some (die.queue.filter fun o => !o.reserve).length
  else if k = Reg.DSCH_CLASS_TOKENS_DIE_US.key then some (dieUs 24 (s.tok (dieKey c d) x))
  else if k = Reg.DSCH_RESERVE_TOKENS_DIE_US.key then some (dieUs 24 (s.tok (dieKey c d) 8))
  else if k = Reg.DSCH_PRED_VAL_COLD.key then flag (s.cold sel kind)
  else if k = Reg.DSCH_PRED_VAL_DEVIATION.key then some (min ((s.predOf sel kind).dev / 256) 0x7FFF)
  else if k = Reg.DSCH_PRED_VAL_MEAN.key then some (min ((s.predOf sel kind).mean / 256) 0xFFFF)
  else none

/-- The block that MEDIA_BLK_SEL selects. -/
def State.selectedBlock (s : State) : Option Block :=
  mapGet? s.nv.blocks
    (blockKey (dieKey (s.rd Reg.MEDIA_BLK_SEL_CHANNEL) (s.rd Reg.MEDIA_BLK_SEL_DIE)) (s.rd Reg.MEDIA_BLK_SEL_BLOCK))

/-- FLAGS of a block state table entry (Table MED-6). -/
def Block.flags (b : Block) : Nat :=
  b.weak.toNat + 2 * (b.reerases % 4) + 8 * b.lwAssay.toNat + 16 * b.new.toNat + 64 * (b.weakCount % 4)

/-- MEDIA (Tables MED-15 to MED-17): `i` and `j` are a member, or a channel and a die position. -/
def State.viewMedia (s : State) (k i j : Nat) : Option Nat :=
  let b := s.selectedBlock
  let d := dieKey i j
  let mine := s.diesUp.filter fun e => dieMember e == i
  if k = Reg.MEDIA_STATUS_READ_ONLY.key then flag s.nv.readOnly
  else if k = Reg.MEDIA_STATUS_SPARE_WARN.key then flag s.spareWarn
  else if k = Reg.MEDIA_ENDURANCE_CYCLES.key then some s.nv.cycles
  else if k = Reg.MEDIA_RAW_CTRL_PERMITTED.key then flag s.boot.dbgUnlocked
  else if k = Reg.MEDIA_BLK_INFO_VALID.key then flag b.isSome
  else if k = Reg.MEDIA_BLK_INFO_STATE.key then some ((b.map fun x => x.st.code).getD 0)
  else if k = Reg.MEDIA_BLK_INFO_POOL.key then some ((b.map (·.pool)).getD 0)
  else if k = Reg.MEDIA_BLK_INFO_FLAGS.key then some ((b.map fun x => x.flags).getD 0)
  else if k = Reg.MEDIA_BLK_INFO_NEXT_PAGE.key then some ((b.map (·.nextPage)).getD 0)
  else if k = Reg.MEDIA_BLK_WEAR_ERASE_COUNT.key then some (min ((b.map (·.eraseCount)).getD 0) 0xFFFFF)
  else if k = Reg.MEDIA_BLK_WEAR_READ_K.key then some (min ((b.map (·.readCount)).getD 0 / 1024) 0xFFF)
  else if k = Reg.MEDIA_MEMBER_HEALTH_SPARE_PCT.key then some (if s.members.contains i then (s.spareFields mine).1 else 0)
  else if k = Reg.MEDIA_MEMBER_HEALTH_WEAR_PCT.key then some (s.spareFields mine).2.2
  else if k = Reg.MEDIA_MEMBER_HEALTH_FINAL.key then flag (mine.any fun e => decide (s.spares e ≤ s.chart.cur.media.finalReserve))
  else if k = Reg.MEDIA_MEMBER_HEALTH_SPARE_WARN.key then flag (mine.any fun e => decide (s.spares e ≤ s.chart.cur.media.spareMin))
  else if k = Reg.MEDIA_DIE_SPARE_IN_SERVICE.key then flag (s.dieUp d)
  else if k = Reg.MEDIA_DIE_SPARE_FAILED.key then flag (s.die d).failed
  else if k = Reg.MEDIA_DIE_SPARE_SPARE.key then some (s.spares d)
  else if k = Reg.MEDIA_DIE_SPARE_RETIRED.key then some (s.retired d)
  else none

/-- The populated members that are not in service. -/
def State.outMembers (s : State) : List Nat := s.members.filter fun m => !s.memberUp m

/-- The member that is being rebuilt. -/
def State.rebuilding (s : State) : Option Nat := s.md.rebuildQueue.head?

/-- Per cent of a member's rebuild. -/
def State.rebuildPct (s : State) (m : Nat) : Nat :=
  let x := s.member m
  match x.st with
  | .inService => 100
  | .rebuilding => if s.rebuilding ≠ some m then 0 else if x.total = 0 then 100 else min (100 * x.rebuilt.length / x.total) 100
  | _ => 0

/-- CRU (Tables RED-8 to RED-12). [DESIGN CHOICE, unsafe: log 136] -/
def State.viewCru (s : State) (k m : Nat) : Option Nat :=
  if k = Reg.CRU_STATUS_DEGRADED.key then flag (!s.outMembers.isEmpty)
  else if k = Reg.CRU_STATUS_REBUILD.key then flag s.rebuilding.isSome
  else if k = Reg.CRU_STATUS_RESYNC.key then flag (!s.md.resyncLeft.isEmpty)
  else if k = Reg.CRU_STATUS_COLUMN_RELOC.key then flag (s.md.reloc.any fun e => e.2.why == 3)
  else if k = Reg.CRU_STATUS_IN_SERVICE.key then some (s.members.filter s.memberUp).length
  else if k = Reg.CRU_STATUS_OUT_MASK.key then some ((s.outMembers.map fun x => 2 ^ x).sum)
  else if k = Reg.CRU_REBUILD_STATUS_ACTIVE.key then flag s.rebuilding.isSome
  else if k = Reg.CRU_REBUILD_STATUS_MEMBER.key then some (s.rebuilding.getD 0)
  else if k = Reg.CRU_REBUILD_STATUS_QUEUED.key then some (s.md.rebuildQueue.length - 1)
  else if k = Reg.CRU_DIRTY_REGIONS.key then some s.nv.dirty.length
  else if k = Reg.CRU_RESYNC_ACTIVE.key then flag (!s.md.resyncLeft.isEmpty)
  else if k = Reg.CRU_RESYNC_FULL.key then flag s.md.resyncFull
  else if k = Reg.CRU_RESYNC_REMAINING.key then some s.md.resyncLeft.length
  else if k = Reg.CRU_RMW_NS_ENABLE.key then flag ((s.selectedNs.map (·.rmw)).getD false)
  else if k = Reg.CRU_ROWX_USED.key then some s.nv.rowx.length
  else if k = Reg.CRU_LANES_BUSY.key then some ((s.md.job.filterMap fun e => e.2.lane.map fun n => 2 ^ n).sum)
  else if k = Reg.CRU_MEMBER_STATE_STATE.key then some (if s.members.contains m then (s.member m).st.code else 15)
  else if k = Reg.CRU_MEMBER_STATE_CAUSE.key then some (s.member m).cause
  else if k = Reg.CRU_MEMBER_STATE_DIES_FAILED.key then
    some ((s.allDies.filter fun d => dieMember d == m && (s.die d).failed).length)
  else if k = Reg.CRU_MEMBER_STATE_PROGRESS.key then some (if s.members.contains m then s.rebuildPct m else 0)
  else none

/-- DRAM and ECC (Tables DRM-7, DRM-9). A channel of the chart in force counts as trained from the seal. [DEDUCED, unsafe: log 138]
-/
def State.viewDram (s : State) (k i : Nat) : Option Nat :=
  let up := decide (s.chart.phase = .sealed) || decide (s.chart.phase = .draining) || decide (s.chart.phase = .safe)
  let n := if up then s.chart.cur.dram.channels else 0
  let sel := 16 * (2 * s.rd Reg.ECC_DEV_SEL_CHANNEL + s.rd Reg.ECC_DEV_SEL_SUBCH) + s.rd Reg.ECC_DEV_SEL_POSITION
  if k = Reg.DRAM_STATUS_TRAINED.key then some (2 ^ n - 1)
  else if k = Reg.DRAM_CH_STATUS_TRAINED.key then flag (decide (i < n))
  else if k = Reg.DRAM_FILL_STATUS_FILLED.key then some ((s.dram.filled.map (·.2)).sum)
  else if k = Reg.ECC_DEV_COUNT_COUNT.key then some (min (mapGet s.dram.devCount sel 0) 0xFFFF)
  else none

/-- KEY (Tables KEY-5 to KEY-8). -/
def State.viewKey (s : State) (k i : Nat) : Option Nat :=
  let n := s.rd Reg.KEY_SLOT_SEL_SLOT
  let x := s.keySlot? n
  let o := s.boot.otp
  if k = Reg.KEY_STATUS_SPENT.key then some (mapCount s.key.slots fun _ y => y.spent)
  else if k = Reg.KEY_STATUS_LOADED.key then some (mapCount s.key.slots fun _ y => !y.spent)
  else if k = Reg.KEY_SLOT_INFO_STATE.key then
    some (if s.key.wiped then 3 else match x with | some y => (if y.spent then 2 else 1) | none => 0)
  else if k = Reg.KEY_SLOT_INFO_KIND.key then some ((x.map fun y => y.kind.code).getD 0)
  else if k = Reg.KEY_SLOT_INFO_POOL.key then flag (s.charted && s.systemSlot n)
  else if k = Reg.KEY_SLOT_INFO_OWNER.key then some ((x.map (·.owner)).getD 0)
  else if k = Reg.KEY_SLOT_COUNT_LO_COUNT.key then some (wordOf ((x.map (·.count)).getD 0) 0)
  else if k = Reg.KEY_SLOT_COUNT_HI_COUNT.key then some (wordOf ((x.map (·.count)).getD 0) 1)
  else if k = Reg.KEY_SLOT_NS_COUNT.key then some (s.boundTo n).length
  else if k = Reg.KEY_NS_BIND_SLOT.key then some ((s.selectedNs.bind (·.keySlot)).getD 0)
  else if k = Reg.KEY_OTP_SERIAL_LO_SERIAL.key then some (wordOf o.serial 0)
  else if k = Reg.KEY_OTP_SERIAL_HI_SERIAL.key then some (wordOf o.serial 1)
  else if k = Reg.KEY_OTP_LOT_LO_LOT.key then some (wordOf o.lot 0)
  else if k = Reg.KEY_OTP_LOT_HI_LOT.key then some (wordOf o.lot 1)
  else if k = Reg.KEY_OTP_STATUS_SERIAL_PROG.key then flag (o.serial != 0)
  else if k = Reg.KEY_OTP_STATUS_LOT_PROG.key then flag (o.lot != 0)
  else if k = Reg.KEY_OTP_STATUS_ROOT_PROG.key then flag (o.rootHash != 0)
  else if k = Reg.KEY_OTP_STATUS_SEED_PROG.key then flag (o.kekSeed != 0)
  else if k = Reg.KEY_OTP_STATUS_LOCKED.key then flag o.locked
  else if k = Reg.KEY_OTP_STATUS_CRC_OK.key then flag o.crcOk
  else if k = Reg.KEY_OTP_ROOTHASH_HASH.key then some (wordOf o.rootHash i)
  else none

/-- The ports mode of logical port `p`, and whether `p` is one of its logical ports. -/
def State.portMode (s : State) (p : Nat) : Nat := if s.charted then s.chart.cur.ports.nMode.getD (p / 4) 0 else 0

/-- The selected address entry (R307). -/
def State.selectedAddr (s : State) : Option NetAddr :=
  mapGet? s.net.addrs (8 * s.rd Reg.NET_ADDR_SEL_PORT + 4 * s.rd Reg.NET_ADDR_SEL_IPV6 + s.rd Reg.NET_ADDR_SEL_INDEX)

/-- SERVE and NET (Tables SRV-13 to SRV-19). An address stands with its first byte in bits 31:24 of the first data
register. -/
def State.viewNet (s : State) (k p : Nat) : Option Nat :=
  let x : NetPort := mapGet s.net.ports p {}
  let mode := s.portMode p
  let a := s.selectedAddr
  let q : Sqp := mapGet s.net.sqps (s.rd Reg.NET_SQP_SEL_HANDLE) {}
  if k = Reg.SERVE_STATUS_ENGINE_BUSY.key then
    some (((List.range 16).filter fun e => mapAny s.serve.runs fun _ r => r.engine == e).map fun e => 2 ^ e).sum
  else if k = Reg.SERVE_STATUS_CONTEXTS.key then some s.serve.runs.length
  else if k = Reg.NET_PORT_STATUS_UP.key then flag x.up
  else if k = Reg.NET_PORT_STATUS_SPEED.key then
    some (if !x.up then 0 else if mode = 1 then 3 else if mode = 2 then 2 else 1)
  else if k = Reg.NET_PORT_STATUS_MODE.key then some (if mode = 4 then 3 else mode)
  else if k = Reg.NET_PORT_STATUS_FEC_LOCK.key then flag x.up
  else if k = Reg.NET_PORT_STATUS_PTP_SOURCE.key then flag (decide (p % 4 = 0) && decide (s.time.source = p / 4 + 1))
  else if k = Reg.NET_PORT_STATUS_PAUSED.key then some x.paused
  else if k = Reg.NET_QP_COUNT_IN_USE.key then some s.net.qps.length
  else if k = Reg.NET_ADDR_DATA_ADDR.key then
    some ((a.map fun y => if s.on Reg.NET_ADDR_SEL_IPV6 then wordOf y.addr (3 - p) else if p = 0 then y.addr else 0).getD 0)
  else if k = Reg.NET_ADDR_ATTR_VALID.key then flag ((a.map (·.valid)).getD false)
  else if k = Reg.NET_ADDR_ATTR_PREFIX.key then some ((a.map (·.prefix_)).getD 0)
  else if k = Reg.NET_ADDR_ATTR_VLAN_ID.key then some ((a.map (·.vlan)).getD 0)
  else if k = Reg.NET_SQP_STATUS_STATE.key then some q.st.code
  else if k = Reg.NET_SQP_STATUS_OWNER.key then some q.owner
  else none

/-- HOST (Tables HST-12, HST-13). -/
def State.viewHost (s : State) (k l : Nat) : Option Nat :=
  if k = Reg.HOST_FN_INFO_FIRST_SLOT.key then some (if s.totalVfs l = 0 then 0 else s.firstSlot l)
  else if k = Reg.HOST_FN_INFO_VF_COUNT.key then some (s.totalVfs l)
  else if k = Reg.HOST_MI_STATUS_MGR.key then some s.boot.straps.mgr
  else if k = Reg.HOST_MI_STATUS_MI_MANAGER.key then flag (decide (s.boot.manager = .mi))
  else none

/-- PAIR (Tables PAI-6, PAI-7). -/
def State.viewPair (s : State) (k i : Nat) : Option Nat :=
  if k = Reg.PAIR_STATUS_STATE.key then some (if s.isPair then s.nv.pairSt.code else 15)
  else if k = Reg.PAIR_STATUS_SIDE.key then some s.boot.straps.pair
  else if k = Reg.PAIR_STATUS_FENCE_OUT.key then flag s.pair.asserted
  else if k = Reg.PAIR_STATUS_FENCE_IN.key then flag s.boot.pins.fenceIn
  else if k = Reg.PAIR_STATUS_LINK_UP.key then flag s.pair.linkUp
  else if k = Reg.PAIR_EPOCH_EPOCH.key then some s.nv.pairEpoch
  else if k = Reg.PAIR_DIVERGE_REGIONS.key then some s.nv.diverge.length
  else if k = Reg.PAIR_RESYNC_ACTIVE.key then flag (s.isPair && decide (s.nv.pairSt = .resync))
  else if k = Reg.PAIR_RESYNC_REMAINING.key then some s.pair.left.length
  else if k = Reg.PAIR_HOME_SIDE_B.key then some (mapGet s.pair.homeWant i (s.rd (Reg.PAIR_HOME_SIDE_B.at i)))
  else if k = Reg.PAIR_MIRROR_CREDIT_MIB.key then some ((s.pair.granted + 255) / 256)
  else none

/-- DBG (Table REG-8). -/
def State.viewDbg (s : State) (k : Nat) : Option Nat :=
  let b := s.boot
  if k = Reg.DBG_STATUS_UNLOCKED.key then flag b.dbgUnlocked
  else if k = Reg.DBG_STATUS_JTAG_OPEN.key then flag b.jtagOpen
  else if k = Reg.DBG_STATUS_POLICY.key then some b.policyInForce
  else if k = Reg.DBG_STATUS_ROW_LOCKED.key then flag b.otp.locked
  else if k = Reg.DBG_CHALLENGE_LO_VALUE.key then some (if s.key.wiped then 0 else wordOf b.challenge 0)
  else if k = Reg.DBG_CHALLENGE_HI_VALUE.key then some (if s.key.wiped then 0 else wordOf b.challenge 1)
  else none

/-- What a field that is computed from the state reads as; `none` for a field that the table of the state holds. -/
def State.view (s : State) (f : Field) (ix : List Nat) : Option Nat :=
  let k := f.key
  let i := ix.getD 0 0
  let j := ix.getD 1 0
  if f.addr < 0x20000 then s.viewDev k i
  else if f.addr < 0x30000 then s.viewTime k
  else if f.addr < 0x50000 then s.viewPwr k i
  else if f.addr < 0x80000 then s.viewEvt k i
  else if f.addr < 0x100000 then s.viewBoot k
  else if f.addr < 0x200000 then s.viewQeng k i
  else if f.addr < 0x300000 then s.viewTen k i
  else if f.addr < 0x380000 then s.viewZone k i
  else if f.addr < 0x400000 then s.viewCell k i
  else if f.addr < 0x401000 then s.viewDsch k i
  else if f.addr < 0x500000 then s.viewChan k i j (ix.getD 2 0)
  else if f.addr < 0x600000 then s.viewMedia k i j
  else if f.addr < 0x700000 then s.viewCru k i
  else if f.addr < 0x800000 then s.viewDram k i
  else if f.addr < 0x900000 then s.viewKey k i
  else if f.addr < 0xB00000 then s.viewNet k i
  else if f.addr < 0xC00000 then s.viewHost k i
  else if f.addr < 0xF00000 then s.viewPair k i
  else s.viewDbg k

/-- A field's value as the block itself sees it. -/
def State.value (s : State) (f : Field) (ix : List Nat) (a : Nat) : Nat :=
  match s.view f ix with
  | some v => v % 2 ^ f.width
  | none => s.rd { f with addr := a, dims := [] }

/-- The dword at window offset `off` without any side effect; write-only fields read 0 (R7). -/
def State.peek (s : State) (off : Nat) : Nat :=
  let a := canonical off
  (fieldsAt a).foldl (fun w p => if p.1.acc = .wo then w else w + s.value p.1 p.2 a * 2 ^ p.1.lo) 0

end Sys2Proof.Machine
end

