-- ==== Sys2Proof/Machine/Ops.lean ====
section
/-! DEFINITION. The operations every family shares: events and the almanac (R444 to R451), interrupts (R71, R110),
asynchronous events, completions (R109), and the queries over commands, controllers and the chart. -/

namespace Sys2Proof.Machine

/-- POR_N is high and no thermal trip holds the block off (R429, R495). [DESIGN CHOICE, unsafe: log 10] -/
def State.alive (s : State) : Bool := s.boot.porN && !s.power.tripped

/-- A command's effect: its outputs replace those of the command before. While POR_N is low, or after a thermal trip, the block is
off, and no command has an effect (R429, R495). [DESIGN CHOICE, safe: log 4, 13] -/
def effect (s : State) (f : State → State) : Host.Outcome State Fault Refusal :=
  .next (if s.alive then f { s with out := [] } else { s with out := [] })

/-- R481: a control register acts only on the unlock value of Table REG-3; another value is ignored and counted. -/
def State.unlocked (s : State) (given want : Nat) (f : State → State) : State :=
  if given = want then f s else s.bump Reg.DEV_ACC_ERR_UNLOCK

/-! ### Identities -/

/-- The OWNER of the manager's controller, when the manager is a PF (R19). -/
def State.managerOwner (s : State) : Option Nat :=
  match s.boot.manager with
  | .pf link => some (pfOwner link)
  | .mi => none

/-- Change a controller. -/
def State.modCtrl (s : State) (owner : Nat) (f : Ctrl → Ctrl) : State :=
  { s with host := { s.host with ctrls := mapPut s.host.ctrls owner (f (s.ctrl owner)) {} } }

/-- Change a queue context. -/
def State.modCtx (s : State) (owner qid : Nat) (f : QCtx → QCtx) : State :=
  { s with q := { s.q with ctx := mapPut s.q.ctx (qKey owner qid) (f (s.qctx owner qid)) {} } }

/-- The command context of a command, when it holds one. -/
def State.cmd? (s : State) (r : CmdRef) : Option Cmd := mapGet? s.q.cmds (cmdKey r)

/-- Change a command context. -/
def State.modCmd (s : State) (r : CmdRef) (f : Cmd → Cmd) : State :=
  { s with q := { s.q with cmds := mapMod s.q.cmds (cmdKey r) f } }

/-! Changes of one part of the state. -/

def State.updTime (s : State) (f : TimeState → TimeState) : State := { s with time := f s.time }
def State.updAlm (s : State) (f : AlmState → AlmState) : State := { s with alm := f s.alm }
def State.updQ (s : State) (f : QueueState → QueueState) : State := { s with q := f s.q }
def State.updPower (s : State) (f : PowerState → PowerState) : State := { s with power := f s.power }
def State.updChart (s : State) (f : ChartState → ChartState) : State := { s with chart := f s.chart }
def State.updBoot (s : State) (f : BootState → BootState) : State := { s with boot := f s.boot }
def State.updJr (s : State) (f : Journal → Journal) : State := { s with jr := f s.jr }
def State.updWp (s : State) (f : WriteState → WriteState) : State := { s with wp := f s.wp }
def State.updZone (s : State) (f : ZoneState → ZoneState) : State := { s with zone := f s.zone }
def State.updMd (s : State) (f : MediaState → MediaState) : State := { s with md := f s.md }
def State.updKey (s : State) (f : KeyState → KeyState) : State := { s with key := f s.key }
def State.updTen (s : State) (f : TenantState → TenantState) : State := { s with ten := f s.ten }
def State.updPair (s : State) (f : PairState → PairState) : State := { s with pair := f s.pair }
def State.updNet (s : State) (f : NetState → NetState) : State := { s with net := f s.net }
def State.updServe (s : State) (f : ServeState → ServeState) : State := { s with serve := f s.serve }
def State.updCell (s : State) (f : CellState → CellState) : State := { s with cell := f s.cell }
def State.updDram (s : State) (f : DramState → DramState) : State := { s with dram := f s.dram }

/-- The next free value (log entry 5). [DESIGN CHOICE, safe: log 5] -/
def State.fresh (s : State) : Nat := Config.freeValue s.freeCtr

/-- Move on to the next free value. [DESIGN CHOICE, safe: log 5] -/
def State.nextFree (s : State) : State := { s with freeCtr := s.freeCtr + 1 }

/-! ### The chart in force -/

/-- Is the member FAILED (Table RED-12)? -/
def State.memberFailed (s : State) (m : Nat) : Bool := decide ((mapGet s.nv.members m {}).st = .failed)

/-- R3: secure discard is offered in M1 and M0 only. -/
def State.secureOffered (s : State) : Bool := s.charted && s.chart.cur.magnitude ≤ 1

/-! ### The almanac (R446 to R452) -/

/-- The ring's size (R451), the shadow's (R449), the flash area's, the step of the high-water mark (R447). -/
def ringSlots : Nat := 16384
def shadowSlots : Nat := 16
def flashRecords : Nat := 1048576
def markStep : Nat := 16384

/-- The snapshots of a source: the values at the offsets of its list, a register of a sleeping domain stored with ASLEEP and all
ones (R450, Table MBX-3). [DESIGN CHOICE, unsafe: log 91] -/
def State.snapshots (s : State) (n : Nat) : List (Nat × Bool × Nat) :=
  let list := s.rd (Reg.EVT_ROUTE_LIST.at n)
  (s.alm.lists.filter fun e => e.1 / 16 == list && e.2.valid).map fun e =>
    if (s.domain (domainOf e.2.off)).state = .on then (e.2.off, false, s.peek e.2.off) else (e.2.off, true, 0xFFFFFFFF)

/-- The operating seconds over the device's life: those of the last flush before the cold reset, and since (R447). -/
def State.opSeconds (s : State) : Nat := s.alm.opSeconds + s.time.now / 1000000000

/-- The record of an occurrence made now, with no sequence number yet. -/
def State.record (s : State) (n : Nat) (detail : List Int) (cause : Nat) : AlmRec :=
  { seq := 0, sidereal := s.time.sid, opSeconds := s.opSeconds, lock := s.time.lock,
    traceable := s.time.traceable, shadow := false, snaps := s.snapshots n, powerCycles := s.alm.powerCycles,
    event := n, cause := cause, rep := 0, detail := detail, born := s.time.now }

/-- Enter a record in the ring under the next sequence number, moving the mark first when the number would pass it (R447). [DESIGN
CHOICE, unsafe: log 15] -/
def AlmState.push (a : AlmState) (r : AlmRec) : AlmState :=
  { a with
    seq := a.seq + 1
    mark := if a.mark < a.seq + 1 then a.seq + 1 + markStep else a.mark
    ring := { r with seq := a.seq + 1 } :: a.ring }

/-- Does an occurrence fold into record `r` (R448)? -/
def foldsInto (r : AlmRec) (n cause now : Nat) : Bool :=
  decide (r.event = n) && decide (r.cause = cause) && decide (now - r.born < 1000000000) && decide (r.rep < 65535)

/-- Add an occurrence to the almanac: to the PD00 shadow before the counters are resumed (R449, R463 step 1) and at a trip, folded
into the newest unflushed record (R448), or as a new record; a full ring drops it, or on the ROM safe chart loses its oldest
record (R451). [DEDUCED, unsafe: log 25, 107] -/
def State.almNext (s : State) (n : Nat) (detail : List Int) (cause : Nat) : AlmState :=
  let a := s.alm
  let r := s.record n detail cause
  if !s.alm.resumed || s.power.tripped then
    if a.shadow.length < shadowSlots then { a with shadow := { r with shadow := true } :: a.shadow }
    else { a with shadowLost := a.shadowLost + 1 }
  else
    match a.ring with
    | h :: t =>
      if foldsInto h n cause s.time.now then { a with ring := { h with rep := h.rep + 1 } :: t }
      else if (h :: t).length < ringSlots then a.push r
      else if s.chart.phase = .safe then { a with ring := (h :: t).dropLast }.push r
      else { a with lostPending := a.lostPending + 1 }
    | [] => a.push r

/-- Does an occurrence find the ring full? -/
def State.ringFull (s : State) (n cause : Nat) : Bool :=
  s.alm.resumed && !s.power.tripped && decide (ringSlots ≤ s.alm.ring.length) &&
    !(match s.alm.ring with | h :: _ => foldsInto h n cause s.time.now | [] => false)

/-! ### Interrupts (R71, R445) -/

/-- Is a vector of a controller masked (R71)? After the reset of its function every vector is masked (log entry 8). [PRESUMED,
unsafe: log 8] -/
def Ctrl.isMasked (c : Ctrl) (v : Nat) : Bool := c.fnMask || !c.unmasked.contains v

/-- Send an MSI-X vector, or set its pending bit while it is masked (R71). -/
def State.msix (s : State) (owner v : Nat) : State :=
  let c := s.ctrl owner
  if c.isMasked v then
    if c.pba.contains v then s else s.modCtrl owner fun c => { c with pba := c.pba ++ [v] }
  else s.emit [Out.msix owner v]

/-! ### Events (R444, R445) -/

/-- Count one occurrence of a source (R444). -/
def EvtState.count (e : EvtState) (n : Nat) (suppressed : Bool) : EvtState :=
  let c : EvtCount := mapGet e.counts n {}
  let c' : EvtCount := ⟨c.occurred + 1, if suppressed then c.suppressed + 1 else c.suppressed⟩
  { e with counts := mapSet e.counts n c' }

/-- Deliver an occurrence (R445): to firmware with FW = 1; with MGR = 1 set the pending bit, and send the vector of
the manager's PF when the bit rises. -/
def State.deliver (s : State) (n : Nat) : State :=
  let s := if s.on (Reg.EVT_ROUTE_FW.at n) then s.emit [.clusterInterrupt (s.rd (Reg.EVT_ROUTE_FW_CLUSTER.at n))] else s
  if s.on (Reg.EVT_ROUTE_MGR.at n) then
    let f := Reg.EVT_PENDING_BITS.at (n / 32)
    let w := s.rd f
    if bit w (n % 32) then s
    else
      let s := s.wr f (w + 2 ^ (n % 32))
      match s.managerOwner with
      | some o => s.msix o (s.rd (Reg.EVT_ROUTE_VECTOR.at n))
      | none => s
  else s

/-- An event source occurs (R444): it is counted, recorded or folded in the almanac, and then delivered. -/
def State.occurs (s : State) (n : Nat) (detail : List Int) (cause : Nat) : State :=
  let full := s.ringFull n cause
  let s := { s with evt := s.evt.count n false, alm := s.almNext n detail cause }
  let s := if full then
      if s.chart.phase = .safe then s.bump Reg.ALM_DROPPED_OVERWRITTEN else s.bump Reg.ALM_DROPPED_DROPPED
    else s
  (s.wr Reg.EVT_STATUS_LAST n).deliver n

/-- Have records been dropped, and does the ring have space again (R451)? -/
def State.lossToTell (s : State) : Bool :=
  s.alm.resumed && !s.power.tripped && s.alm.lostPending != 0 && decide (s.alm.ring.length < ringSlots)

/-- An event of the device (R444): the first record after dropped ones is EV1120 with their count (R451). -/
def State.event (s : State) (n : Nat) (detail : List Int := []) (cause : Nat := 0) : State :=
  let s := if s.lossToTell then (s.updAlm fun a => { a with lostPending := 0 }).occurs 1120 [s.alm.lostPending] 0 else s
  s.occurs n detail cause

/-- An occurrence beyond its chapter's rate limit (R444): counted, and neither recorded nor delivered. -/
def State.suppressed (s : State) (n : Nat) : State :=
  ({ s with evt := s.evt.count n true }).wr Reg.EVT_STATUS_LAST n

/-- An event that is recorded at most once per `period` ns for each `key`. -/
def State.eventPer (s : State) (n key period : Nat) (detail : List Int := []) : State :=
  let k := n * 2 ^ 40 + key
  match mapGet? s.evt.marks k with
  | some t =>
    if s.time.now - t < period then s.suppressed n
    else { s.event n detail with evt := { (s.event n detail).evt with marks := mapSet s.evt.marks k s.time.now } }
  | none =>
    { s.event n detail with evt := { (s.event n detail).evt with marks := mapSet s.evt.marks k s.time.now } }

/-- An event that is recorded at most once for each `key` in one meridian period. -/
def State.eventPerMeridian (s : State) (n key : Nat) (detail : List Int := []) : State :=
  let k := n * 2 ^ 40 + key
  if mapGet? s.evt.marks k = some s.time.mseq then s.suppressed n
  else { s.event n detail with evt := { (s.event n detail).evt with marks := mapSet s.evt.marks k s.time.mseq } }

/-! ### Completions and asynchronous events (R109, R166) -/

/-- The command ends with a status; its completion entry is written by COMPLETION_POST. A command that holds no
context (its controller was reset) ends nowhere. -/
def State.finish (s : State) (r : CmdRef) (st : Status) (dw0 : Nat := 0) (dw1 : Nat := 0) : State :=
  s.modCmd r fun c =>
    match c.phase with
    | .done _ _ _ => c
    | _ => { c with phase := .done st dw0 dw1 }

/-- Does a command hold its context and still run? -/
def State.runs (s : State) (r : CmdRef) : Bool :=
  match s.cmd? r with
  | some c => match c.phase with
    | .done _ _ _ => false
    | _ => true
  | none => false

/-- Run a command's effect while it holds its context and has not ended. -/
def State.running (s : State) (r : CmdRef) (f : State → State) : State := if s.runs r then f s else s

/-- The command waits inside its executing stage. [DESIGN CHOICE, unsafe: log 9] -/
def State.hold (s : State) (r : CmdRef) (why : Nat := 0) : State :=
  s.modCmd r fun c => { c with phase := .waiting why }

/-- What masks an event until its log page is read (R166): its type, and for a vendor event its log. -/
def aenKey (kind info : Nat) : Nat := if kind = 7 then info else kind

/-- Post an asynchronous event (R166): the oldest outstanding request of the controller completes with it, an event of a type that
still waits for its log page to be read is kept, and so is one that finds no request. [PRESUMED, unsafe: log 12; DESIGN CHOICE,
unsafe: log 156, 169] -/
def State.aen (s : State) (owner kind info page : Nat) : State :=
  let c := s.ctrl owner
  match c.aers with
  | r :: rest =>
    if c.aenMasked.contains (aenKey kind info) then
      s.modCtrl owner fun c =>
        if c.aenPending.contains (kind, info, page) then c
        else { c with aenPending := c.aenPending ++ [(kind, info, page)] }
    else
      let s := s.modCtrl owner fun c => { c with aers := rest, aenMasked := aenKey kind info :: c.aenMasked }
      (s.finish r .success (kind + info * 256 + page * 65536)).emit [.aen owner kind info page]
  | [] =>
    s.modCtrl owner fun c =>
      if c.aenPending.contains (kind, info, page) then c
      else { c with aenPending := c.aenPending ++ [(kind, info, page)] }

/-- A read of the log page with RAE = 0 clears the events of that key: a vendor event that waits is gone (R166), and the next one
can be posted. [PRESUMED, unsafe: log 12] -/
def State.aenClear (s : State) (owner key : Nat) : State :=
  let s := s.modCtrl owner fun c => { c with
    aenMasked := c.aenMasked.filter (· ≠ key)
    aenPending := c.aenPending.filter fun e => !(e.1 == 7 && aenKey e.1 e.2.1 == key) }
  match (s.ctrl owner).aenPending.find? fun e => decide (aenKey e.1 e.2.1 = key) with
  | some (k, i, p) =>
    if (s.ctrl owner).aers.isEmpty then s
    else
      let s := s.modCtrl owner fun c => { c with aenPending := c.aenPending.filter (· ≠ (k, i, p)) }
      s.aen owner k i p
  | none => s

/-- The controller reports a fatal status and stops fetching (R75, R93): EV0137, with its link (R89). -/
def State.fatal (s : State) (owner : Nat) : State :=
  (s.modCtrl owner fun c => { c with cfs := true }).event 137 [s.linkOf owner, owner]

/-! ### Capabilities of every controller (R93, R106) -/

/-- CAP.MQES (R93). [PRESUMED, unsafe: log 194] -/
def capMqes : Nat := 65535
/-- CAP.CQR (R93): queues are contiguous. [PRESUMED, unsafe: log 194] -/
def capCqr : Bool := true
/-- CAP.AMS (R106): weighted round robin with urgent priority class. [PRESUMED, unsafe: log 194] -/
def capAms : Nat := 1

/-- The CAP register of every controller: MQES in bits 15:0, CQR in bit 16, AMS in bits 18:17; DSTRD and MPSMIN are 0. [PRESUMED,
unsafe: log 194] -/
def capRegister : Nat := capMqes + capCqr.toNat * 2 ^ 16 + capAms * 2 ^ 17

/-- The first failure of a register group: recorded while VALID is 0 (the W1C error registers). -/
def State.firstError (s : State) (valid : Field) (fields : List (Field × Nat)) : State :=
  if s.on valid then s
  else (fields.foldl (fun s p => s.wr p.1 p.2) s).set valid true

/-- The reset of every field of the window between two offsets: the sticky ones keep their value (R482). -/
def State.resetBlock (s : State) (lo hi : Nat) : State :=
  { s with
    regs := s.regs.filter fun e =>
      !(decide (lo ≤ e.1 / 32) && decide (e.1 / 32 < hi)) ||
        (fieldsAt (e.1 / 32)).any fun p => decide (p.1.lo = e.1 % 32) && decide (p.1.acc = .rws)
    latch := s.latch.filter fun e => !(decide (lo ≤ e.1) && decide (e.1 < hi))
    loWrite := s.loWrite.filter fun e => !(decide (lo ≤ e.1) && decide (e.1 < hi)) }

end Sys2Proof.Machine
end

