-- ==== Sys2Proof/Machine/Dram.lean ====
section
/-! DEFINITION. The DRAM controllers: address hashing, the fill engine, neighbour refresh, the stored lines, and the
check-bit bypass (spec/15_dram_ecc.md). -/

namespace Sys2Proof.Machine

/-! ### Geometry (R33, R369, R370) -/

def State.dramCfg (s : State) : ChartDram := s.chart.cur.dram

/-- Installed DRAM in MiB. -/
def dramMiB (d : ChartDram) : Nat := d.channels * d.gibPerChannel * 1024

/-- The sizes of partitions 0 to 6 in MiB, each rounded up (R33, R370). -/
def partitionSizes (c : Chart) : List Nat :=
  let up := fun (bytes : Nat) => (bytes + 1048575) / 1048576
  [c.dram.systemMiB,
   up ((c.ten.qpoolPf + c.ten.qpoolVf + c.ten.qpoolFabric + c.ten.qpoolSystem) * 64),
   up (c.zone.maxZones * 64),
   if c.zone.granuleKiB = 0 then 0 else up (c.dram.fdpGiB * 1048576 / c.zone.granuleKiB * 4),
   c.dram.wbufMiB,
   c.dram.hotMaxGiB * 1024,
   up (c.dram.ingots * 65536)]

/-- The base of partition `j` in MiB; partition 7 is the unused remainder. -/
def partitionBase (c : Chart) (j : Nat) : Nat := ((partitionSizes c).take j).sum

/-- The partition of an address: 7 beyond the last. -/
def partitionOf (c : Chart) (addr : Nat) : Nat :=
  ((List.range 7).find? fun j => decide (addr / 1048576 < partitionBase c (j + 1))).getD 7

/-- Is a partition of the metadata class (Table DRM-2)? -/
def metadataClass (j : Nat) : Bool := j < 4

/-! ### Address hashing (R371 to R373) -/

/-- The reset masks (Table DRM-3). -/
def resetMask (i : Nat) : Nat := 2 ^ i + 2 ^ (16 + i)

/-- Is target `i` used: CH0 to CH2, SC, BG0 to BG2, BA0, BA1 (R371)? -/
def targetUsed (d : ChartDram) (i : Nat) : Bool :=
  if i = 2 then d.channels == 8 else if i = 8 then d.gibPerChannel == 32 else true

/-- The line-address width of the installed DRAM. -/
def lineWidth (d : ChartDram) : Nat := Nat.log2 (max (dramMiB d) 1) + 14

/-- The lowest set bit of a mask. -/
def pivot (m : Nat) : Nat := ((List.range 32).find? fun i => bit m i).getD 32

/-- The parity of the line address under a mask. -/
def parity (l m : Nat) : Bool := ((List.range 32).filter fun i => bit l i && bit m i).length % 2 == 1

/-- The value of some targets, the first lowest. -/
def State.targets (s : State) (l : Nat) (ts : List Nat) : Nat :=
  ((List.range ts.length).map fun i => (parity l (s.dram.masks.getD (ts.getD i 0) 0)).toNat * 2 ^ i).sum

def State.dramChannel (s : State) (l : Nat) : Nat := s.targets l [0, 1, 2]
def State.dramSub (s : State) (l : Nat) : Nat := s.dramChannel l * 2 + s.targets l [3]
def State.dramBank (s : State) (l : Nat) : Nat := s.targets l [4, 5, 6, 7, 8]

/-- The bits of L that are no pivot, in ascending order, as a number (R372). -/
def State.nonPivots (s : State) (l : Nat) : Nat :=
  let p := (s.dram.masks.filter (· ≠ 0)).map pivot
  let b := (List.range 32).filter fun i => !p.contains i
  ((List.range b.length).map fun i => (bit l (b.getD i 0)).toNat * 2 ^ i).sum

/-- The row of a line (R372). -/
def State.dramRow (s : State) (l : Nat) : Nat :=
  s.nonPivots l / 2 ^ (if s.dramCfg.gibPerChannel = 8 then 6 else 7) % 65536

/-- R373: the masks that a cold or structural reset loads, each used target's reset mask and 0 for the others. -/
def State.loadMasks (s : State) : State :=
  let l := (List.range 9).map fun i => if targetUsed s.dramCfg i then resetMask i else 0
  let s := (List.range 9).foldl (fun s i => s.wr (Reg.DRAM_HASH_MASK.at i) (l.getD i 0)) s
  (s.updDram fun d => { d with masks := l }).set Reg.DRAM_STATUS_HASH_LOCKED false

/-- The RESULT of a mask set (R371): 1 a used target without a usable pivot, 2 a shared pivot, 3 an unused target that is
not zero. -/
def hashResult (d : ChartDram) (l : List Nat) : Nat :=
  let used := (List.range 9).filter (targetUsed d)
  let unused := (List.range 9).filter fun i => !targetUsed d i
  let p := used.map fun i => pivot (l.getD i 0)
  if used.any fun i => l.getD i 0 == 0 || decide (lineWidth d ≤ pivot (l.getD i 0)) then 1
  else if p.eraseDups.length < p.length then 2
  else if unused.any fun i => l.getD i 0 != 0 then 3
  else 0

/-- DRAM_HASH_APPLY (R373): a valid set takes effect, another is refused with EV0918; after the first fill the request is
ignored with RESULT 4. -/
def State.hashApply (s : State) : State :=
  if s.on Reg.DRAM_STATUS_HASH_LOCKED then s.wr Reg.DRAM_HASH_CTRL_RESULT 4
  else
    let l := (List.range 9).map fun i => s.rd (Reg.DRAM_HASH_MASK.at i)
    let r := hashResult s.dramCfg l
    let s := s.wr Reg.DRAM_HASH_CTRL_RESULT r
    if r = 0 then s.updDram fun d => { d with masks := l } else s.event 918 [r]

def execDramHashApply (s : State) : Host.Outcome State Fault Refusal := effect s fun s => s.hashApply

/-! ### Lines (R377, R386) -/

/-- A line of zeros with its computed check bits: what a filled line holds until something writes it. [DESIGN CHOICE, unsafe: log
49] -/
def zeroLine : DramLine := ⟨0, none, false⟩

/-- The line of DRAM at an address: as stored, or zeros with their check bits where nothing is listed (R382). [DESIGN CHOICE,
unsafe: log 49] -/
def State.line (s : State) (l : Nat) : DramLine := mapGet s.dram.lines l zeroLine

def State.setLine (s : State) (l : Nat) (x : DramLine) : State :=
  s.updDram fun d => { d with lines := mapPut d.lines l x zeroLine }

/-- The check bits that a line stores. [DESIGN CHOICE, safe: log 50] -/
def DramLine.checkBits (x : DramLine) (code : Nat → Nat) (poison : Nat) : Nat :=
  if x.poison then poison else x.check.getD (code x.data)

/-- What the decoder makes of a stored line (R377, R386, R388): 0 clean, 1 correctable, 2 uncorrectable, 3 poisoned; with the
position and the corrected data. Check bits that do not belong to the data are correctable or not: nothing else. [DESIGN CHOICE,
safe: log 50; DEDUCED, unsafe: log 165] -/
def DramLine.decode (x : DramLine) (code : Nat → Nat) (dec : Nat → Nat → Nat × Nat × Nat) : Nat × Nat × Nat :=
  if x.poison then (3, 0, x.data)
  else match x.check with
    | none => (0, 0, x.data)
    | some c =>
      if c = code x.data then (0, 0, x.data)
      else if (dec x.data c).1 = 1 then dec x.data c else (2, 0, x.data)

/-! ### The fill engine (R382 to R384) -/

/-- Add a range to disjoint rising ranges. -/
def addRange (b n : Nat) : List (Nat × Nat) → List (Nat × Nat)
  | [] => [(b, n)]
  | (b', n') :: l =>
    if b + n < b' then (b, n) :: (b', n') :: l
    else if b' + n' < b then (b', n') :: addRange b n l
    else addRange (min b b') (max (b + n) (b' + n') - min b b') l

/-- Is granule `g` (1 MiB) filled? [DESIGN CHOICE, unsafe: log 49] -/
def State.granuleFilled (s : State) (g : Nat) : Bool := s.dram.filled.any fun r => decide (r.1 ≤ g) && decide (g < r.1 + r.2)

/-- Is granule `g` in the range that the engine is filling? -/
def State.granuleFilling (s : State) (g : Nat) : Bool :=
  match s.dram.filling with
  | some (b, n) => decide (b ≤ g) && decide (g < b + n)
  | none => false

/-- DRAM_FILL (R373, R382): the first fill locks the masks; a range beyond installed DRAM is refused with RESULT 1, and so is a
length of 0; ignored while BUSY. [DESIGN CHOICE, unsafe: log 49] -/
def State.fillStart (s : State) : State :=
  if s.on Reg.DRAM_FILL_STATUS_BUSY then s
  else
    let b := s.rd Reg.DRAM_FILL_BASE_MIB
    let n := s.rd Reg.DRAM_FILL_LEN_MIB
    if dramMiB s.dramCfg < b + n ∨ n = 0 then s.wr Reg.DRAM_FILL_STATUS_RESULT 1
    else
      let s := (s.set Reg.DRAM_FILL_STATUS_BUSY true).set Reg.DRAM_STATUS_HASH_LOCKED true
      s.updDram fun d => { d with filling := some (b, n) }

def execDramFill (s : State) : Host.Outcome State Fault Refusal := effect s fun s => s.fillStart

/-- Are partitions 0 to 6 filled? -/
def State.partitionsFilled (s : State) : Bool :=
  s.dram.filled.any fun r => r.1 == 0 && decide (partitionBase s.chart.cur 7 ≤ r.2)

/-- The lines of the range being filled take zeros with valid check bits, and its granule bits are set; FILL_DONE and
EV0917 follow when every granule of partitions 0 to 6 is filled (R382). -/
def State.fillEnds (s : State) : State :=
  match s.dram.filling with
  | none => s
  | some (b, n) =>
    let s := s.updDram fun d => { d with
      filling := none
      filled := addRange b n d.filled
      lines := d.lines.filter fun e => decide (e.1 / 16384 < b) || decide (b + n ≤ e.1 / 16384) }
    let s := (s.set Reg.DRAM_FILL_STATUS_BUSY false).wr Reg.DRAM_FILL_STATUS_RESULT 0
    if s.partitionsFilled && !s.on Reg.DRAM_STATUS_FILL_DONE then (s.set Reg.DRAM_STATUS_FILL_DONE true).event 917 else s

/-! ### Neighbour refresh (R376) -/

/-- The value that a seed gives the LFSR of subchannel `i` = 2n + s. [DESIGN CHOICE, unsafe: log 30] -/
def lfsrSeed (seed i : Nat) : Nat :=
  let v := Nat.xor seed i
  if v = 0 then 1 else v

/-- One step of the Galois LFSR with x³² + x²² + x² + x + 1, shifting towards bit 0 (log entry 30). [DESIGN CHOICE, unsafe: log 30]
-/
def lfsrStep (v : Nat) : Nat := if v % 2 = 1 then Nat.xor (v / 2) 0x80200003 else v / 2

/-- Every LFSR takes the value of a seed (R376). -/
def State.reseed (s : State) (seed : Nat) : State :=
  s.updDram fun d => { d with lfsr := (List.range 16).map fun i => (i, lfsrSeed seed i) }

def execDramNrSeedWrite (seed : Nat) (s : State) : Host.Outcome State Fault Refusal :=
  effect s fun s => s.reseed (seed % 4294967296)

/-- The neighbours of a row that one neighbour refresh opens (R376). [DEDUCED, unsafe: log 167] -/
def neighbours (distance row : Nat) : List Nat :=
  let at' := fun i => (if i ≤ row then [row - i] else []) ++ (if row + i ≤ 65535 then [row + i] else [])
  at' 1 ++ (if distance = 2 then at' 2 else [])

/-- An ACT of a row (R376): the queued refreshes of its bank issue first; then the draw, and a new refresh of the row's neighbours
is queued or dropped. [DESIGN CHOICE, unsafe: log 30; DEDUCED, unsafe: log 167] -/
def State.openRow (s : State) (sub bank row : Nat) : State :=
  let q := mapGet s.dram.refresh sub []
  let due := q.filter fun e => e.1 == bank
  let stay := q.filter fun e => e.1 != bank
  let s := s.bumpUnits (Reg.DRAM_NR_STAT_ISSUED.at (sub / 2)) 1024 due.length
  let s := s.updDram fun d => { d with refresh := mapPut d.refresh sub stay [] }
  let s := s.emit (due.map fun e => .data "neighbour refresh" (sub :: e.1 :: e.2))
  if !s.on Reg.DRAM_NR_CFG_ENABLE then s
  else
    let v := lfsrStep (mapGet s.dram.lfsr sub (lfsrSeed 0x9E3779B9 sub))
    let s := s.updDram fun d => { d with lfsr := mapSet d.lfsr sub v }
    if v % 2 ^ s.rd Reg.DRAM_NR_CFG_K ≠ 0 then s
    else if stay.length < 4 then
      let rows := neighbours (s.rd Reg.DRAM_NR_CFG_DISTANCE) row
      s.updDram fun d => { d with refresh := mapSet d.refresh sub (stay ++ [(bank, rows)]) }
    else (s.bump (Reg.DRAM_NR_STAT_DROPPED.at (sub / 2))).eventPer 921 (sub / 2) 1000000000 [sub / 2]

/-! ### Ordering (R374, R375) -/

/-- The queued writes of a subchannel, oldest first. -/
def State.writeQueue (s : State) (sub : Nat) : List DramWrite := mapGet s.dram.writes sub []

/-- A queued write reaches its line. -/
def State.landWrite (s : State) (w : DramWrite) : State := s.setLine w.line ⟨w.data, none, w.poison⟩

/-- A request of the metadata class waits for the earlier ones of its row (R375): they issue now, and the wait is
counted. -/
def State.rowOrder (s : State) (sub l : Nat) : State :=
  let same := fun (w : DramWrite) => w.metadata && s.dramBank w.line == s.dramBank l && s.dramRow w.line == s.dramRow l
  let q := s.writeQueue sub
  if (q.filter same).isEmpty then s
  else
    let s' := (q.filter same).foldl State.landWrite s
    (s'.updDram fun d => { d with writes := mapPut d.writes sub (q.filter fun w => !same w) [] }).bumpUnits
      (Reg.DRAM_CH_STAT_INORDER.at (sub / 2)) 1024

/-- A write enters its subchannel's queue: of the data-buffer class, it takes the place of queued writes to its line, the
newest one (R374); of the metadata class, it keeps its order (R375). -/
def State.queueWrite (s : State) (sub : Nat) (w : DramWrite) : State :=
  if w.metadata then
    let s := s.rowOrder sub w.line
    s.updDram fun d => { d with writes := mapSet d.writes sub (s.writeQueue sub ++ [w]) }
  else
    let q := (s.writeQueue sub).filter (fun x => x.line != w.line || x.metadata) ++ [w]
    s.updDram fun d => { d with writes := mapSet d.writes sub q }

/-- The newest queued write of a line. -/
def State.queuedWrite (s : State) (sub l : Nat) : Option DramWrite := ((s.writeQueue sub).filter fun w => w.line == l).getLast?

/-- Each subchannel issues its oldest queued write (a cycle passes). [DESIGN CHOICE, unsafe: log 2] -/
def State.drainWrites (s : State) : State :=
  s.each s.dram.writes fun s e =>
    match e.2 with
    | [] => s
    | w :: l => (s.landWrite w).updDram fun d => { d with writes := mapPut d.writes e.1 l [] }

/-! ### Check-bit bypass (R388) -/

/-- The test address and data registers. -/
def State.testAddr (s : State) : Nat := s.rd Reg.ECC_TEST_ADDR_LO_ADDR + s.rd Reg.ECC_TEST_ADDR_HI_ADDR * 4294967296

def State.testData (s : State) (n : Nat) : Nat :=
  ((List.range n).map fun i => s.rd (Reg.ECC_TEST_DATA_DATA.at i) * 2 ^ (32 * i)).sum

def State.testCheck (s : State) (n : Nat) : Nat :=
  ((List.range n).map fun i => s.rd (Reg.ECC_TEST_CHECK_CHECK.at i) * 2 ^ (32 * i)).sum

/-- Put data and check bits into the registers. -/
def State.putTest (s : State) (words data checks check : Nat) : State :=
  let s := (List.range words).foldl (fun s i => s.wr (Reg.ECC_TEST_DATA_DATA.at i) (data / 2 ^ (32 * i))) s
  (List.range checks).foldl (fun s i => s.wr (Reg.ECC_TEST_CHECK_CHECK.at i) (check / 2 ^ (32 * i))) s

/-- The size of a space in bytes: installed DRAM, control memory, the cell store (spec/01). -/
def State.spaceBytes (s : State) (space : Nat) : Nat :=
  if space = 0 then dramMiB s.dramCfg * 1048576 else if space = 1 then Config.controlMemory else if space = 2 then 48 * 1048576 else 0

/-- An SRAM word's key. -/
def wordKey (space addr : Nat) : Nat := space * 2 ^ 64 + addr / 8

/-- The SRAM word at an address: as stored, or zeros with their check bits (R381). [DESIGN CHOICE, unsafe: log 151] -/
def State.word (s : State) (k : Nat) : DramLine := mapGet s.dram.words k zeroLine

def State.setWord (s : State) (k : Nat) (x : DramLine) : State :=
  s.updDram fun d => { d with words := mapPut d.words k x zeroLine }

/-- A test operation that may run (R388): `f` is given the key of its line or word. RESULT 1: the address lies outside the
space or is not aligned; 2: the granule is not filled. Test operations are ordered as metadata-class requests. -/
def State.testOp (s : State) (space : Nat) (write : Bool) (f : State → State) : State :=
  let a := s.testAddr
  if 3 ≤ space then s
  else if s.spaceBytes space ≤ a ∨ a % (if space = 0 then 64 else 8) ≠ 0 then s.wr Reg.ECC_TEST_STATUS_RESULT 1
  else if write && space == 0 && !s.granuleFilled (a / 1048576) then s.wr Reg.ECC_TEST_STATUS_RESULT 2
  else
    let s := if space = 0 then s.rowOrder (s.dramSub (a / 64)) (a / 64) else s
    f (s.wr Reg.ECC_TEST_STATUS_RESULT 0)

/-- The stored line or word that a test names; a line of an unfilled granule reads as uncorrectable (R383). -/
def State.testRead (s : State) (space : Nat) : State :=
  let a := s.testAddr
  if space = 0 then
    let x := s.line (a / 64)
    let d := if s.granuleFilled (a / 1048576) then x.decode Config.dramCheck Config.dramDecode else (2, 0, 0)
    let s := s.putTest 16 x.data 4 (x.checkBits Config.dramCheck Config.dramPoison)
    (s.wr Reg.ECC_TEST_STATUS_DECODE d.1).wr Reg.ECC_TEST_STATUS_POSITION (if d.1 = 1 then d.2.1 else 0)
  else
    let x := s.word (wordKey space a)
    let d := x.decode Config.sramCheck Config.sramDecode
    let s := s.putTest 2 x.data 1 (x.checkBits Config.sramCheck Config.sramPoison)
    (s.wr Reg.ECC_TEST_STATUS_DECODE d.1).wr Reg.ECC_TEST_STATUS_POSITION (if d.1 = 1 then d.2.1 else 0)

/-- The value of UNLOCK in ECC_TEST_CTRL (R388). -/
def eccUnlock : Nat := 0x4543

/-- READ_RAW (R388). -/
def execReadRaw (unlock space : Nat) (s : State) : Host.Outcome State Fault Refusal :=
  effect s fun s => s.unlocked unlock eccUnlock fun s => s.testOp space false fun s => s.testRead space

/-- WRITE_RAW (R388): data and check bits exactly as given; EV0922. A reserved poison pattern poisons. -/
def State.writeRaw (s : State) (space : Nat) : State :=
  s.testOp space true fun s =>
    let a := s.testAddr
    let s := if space = 0 then
        s.setLine (a / 64) ⟨s.testData 16, some (s.testCheck 4), s.testCheck 4 == Config.dramPoison⟩
      else
        s.setWord (wordKey space a)
          ⟨s.testData 2, some (s.testCheck 1 % 256), s.testCheck 1 % 256 == Config.sramPoison⟩
    s.event 922 [space, a]

def execWriteRaw (unlock space : Nat) (s : State) : Host.Outcome State Fault Refusal :=
  effect s fun s => s.unlocked unlock eccUnlock fun s => s.writeRaw space

/-- WRITE (R388): the data with computed check bits. -/
def State.writeTest (s : State) (space : Nat) : State :=
  s.testOp space true fun s =>
    let a := s.testAddr
    if space = 0 then s.setLine (a / 64) ⟨s.testData 16, none, false⟩
    else s.setWord (wordKey space a) ⟨s.testData 2, none, false⟩

def execEccTestWrite (unlock space : Nat) (s : State) : Host.Outcome State Fault Refusal :=
  effect s fun s => s.unlocked unlock eccUnlock fun s => s.writeTest space

/-- The granule bits clear, and with them the content (R384). -/
def State.clearGranules (s : State) : State :=
  let s := s.updDram fun d => { d with filled := [], filling := none, waiting := [], lines := [], writes := [] }
  (s.set Reg.DRAM_STATUS_FILL_DONE false).set Reg.DRAM_FILL_STATUS_BUSY false

end Sys2Proof.Machine
end

