-- ==== Sys2Proof/Machine/Power.lean ====
section
/-! DEFINITION. Power domains, voltage and clocks, and thermal control (spec/17_power_thermal.md). -/

namespace Sys2Proof.Machine

/-! ### Domains (R411 to R416) -/

/-- Change a power domain. -/
def State.modDom (s : State) (d : Nat) (f : Domain → Domain) : State :=
  { s with power := { s.power with dom := mapPut s.power.dom d (f (s.domain d)) {} } }

/-- The member whose channels domain PD15 + m holds. -/
def memberOfDomain (d : Nat) : Nat := d - 15

/-- A populated member of the chart in force: its eight channels are listed. -/
def chartHasMember (c : Chart) (m : Nat) : Bool := c.dies.chans.any fun p => p.1 / 8 = m

/-- A domain is put into RETAIN. -/
def State.toRetain (s : State) (d : Nat) : State := s.modDom d fun x => { x with state := .retain }

/-- A domain is switched OFF: its control state is copied to the PD00 shadow and its outputs float (Table PWR-2). -/
def State.toOff (s : State) (d : Nat) : State := s.modDom d fun x => { x with state := .off, shadowed := true }

/-- A domain in RETAIN or OFF starts to wake (Table PWR-2); `cause` and `source` are the codes of PWR_WAKE_LAST. -/
def State.wake (s : State) (d cause source : Nat) : State :=
  match (s.domain d).state with
  | .retain => s.modDom d fun x => { x with state := .waking, fromOff := false, cause := cause, source := source }
  | .off => s.modDom d fun x => { x with state := .waking, fromOff := true, cause := cause, source := source }
  | _ => s

/-- R413: the domains that are OFF in every power state. [DEDUCED, unsafe: log 128, 186] -/
def State.forcedOff (s : State) (d : Nat) : Bool :=
  if d = 9 then s.boot.straps.h0w == 3
  else if d = 10 then s.boot.straps.h1w == 3
  else if d = 11 then !s.charted || (s.chart.cur.ports.nMode.getD 0 0 == 0 && s.chart.cur.ports.nMode.getD 1 0 == 0)
  else if d = 12 then !s.charted || (s.chart.cur.ports.nMode.getD 2 0 == 0 && s.chart.cur.ports.nMode.getD 3 0 == 0)
  else if d = 14 then !s.isPair
  else if 15 ≤ d ∧ d ≤ 30 then
    !(s.charted && chartHasMember s.chart.cur (memberOfDomain d)) || s.memberFailed (memberOfDomain d)
  else false

/-- R413: the domains that stay in RETAIN: PD35 until the DBG block is unlocked, and a DRAM domain without channels in the
chart. -/
def State.keptRetain (s : State) (d : Nat) : Bool :=
  (d == 35 && !s.boot.dbgUnlocked) || (d == 32 && s.charted && decide (s.chart.cur.dram.channels ≤ 4))

/-- AUTO_RETAIN_IDLE (R411): PD13, PD33 or PD34, enabled for idle RETAIN, enters it. -/
def execAutoRetainIdle (d : Nat) (s : State) : Host.Outcome State Fault Refusal :=
  effect s fun s =>
    let enabled := (d == 13 && s.on Reg.PWR_AUTO_RETAIN_PD13) || (d == 33 && s.on Reg.PWR_AUTO_RETAIN_PD33) ||
      (d == 34 && s.on Reg.PWR_AUTO_RETAIN_PD34)
    if enabled && decide ((s.domain d).state = .on) then s.toRetain d else s

/-- DOMAIN_WAKE (R415, R476): an access to a domain in RETAIN or OFF wakes that domain only; one that R413 or R266 keeps OFF, and
PD35 while DBG is locked, are not woken. [DEDUCED, unsafe: log 134] -/
def execDomainWake (d source : Nat) (s : State) : Host.Outcome State Fault Refusal :=
  effect s fun s => if 36 ≤ d ∨ s.forcedOff d = true ∨ d = 35 ∧ s.boot.dbgUnlocked = false then s else s.wake d 0 source

/-- The link of the manager's path: 8 for the MI path (R89). -/
def State.managerLink (s : State) : Nat :=
  match s.boot.manager with
  | .pf l => l
  | .mi => 8

/-- An access that ends under R74: a read returns all ones, a write is discarded; HOST_WIN_ERR and EV0134. -/
def State.accessFails (s : State) (a : Access32) : State :=
  match a with
  | .read off =>
    ((s.firstError Reg.HOST_WIN_ERR_VALID [(Reg.HOST_WIN_ERR_WRITE, 0), (Reg.HOST_WIN_ERR_OFFSET, off)]).event 134
      [s.managerLink, off]).emit [Out.regValue 0xFFFFFFFF#32]
  | .write off _ _ =>
    (s.firstError Reg.HOST_WIN_ERR_VALID [(Reg.HOST_WIN_ERR_WRITE, 1), (Reg.HOST_WIN_ERR_OFFSET, off)]).event 134
      [s.managerLink, off]

/-- WAKE_TIMEOUT (R74, R416, Table PWR-2): the domain's wake time passes; the stalled accesses end under R74, EV0015
is recorded, and the domain keeps waking. -/
def execWakeTimeout (d : Nat) (s : State) : Host.Outcome State Fault Refusal :=
  effect s fun s =>
    if (s.domain d).state ≠ .waking then s
    else
      let l := (s.domain d).stalled
      let s := (s.modDom d fun x => { x with stalled := [] }).each l State.accessFails
      (s.firstError Reg.PWR_WAKE_ERR_VALID [(Reg.PWR_WAKE_ERR_DOMAIN, d)]).event 15 [d]

/-- A waking domain is ON, and PWR_WAKE_LAST and its own last wake time are updated (R412, Table PWR-2). [DESIGN CHOICE, unsafe: log
151] -/
def State.domainOn (s : State) (d ns : Nat) : State :=
  let x := s.domain d
  let s := s.modDom d fun x => { x with state := .on, fromOff := false, shadowed := false, stalled := [] }
  let s := (s.wr Reg.PWR_WAKE_LAST_DOMAIN d).wr Reg.PWR_WAKE_LAST_SOURCE x.source
  let s := (s.wr Reg.PWR_WAKE_LAST_CAUSE x.cause).wr Reg.PWR_WAKE_LAST_TIME_NS (min (ns / 10) 0xFFFF)
  s.wr (Reg.PWR_DOM_STATE_LAST_WAKE_US.at d) (min ((ns + 999) / 1000) 0xFF)

/-! ### Voltage points and clocks (R417 to R419) -/

/-- Cluster and datapath clock ceilings of a voltage point in MHz (Table PWR-3). -/
def ceilings (vp : Nat) : Nat × Nat :=
  if vp = 0 then (800, 800) else if vp = 1 then (1400, 1200) else if vp = 2 then (1800, 1600) else (2200, 1600)

/-- Is the regulator fixed (STRAP_VREG 10, and 11 which acts as fixed)? [DESIGN CHOICE, unsafe: log 24] -/
def State.fixedRail (s : State) : Bool := 2 ≤ s.boot.straps.vreg

/-- Do the PLLs fit under the ceilings of a point? -/
def State.pllsFit (s : State) (vp : Nat) : Bool :=
  s.rd Reg.PWR_CLK_CTRL_CORE_MHZ ≤ (ceilings vp).1 && s.rd Reg.PWR_CLK_CTRL_DP_MHZ ≤ (ceilings vp).2

/-- A voltage request (R418, R419): refused with RESULT 3 at a fixed rail, and with RESULT 1 and EV0017 for a lower point
while a PLL is above its ceiling; otherwise it goes to the regulator. -/
def State.askVp (s : State) (vp : Nat) : State :=
  if s.fixedRail then s.wr Reg.PWR_VP_CTRL_RESULT 3
  else if vp < s.rd Reg.PWR_STATUS_VP ∧ s.pllsFit vp = false then (s.wr Reg.PWR_VP_CTRL_RESULT 1).event 17 [vp]
  else
    let s := (s.wr Reg.PWR_VP_CTRL_TARGET vp).set Reg.PWR_VP_CTRL_BUSY true
    ({ s with power := { s.power with vpAsked := some vp } }).emit [Out.regulator vp]

/-- PWR_VP_CTRL_WRITE: ignored while BUSY. -/
def State.vpWrite (s : State) (target : Nat) : State :=
  if s.on Reg.PWR_VP_CTRL_BUSY then s else s.askVp (target % 4)

def execPwrVpCtrlWrite (target : Nat) (s : State) : Host.Outcome State Fault Refusal :=
  effect s fun s => s.vpWrite target

/-- A clock request (R418): refused with RESULT 1 and EV0017 above a ceiling of the point in force. -/
def State.askClk (s : State) (dp core : Nat) : State :=
  let c := ceilings (s.rd Reg.PWR_STATUS_VP)
  if c.1 < core ∨ c.2 < dp then (s.wr Reg.PWR_CLK_CTRL_RESULT 1).event 17 [dp, core]
  else
    let s := (s.wr Reg.PWR_CLK_CTRL_DP_MHZ dp).wr Reg.PWR_CLK_CTRL_CORE_MHZ core
    let s := s.set Reg.PWR_CLK_CTRL_BUSY true
    { s with power := { s.power with clkAsked := some (dp, core) } }

/-- PWR_CLK_CTRL_WRITE: ignored while BUSY; a field outside its range keeps its value (R9, R434). -/
def State.clkWrite (s : State) (dp core : Nat) : State :=
  if s.on Reg.PWR_CLK_CTRL_BUSY then s
  else
    let dp := if 400 ≤ dp ∧ dp ≤ 1600 ∧ dp % 100 = 0 then dp else s.rd Reg.PWR_CLK_CTRL_DP_MHZ
    let core := if 400 ≤ core ∧ core ≤ 2200 ∧ core % 100 = 0 then core else s.rd Reg.PWR_CLK_CTRL_CORE_MHZ
    s.askClk dp core

def execPwrClkCtrlWrite (dp core : Nat) (s : State) : Host.Outcome State Fault Refusal :=
  effect s fun s => s.clkWrite dp core

/-! ### Power states (R420 to R424) -/

/-- Voltage point, cluster PLL, datapath PLL of a power state (Table PWR-4); a stopped PLL is 0. -/
def psPoint (ps : Nat) : Nat × Nat × Nat :=
  if ps = 0 then (3, 2200, 1600) else if ps = 1 then (2, 1800, 1600) else if ps = 2 then (1, 1400, 1200)
  else if ps = 3 then (0, 800, 0) else (0, 0, 0)

/-- The THROTTLE_PCT cap of a power state (Table PWR-4) and of a thermal level (Table PWR-6). -/
def psCap (ps : Nat) : Nat := if ps = 1 then 70 else if ps = 2 then 40 else 100
def levelCap (level : Nat) : Nat := if level = 0 then 100 else if level = 1 then 75 else if level = 2 then 50 else 25

/-- THROTTLE_PCT is the smallest of three caps (R428): the power state's, the thermal level's and the flash cap's. -/
def State.throttle (s : State) : Nat :=
  min (psCap (s.rd Reg.PWR_STATUS_PS)) (min (levelCap (s.rd Reg.THERM_STATUS_LEVEL)) (if s.power.flashCap then 50 else 100))

/-- The state asked for is in force: EV0016, and the Set Features commands that waited for it complete (Table PWR-5). [DESIGN
CHOICE, unsafe: log 24] -/
def State.psReached (s : State) : State :=
  let t := s.rd Reg.PWR_STATUS_PS_TARGET
  let w := s.power.psWait
  let s := { s.wr Reg.PWR_STATUS_PS t with power := { s.power with psMoving := false, psWait := [], lastOp := if t < 3 then t else s.power.lastOp } }
  (s.event 16 [t]).each w fun s r => s.finish r .success

/-- The lowest-numbered state that any active controller requests (R421); the state in force when none is active. -/
def State.psWanted (s : State) : Nat :=
  let l := (s.host.ctrls.filter fun e => e.2.en).map fun e => e.2.ps
  match l with
  | [] => s.rd Reg.PWR_STATUS_PS
  | x :: xs => xs.foldl min x

/-- The state that POWER_STATE_CHANGE leads to: the one that an exit is on its way to (R424), or the one that the controllers
request. -/
def State.psGoal (s : State) : Nat :=
  if 3 ≤ s.rd Reg.PWR_STATUS_PS ∧ s.rd Reg.PWR_STATUS_PS_TARGET < 3 then s.rd Reg.PWR_STATUS_PS_TARGET else s.psWanted

/-- The next request of a power-state change (R418, Table PWR-5): the voltage is raised before the clocks, and lowered after
them; then the state is in force. A manager's request that is under way ends first. -/
def State.psStep (s : State) : State :=
  if s.power.psMoving = false ∨ s.power.vpAsked ≠ none ∨ s.power.clkAsked ≠ none then s
  else
    let p := psPoint (s.rd Reg.PWR_STATUS_PS_TARGET)
    let vp := s.rd Reg.PWR_STATUS_VP
    if s.fixedRail = false ∧ vp < p.1 then s.askVp p.1
    else if s.rd Reg.PWR_CLK_CTRL_CORE_MHZ ≠ p.2.1 ∨ s.rd Reg.PWR_CLK_CTRL_DP_MHZ ≠ p.2.2 then s.askClk p.2.2 p.2.1
    else if s.fixedRail = false ∧ p.1 < vp then s.askVp p.1
    else s.psReached

/-- POWER_STATE_CHANGE (R418, R421, R424, Table PWR-5): the device moves to the operational state the controllers request.
Non-operational states are entered by IDLE_TIMER_EXPIRY; an exit from one ends here. [DESIGN CHOICE, unsafe: log 24] -/
def State.psChange (s : State) : State :=
  let want := s.psGoal
  let ps := s.rd Reg.PWR_STATUS_PS
  if s.power.psMoving = true then s
  else if want = ps then
    ({ s with power := { s.power with psWait := [] } }).each s.power.psWait fun s r => s.finish r .success
  else if 3 ≤ want then s
  else
    let s := s.wr Reg.PWR_STATUS_PS_TARGET want
    let p := psPoint want
    if 3 ≤ ps then
      let s := (s.wr Reg.PWR_CLK_CTRL_CORE_MHZ p.2.1).wr Reg.PWR_CLK_CTRL_DP_MHZ p.2.2
      let s := if s.fixedRail then s else (s.wr Reg.PWR_STATUS_VP p.1).wr Reg.PWR_VP_CTRL_TARGET p.1
      ({ s with power := { s.power with clocksStopped := false } }).psReached
    else ({ s with power := { s.power with psMoving := true } }).psStep

def execPowerStateChange (s : State) : Host.Outcome State Fault Refusal := effect s fun s => s.psChange

/-- PLL_RELOCK_DONE (R418): BUSY clears, and a power-state change goes on. -/
def State.pllDone (s : State) : State :=
  if s.power.clkAsked = none then s
  else
    let s := (s.set Reg.PWR_CLK_CTRL_BUSY false).wr Reg.PWR_CLK_CTRL_RESULT 0
    ({ s with power := { s.power with clkAsked := none } }).psStep

def execPllRelockDone (s : State) : Host.Outcome State Fault Refusal := effect s fun s => s.pllDone

/-- VREG_ACK (R419): the point asked for is in force after its settling, and a power-state change goes on. [DESIGN CHOICE, unsafe:
log 24] -/
def State.vregAck (s : State) : State :=
  match s.power.vpAsked with
  | none => s
  | some vp =>
    let s := ((s.wr Reg.PWR_STATUS_VP vp).set Reg.PWR_VP_CTRL_BUSY false).wr Reg.PWR_VP_CTRL_RESULT 0
    ({ s with power := { s.power with vpAsked := none } }).psStep

def execVregAck (s : State) : Host.Outcome State Fault Refusal := effect s fun s => s.vregAck

/-- VREG_TIMEOUT (R419): no acknowledgement within 1 ms, or a fault, with or without a request: the rail stays at its last
acknowledged point, VREG_FAULT is set, RESULT is 2, and EV0018 is recorded. A power-state change that only had the voltage left
to lower is in force; one that needs a higher voltage is given up. A fixed regulator takes no request (R419). [DESIGN CHOICE,
unsafe: log 24] -/
def execVregTimeout (s : State) : Host.Outcome State Fault Refusal :=
  effect s fun s =>
    if s.power.vpAsked = none ∧ s.fixedRail = true then s
    else
      let s := (s.set Reg.PWR_STATUS_VREG_FAULT true).set Reg.PWR_VP_CTRL_BUSY false
      let s := (s.wr Reg.PWR_VP_CTRL_RESULT 2).wr Reg.PWR_VP_CTRL_TARGET (s.rd Reg.PWR_STATUS_VP)
      let s := ({ s with power := { s.power with vpAsked := none } }).event 18
      if s.power.psMoving = false ∨ s.power.clkAsked ≠ none then s
      else if (psPoint (s.rd Reg.PWR_STATUS_PS_TARGET)).1 < s.rd Reg.PWR_STATUS_VP then s.psReached
      else { s.wr Reg.PWR_STATUS_PS_TARGET (s.rd Reg.PWR_STATUS_PS) with power := { s.power with psMoving := false } }

/-- POWER_STATE_EXIT (R424): in PS3 or PS4 the device starts back to its operational state: every domain that the state put into
RETAIN or OFF wakes, and the device and each requesting controller return to their last operational state. [DESIGN CHOICE,
unsafe: log 24; DEDUCED, unsafe: log 152, 186] -/
def State.powerExit (s : State) (source : Nat) : State :=
  if s.rd Reg.PWR_STATUS_PS < 3 then s
  else
    let s := s.each (List.range 36) fun s d => if s.forcedOff d || s.keptRetain d then s else s.wake d 1 source
    let s := { s with host := { s.host with ctrls := mapAll s.host.ctrls fun _ c =>
      if 3 ≤ c.ps then { c with ps := c.psLastOp } else c } }
    s.wr Reg.PWR_STATUS_PS_TARGET (min s.power.lastOp 2)

/-! ### Thermal control (R426 to R432) -/

/-- A temperature in °C in units of the filter. [DESIGN CHOICE, unsafe: log 22] -/
def celsius (t : Int) : Int := t * 16384

/-- The thresholds T1 to T3 (THERM_THRESH0), by level. -/
def State.levelThreshold (s : State) (level : Nat) : Int :=
  celsius (if level = 1 then s.rd Reg.THERM_THRESH0_T1 else if level = 2 then s.rd Reg.THERM_THRESH0_T2
    else s.rd Reg.THERM_THRESH0_T3)

/-- The level whose threshold a filtered temperature reaches. -/
def State.levelAt (s : State) (f : Int) : Nat :=
  if s.levelThreshold 3 ≤ f then 3 else if s.levelThreshold 2 ≤ f then 2 else if s.levelThreshold 1 ≤ f then 1 else 0

/-- A change of level (R427, Table PWR-6): clock division, cycle skipping, EV0019. -/
def State.setLevel (s : State) (l : Nat) : State :=
  if l = s.rd Reg.THERM_STATUS_LEVEL then s
  else
    let s := { s with power := { s.power with
      division := if l ≤ 1 then 1 else if l = 2 then 2 else 4
      skip := if l = 3 then 4 else l } }
    (s.wr Reg.THERM_STATUS_LEVEL l).event 19 [l]

/-- A flash package is at or above the WARN threshold (R430). -/
def State.flashWarm (s : State) : Bool :=
  s.power.flashHot.any fun e => decide ((s.rd Reg.THERM_FLASH_CFG_WARN : Int) ≤ e.2)

/-- Are the flash packages more than 3 °C below the WARN threshold (R427, R432)? -/
def State.flashCool (s : State) : Bool :=
  s.power.flashHot.all fun e => decide (e.2 + 3 < (s.rd Reg.THERM_FLASH_CFG_WARN : Int))

/-- Does a cause of critical warning bit 1 hold (R432)? -/
def State.warnCause (s : State) : Bool :=
  s.power.faulty || s.flashWarm ||
    (s.power.filterLoaded && decide (celsius (s.rd Reg.THERM_THRESH0_WARN) ≤ s.power.filtered))

/-- Set critical warning bit 1 when a cause holds (R432): EV0020, and a SMART / Health event to every controller. -/
def State.warnUpdate (s : State) : State :=
  if s.warnCause && !s.on Reg.THERM_STATUS_WARN then
    let s := (s.set Reg.THERM_STATUS_WARN true).event 20
    s.each (s.host.ctrls.filter fun e => e.2.en) fun s e => s.aen e.1 1 1 2
  else s

/-- A signed field read as a number. -/
def unsign (w v : Nat) : Int := if 2 ^ (w - 1) ≤ v then (v : Int) - 2 ^ w else v

/-- THERM_TRIP (R429): THERM_TRIP_N is asserted, EV0022 goes to the PD00 shadow, and every domain but PD00 is off. -/
def State.trip (s : State) : State :=
  let s := ({ s with power := { s.power with tripped := true, thermTripN := false } }).event 22
  { s with power := { s.power with
    dom := (List.range 35).map fun i => (i + 1, { (default : Domain) with state := .off, shadowed := true }) } }

/-- A faulty sample (R431): the filter stays, level 3 and critical warning bit 1 apply, and EV0021 is recorded. -/
def State.faultySample (s : State) (kind : Nat) : State :=
  let first := !s.power.faulty
  let s := { s with power := { s.power with faulty := true, validRun := 0, hot := 0 } }
  let s := s.wr Reg.THERM_RAW_FAULT_KIND kind
  let s := if first then s.event 21 [kind] else s
  (s.setLevel 3).warnUpdate

/-- A valid sample (R426, R427, R429, R431). [DESIGN CHOICE, unsafe: log 22] -/
def State.validSample (s : State) (q : Int) : State :=
  let p := s.power
  let f := if p.filterLoaded && !p.reloadNext then p.filtered + (q * 4096 - p.filtered) / 8 else q * 4096
  let cleared := p.faulty && decide (49 ≤ p.validRun)
  let s := { s with power := { p with
    filtered := f, filterLoaded := true, reloadNext := cleared
    faulty := p.faulty && !cleared, validRun := if p.faulty then p.validRun + 1 else 0
    hot := if !p.faulty && decide ((s.rd Reg.THERM_THRESH1_TRIP : Int) * 4 ≤ q) then p.hot + 1 else 0 } }
  let s := s.wr Reg.THERM_RAW_SAMPLE (signed 12 q)
  let s := if s.power.faulty then s else s.wr Reg.THERM_RAW_FAULT_KIND 0
  let s := if unsign 12 (s.rd Reg.THERM_MAX_TEMP) < f / 4096 then s.wr Reg.THERM_MAX_TEMP (signed 12 (f / 4096)) else s
  if 2 ≤ s.power.hot then s.trip
  else
    let l := if s.power.faulty then 3 else s.levelAt f
    (if s.rd Reg.THERM_STATUS_LEVEL < l then s.setLevel l else s).warnUpdate

/-- THERMAL_SAMPLE (R426): the diode's sample is filtered, and the level, the warning and the trip are evaluated. -/
def execThermalSample (x : ThermSample) (s : State) : Host.Outcome State Fault Refusal :=
  effect s fun s => match x with
    | .opened => s.faultySample 1
    | .shorted => s.faultySample 2
    | .valid q => if q < -160 ∨ 600 < q then (s.wr Reg.THERM_RAW_SAMPLE (signed 12 q)).faultySample 3
                  else s.validSample q

/-- THERMAL_LEVEL_EXIT (R427, R432): the filtered temperature has stayed more than 3 °C below the level's threshold, so
the level drops; the warning clears with the same hysteresis when no cause holds. -/
def execThermalLevelExit (s : State) : Host.Outcome State Fault Refusal :=
  effect s fun s =>
    let l := s.rd Reg.THERM_STATUS_LEVEL
    let s := if l ≠ 0 ∧ s.power.faulty = false ∧ s.power.filtered < s.levelThreshold l - celsius 3
      then s.setLevel (l - 1) else s
    if s.warnCause = false ∧ s.flashCool = true ∧ s.power.filtered < celsius (s.rd Reg.THERM_THRESH0_WARN) - celsius 3
    then s.set Reg.THERM_STATUS_WARN false else s

end Sys2Proof.Machine
end

