-- ==== Sys2Proof/Machine/Slots.lean ====
section
/-! DEFINITION. Links, functions, controllers and tenant slots: who owns what (spec/04 R67 to R71, spec/05 R94 to
R96, spec/13 R333 to R340). -/

namespace Sys2Proof.Machine

/-! ### Links and slots (R25, R67, R68) -/

/-- The OWNER of the controller of a function (R68, Table QUE-1). A VF above the chart's count has no slot: the model keeps its
controller under a number of its own (R79). [DESIGN CHOICE, safe: log 184] -/
def State.fnOwner (s : State) : Fn → Nat
  | .pf l => pfOwner l
  | .vf l v => if v ≤ s.totalVfs l then s.firstSlot l + v - 1 else 0x4000 + 1024 * l + v

/-- A link, in its reset state when nothing has touched it. -/
def State.link (s : State) (l : Nat) : Link := mapGet s.host.links l {}

def State.modLink (s : State) (l : Nat) (f : Link → Link) : State :=
  { s with host := { s.host with links := mapPut s.host.links l (f (s.link l)) {} } }

def State.modTen (s : State) (t : Nat) (f : Tenant → Tenant) : State :=
  { s with ten := { s.ten with slots := mapPut s.ten.slots t (f (s.tenant t)) {} } }

/-- Does a controller of this owner exist: a slot that is not INACTIVE, or the PF of a link (R67, R335)? -/
def State.present (s : State) (owner : Nat) : Bool :=
  if isTenant owner then decide ((s.tenant owner).phase ≠ .inactive)
  else decide (0x1000 ≤ owner) && s.hasLink (owner - 0x1000)

/-! ### Queue counts and pools (R91, R94 to R97) -/

/-- A tenant's controller holds `n` contexts: it keeps its lowest ones, or takes free ones of its pool (R91, R97). -/
def State.holdContexts (s : State) (t n : Nat) : State :=
  let have_ := (s.ctrl t).ctxs
  s.modCtrl t fun c => { c with
    queues := n, ctxs := if n ≤ have_.length then have_.take n else have_ ++ s.freeCtxs t (n - have_.length) }

/-- The queue count limits of the sealed chart. -/
def State.maxQueues (s : State) : Nat := if s.charted then s.chart.cur.ten.maxQueues else 2

/-! ### Queues of a controller (R91, R340) -/

/-- Do a queue's context and its controller's epoch agree (R340)? -/
def State.epochOk (s : State) (owner : Nat) (c : QCtx) : Bool :=
  !isTenant owner || decide (c.epoch = (s.tenant owner).epoch % 256)

def State.hasSq (s : State) (owner qid : Nat) : Bool := (s.qctx owner qid).sqValid && s.epochOk owner (s.qctx owner qid)
def State.hasCq (s : State) (owner qid : Nat) : Bool := (s.qctx owner qid).cqValid && s.epochOk owner (s.qctx owner qid)

/-- The contexts of a controller. -/
def State.queuesOf (s : State) (owner : Nat) : List (Nat × QCtx) :=
  (s.q.ctx.filter fun e => decide (e.1 / 65536 = owner)).map fun e => (e.1 % 65536, e.2)

/-- Entries of a completion queue that the host has not freed. -/
def QCtx.unfreed (c : QCtx) : Nat := (c.cqTail + (c.cqSize + 1) - c.cqHead) % (c.cqSize + 1)

/-- Free slots of a completion queue: one slot stays empty. -/
def QCtx.room (c : QCtx) : Nat := c.cqSize - c.unfreed

/-! ### Weights and limits (R105, R108, R111) -/

/-- The weight in force (R111). -/
def State.weightNow (s : State) (owner : Nat) : Nat := mapGet s.q.applied owner s.chart.cur.budget.defWeight

/-! ### Attachments (R165, R333, R338) -/

def State.isAttached (s : State) (owner nsid : Nat) : Bool := mapHas s.nv.attach (attachKey owner nsid)

/-- The controllers that a namespace is attached to. -/
def State.attachees (s : State) (nsid : Nat) : List Nat :=
  (s.nv.attach.filter fun e => decide (e.1 % 4294967296 = nsid)).map fun e => e.1 / 4294967296

/-- The owner that a controller ID names: slot plus 1, or 0x1001 plus the link index (R68, R333). -/
def ctrlIdOwner (id : Nat) : Nat := id - 1

end Sys2Proof.Machine
end

