-- ==== Sys2Proof/Machine/Tables.lean ====
section
/-! DEFINITION. Namespaces, zones and reclaim units, the geometry of rows, the journal, and what a command to a
namespace passes before it executes (spec/06, spec/07, spec/10, spec/12, spec/16). -/

namespace Sys2Proof.Machine

/-! ### Members and dies (R114, R246) -/

def State.modDie (s : State) (d : Nat) (f : Die → Die) : State :=
  { s with md := { s.md with die := mapPut s.md.die d (f (s.die d)) {} } }

/-- Is the position of a row out of service (R250): its member is not in service, or its die has failed? -/
def State.posOut (s : State) (col pos : Nat) : Bool :=
  let m := s.members.getD pos 0
  !s.memberUp m || (s.die (columnDie m col)).failed

/-- The positions of a column that are out of service. -/
def State.outPositions (s : State) (col : Nat) : List Nat := (List.range s.memberCount).filter (s.posOut col)

/-- Is the unit of a row at a position not there to be read: the position is out of service, and the unit has not been rebuilt on a
member in rebuild (R250, R270)? [DEDUCED, unsafe: log 177] -/
def State.unitOut (s : State) (set row col pos : Nat) : Bool :=
  let m := s.members.getD pos 0
  s.posOut col pos && !(decide ((s.member m).st = .rebuilding) && !(s.die (columnDie m col)).failed &&
    (mapGet s.nv.rows (set * 4294967296 + row) default).passed.contains pos)

/-- Has the rebuild of a set reached its write frontier at a position: every row of it has its unit there (R270)? -/
def State.atFrontier (s : State) (set col pos : Nat) : Bool :=
  let m := s.members.getD pos 0
  decide ((s.member m).st = .rebuilding) && !(s.die (columnDie m col)).failed && ((s.member m).rebuilt.any fun e => e.1 == set) &&
    s.nv.rows.all fun e => decide (e.1 / 4294967296 ≠ set) || e.2.passed.isEmpty || !e.2.out.contains pos

/-- The positions that new rows of a set leave out (R250, R270). [DEDUCED, unsafe: log 177] -/
def State.rowOut (s : State) (set col : Nat) : List Nat := (s.outPositions col).filter fun i => !s.atFrontier set col i

/-! ### Tables -/

def State.modNv (s : State) (f : Nv → Nv) : State := { s with nv := f s.nv }

/-- A part of the persistent state changes that goes to flash at once, whatever batch follows (R239, R245). -/
def State.persist (s : State) (f : Nv → Nv) : State :=
  (s.modNv f).updJr fun j => { j with
    disk := f j.disk, prev := f j.prev, closed := j.closed.map fun (b : Batch) => { b with nv := f b.nv } }

def State.modNs (s : State) (nsid : Nat) (f : Ns → Ns) : State :=
  s.modNv fun v => { v with ns := mapMod v.ns nsid f }

def State.modZone (s : State) (nsid z : Nat) (f : Zone → Zone) : State :=
  s.modNv fun v => { v with zones := mapPut v.zones (zoneKey nsid z) (f (s.zoneAt nsid z)) {} }

def State.modRow (s : State) (set row : Nat) (f : Row → Row) : State :=
  s.modNv fun v => { v with rows := mapPut v.rows (rowKey set row) (f (s.row set row)) {} }

def State.modBlock (s : State) (d b : Nat) (f : Block → Block) : State :=
  s.modNv fun v => { v with blocks := mapSet v.blocks (blockKey d b) (f (s.block d b)) }

/-- A region of the pair dirty-region bitmap: 64 MiB of a namespace (R407). -/
def State.pairRegion (s : State) (nsid lba : Nat) : Nat :=
  lba / (16384 * ((s.ns? nsid).map (·.per4k)).getD 1)

/-- Mark the regions of a range divergent (R402, R407). -/
def State.diverge (s : State) (nsid lba n : Nat) : State :=
  let a := s.pairRegion nsid lba
  let b := s.pairRegion nsid (lba + n - 1)
  let new : List (Nat × Nat) := (List.range (b + 1 - a)).map fun i => (nsid, a + i)
  s.modNv fun v =>
    { v with diverge := new.foldl (fun l r => if l.contains r then l else l ++ [r]) v.diverge }

/-- A change to a pair namespace made while this side is not PAIRED marks its regions (R407). -/
def State.noteChange (s : State) (nsid lba n : Nat) : State :=
  if s.isPair && decide (s.nv.pairSt ≠ .paired) then s.diverge nsid lba n else s

/-! ### The journal (R149) -/

/-- A command completes when the batch that is collecting now is on flash. -/
def State.afterBatch (s : State) (r : CmdRef) : State :=
  { s.hold r with jr := { s.jr with waiting := s.jr.waiting ++ [(s.jr.openNo, r)] } }

/-- The local part of a command that may also execute on the companion is done: it ends, with the namespace it created in
dword 0, once the companion has completed it too (R392). -/
def State.opDone (s : State) (r : CmdRef) : State :=
  if s.pair.nsOps.contains r then s
  else s.finish r .success (((s.cmd? r).map fun c => if c.opcode = 0x0D then c.nsid else 0).getD 0)

/-! ### Before a command executes -/

/-- A command starts: it has not yet been accepted by its executing stage, or it waits there (R14). On the ROM safe chart every I/O command is refused (R36); from the
start of a dusk drain on nothing starts any more (R158). -/
def State.starting (s : State) (r : CmdRef) (f : State → State) : State :=
  let run := fun (s : State) => if r.sqid ≠ 0 ∧ s.chart.phase = .safe then s.finish r .namespaceNotReady else f s
  match s.cmd? r with
  | some c => match c.phase with
    | .fetched => if s.wp.dusk = .idle then run s else s
    | .waiting _ => if s.wp.dusk = .idle then run s else s
    | _ => s
  | none => s

/-- The executing stage accepts the command (R508, R341). -/
def State.accept (s : State) (r : CmdRef) : State := s.modCmd r fun c => { c with phase := .accepted }

/-- Is a namespace's attachment in force for a command: attached now, or detached only after its fetch (R338)? -/
def State.reaches (s : State) (r : CmdRef) (nsid : Nat) : Bool :=
  r.owner == companionOwner || s.isAttached r.owner nsid ||
    match s.cmd? r, mapGet? s.ten.detached (attachKey r.owner nsid) with
    | some c, some n => decide (c.seq < n)
    | _, _ => false

/-- Find the namespace of an I/O command, or end the command with the status of R338, R322 or of the standard. -/
def State.onNs (s : State) (r : CmdRef) (nsid : Nat) (f : Ns → State → State) : State :=
  match s.ns? nsid with
  | none => s.finish r .invalidNamespace
  | some n =>
    if s.reaches r nsid = false then s.finish r .invalidNamespace
    else if s.nsReady nsid = false then s.finish r .namespaceNotReady
    else f n s

/-- Does the pair refuse a changing command (R403)? -/
def State.pairRefuses (s : State) : Bool :=
  s.isPair &&
    (match s.nv.pairSt with
      | .fenced => true
      | .joining => true
      | .mismatch => true
      | .survivor => s.boot.pins.fenceIn && !s.pair.resolved
      | .resync => s.on Reg.PAIR_STATUS_RESYNC_TARGET || s.boot.pins.fenceIn
      | _ => s.boot.pins.fenceIn)

/-- Does the pair let a read through (R403): every state but a resync target's? -/
def State.pairBlind (s : State) : Bool :=
  s.isPair && decide (s.nv.pairSt = .resync) && s.on Reg.PAIR_STATUS_RESYNC_TARGET

/-- A namespace that is write-protected: the device is read-only, or its constellation is short (R238, R239). -/
def State.writeProtected (s : State) (n : Ns) : Bool := s.nv.readOnly || s.md.consWp.contains n.cons

/-! ### Deferred errors and lost ranges (R163 to R166, R273) -/

/-- Post a vendor event C1h or C2h to every controller attached to a namespace; one that has no request, enabled or not, receives it
with its next (R166, R273). [PRESUMED, unsafe: log 12; DESIGN CHOICE, unsafe: log 169] -/
def State.vendorAen (s : State) (nsid info : Nat) : State :=
  s.each (s.attachees nsid) fun s o => s.aen o 7 info info

/-- Add an entry to a log that keeps `cap` entries (R164, R274). -/
def NsLog.add (l : NsLog) (cap : Nat) (e : LogEntry) : NsLog :=
  let e := { e with seq := l.total + 1 }
  if l.entries.length < cap then { l with total := l.total + 1, entries := l.entries ++ [e] }
  else { total := l.total + 1, dropped := min (l.dropped + 1) 0xFFFFFFFF, entries := l.entries.drop 1 ++ [e] }

/-- An entry made now; its almanac number is that of the record just made. -/
def State.logEntry (s : State) (slba nlb kind : Nat) (zoned acked : Bool) (column members : Nat) : LogEntry :=
  { seq := 0, slba := slba, nlb := nlb, kind := kind, zoned := zoned, acked := acked, column := column,
    members := members,
    left := (List.range nlb).map (slba + ·), time := s.time.sid, almSeq := s.alm.seq, lock := s.time.lock }

/-- DEFERRED_ERROR (R163, R166): EV0054, the entry in log C1h, TOTAL, PWR_DEFER_COUNT, and the event to the controllers
attached. Kinds: 1 PROGRAM, 2 STRIPE_LOST, 3 POWER_LOSS, 4 DUSK_INCOMPLETE. -/
def State.deferredError (s : State) (nsid slba nlb kind : Nat) : State :=
  match s.ns? nsid with
  | none => s
  | some n =>
    let s := (s.event 54 [nsid, slba, nlb, kind]).bump Reg.PWR_DEFER_COUNT_COUNT
    let e := s.logEntry slba nlb kind n.zoned true 0 0
    (s.modNs nsid fun n => { n with deferred := n.deferred.add 1024 e }).vendorAen nsid 0xC1

/-- R273: a lost range is logged in C2h, counted, recorded as EV0838 and posted; acknowledged data also becomes a deferred error of
kind STRIPE_LOST. [DEDUCED, unsafe: log 180] -/
def State.lostRange (s : State) (nsid slba nlb cause column members : Nat) (acked : Bool) : State :=
  match s.ns? nsid with
  | none => s.bump Reg.CRU_LOST_COUNT
  | some n =>
    let s := (s.bump Reg.CRU_LOST_COUNT).event 838 [nsid, slba, nlb, cause]
    let e := s.logEntry slba nlb cause n.zoned acked column members
    let s := (s.modNs nsid fun n => { n with lost := n.lost.add 4096 e }).vendorAen nsid 0xC2
    if acked then s.deferredError nsid slba nlb 2 else s

/-- The SEEN value of an attachment (R165). [DESIGN CHOICE, unsafe: log 188] -/
def State.seen (s : State) (owner nsid : Nat) : Nat := mapGet s.nv.attach (attachKey owner nsid) 0

/-- Does TOTAL exceed SEEN for this controller (R165)? -/
def State.unseen (s : State) (owner nsid : Nat) : Bool :=
  match s.ns? nsid with
  | some n => s.isAttached owner nsid &&
      (decide (s.seen owner nsid < n.deferred.total) || s.ten.pendingSeen.contains (attachKey owner nsid))
  | none => false

/-- Was a command received while TOTAL exceeded SEEN (R165)? One that has begun to wait was tested when it came. [DEDUCED, unsafe:
log 218] -/
def State.unseenBy (s : State) (r : CmdRef) (nsid : Nat) : Bool :=
  s.unseen r.owner nsid && (match s.cmd? r with
    | some c => match c.phase with
      | .waiting _ => false
      | _ => true
    | none => true)

/-- SEEN takes the value of TOTAL, and survives power loss (R165). [DEDUCED, unsafe: log 218] -/
def State.see (s : State) (owner nsid : Nat) : State :=
  match s.ns? nsid with
  | some n =>
    let s := s.updJr fun j => { j with seen := mapSet j.seen (attachKey owner nsid) n.deferred.total }
    (s.updTen fun t => { t with pendingSeen := t.pendingSeen.filter (· ≠ attachKey owner nsid) }).modNv fun v =>
      { v with attach := mapMod v.attach (attachKey owner nsid) fun _ => n.deferred.total }
  | none => s

/-! ### Content and the write buffer -/

/-- One transposition, and a list of them one after another, applied to a value. -/
def swap (d : Nat) (e : Nat × Nat) : Nat := if d = e.1 then e.2 else if d = e.2 then e.1 else d
def permute (l : List (Nat × Nat)) (d : Nat) : Nat := l.foldl swap d

/-- The tweak of the data unit that holds a block: (NSID − 1) × 2⁴⁸ + the number of the 4 KiB unit in the namespace (R310). -/
def xtsTweak (nsid unit : Nat) : Nat := (nsid - 1) * 2 ^ 48 + unit

/-- The cipher of a block under its namespace's key slot, with the key in force now (R310, R314). [DESIGN CHOICE, safe: log 221] -/
def State.xtsOf (s : State) (nsid lba : Nat) : List (Nat × Nat) :=
  match s.ns? nsid with
  | some n => Config.xts (((n.keySlot.bind s.keySlot?).map (·.key)).getD 0) (xtsTweak nsid (lba / n.per4k)) (lba % n.per4k) n.per4k
  | none => []

/-- Encryption of a block at ingress, and decryption at egress (R310, R311). [DESIGN CHOICE, safe: log 221] -/
def State.encrypt (s : State) (nsid lba d : Nat) : Nat := permute (s.xtsOf nsid lba) d
/-- Decryption of a block at egress (R311). [DESIGN CHOICE, safe: log 221] -/
def State.decrypt (s : State) (nsid lba d : Nat) : Nat := permute (s.xtsOf nsid lba).reverse d

/-- Consecutive blocks from an LBA, encrypted and decrypted. -/
def State.encryptAll (s : State) (nsid lba : Nat) (l : List Nat) : List Nat := l.mapIdx fun i d => s.encrypt nsid (lba + i) d
def State.decryptAll (s : State) (nsid lba : Nat) (l : List Nat) : List Nat := l.mapIdx fun i d => s.decrypt nsid (lba + i) d

/-- The ciphertext of logical blocks as the committed map has them on media; a block that nothing has written stands there as zero
data. [DESIGN CHOICE, unsafe: log 188] -/
def State.onMedia (s : State) (nsid lba n : Nat) : List Nat :=
  (List.range n).map fun i => (mapGet? s.nv.content (contentKey nsid (lba + i))).getD (s.encrypt nsid (lba + i) 0)

/-- The ciphertext of the newest buffered copy of a block (R137, R147): the range written last that has it. -/
def State.buffered (s : State) (nsid lba : Nat) : Option Nat :=
  (s.wp.wr.filter fun e => e.2.nsid == nsid && e.2.got && !e.2.void &&
      decide (e.2.slba ≤ lba) && decide (lba < e.2.slba + e.2.nlb)).getLast?.map fun e =>
    e.2.data.getD (lba - e.2.slba) 0

/-- What a read of blocks returns when it issues: the newest buffered copy of each, or what the media hold (R132, R137, R147). -/
def State.atIssue (s : State) (nsid lba n : Nat) : List Nat :=
  (List.range n).map fun i => (s.buffered nsid (lba + i)).getD ((s.onMedia nsid (lba + i) 1).getD 0 0)

/-- The zone or reclaim unit is in service for a new opening on this column (R119, R251, R267). -/
def State.columnServes (s : State) (col : Nat) : Bool :=
  !s.md.columnOut.contains col && decide ((s.outPositions col).length ≤ 1)

/-- Does the entry of a set for a position still name a block set of the module that was replaced, because its rebuild has not come to the
set (R269)? -/
def State.namesOld (s : State) (set i : Nat) : Bool :=
  let m := s.member (s.members.getD i 0)
  decide (m.st = .rebuilding) && !(m.rebuilt.any fun e => e.1 == set) && !(s.md.rebuildStarted.any fun e => e.1 == set)

/-- Does a zone, a reclaim unit or a relocation hold the block set `b` of die `d`? -/
def State.setHeld (s : State) (d b : Nat) : Bool :=
  let names := fun (set c : Nat) (l : List Nat) => (List.range s.memberCount).any fun i =>
    columnDie (s.members.getD i 0) c == d && l.getD i 0xFFFF == b && !s.namesOld set i
  (s.nv.zones.any fun e => match e.2.column with
      | some c => names e.1 c e.2.sets
      | none => false) ||
    (s.nv.rus.any fun e => names (ruKey e.1) e.2.column e.2.sets) ||
    (s.md.reloc.any fun e => (List.range s.memberCount).any fun i =>
      columnDie (s.members.getD i 0) e.2.column == d && e.2.sets.getD i 0xFFFF == b)

/-- Is the block set `b` of die `d` ERASED and held by nothing? [DESIGN CHOICE, unsafe: log 36] -/
def State.setFree (s : State) (d b : Nat) : Bool :=
  !s.setHeld d b && (s.setBlocks d b).all fun k => decide ((s.block d k).st = .erased)

/-- An ERASED block set for every position of a column in service; 0xFFFF stands for the position that is not (R119, R250). [DESIGN
CHOICE, unsafe: log 36] -/
def State.takeSets (s : State) (col : Nat) : Option (List Nat) :=
  let pick := (List.range s.memberCount).map fun i =>
    if s.posOut col i then some 0xFFFF
    else
      let d := columnDie (s.members.getD i 0) col
      (s.setsOf d).find? (s.setFree d)
  if pick.all Option.isSome then some (pick.map fun o => o.getD 0xFFFF) else none

/-- The erases of a column's data blocks, and how many those blocks are. -/
def State.columnWear (s : State) (col : Nat) : Nat × Nat :=
  let l := (s.members.map fun m =>
    (s.nv.blocks.filter fun e => decide (e.1 / 65536 = columnDie m col) && decide (e.2.pool = 0)).map
      fun e => e.2.eraseCount).flatten
  (l.sum, l.length)

/-- The open zones on a column. -/
def State.openOn (s : State) (col : Nat) : Nat := mapCount s.nv.zones fun _ z => z.st.isOpen && decide (z.column = some col)

/-- Does column `a` come before `b` for a new set (R119): the lower mean erase count, then the fewer open zones? [DEDUCED, unsafe:
log 35] -/
def State.columnBefore (s : State) (a b : Nat) : Bool :=
  let x := s.columnWear a
  let y := s.columnWear b
  let l := x.1 * max y.2 1
  let r := y.1 * max x.2 1
  if l < r then true else if r < l then false else decide (s.openOn a < s.openOn b)

/-- The column that firmware chooses on a constellation (R119): the best among those that can serve. [DEDUCED, unsafe: log 35] -/
def State.chooseColumn (s : State) (cons : Nat) : Option (Nat × List Nat) :=
  let l := (s.consOf cons).columns.filterMap fun c =>
    if s.columnServes c then (s.takeSets c).map fun b => (c, b) else none
  match l with
  | [] => none
  | x :: xs => some (xs.foldl (fun b y => if s.columnBefore y.1 b.1 then y else b) x)

end Sys2Proof.Machine
end

