-- ==== Sys2Proof/Machine/Buffer.lean ====
section
/-! DEFINITION. The write buffer, the hot cache, zone openings, key reservations, and the commit of written ranges
(spec/06 R119 to R140, spec/07 R143 to R155, spec/12 R324 to R326). -/

namespace Sys2Proof.Machine

/-! ### Space (R144) -/

/-- The data capacity of the ERASED dusk blocks, in KiB: (M − 1)/M of their raw SLC capacity. -/
def State.duskReadyKiB (s : State) : Nat :=
  let raw := ((s.nv.blocks.filter fun e => decide (e.2.pool = 3) && decide (e.2.st = .erased)).map fun e =>
    (chartKind s.chart.cur (columnOf (e.1 / 65536))).slcBlockKiB).sum
  raw * (s.memberCount - 1) / max s.memberCount 1

/-- PWR_WBUF_LIMIT (R144): the smallest of DUSK_BUDGET, WRITE_BUFFER and the ready dusk blocks where STRAP_HOLDUP = 1,
WRITE_BUFFER alone otherwise; and whether the ready blocks bind it. -/
def State.wbufLimit (s : State) : Nat × Bool :=
  let c := s.chart.cur
  if s.boot.straps.holdup then
    let a := min c.power.duskMiB c.dram.wbufMiB
    let r := s.duskReadyKiB / 1024
    if r < a then (r, true) else (a, false)
  else (c.dram.wbufMiB, false)

/-- PWR_WBUF_LIMIT at the seal, before the block state table is restored (R168): the chart's limits, with DUSK_SHORT 0. -/
def State.wbufStart (s : State) : State :=
  let c := s.chart.cur
  (s.wr Reg.PWR_WBUF_LIMIT_MIB (if s.boot.straps.holdup then min c.power.duskMiB c.dram.wbufMiB else c.dram.wbufMiB)).set
    Reg.PWR_WBUF_LIMIT_DUSK_SHORT false

/-- Bring PWR_WBUF_LIMIT up to date; EV0052 when the ready dusk blocks begin to bind. -/
def State.wbufUpdate (s : State) : State :=
  let l := s.wbufLimit
  let began := l.2 && !s.on Reg.PWR_WBUF_LIMIT_DUSK_SHORT
  let s := (s.wr Reg.PWR_WBUF_LIMIT_MIB l.1).set Reg.PWR_WBUF_LIMIT_DUSK_SHORT l.2
  if began then s.event 52 else s

/-- The reserve of the write buffer: 1/64 of its size, at least 32 MiB (Table ARC-4). -/
def State.wbufReserveMiB (s : State) : Nat := max (s.chart.cur.dram.wbufMiB / 64) 32

/-- Is there space for `n` more 4 KiB units of tenant work, in the write buffer less its reserve (R11) and under the limit of
admission (R144), beside what is reserved for the companion's mirror copies (R397)? [DEDUCED, unsafe: log 29; DESIGN CHOICE,
unsafe: log 85] -/
def State.wbufFits (s : State) (n : Nat) : Bool :=
  decide (s.buffer4k + n + s.pair.given ≤ min (s.chart.cur.dram.wbufMiB - s.wbufReserveMiB) s.wbufLimit.1 * 256)

/-! ### Key reservations (R324 to R326) -/

/-- The usage limit of a kind of slot (R324, Table KEY-6). -/
def State.keyLimit (s : State) : KeyKind → Nat
  | .xts => s.rd Reg.KEY_LIMIT_XTS_LO_DU + s.rd Reg.KEY_LIMIT_XTS_HI_DU * 4294967296
  | .gcm => s.rd Reg.KEY_LIMIT_GCM_GCM_M1 + 1
  | .cipher => s.rd Reg.KEY_LIMIT_CTR_LO_BYTES + s.rd Reg.KEY_LIMIT_CTR_HI_BYTES * 4294967296
  | .none => 0

def State.modKey (s : State) (k : Nat) (f : KeySlot → KeySlot) : State :=
  { s with key := { s.key with slots := mapMod s.key.slots k f } }

/-- May the reservation of `n` be made (R325)? -/
def State.keyAllows (s : State) (k n : Nat) : Bool :=
  match s.keySlot? k with
  | some x => !x.spent && decide (x.count + n ≤ s.keyLimit x.kind)
  | none => false

/-- Reserve `n` of a slot's count (R325): the slot becomes SPENT when COUNT reaches its limit; a reservation that would pass it
reserves nothing, and the slot becomes SPENT. EV0963 when it becomes SPENT. [DESIGN CHOICE, unsafe: log 71] -/
def State.reserveKey (s : State) (k n : Nat) : State :=
  match s.keySlot? k with
  | none => s.bump Reg.KEY_USE_STAT_SPENT_REFUSALS
  | some x =>
    if s.keyAllows k n then
      let full := decide (x.count + n = s.keyLimit x.kind)
      let s := s.modKey k fun x => { x with count := x.count + n, spent := full }
      if full then s.event 963 [k] else s
    else
      let s := s.bump Reg.KEY_USE_STAT_SPENT_REFUSALS
      let s := s.modKey k fun x => { x with spent := true }
      if x.spent then s else s.event 963 [k]

/-- Does a reservation stay below the mark that is on flash (R326)? [DEDUCED, unsafe: log 29, 70, 157] -/
def State.markHolds (s : State) (k n : Nat) : Bool :=
  match s.keySlot? k, mapGet? s.jr.disk.keys k with
  | some x, some m => decide (x.count + n ≤ m.2)
  | _, _ => false

/-- Ask for a new mark of COUNT + 65,536 in the next batch (R326). [DEDUCED, unsafe: log 29, 70, 157] -/
def State.raiseMark (s : State) (k : Nat) : State :=
  match s.keySlot? k with
  | some x => s.modNv fun v => { v with keys := mapSet v.keys k (x.key, x.count + 65536) }
  | none => s

/-! ### The hot cache (R137 to R140) -/

/-- The cache's capacity in 4 KiB blocks. -/
def State.hotCapacity (s : State) : Nat := s.rd Reg.ZONE_HOT_SIZE_CURRENT * 262144

/-- A cached block. -/
def State.hotFind (s : State) (nsid blk : Nat) : Option HotBlock :=
  s.zone.hot.find? fun h => h.nsid == nsid && h.blk == blk

/-- Refresh the recency of a block (R137). [DESIGN CHOICE, unsafe: log 75] -/
def State.hotRefresh (s : State) (nsid blk : Nat) : State :=
  match s.hotFind nsid blk with
  | some h => { s with zone := { s.zone with
      hot := h :: s.zone.hot.filter fun x => !(x.nsid == nsid && x.blk == blk) } }
  | none => s

/-- The blocks of one tenant that a share of `n` blocks leaves, the most recent ones; those of the others stay. -/
def keepShare (p : HotBlock → Bool) : Nat → List HotBlock → List HotBlock
  | _, [] => []
  | n, h :: l =>
    if p h then match n with
      | 0 => keepShare p 0 l
      | n + 1 => h :: keepShare p n l
    else h :: keepShare p n l

/-- Insert a block (R137, R139): the tenant's blocks stay within TENANT_PCT of the cache, its least recent ones going first, and in
a full cache the least recent block goes; ZONE_HOT_STAT counts in units of 65,536. [DESIGN CHOICE, unsafe: log 75] -/
def State.hotInsert (s : State) (h : HotBlock) : State :=
  let cap := s.hotCapacity
  let share := cap * s.rd Reg.ZONE_HOT_CTRL_TENANT_PCT / 100
  if share = 0 then s
  else
    let l := s.zone.hot.filter fun x => !(x.nsid == h.nsid && x.blk == h.blk)
    let total := s.zone.hotInserts + 1
    let l := (h :: keepShare (fun x => x.owner == h.owner) (share - 1) l).take cap
    let s := { s with zone := { s.zone with hot := l, hotInserts := total % 65536 } }
    s.bump Reg.ZONE_HOT_STAT_INSERTS (total / 65536)

/-- Invalidate the cached blocks of a range of 4 KiB blocks (R138). -/
def State.hotDrop (s : State) (nsid a n : Nat) : State :=
  { s with zone := { s.zone with
    hot := s.zone.hot.filter fun h => !(h.nsid == nsid && decide (a ≤ h.blk) && decide (h.blk < a + n)) } }

/-- Invalidate a namespace's cached blocks (R138). -/
def State.hotDropNs (s : State) (nsid : Nat) : State :=
  { s with zone := { s.zone with hot := s.zone.hot.filter fun h => h.nsid != nsid } }

/-! ### Openings (R119 to R121) -/

/-- A failed check of the zone engine (Table ZON-11): recorded until cleared. -/
def State.zoneErr (s : State) (check zone : Nat) : State :=
  s.firstError Reg.ZONE_ERR_VALID [(Reg.ZONE_ERR_CHECK, check), (Reg.ZONE_ERR_ZONE, zone)]

/-- The three scopes of R121 in order, with the active and the open limit of each. -/
def State.scopes (s : State) (nsid : Nat) (n : Ns) : List ((Nat → Bool) × Nat × Nat) :=
  [(fun x => x == nsid, n.activeM1 + 1, n.openM1 + 1),
   (fun x => decide (s.nsCons x = some n.cons), (s.consOf n.cons).activeLimit, (s.consOf n.cons).openLimit),
   (fun _ => true, s.chart.cur.zone.devActive, s.chart.cur.zone.devOpen)]

/-- Is an active limit reached in some scope? -/
def State.activeFull (s : State) (nsid : Nat) (n : Ns) : Bool :=
  (s.scopes nsid n).any fun x => decide (x.2.1 ≤ s.countZones x.1 ZoneSt.active)

/-- The keys of the block sets on a column, by position. -/
def State.setKeys (s : State) (col : Nat) (sets : List Nat) : List Nat :=
  (List.range s.memberCount).filterMap fun i =>
    if sets.getD i 0xFFFF = 0xFFFF then none else some (blockKey (columnDie (s.members.getD i 0) col) (sets.getD i 0))

/-- The block sets that a zone gives up go to the erase queue once the batch that records it is on flash (R131, R154). [DEDUCED,
unsafe: log 74, 162] -/
def State.releaseSets (s : State) (col : Nat) (sets : List Nat) : State :=
  { s with zone := { s.zone with released := s.zone.released ++ (s.setKeys col sets).map fun k => (k, s.jr.openNo) } }

/-- Close an open zone (Table ZON-3): CLOSED, or EMPTY with its block sets released when nothing has been written. [DEDUCED, unsafe:
log 39] -/
def State.closeZone (s : State) (nsid z : Nat) : State :=
  let x := s.zoneAt nsid z
  if x.wp = 0 ∧ x.reserved = 0 then
    let s := match x.column with
      | some c => s.releaseSets c x.sets
      | none => s
    s.modZone nsid z fun x => { x with st := .empty, column := none, sets := [] }
  else s.modZone nsid z fun x => { x with st := .closed }

/-- The IOPEN zone with the lowest OPEN_SEQ in a scope. -/
def State.victim (s : State) (p : Nat → Bool) : Option Nat :=
  let l := (s.nv.zones.filter fun e => p (e.1 / 4294967296) && decide (e.2.st = .iopen)).map fun e => (e.1, e.2.openSeq)
  match l with
  | [] => none
  | x :: xs => some (xs.foldl (fun a b => if b.2 < a.2 then b else a) x).1

/-- Make room under the open limits (R121): an explicit opening fails, an implicit one closes the victim of the scope (EV0041), in
each scope in order; above a limit that has been lowered nothing opens (R142). `none`: the opening fails. [DEDUCED, unsafe: log
216] -/
def State.makeRoom (s : State) (explicit : Bool) : List ((Nat → Bool) × Nat × Nat) → Option State
  | [] => some s
  | x :: l =>
    if s.countZones x.1 ZoneSt.isOpen < x.2.2 then s.makeRoom explicit l
    else if explicit || decide (x.2.2 < s.countZones x.1 ZoneSt.isOpen) then none
    else match s.victim x.1 with
      | some k => ((s.closeZone (k / 4294967296) (k % 4294967296)).event 41 [k / 4294967296, k % 4294967296]).makeRoom explicit l
      | none => none

/-- How an attempt to open a zone ends. -/
inductive Opened where
  | ok (s : State)
  | fails (st : Status) (s : State)
  | waits (s : State)

/-- Open a zone (R119 to R121): the limits, then the block sets of an EMPTY zone; with no column that has an ERASED set on every die
the opening waits. [DEDUCED, unsafe: log 73] -/
def State.openZone (s : State) (nsid z : Nat) (n : Ns) (explicit : Bool) : Opened :=
  let x := s.zoneAt nsid z
  if x.st = .empty ∧ s.activeFull nsid n = true then .fails .tooManyActiveZones s
  else
    match s.makeRoom explicit (s.scopes nsid n) with
    | none => .fails .tooManyOpenZones s
    | some s =>
      let seq := s.zone.openSeq + 1
      let st := if explicit then ZoneSt.eopen else ZoneSt.iopen
      let up := fun (s : State) => { s with zone := { s.zone with openSeq := seq } }
      if x.st = .empty then
        match s.chooseColumn n.cons with
        | none => .waits s
        | some (c, b) => .ok (up (s.modZone nsid z fun x =>
            { x with st := st, column := some c, sets := b, openSeq := seq }))
      else .ok (up (s.modZone nsid z fun x => { x with st := st, openSeq := seq }))

/-! ### Write pointers and voids (R122, R124) -/

/-- The buffered ranges of a zone. -/
def State.zoneWrs (s : State) (nsid z : Nat) : List (Nat × Wr) :=
  s.wp.wr.filter fun e => e.2.nsid == nsid && decide (e.2.zone = some z)

/-- WP passes the void ranges and the ranges whose data is all in the buffer that begin at it (R122). -/
def passWp (voids ready : List (Nat × Nat)) : Nat → Nat → Nat
  | 0, wp => wp
  | fuel + 1, wp =>
    match (voids ++ ready).find? fun r => r.1 = wp && r.2 != 0 with
    | some r => passWp voids ready fuel (wp + r.2)
    | none => wp

/-- Advance WP, and make the zone FULL at ZCAP (Table ZON-3). -/
def State.advanceWp (s : State) (nsid z : Nat) : State :=
  match s.ns? nsid with
  | none => s
  | some n =>
    let x := s.zoneAt nsid z
    let ready := ((s.zoneWrs nsid z).filter fun e => e.2.got).map fun e => (e.2.offset, e.2.nlb)
    let wp := passWp x.voids ready (x.voids.length + ready.length + 1) x.wp
    s.modZone nsid z fun x => { x with
      wp := wp, st := if wp = s.zcap n ∧ x.st.active = true then .full else x.st }

/-- RANGE_VOID (R124): a reserved range of a zone becomes void blocks, EV0042, and WP passes over it. -/
def State.voidRange (s : State) (nsid z off nlb : Nat) : State :=
  let s := (s.modZone nsid z fun x => { x with voids := x.voids ++ [(off, nlb)] }).event 42 [nsid, z, off, nlb]
  s.advanceWp nsid z

/-- A write fails after it reserved space (R148): none of its blocks is committed, its space is released, and on a zoned
namespace its range is voided. -/
def State.dropWrite (s : State) (p : Wr → Bool) : State :=
  let l := s.wp.wr.filter fun e => p e.2
  let s := { s with wp := { s.wp with wr := s.wp.wr.filter fun e => !p e.2 } }
  s.each l fun s e => match e.2.zone with
    | some z => s.voidRange e.2.nsid z e.2.offset e.2.nlb
    | none => s

/-- The range of a command that is not yet complete. -/
def ofCommand (r : CmdRef) (w : Wr) : Bool := decide (w.ref = r) && decide (w.completed = none)

/-! ### Reclaim units (R128, R129, R253) -/

/-- The granules that a range of a conventional namespace touches. -/
def State.granulesOf (s : State) (n : Ns) (slba nlb : Nat) : List Nat :=
  let g := s.granule4k * n.per4k
  (List.range ((slba + nlb - 1) / g + 1 - slba / g)).map (slba / g + ·)

/-- Marks a granule whose map entry is unrecoverable (Table DRM-4): it is no value of a 4-byte entry and names no reclaim unit. -/
def lostSlot : Nat := 4294967296

/-- The key of a granule's map entry. -/
def mapKey (nsid granule : Nat) : Nat := nsid * 2 ^ 40 + granule

/-- The reclaim unit that a handle writes to. -/
def State.handleRu (s : State) (nsid h : Nat) : Option (Nat × Ru) :=
  s.nv.rus.find? fun e => decide (e.2.held = some (nsid, h))

/-- The number of a new reclaim unit: the lowest of its constellation that is free (R129). [DESIGN CHOICE, unsafe: log 201] -/
def State.freeRu (s : State) (cons : Nat) : Nat :=
  let used := s.nv.rus.map (·.1) ++ (s.md.reloc.filter fun e => decide (2 ^ 60 ≤ e.1)).map fun e => e.1 - 2 ^ 60
  let taken := (used.filter fun i => decide (i / 4294967296 = cons)).map fun i => i % 4294967296
  ruId cons ((firstFree taken (taken.length + 1) 0 1).getD 0 0)

/-- One granule slot for a handle (R128): in its current unit, or in a new one under the column choice of R119 when that
unit is full. `none`: no column can serve. -/
def State.takeSlot (s : State) (nsid h : Nat) (n : Ns) : Option (Nat × State) :=
  let put := fun (s : State) (i : Nat) (r : Ru) => (i % 4294967296 * s.ruGranules + r.taken,
    s.modNv fun v => { v with rus := mapSet v.rus i { r with taken := r.taken + 1 } })
  -- a handle whose last unit was taken from it before it was full (R130)
  let fresh := fun (s : State) (i : Nat) =>
    if s.zone.fdpShort.contains (nsid, h) then s.updZone fun z => { z with
      fdpShort := z.fdpShort.filter (· != (nsid, h)), fdp := (0, n.cons, i) :: z.fdp } else s
  match s.handleRu nsid h with
  | some (i, r) =>
    if r.taken < s.ruGranules then some (put s i r)
    else
      let s := s.modNv fun v => { v with rus := mapSet v.rus i { r with held := none } }
      (s.chooseColumn n.cons).map fun c => put s (s.freeRu n.cons) ⟨n.cons, c.1, c.2, some (nsid, h), 0, false, false⟩
  | none => (s.chooseColumn n.cons).map fun c => put (fresh s (s.freeRu n.cons)) (s.freeRu n.cons) ⟨n.cons, c.1, c.2, some (nsid, h), 0, false, false⟩

/-- The block sets of a reclaim unit. -/
def State.unitKeys (s : State) (u : Ru) : List Nat := s.setKeys u.column u.sets

/-- The block sets of a reclaim unit hold copies of granules, by map key, until they are erased (R134). [DEDUCED, unsafe: log 217]
-/
def State.noteCopies (s : State) (keys : List Nat) (i : Nat) : State :=
  match mapGet? s.nv.rus i with
  | none => s
  | some u =>
    let l := (keys.map fun k => (s.unitKeys u).map fun b => (k, b)).flatten
    { s with jr := { s.jr with copies := s.jr.copies ++ l.filter fun e => !s.jr.copies.contains e } }

/-- A slot for each of some granules. -/
def State.takeSlots (s : State) (nsid h : Nat) (n : Ns) : List Nat → Option (List (Nat × Nat) × State)
  | [] => some ([], s)
  | g :: l =>
    match s.takeSlot nsid h n with
    | none => none
    | some (slot, s) => ((s.noteCopies [mapKey nsid g] (s.unitOf n.cons slot)).takeSlots nsid h n l).map fun r => ((g, slot) :: r.1, r.2)

/-! ### Commit (R155, R249) -/

/-- Is a row complete (R249): its parity unit has passed, or that position is out of service and every data unit in
service has passed? -/
def State.rowComplete (s : State) (set r : Nat) : Bool :=
  let x := s.row set r
  match s.setPlace set with
  | none => false
  | some (col, _) =>
    x.parity || (x.out.contains (s.parityPos col r) &&
      (List.range s.memberCount).all fun i => i == s.parityPos col r || x.out.contains i || x.passed.contains i)

/-- Are the rows under a range complete? -/
def State.rangeDone (s : State) (w : Wr) : Bool :=
  match s.ns? w.nsid with
  | none => false
  | some n =>
    match w.zone with
    | some z =>
      let set := zoneKey w.nsid z
      match s.setPlace set with
      | none => false
      | some (col, _) =>
        let a := (s.rowOf col (w.offset / n.per4k)).1
        let b := (s.rowOf col ((w.offset + w.nlb - 1) / n.per4k)).1
        (List.range (b + 1 - a)).all fun i => s.rowComplete set (a + i)
    | none =>
      !w.ru.isEmpty && w.ru.all fun g =>
        let set := ruKey (s.unitOf n.cons g.2)
        let o := s.slotOff g.2 * s.granule4k
        match s.setPlace set with
        | none => false
        | some (col, _) =>
          let a := (s.rowOf col o).1
          let b := (s.rowOf col (o + s.granule4k - 1)).1
          (List.range (b + 1 - a)).all fun i => s.rowComplete set (a + i)

/-- The rows of a set that a buffered range fills, first and last. -/
def State.wrRows (s : State) (w : Wr) (set : Nat) : List (Nat × Nat) :=
  match s.ns? w.nsid, s.setPlace set with
  | some n, some (col, _) =>
    match w.zone with
    | some z => if zoneKey w.nsid z = set then
        [((s.rowOf col (w.offset / n.per4k)).1, (s.rowOf col ((w.offset + w.nlb - 1) / n.per4k)).1)] else []
    | none => (w.ru.filter fun g => ruKey (s.unitOf n.cons g.2) == set).map fun g =>
        ((s.rowOf col (s.slotOff g.2 * s.granule4k)).1, (s.rowOf col (s.slotOff g.2 * s.granule4k + s.granule4k - 1)).1)
  | _, _ => []

/-- The sets that a buffered range fills. -/
def State.wrSets (s : State) (w : Wr) : List Nat :=
  match w.zone with
  | some z => [zoneKey w.nsid z]
  | none => (w.ru.map fun g => ruKey (s.unitOf ((s.nsCons w.nsid).getD 0) g.2)).eraseDups

/-- How much of a set is filled, in 4 KiB: a zone up to WP, a reclaim unit by the granules taken. -/
def State.filled4k (s : State) (set : Nat) : Nat :=
  if set < 2 ^ 60 then
    (s.zoneAt (set / 4294967296) (set % 4294967296)).wp / ((s.ns? (set / 4294967296)).map (·.per4k)).getD 1
  else ((mapGet? s.nv.rus (set - 2 ^ 60)).map (·.taken)).getD 0 * s.granule4k

/-- The row of a set that is only partly filled (R152). -/
def State.partialRow (s : State) (set : Nat) : Option Nat :=
  match s.setPlace set with
  | some (col, _) =>
    let n := (s.memberCount - 1) * s.unit4k col
    if s.filled4k set % n = 0 then none else some (s.filled4k set / n)
  | none => none

/-- The positions of the data units of a row that are wholly filled (R152). -/
def State.filledUnits (s : State) (set row : Nat) : List Nat :=
  match s.setPlace set with
  | some (col, _) => ((List.range (s.memberCount - 1)).filter fun j =>
      decide (s.wordIndex col row j (s.unit4k col) ≤ s.filled4k set)).map (s.dataPos col row)
  | none => []

/-- Has a row what a flush leaves of it on the media beside its record: every wholly filled unit, or every unit (R152)? -/
def State.rowWritten (s : State) (set row : Nat) : Bool :=
  s.rowComplete set row || (decide (s.partialRow set = some row) && (s.filledUnits set row).all fun p =>
    (s.row set row).passed.contains p || (match s.setPlace set with
      | some (col, _) => s.posOut col p
      | none => false))

/-- Is a range in a flush record of its partial row, on both members that hold the journal's copies, with the rest of it programmed
(R152)? [DESIGN CHOICE, unsafe: log 219] -/
def State.isFlushed (s : State) (w : Wr) : Bool :=
  let up := (s.members.filter s.memberUp).length
  w.flushed || (w.got && decide (0 < w.recorded.length) && decide (min 2 up ≤ w.recorded.length) && !(s.wrSets w).isEmpty &&
    (s.wrSets w).all fun set => (s.wrRows w set).all fun p =>
      (List.range (p.2 + 1 - p.1)).all fun i => s.rowWritten set (p.1 + i))

/-- Enter a range in the committed content and the conventional map (COMMIT, Table RED-1), but for the granules that have been
deallocated since (R131). -/
def State.commitRange (s : State) (k : Nat) (w : Wr) : State :=
  let s := s.modNv fun v => { v with
    content := (List.range w.nlb).foldl (fun m i => mapSet m (contentKey w.nsid (w.slba + i)) (w.data.getD i 0)) v.content
    map := (w.ru.filter fun g => !w.dealloc.contains g.1).foldl (fun m g => mapSet m (mapKey w.nsid g.1) g.2) v.map }
  let s := match w.zone with
    | some z => s.modZone w.nsid z fun x => { x with committed := max x.committed (w.offset + w.nlb) }
    | none => s
  { s with wp := { s.wp with wr := mapMod s.wp.wr k fun w => { w with committed := some s.jr.openNo } } }

/-- May a range be committed (R147, R155): on a zone, only when everything below it is; elsewhere, only when every overlapping range
reserved before it is? -/
def State.commitTurn (s : State) (k : Nat) (w : Wr) : Bool :=
  match w.zone with
  | some z => !((s.zoneWrs w.nsid z).any fun e => e.1 != k && decide (e.2.offset < w.offset) && decide (e.2.committed = none))
  | none => !(s.wp.wr.any fun e => e.1 != k && decide (e.1 < k) && e.2.nsid == w.nsid &&
      decide (e.2.committed = none) && decide (e.2.slba < w.slba + w.nlb) && decide (w.slba < e.2.slba + e.2.nlb))

/-- Commit every range that is ready, in order. -/
def State.commitAll (s : State) : State :=
  let s := { s with wp := { s.wp with wr := mapAll s.wp.wr fun _ w =>
    { w with rowsDone := w.rowsDone || (w.got && s.rangeDone w), flushed := s.isFlushed w } } }
  s.each s.wp.wr fun s e =>
    match mapGet? s.wp.wr e.1 with
    | some w => if w.got && (!w.needAck || w.acked) && (w.rowsDone || w.flushed) && decide (w.committed = none) &&
          s.commitTurn e.1 w
        then s.commitRange e.1 w else s
    | none => s

/-! ### Completion of writes (R145, R151) -/

/-- Is a range durable: committed in a batch that is on flash (R149)? -/
def State.durable (s : State) (w : Wr) : Bool :=
  match w.committed with
  | some n => decide (n ≤ s.jr.onFlash)
  | none => false

/-- Is a range durable on this side and, in a pair whose companion is not suspect, reported so by the companion (R151)? -/
def State.lasting (s : State) (w : Wr) : Bool :=
  s.durable w && (!s.isPair || decide (s.nv.pairSt ≠ .paired) || (match w.committed with
    | some n => decide (n ≤ s.jr.pairFlash)
    | none => false))

/-- A write command completes (R145, R125, R151) when all its ranges have their data and their acknowledgement, and with
FUA their durability. An append returns its first LBA. -/
def State.tryComplete (s : State) (r : CmdRef) : State :=
  let l := s.wp.wr.filter fun e => ofCommand r e.2
  if l.isEmpty then s
  else if l.all fun e => e.2.got && (!e.2.needAck || e.2.acked) && (!e.2.fua || s.lasting e.2) then
    let lba := ((l.head?.map fun e => e.2.slba).getD 0)
    let append := match s.cmd? r with
      | some c => c.opcode == 0x7D
      | none => false
    if append then s.finish r .success (lba % 4294967296) (lba / 4294967296) else s.finish r .success
  else s

end Sys2Proof.Machine
end

