-- ==== Sys2Proof/Machine/Place.lean ====
section
/-! DEFINITION. Where a logical block lies: its set, its row, its position and its codeword offsets (spec/10 R246, R253, R255). -/

namespace Sys2Proof.Machine

/-- The exception that says which codewords a patch slot of a constellation holds (R253, R255): that of the data, not of the parity. -/
def State.patchEntry (s : State) (cons slot : Nat) : Option Rowx :=
  s.nv.rowx.find? fun e => decide (e.kind = .patch slot) && s.setCons e.set == some cons &&
    decide (some e.pos ≠ (s.setPlace e.set).map fun p => s.parityPos p.1 e.row)

/-- The lowest bit that is set in a mask of codeword offsets. -/
def lowBit (m : Nat) : Nat := ((List.range 64).find? (bit m)).getD 0

/-- A mask of `n` codeword offsets from `a` on (R255). -/
def maskFrom (a n : Nat) : Nat := (2 ^ n - 1) * 2 ^ a

/-- The codeword offsets of a whole unit of a column. -/
def State.unitMask (s : State) (col : Nat) : Nat := maskFrom 0 (s.unit4k col)

/-- Do two masks of codeword offsets overlap? -/
def masksMeet (a b : Nat) : Bool := Nat.land a b != 0

/-- The set, the column, the row and the position of the 4 KiB unit `o` of a granule slot of a constellation; a patch lies on the die of
the position it patches (R129, R246, R253). -/
def State.slotPlace (s : State) (cons slot o : Nat) : Option (Nat × Nat × Nat × Nat) :=
  let set := ruKey (s.unitOf cons slot)
  match s.setPlace set with
  | some (c, _) =>
    let p := s.rowOf c (s.slotOff slot * s.granule4k + o)
    some (set, c, p.1, ((s.patchEntry cons slot).map (·.pos)).getD p.2)
  | none => none

/-- The set, the column, the row and the position of a logical block on media. -/
def State.locate (s : State) (nsid lba : Nat) : Option (Nat × Nat × Nat × Nat) :=
  match s.ns? nsid with
  | none => none
  | some n =>
    if n.zoned then
      let zl := s.zoneLbas n
      match (s.zoneAt nsid (lba / zl)).column with
      | some c =>
        let p := s.rowOf c (lba % zl / n.per4k)
        some (zoneKey nsid (lba / zl), c, p.1, p.2)
      | none => none
    else
      let u := lba / n.per4k
      (mapGet? s.nv.map (mapKey nsid (u / s.granule4k))).bind fun slot => s.slotPlace n.cons slot (u % s.granule4k)

/-- The offset in its unit of the codeword of a logical block, where it lies (R246). -/
def State.offsetOf (s : State) (nsid lba : Nat) : Nat :=
  match s.ns? nsid, s.locate nsid lba with
  | some n, some (_, col, _, _) =>
    let o := if n.zoned then lba % s.zoneLbas n / n.per4k
      else s.slotOff ((mapGet? s.nv.map (mapKey nsid (lba / n.per4k / s.granule4k))).getD 0) * s.granule4k + lba / n.per4k % s.granule4k
    o % s.unit4k col
  | _, _ => 0

/-- The exception under which a logical block of a conventional namespace is patched. -/
def State.patchOf (s : State) (nsid lba : Nat) : Option Rowx :=
  match s.ns? nsid with
  | some n => if n.zoned then none
    else (mapGet? s.nv.map (mapKey nsid (lba / n.per4k / s.granule4k))).bind (s.patchEntry n.cons)
  | none => none

/-- The row whose parity covers a logical block, and its position there: of a patch its origin row. -/
def State.stripeOf (s : State) (nsid lba : Nat) : Option (Nat × Nat × Nat) :=
  match s.patchOf nsid lba with
  | some e => some (e.set, e.row, e.pos)
  | none => (s.locate nsid lba).map fun x => (x.1, x.2.2.1, x.2.2.2)

/-- The codeword offsets of `n` logical blocks in the unit that `stripeOf` names (R246, R255). -/
def State.maskOf (s : State) (nsid lba n : Nat) : Nat :=
  match s.ns? nsid with
  | none => 0
  | some x =>
    let words := (lba + n - 1) / x.per4k + 1 - lba / x.per4k
    match s.patchOf nsid lba with
    | some e => maskFrom (lowBit e.mask + lba / x.per4k % s.granule4k) words
    | none => maskFrom (s.offsetOf nsid lba) words

end Sys2Proof.Machine
end

