-- ==== Sys2Proof/Machine/Sendq.lean ====
section
/-! DEFINITION. The messages that queue pairs have still to send (spec/11 R289, R300, R303): how they come onto a queue pair and how
they leave it unsent. What the ports send of them is in Transmit.lean. -/

namespace Sys2Proof.Machine

def State.modQp (s : State) (qp : Nat) (f : Qp → Qp) : State := s.updNet fun n => { n with qps := mapMod n.qps qp f }

/-- The queue pair of a queue of a fabric controller. -/
def State.qpOf (s : State) (owner qid : Nat) : Option Nat :=
  (s.net.qps.find? fun e => decide (e.2.use = .nvme owner qid)).map (·.1)

/-- A serve queue pair's queue pair, while it is READY. -/
def State.readyQp (s : State) (handle : Nat) : Option (Nat × Qp) :=
  match mapGet? s.net.sqps handle with
  | some x => if x.st = .ready then (mapGet? s.net.qps x.qp).map fun q => (x.qp, q) else none
  | none => none

/-- Messages join a queue pair, behind those that wait there: messages of different programs meet at message boundaries only, and
those of one step go in order (R300). -/
def State.queueMsgs (s : State) (qp : Nat) (l : List Msg) : State := s.modQp qp fun q => { q with sendq := q.sendq ++ l }

/-- Is a message of a command still to be sent, in part or whole? -/
def State.sendsFor (s : State) (r : CmdRef) : Bool := s.net.qps.any fun e => e.2.sendq.any fun m => m.ref == some r

/-- The data of a read of a fabric controller wait for their turn on the queue pair of its queue (R289). -/
def State.queueReadData (s : State) (r : CmdRef) (blockBytes : Nat) (data : List Nat) : State :=
  match s.qpOf r.owner r.sqid with
  | none => s
  | some k => s.queueMsgs k [{ ref := some r, kind := .readData, len := data.length * blockBytes, unit := blockBytes, data := data }]

/-- The data of a write of a fabric controller that does not fit its capsule are asked for by RDMA READ (Table SRV-3). [DEDUCED,
unsafe: log 231] -/
def State.askData (s : State) (r : CmdRef) (bytes : Nat) : State :=
  match s.qpOf r.owner r.sqid with
  | none => s
  | some k => if bytes ≤ 8192 then s else s.queueMsgs k [{ ref := some r, kind := .readReq, len := 0, ask := bytes }]

/-- The RDMA READs of a queue pair that are outstanding: those of commands that have not ended (R283). [DEDUCED, unsafe: log 231] -/
def State.asksOf (s : State) (q : Qp) : Nat := (q.asked.filter fun e => s.runs e.1).length

/-- The data that a command asked for by RDMA READ has come, which acknowledges the request. [DEDUCED, unsafe: log 231] -/
def State.dataCame (s : State) (r : CmdRef) : State :=
  s.updNet fun n => { n with qps := mapAll n.qps fun _ q => match q.asked.find? fun e => e.1 == r with
    | some e => { q with asked := q.asked.filter fun e => e.1 != r, acked := max q.acked e.2, retries := 0, rnr := 0 }
    | none => q }

/-- The PSNs that the next packet of a message takes at a path MTU: an RDMA READ takes one for each packet of its answer. [PRESUMED,
unsafe: log 232] -/
def Msg.psns (m : Msg) (pmtu : Nat) : Nat := max 1 ((m.ask + pmtu - 1) / pmtu)

/-- The closing message that carries immediate data (R300). -/
def MsgKind.closing : MsgKind → Bool
  | .writeImm | .sendImm => true
  | .write | .send | .readData | .readReq => false

/-- The messages of a SEND step (R300): an RDMA WRITE is one message, a SEND goes as messages of at most the path MTU; the closing
message follows. -/
def sendMsgs (r : CmdRef) (kind pmtu n rkey addr data : Nat) (imm : Option Nat) : List Msg :=
  let body : List Msg :=
    if kind = 1 then [{ ref := some r, kind := .write, len := n, rkey := rkey, addr := addr, unit := n, data := [data] }]
    else (List.range ((n + pmtu - 1) / pmtu)).map fun i =>
      let l := min pmtu (n - i * pmtu)
      { ref := some r, kind := .send, len := l, unit := l, data := [data / 256 ^ (i * pmtu) % 256 ^ l] }
  body ++ match imm with
    | some i => [{ ref := some r, kind := if kind = 1 then .writeImm else .sendImm, len := 0, rkey := rkey, addr := addr, imm := i }]
    | none => []

/-- A program stops or fails (R302, R303): of a SEND step whose first packet has gone the data still go and the closing message does
not; of one whose first packet has not, nothing goes. -/
def State.unsend (s : State) (r : CmdRef) (begun : Bool) : State :=
  s.updNet fun n => { n with qps := mapAll n.qps fun _ q => { q with
    sendq := (q.sendq.filter fun m => m.ref != some r || (begun && !m.kind.closing)).map fun m =>
      if m.ref = some r then { m with ref := none } else m } }

end Sys2Proof.Machine
end

