-- ==== Sys2Proof/Machine/Write.lean ====
section
/-! DEFINITION. Write, Write Zeroes, Zone Append, their data, Flush, deallocation and the journal batches
(spec/06 R122 to R131, spec/07). -/

namespace Sys2Proof.Machine

/-! ### The pair's side of a change (R393, R397, R398) -/

/-- Is this device side B (STRAP_PAIR = 10)? [DESIGN CHOICE, unsafe: log 95] -/
def State.sideB (s : State) : Bool := s.boot.straps.pair == 2

/-- Is the home of a constellation side B (PAIR_HOME)? -/
def State.homeB (s : State) (k : Nat) : Bool := bit (s.rd (Reg.PAIR_HOME_SIDE_B.at (k / 32))) (k % 32)

/-- The ANA state of a constellation on this side (Table PAI-3): 1 Optimized, 2 Non-Optimized, 3 Inaccessible. -/
def State.ana (s : State) (k : Nat) : Nat :=
  if !s.isPair then 1
  else match s.nv.pairSt with
    | .paired => if s.homeB k = s.sideB then 1 else 2
    | .survivor => 1
    | .suspect => 1
    | .resync => if s.on Reg.PAIR_STATUS_RESYNC_TARGET then 3 else 1
    | _ => 2

/-- A change of the pair: where an ANA state differs after it, Asymmetric Namespace Access Change goes to every controller that is
enabled (R406). -/
def State.withAna (s : State) (f : State → State) : State :=
  let l := List.range s.chart.cur.cons.length
  let s' := f s
  if l.all fun k => s'.ana k == s.ana k then s'
  else s'.each (s'.host.ctrls.filter fun e => e.2.en) fun x e => x.aen e.1 2 3 0x0C

/-- A changing command reaches a constellation whose home is the other side (R398). -/
def State.remoteHome (s : State) (k : Nat) : Bool :=
  s.isPair && decide (s.nv.pairSt = .paired) && decide (s.homeB k ≠ s.sideB)

/-- A home change of the constellation waits for its confirmation or its meridian (R393). [DESIGN CHOICE, unsafe: log 9] -/
def State.homeMoving (s : State) (k : Nat) : Bool :=
  decide (s.nv.pairSt = .paired) && (match mapGet? s.pair.homeWant (k / 32) with
    | some v => decide (bit v (k % 32) ≠ s.homeB k)
    | none => false)

/-- Is a command forwarded, and its response still to come? -/
def State.isForwarded (s : State) (r : CmdRef) : Bool := mapAny s.pair.forwards fun _ e => decide (e.1 = r)

/-- Forward a changing command to the home side (R398): it waits for the response. -/
def State.forward (s : State) (r : CmdRef) (nsid slba nlb : Nat) (kind : ForwardKind) : State :=
  if s.isForwarded r then s
  else
    let k := s.pair.nextForward
    let s := s.updPair fun p => { p with
      forwards := mapSet p.forwards k (r, ⟨k, kind, nsid, slba, nlb, []⟩), nextForward := k + 1 }
    (s.hold r 2).emit [Out.bulum "forward" [k, nsid, slba, nlb]]

/-- Is the change of a command ordered elsewhere: it comes from the companion, or the home side has approved it (R398)? -/
def State.ordered (s : State) (r : CmdRef) : Bool := r.owner == companionOwner || s.pair.approved.contains r

/-- Does a pair write need the companion's acknowledgement now (R145, R398, R402)? -/
def State.needsMirror (s : State) (r : CmdRef) : Bool :=
  s.isPair && !s.ordered r && (decide (s.nv.pairSt = .paired) || decide (s.nv.pairSt = .suspect) ||
    (decide (s.nv.pairSt = .resync) && !s.on Reg.PAIR_STATUS_RESYNC_TARGET))

/-- Does this side hold mirror copies for its companion (R397)? -/
def State.mirrors (s : State) : Bool :=
  s.isPair && (decide (s.nv.pairSt = .paired) || decide (s.nv.pairSt = .suspect) || decide (s.nv.pairSt = .resync))

/-- Does a changing command carry data, or zeros that its ranges stand for? -/
def kindRanges : ForwardKind → Bool
  | .write _ _ _ => true
  | .append => true
  | .zeroes deac => !deac
  | _ => false

/-- The ranges that a changing command without data changes. -/
def changedRanges (n : Ns) (slba nlb : Nat) : ForwardKind → List (Nat × Nat)
  | .deallocate l => l
  | .zoneSend _ true => [(0, n.nsze)]
  | _ => [(slba, max nlb 1)]

/-- A changing command without data has run on its home side: it is mirrored, and one that is done completes with the companion's
acknowledgement (R398). [DEDUCED, unsafe: log 83] -/
def State.mirrorOp (s : State) (r : CmdRef) (nsid slba : Nat) (ranges : List (Nat × Nat)) : State :=
  let k := s.wp.next
  let send := fun (s : State) =>
    (s.updWp fun w => { w with next := k + 1 }).emit [Out.bulum "mirror operation" [k, nsid, slba]]
  match s.cmd? r with
  | none => s
  | some c => match c.phase with
    | .done .success dw0 dw1 =>
      (send (s.modCmd r fun c => { c with phase := .accepted })).updPair fun p =>
        { p with opAcks := mapSet p.opAcks k (r, dw0, dw1), opRanges := mapSet p.opRanges k (nsid, ranges) }
    | .accepted => send s
    | .waiting _ => send s
    | _ => s

/-- Does a forwarded command bring data of its own? -/
def kindTransfers : ForwardKind → Bool
  | .write .. => true
  | .append => true
  | _ => false

/-- The gates of a changing command of a pair namespace (R393, R398, R403). -/
def State.pairGate (s : State) (r : CmdRef) (n : Ns) (nsid slba nlb : Nat) (kind : ForwardKind) (f : State → State) : State :=
  if s.pair.approved.contains r || (r.owner == companionOwner && r.sqid == 1) then f s
  else if s.pairRefuses then s.finish r .anaInaccessible
  else if s.isPair && s.homeMoving n.cons then s.hold r 3
  else if s.remoteHome n.cons then
    (if r.owner = companionOwner then s.finish r .anaInaccessible
     else (s.forward r nsid slba nlb kind).askData r (if kindTransfers kind then nlb * (4096 / n.per4k) else 0))
  else if s.needsMirror r && !kindRanges kind then (f s).mirrorOp r nsid slba (changedRanges n slba nlb kind)
  else f s

/-! ### Writes (R122 to R125, R128, R143 to R148, R165) -/

/-- What writes: the command's kind. -/
inductive WriteKind where
  | write | append | zeroes
  deriving DecidableEq

/-- A write as it is forwarded. -/
def WriteKind.forward (k : WriteKind) (fua : Bool) (dtype dspec : Nat) : ForwardKind :=
  match k with
  | .write => .write fua dtype dspec
  | .append => .append
  | .zeroes => .zeroes false

/-- The 4 KiB units that a range touches. [DESIGN CHOICE, unsafe: log 85] -/
def units4k (n : Ns) (slba nlb : Nat) : Nat := (slba + nlb - 1) / n.per4k + 1 - slba / n.per4k

/-- The checks 1 to 7 of Table ZON-4, in order: the check that fails and its status. -/
def State.zoneChecks (s : State) (n : Ns) (nsid slba nlb : Nat) (k : WriteKind) : Option (Nat × Status) :=
  let zl := s.zoneLbas n
  let x := s.zoneAt nsid (slba / zl)
  if s.writeProtected n then some (1, .namespaceWriteProtected)
  else if x.st = .offline then some (2, .zoneIsOffline)
  else if x.st = .full then some (3, .zoneIsFull)
  else if k = .append ∧ slba % zl ≠ 0 then some (4, .invalidField)
  else if k = .append ∧ 64 * n.per4k < nlb then some (5, .invalidField)
  else if k ≠ .append ∧ slba % zl ≠ x.reserved then some (6, .zoneInvalidWrite)
  else if s.zcap n < x.reserved + nlb then some (7, .zoneBoundaryError)
  else none

/-- What holds a write back before it reserves anything (R14, R144, R326, R397): space in the buffer, the count mark of its key, and
in a pair the mirror credit. A held write proceeds when its row is presented again. [DESIGN CHOICE, unsafe: log 9, 85; DEDUCED,
unsafe: log 29] -/
def State.writeHeld (s : State) (r : CmdRef) (n : Ns) (slba nlb : Nat) : Bool :=
  let u := units4k n slba nlb
  let k := n.keySlot.getD 0
  !s.wbufFits u || (s.keyAllows k u && !s.markHolds k u) || (s.needsMirror r && decide (s.pair.credit < u))

/-- A new range of the write buffer. -/
def newWr (r : CmdRef) (nsid slba nlb : Nat) (zone : Option Nat) (off h : Nat) (fua zeroes ack : Bool) : Wr :=
  { ref := r, nsid := nsid, slba := slba, nlb := nlb, zone := zone, offset := off, ru := [], handle := h, fua := fua,
    rmw := false, zeroes := zeroes, data := if zeroes then List.replicate nlb 0 else [], got := zeroes, void := false,
    needAck := ack, acked := false, completed := none, rowsDone := false, committed := none, flushed := false,
    patchData := false, patchParity := false }

def State.addWr (s : State) (w : Wr) : State :=
  { s with wp := { s.wp with wr := mapSet s.wp.wr s.wp.next w, next := s.wp.next + 1 } }

/-- A write is cut into units of 256 KiB counted from its SLBA (R155): start and length of each. -/
def cut256 (n : Ns) (slba nlb : Nat) : List (Nat × Nat) :=
  let u := 64 * n.per4k
  (List.range ((nlb + u - 1) / u)).map fun i => (slba + i * u, min u (nlb - i * u))

/-- A small write is cut at its granules (R253). -/
def State.cutGranules (s : State) (n : Ns) (slba nlb : Nat) : List (Nat × Nat) :=
  let g := s.granule4k * n.per4k
  (s.granulesOf n slba nlb).map fun i => (max slba (i * g), min (slba + nlb) (i * g + g) - max slba (i * g))

/-- The ranges of a conventional write: one for each unit of 256 KiB, or for each granule of a small write. -/
def State.cutWrite (s : State) (n : Ns) (slba nlb : Nat) (rmw : Bool) : List (Nat × Nat) :=
  if rmw then s.cutGranules n slba nlb else cut256 n slba nlb

/-- R252: may a small write take the read-modify-write path? `none`: it may not by conditions 1 to 4; otherwise whether
5 and 6 hold as well. -/
def State.rmwPath (s : State) (n : Ns) (nsid slba nlb : Nat) : Option Bool :=
  let g := s.granule4k * n.per4k
  let l := s.granulesOf n slba nlb
  let rows := l.filterMap fun i => (s.stripeOf nsid (i * g)).map fun x => (x.1, x.2.1, s.maskOf nsid (i * g) g)
  if n.rmw && decide (units4k n slba nlb ≤ s.rd Reg.CRU_RMW_CFG_MAX_4K) && decide (rows.length = l.length) &&
      rows.all fun x => s.rowComplete x.1 x.2.1 then
    some ((rows.all fun x => !(s.nv.rowx.any fun e => e.set == x.1 && e.row == x.2.1 && masksMeet e.mask x.2.2 &&
        decide (e.kind = .lost ∨ e.kind = .excluded))) && decide (s.nv.rowx.length < 943719))
  else none

/-- Keep a LOG C2h entry only while some LBA of it has not been rewritten (R274). -/
def NsLog.rewritten (l : NsLog) (slba nlb : Nat) : NsLog :=
  let kept := l.entries.map fun e =>
    { e with left := e.left.filter fun x => !(decide (slba ≤ x) && decide (x < slba + nlb)) }
  { l with entries := kept.filter fun e => !e.left.isEmpty }

/-- The data of a range is all in the buffer, encrypted as it came in (R143, R310, R311): the zone's WP may pass it, a conventional range takes its slots,
stale cached blocks go, and a pair write is mirrored as plaintext (R397). -/
def State.dataIn (s : State) (k : Nat) (w : Wr) (data : List Nat) : State :=
  match s.ns? w.nsid with
  | none => s
  | some n =>
    let s := { s with wp := { s.wp with wr := mapMod s.wp.wr k fun w => { w with data := s.encryptAll w.nsid w.slba data, got := true } } }
    let s := s.modNs w.nsid fun n => { n with lost := n.lost.rewritten w.slba w.nlb }
    let s := s.noteChange w.nsid w.slba w.nlb
    let s := match w.zone with
      | some z => s.advanceWp w.nsid z
      | none =>
        let s := s.hotDrop w.nsid (w.slba / n.per4k) (units4k n w.slba w.nlb)
        if w.rmw then s
        else match s.takeSlots w.nsid w.handle n (s.granulesOf n w.slba w.nlb) with
          | some (l, s) => { s with wp := { s.wp with wr := mapMod s.wp.wr k fun w => { w with ru := l } } }
          | none => s
    if w.needAck then
      { s.emit [Out.bulum "mirror" (k :: w.nsid :: w.slba :: data)] with
        pair := { s.pair with
          sent := s.pair.sent ++ [k]
          credit := s.pair.credit - units4k n w.slba w.nlb
          granted := s.pair.granted + units4k n w.slba w.nlb } }
    else s

/-- The range is reserved and the key's count with it (R122, R325): a slot that would pass its limit fails the write,
whose range is voided or stays unmapped. -/
def State.reserveWrite (s : State) (r : CmdRef) (n : Ns) (l : List Wr) (u : Nat) : State :=
  let a := s.wp.next
  let s := (l.foldl State.addWr s).accept r
  let ok := s.keyAllows (n.keySlot.getD 0) u
  let s := s.reserveKey (n.keySlot.getD 0) u
  if !ok then (s.dropWrite (ofCommand r)).finish r .keySlotSpent
  else
    -- ranges of zeros need no transfer
    let s := s.askData r (((l.filter fun w => !w.zeroes).map (·.nlb)).sum * (4096 / n.per4k))
    let s := s.each ((List.range l.length).map (a + ·)) fun s k => match mapGet? s.wp.wr k with
      | some w => if w.zeroes then s.dataIn k w w.data else s
      | none => s
    s.tryComplete r

/-- A write to a zone passes the checks and reserves its range (R122 to R125). [DEDUCED, unsafe: log 185] -/
def State.zonedWrite (s : State) (r : CmdRef) (n : Ns) (nsid slba nlb : Nat) (fua : Bool) (k : WriteKind) : State :=
  let zl := s.zoneLbas n
  let z := slba / zl
  let x := s.zoneAt nsid z
  match s.zoneChecks n nsid slba nlb k with
  | some (c, st) => (s.zoneErr c (s.zoneIndex nsid z)).finish r st
  | none =>
    if mapAny s.zone.resets fun _ w => w.nsid == nsid && w.zones.contains z then s.hold r 4
    else if s.writeHeld r n slba nlb then (if s.wbufFits (units4k n slba nlb) then s.raiseMark (n.keySlot.getD 0) else s).hold r 1
    else
      let go := fun (s : State) =>
        let off := x.reserved
        let s := s.modZone nsid z fun x => { x with reserved := x.reserved + nlb, lastWrite := s.time.sid }
        s.reserveWrite r n [newWr r nsid (z * zl + off) nlb (some z) off 0 fua (k == .zeroes) (s.needsMirror r)]
          (units4k n slba nlb)
      if x.st = .empty ∨ x.st = .closed then
        match s.openZone nsid z n false with
        | .ok s => go s
        | .fails st s => (s.zoneErr 8 (s.zoneIndex nsid z)).finish r st
        | .waits s => { s.hold r 5 with zone := { s.zone with
            openWaits := s.zone.openWaits.filter (fun e => e.2 ≠ r) ++ [(zoneKey nsid z, r)] } }
      else go s

/-- A write to a conventional namespace (R128, R155, R252). `h` is the placement handle's index in the namespace's list. -/
def State.convWrite (s : State) (r : CmdRef) (n : Ns) (nsid slba nlb : Nat) (fua zeroes : Bool) (h : Nat) : State :=
  if s.writeProtected n then s.finish r .namespaceWriteProtected
  else if s.writeHeld r n slba nlb then (if s.wbufFits (units4k n slba nlb) then s.raiseMark (n.keySlot.getD 0) else s).hold r 1
  else
    let path := if zeroes then none else s.rmwPath n nsid slba nlb
    let s := if path = some false then s.bump Reg.CRU_RMW_STAT_FALLBACK else s
    let l := (s.cutWrite n slba nlb (decide (path = some true))).map fun c =>
      { newWr r nsid c.1 c.2 none 0 h fua zeroes (s.needsMirror r) with rmw := decide (path = some true) }
    s.reserveWrite r n l (units4k n slba nlb)

/-- A Write, Write Zeroes or Zone Append reaches its executing stage. -/
def State.writeCmd (s : State) (r : CmdRef) (nsid slba nlb : Nat) (fua : Bool) (k : WriteKind) (dtype dspec : Nat) : State :=
  s.starting r fun s => s.onNs r nsid fun n s =>
    if s.unseenBy r nsid then (s.see r.owner nsid).finish r .deferredWriteFault
    else if nlb = 0 ∨ 256 * n.per4k < nlb ∧ k ≠ .zeroes then s.finish r .invalidField
    else if n.nsze < slba + nlb then s.finish r .lbaOutOfRange
    else if dtype ≠ 0 ∧ (dtype ≠ 2 ∨ n.zoned = true) then s.finish r .invalidField
    else if dtype = 2 ∧ n.handles.length ≤ dspec then s.finish r .invalidField
    else if k = .append ∧ n.zoned = false then s.finish r .invalidOpcode
    else s.pairGate r n nsid slba nlb (k.forward fua dtype dspec) fun s =>
      if n.zoned then s.zonedWrite r n nsid slba nlb fua k
      else s.convWrite r n nsid slba nlb fua (k == .zeroes) (if dtype = 2 then dspec else 0)

/-- WRITE (R122, R123, R128, R143 to R145, R165, R325). `dspec` holds the handle's index in its low byte and the reclaim
group above it. -/
def execWrite (ref : CmdRef) (nsid slba nlb : Nat) (fua : Bool) (dtype dspec : Nat) (s : State) :
    Host.Outcome State Fault Refusal :=
  effect s fun s => s.writeCmd ref nsid slba nlb fua .write dtype dspec

/-- ZONE_APPEND (R123, R125). -/
def execZoneAppend (ref : CmdRef) (nsid slba nlb : Nat) (s : State) : Host.Outcome State Fault Refusal :=
  effect s fun s => s.writeCmd ref nsid slba nlb false .append 0 0

/-- A hallmark fails as data enters (R263): counted, CRU_HALL_ERR, EV0844 once per controller per second, and the command
fails with its range voided or unmapped. -/
def State.ingressFails (s : State) (r : CmdRef) (nsid field lba : Nat) : State :=
  let s := s.bump Reg.CRU_HALL_STAT_INGRESS
  let s := s.firstError Reg.CRU_HALL_ERR_VALID [(Reg.CRU_HALL_ERR_POINT, 0), (Reg.CRU_HALL_ERR_FIELD, field),
    (Reg.CRU_HALL_ERR_NSID, nsid), (Reg.CRU_HALL_LBA_LO_LBA, lba), (Reg.CRU_HALL_LBA_HI_LBA, lba / 4294967296)]
  let s := s.eventPer 844 r.owner 1000000000 [nsid, lba]
  let s := s.updPair fun p => { p with forwards := p.forwards.filter fun e => e.2.1 ≠ r }
  (s.dropWrite (ofCommand r)).finish r
    (if field = 0 then .guardCheck else if field = 1 then .appTagCheck else .refTagCheck)

/-- WRITE_DATA_RECEIVED (R143, R145, R124, R148, R263): the data of every range of the command has arrived, or a hallmark
fails at ingress: EV0844 once per controller per second, and the range is voided or stays unmapped. Data that a fabric controller asks
for comes once the request has gone. -/
def State.dataReceived (s : State) (r : CmdRef) (res : DataResult) : State :=
  let l := s.wp.wr.filter fun e => ofCommand r e.2 && !e.2.got
  if !s.runs r || (l.isEmpty && !s.isForwarded r) || s.sendsFor r then s
  else
    let s := s.dataCame r
    match res with
    | .data d =>
      if l.isEmpty then
        -- a forwarded command's data goes to the home side with it (R398)
        (s.updPair fun p => { p with forwards := mapAll p.forwards fun _ e =>
          if e.1 = r then (e.1, { e.2 with data := d }) else e }).emit [Out.bulum "forward data" (cmdKey r :: d)]
      else
        let a := ((l.head?.map fun e => e.2.slba).getD 0)
        (s.each l fun s e => s.dataIn e.1 e.2 ((d.drop (e.2.slba - a)).take e.2.nlb)).tryComplete r
    | .hallmark field lba => s.ingressFails r (((l.head?.map fun e => e.2.nsid).getD 0)) field lba

def execWriteDataReceived (ref : CmdRef) (res : DataResult) (s : State) : Host.Outcome State Fault Refusal :=
  effect s fun s => s.dataReceived ref res

/-! ### Deallocation (R131, R134) -/

/-- The granules that lie wholly inside a range. -/
def State.wholeGranules (s : State) (n : Ns) (slba nlb : Nat) : List Nat :=
  let g := s.granule4k * n.per4k
  let a := (slba + g - 1) / g
  (List.range ((slba + nlb) / g - a)).map (a + ·)

/-- Unmap granules: their content reads zeros, their buffered copies and cached blocks go, and a pair notes the change
(R131, R138, R274). -/
def State.unmap (s : State) (n : Ns) (nsid : Nat) (l : List Nat) : State :=
  let g := s.granule4k * n.per4k
  s.each l fun s i =>
    let s := s.modNv fun v => { v with
      map := mapErase v.map (mapKey nsid i)
      content := (List.range g).foldl (fun m j => mapErase m (contentKey nsid (i * g + j))) v.content }
    let s := { s with wp := { s.wp with wr := mapAll s.wp.wr fun _ w =>
      if w.nsid == nsid && w.got && decide (w.slba < i * g + g) && decide (i * g < w.slba + w.nlb) then
        { w with
          dealloc := w.dealloc ++ [i], rmw := false, rowsDone := w.rowsDone || w.rmw
          data := (List.range w.nlb).map fun j =>
            if decide (i * g ≤ w.slba + j) && decide (w.slba + j < i * g + g) then 0 else w.data.getD j 0 }
      else w } }
    let s := s.modNs nsid fun n => { n with lost := n.lost.rewritten (i * g) g }
    (s.hotDrop nsid (i * s.granule4k) s.granule4k).noteChange nsid (i * g) g

/-- The block sets that hold a copy of a granule, the newest or an older one, programmed or about to be (R134). [DEDUCED, unsafe:
log 217] -/
def State.granuleSets (s : State) (nsid i : Nat) : List Nat :=
  let here := (mapGet? s.nv.map (mapKey nsid i)).bind fun slot => mapGet? s.nv.rus (s.unitOf (((s.ns? nsid).map (·.cons)).getD 0) slot)
  (((here.map s.unitKeys).getD []) ++ (s.jr.copies.filter fun e => decide (e.1 = mapKey nsid i)).map (·.2)).eraseDups

/-- Block sets of a constellation that await secure erase (R136). -/
def State.secureCount (s : State) (cons : Nat) : Nat :=
  (s.zone.secureSets.filter fun k => decide (s.consOfColumn (columnOf (k / 65536)) = some cons)).length

/-- Would the secure erase of some more block sets pass the limit of R136? [DEDUCED, unsafe: log 182] -/
def State.secureFull (s : State) (n : Ns) (sets : List Nat) : Bool :=
  decide (4096 < s.secureCount n.cons + (sets.filter fun k => !s.zone.secureSets.contains k).length)

/-- A secure operation waits for room among the pending erases (R136); EV0044. -/
def State.secureHeld (s : State) (k cons : Nat) : State :=
  (s.eventPerMeridian 44 cons [cons]).updZone fun y =>
    { y with secureWaits := if y.secureWaits.contains k then y.secureWaits else y.secureWaits ++ [k] }

/-- Block sets await their secure erase, and an operation waits for them (R133, R134). -/
def State.awaitErase (s : State) (k : Nat) (sets : List Nat) : State :=
  s.updZone fun y => { y with
    secureSets := y.secureSets ++ sets.filter fun x => !y.secureSets.contains x
    resets := mapMod y.resets k fun w => { w with
      left := w.left ++ sets.filter (fun x => !w.left.contains x), batch := s.jr.openNo } }

/-- A secure deallocation unmaps its granules in turn, as far as the pending erases of the constellation leave room (R134, R136).
[DEDUCED, unsafe: log 182] -/
def State.secureUnmap (s : State) (k : Nat) (n : Ns) (nsid : Nat) : List Nat → State
  | [] => s.updZone fun y => { y with
      secureWaits := y.secureWaits.filter (· ≠ k), resets := mapMod y.resets k fun w => { w with granules := [] } }
  | i :: l =>
    let sets := s.granuleSets nsid i
    if s.secureFull n sets then
      (s.secureHeld k n.cons).updZone fun y => { y with resets := mapMod y.resets k fun w => { w with granules := i :: l } }
    else ((s.unmap n nsid [i]).awaitErase k sets).secureUnmap k n nsid l

/-- Deallocate ranges of a conventional namespace: plain (R131), done when the journal has it, or secure (R134), done when
every reclaim unit that held a granule has been emptied and erased. -/
def State.deallocate (s : State) (r : CmdRef) (n : Ns) (nsid : Nat) (ranges : List (Nat × Nat)) : State :=
  let l := (ranges.map fun x => s.wholeGranules n x.1 x.2).flatten
  let s := s.accept r
  if n.secure && l.any fun i => !(s.granuleSets nsid i).isEmpty then
    let w : ZoneWait := ⟨r, nsid, [], true, [], false, !s.isPair || r.owner == companionOwner, l, 0⟩
    ((s.hold r 6).updZone fun z => { z with resets := mapSet z.resets (cmdKey r) w }).secureUnmap (cmdKey r) n nsid l
  else (s.unmap n nsid l).afterBatch r

/-- DATASET_MANAGEMENT_DEALLOCATE (R131, R134, R239, R403); on a zoned namespace a deallocation has no effect. -/
def State.deallocCmd (s : State) (r : CmdRef) (nsid : Nat) (ranges : List (Nat × Nat)) : State :=
  s.starting r fun s => s.onNs r nsid fun n s =>
    if ranges.any fun x => n.nsze < x.1 + x.2 then s.finish r .lbaOutOfRange
    else if s.writeProtected n then s.finish r .namespaceWriteProtected
    else s.pairGate r n nsid 0 0 (.deallocate ranges) fun s =>
      if n.zoned then s.finish r .success else s.deallocate r n nsid ranges

def execDatasetManagementDeallocate (ref : CmdRef) (nsid : Nat) (ranges : List (Nat × Nat)) (s : State) :
    Host.Outcome State Fault Refusal :=
  effect s fun s => s.deallocCmd ref nsid ranges

/-- WRITE_ZEROES (R131, R134, R145, R165): with DEAC = 1 on a conventional namespace a deallocation; otherwise a write of
zeros that needs no transfer. -/
def State.zeroesCmd (s : State) (r : CmdRef) (nsid slba nlb : Nat) (deac : Bool) : State :=
  if deac && ((s.ns? nsid).map fun n => !n.zoned).getD false then
    s.starting r fun s => s.onNs r nsid fun n s =>
      if s.unseenBy r nsid then (s.see r.owner nsid).finish r .deferredWriteFault
      else if n.nsze < slba + nlb then s.finish r .lbaOutOfRange
      else if s.writeProtected n then s.finish r .namespaceWriteProtected
      else s.pairGate r n nsid slba nlb (.zeroes true) fun s => s.deallocate r n nsid [(slba, nlb)]
  else s.writeCmd r nsid slba nlb false .zeroes 0 0

def execWriteZeroes (ref : CmdRef) (nsid slba nlb : Nat) (deac : Bool) (s : State) : Host.Outcome State Fault Refusal :=
  effect s fun s => s.zeroesCmd ref nsid slba nlb deac

/-! ### Journal batches (R149 to R154, R258) -/

/-- BATCH_CLOSE and JOURNAL_BATCH_LATE (R149): the period's batch closes at the meridian, and in M0 goes to the companion too; one that
still waits holds it back, and EV0053 is recorded. -/
def State.closeBatch (s : State) : State :=
  let late := !s.jr.closed.isEmpty
  let s := { s with jr := { s.jr with
    closed := s.jr.closed ++ [({ no := s.jr.openNo, nv := s.nv } : Batch)], openNo := s.jr.openNo + 1, late := late } }
  let s := if s.mirrors then s.emit [Out.bulum "batch" ((s.jr.openNo - 1) :: s.nv.dirty)] else s
  if late then s.event 53 [s.jr.openNo] else s

/-- The member that holds a copy of a batch: the first in service at or after position `i` other than `not_` (R258). -/
def State.journalMember (s : State) (i not_ : Nat) : Nat :=
  let l := (List.range s.memberCount).map fun j => s.members.getD ((i + j) % max s.memberCount 1) 0
  (l.find? fun m => s.memberUp m && m != not_).getD 0

/-- A waiting flush completes when each range it waits for is durable (R151). -/
def State.flushDone (s : State) : State :=
  let left := mapAll s.wp.flushes fun _ l =>
    l.filter fun k => match mapGet? s.wp.wr k with
      | some w => !s.lasting w
      | none => false
  let s := s.updWp fun w => { w with flushes := left }
  let done := s.wp.flushes.filter fun e => e.2.isEmpty
  let s := { s with wp := { s.wp with flushes := s.wp.flushes.filter fun e => !e.2.isEmpty } }
  s.each done fun s e => s.finish ⟨e.1 / 65536 / 65536, e.1 / 65536 % 65536, e.1 % 65536⟩ .success

/-- What waits for durability alone goes on where it has it: FUA writes and flushes (R151, R402). -/
def State.flushAlone (s : State) : State :=
  let fua := (s.wp.wr.filter fun e => e.2.fua && decide (e.2.completed = none)).map fun e => e.2.ref
  (s.each fua State.tryComplete).flushDone

/-- Space that mirror copies leave is granted to the companion again (R397). [DESIGN CHOICE, unsafe: log 85] -/
def State.mirrorFreed (s : State) (p : Wr → Bool) : State :=
  let n := ((s.wp.wr.filter fun e => e.2.ref.owner == companionOwner && p e.2).map fun e =>
    ((s.ns? e.2.nsid).map fun x => units4k x e.2.slba e.2.nlb).getD 0).sum
  if n = 0 ∨ s.mirrors = false then s
  else (s.updPair fun p => { p with given := p.given + n }).emit [Out.bulum "credit" [n]]

/-- The threshold book goes to flash, at most once a second (R225). [DEDUCED, unsafe: log 100] -/
def State.persistBook (s : State) : State :=
  if s.jr.bookAt + 1000000000 ≤ s.time.now then s.updJr fun j => { j with book := s.md.book, bookAt := s.time.now } else s

/-- The unflushed almanac records go to both copies of the flash area (R451), which keeps the newest; EV1122 at each wrap
(R452), EV1123 where one copy alone was written. `both`: both copies passed. -/
def State.flushAlmanac (s : State) (both : Bool) : State :=
  let k := s.alm.ring.length
  let n := s.alm.wrapped + k
  let wraps := decide (flashRecords ≤ n)
  let op := s.opSeconds
  let s := s.updAlm fun a => { a with
    flash := (a.ring ++ a.flash).take flashRecords, ring := [], wrapped := n % flashRecords, opFlash := op }
  let s := if k = 0 then s else if both then s.set Reg.ALM_STATUS_FLASH_OK true
    else (s.set Reg.ALM_STATUS_FLASH_OK false).event 1123
  if wraps then s.event 1122 else s

/-- BATCH_ON_FLASH (R149, R151, R154, R233, R258, R321, R451): the closed batches are programmed, together when one is
late. Their records are durable: the commands that waited for them complete, released block sets may be erased, the
buffer drops what is durable, waiting key changes end (EV0968). A batch of which no copy passed stays closed. -/
def State.batchOnFlash (s : State) (okA okB companion : Bool) : State :=
  match s.jr.closed.getLast? with
  | none => s
  | some b =>
    if !okA && !okB then s
    else
      let m := s.memberCount
      let i := b.no % max m 1
      let a := s.journalMember i 16
      let s := { s with jr := { s.jr with closed := [], onFlash := b.no, prev := s.jr.disk, disk := b.nv, late := false } }
      let s := (s.wr Reg.CRU_JOURNAL_COPY_A a).wr Reg.CRU_JOURNAL_COPY_B (s.journalMember (i + m / 2) a)
      let s := (s.set Reg.CRU_JOURNAL_PAIR companion).wr Reg.CRU_JOURNAL_SEQ_LO_SEQ b.no
      let s := s.wr Reg.CRU_JOURNAL_SEQ_HI_SEQ (b.no / 4294967296)
      let done := (s.jr.waiting.filter fun e => decide (e.1 ≤ b.no)).map (·.2)
      let s := { s with jr := { s.jr with waiting := s.jr.waiting.filter fun e => decide (b.no < e.1) } }
      let s := s.each done State.opDone
      let keys := s.key.waits.filter fun w => decide (w.batch ≤ b.no)
      let s := { s with key := { s.key with waits := s.key.waits.filter fun w => decide (b.no < w.batch) } }
      let s := s.each keys fun s w =>
        let s := s.event 968 [w.slot]
        match w.ref with
        | some r => if s.key.waits.any fun x => decide (x.ref = some r) then s else s.opDone r
        | none => s.set Reg.KEY_SLOT_STATUS_BUSY false
      let s := (if companion then s.updJr fun j => { j with pairFlash := b.no } else s).flushAlone
      let s := s.mirrorFreed fun e => e.rowsDone && s.durable e && decide (e.completed ≠ none)
      let kept := s.wp.wr.filter fun e => !(e.2.rowsDone && s.lasting e.2 && decide (e.2.completed ≠ none))
      let s := s.updWp fun w => { w with wr := kept }
      let needed := s.nv.acks.filter fun x => s.wp.wr.any fun e =>
        e.2.nsid == x.nsid && decide (e.2.slba < x.slba + x.nlb) && decide (x.slba < e.2.slba + e.2.nlb)
      let s := s.modNv fun v => { v with acks := needed }
      let s := { s with md := { s.md with marked := b.nv.dirty } }
      -- the source of a relocation is released once the switch is on flash (R233)
      let moved := s.md.reloc.filter fun e => match e.2.switched with | some n => decide (n ≤ b.no) | none => false
      let s := s.each moved fun s e => s.releaseSets e.2.column e.2.sets
      let stay := s.md.reloc.filter fun e => match e.2.switched with | some n => decide (b.no < n) | none => true
      let s := s.updMd fun d => { d with reloc := stay }
      s.persistBook.flushAlmanac (okA && okB)

def execBatchOnFlash (okA okB companion : Bool) (s : State) : Host.Outcome State Fault Refusal :=
  effect s fun s => s.batchOnFlash okA okB companion

end Sys2Proof.Machine
end

