-- ==== Sys2Proof/Machine/Zones.lean ====
section
/-! DEFINITION. Zone Management, resets and secure resets, the hot cache's size and the SECURE attribute
(spec/06 R119 to R142). -/

namespace Sys2Proof.Machine

/-! ### Zone Management Send (R120, R121) -/

/-- A Zone Management command that fails: ZONE_ERR with CHECK 0 (Table ZON-11). -/
def State.zoneFails (s : State) (r : CmdRef) (nsid z : Nat) (st : Status) : State :=
  (s.zoneErr 0 (s.zoneIndex nsid z)).finish r st

/-- What every Zone Management Send passes first: the namespace (R338), the read-only state (R239, Close excepted), the
pair's gates (R403, Close excepted from the refusal) and the address. `a` is the action (1 close, 2 finish, 3 open, 4 reset,
5 secure reset). -/
def State.zoneSend (s : State) (r : CmdRef) (nsid slba : Nat) (all : Bool) (a : Nat) (f : Ns → State → State) : State :=
  s.starting r fun s => s.onNs r nsid fun n s =>
    if n.zoned = false then s.finish r .invalidOpcode
    else if all = false ∧ n.nsze ≤ slba then s.finish r .lbaOutOfRange
    else if all = false ∧ slba % s.zoneLbas n ≠ 0 then s.zoneFails r nsid (slba / s.zoneLbas n) .invalidField
    else if a ≠ 1 ∧ s.writeProtected n = true then s.finish r .namespaceWriteProtected
    else if a = 1 ∧ s.pairRefuses = true then f n s
    else s.pairGate r n nsid slba 0 (.zoneSend a all) (f n)

/-- CDW13[9] with another action than Reset Zone, or in M3 and M2: Invalid Field in Command (Table HST-6, R84). -/
def State.secureRefused (s : State) (r : CmdRef) : State := s.starting r fun s => s.finish r .invalidField

/-- The zones of a namespace in some states, in rising order (Select All). [DEDUCED, unsafe: log 37] -/
def State.zonesIn (s : State) (nsid : Nat) (p : ZoneSt → Bool) : List Nat :=
  ((s.zonesOf nsid).filter fun e => p e.2.st).map (·.1)

/-- Open one zone explicitly for a command (Table ZON-3). -/
def State.openFor (s : State) (r : CmdRef) (nsid z : Nat) (n : Ns) : State :=
  match (s.zoneAt nsid z).st with
  | .iopen => (s.modZone nsid z fun x => { x with st := .eopen }).finish r .success
  | .empty | .closed =>
    match s.openZone nsid z n true with
    | .ok s => s.finish r .success
    | .fails st s => s.zoneFails r nsid z st
    | .waits s => (s.hold r 5).updZone fun x => { x with
        openWaits := x.openWaits.filter (fun e => e.2 ≠ r) ++ [(zoneKey nsid z, r)] }
  | _ => s.zoneFails r nsid z .invalidZoneTransition

/-- Select All of Open: every CLOSED zone in turn, up to the first that fails. [DEDUCED, unsafe: log 37] -/
def State.openAll (s : State) (r : CmdRef) (nsid : Nat) (n : Ns) : List Nat → State
  | [] => s.finish r .success
  | z :: l =>
    match s.openZone nsid z n true with
    | .ok s => s.openAll r nsid n l
    | .fails st s => s.zoneFails r nsid z st
    | .waits s => s.openAll r nsid n l

/-- ZONE_OPEN (R119 to R121). [DEDUCED, unsafe: log 73] -/
def State.openCmd (s : State) (r : CmdRef) (nsid slba : Nat) (all : Bool) : State :=
  s.zoneSend r nsid slba all 3 fun n s =>
    if all then s.openAll r nsid n (s.zonesIn nsid (· == .closed)) else s.openFor r nsid (slba / s.zoneLbas n) n

def execZoneOpen (ref : CmdRef) (nsid slba : Nat) (all sec : Bool) (s : State) : Host.Outcome State Fault Refusal :=
  effect s fun s => if sec then s.secureRefused ref else s.openCmd ref nsid slba all

/-- ZONE_CLOSE (R120, R239, R403). [DEDUCED, unsafe: log 37, 73] -/
def State.closeCmd (s : State) (r : CmdRef) (nsid slba : Nat) (all : Bool) : State :=
  s.zoneSend r nsid slba all 1 fun n s =>
    if all then (s.each (s.zonesIn nsid ZoneSt.isOpen) fun s z => s.closeZone nsid z).finish r .success
    else
      let z := slba / s.zoneLbas n
      if (s.zoneAt nsid z).st.isOpen then (s.closeZone nsid z).finish r .success
      else s.zoneFails r nsid z .invalidZoneTransition

def execZoneClose (ref : CmdRef) (nsid slba : Nat) (all sec : Bool) (s : State) : Host.Outcome State Fault Refusal :=
  effect s fun s => if sec then s.secureRefused ref else s.closeCmd ref nsid slba all

/-- The block states of a set become FULL (Table ZON-3). -/
def State.fillBlocks (s : State) (col : Nat) (sets : List Nat) : State :=
  s.each (s.setKeys col sets) fun s b =>
    s.each (s.setBlocks (b / 65536) (b % 65536)) fun s k => s.modBlock (b / 65536) k fun x =>
      { x with st := if x.st = .open_ ∨ x.st = .erased then .full else x.st }

/-- The last row of a finished zone has been programmed: its blocks become FULL (Table ZON-3). -/
def State.sealFinished (s : State) (set : Nat) : State :=
  if 2 ^ 60 ≤ set then s
  else
    let x := s.zoneAt (set / 4294967296) (set % 4294967296)
    match s.ns? (set / 4294967296), x.column with
    | some n, some c =>
      let rows := (x.reserved / n.per4k + (s.memberCount - 1) * s.unit4k c - 1) / ((s.memberCount - 1) * s.unit4k c)
      if decide (x.st = .full) && decide (x.reserved < s.zcap n) && (List.range rows).all (s.rowComplete set) then
        s.fillBlocks c x.sets
      else s
    | _, _ => s

/-- Finish one zone (Table ZON-3): an EMPTY zone takes no block sets and becomes FULL unwritten; in an active one void
blocks fill the last partial stripe row, and the blocks become FULL once it is programmed. -/
def State.finishZone (s : State) (nsid z : Nat) (n : Ns) : State :=
  let x := s.zoneAt nsid z
  match x.st with
  | .empty => s.modZone nsid z fun x =>
      { x with st := .full, unwrittenFull := true, wp := s.zcap n, reserved := s.zcap n }
  | _ =>
    let s := match x.column with
      | some c =>
        let row := (s.memberCount - 1) * s.unit4k c * n.per4k
        let last := (x.reserved + row - 1) / row * row
        if x.reserved < last then s.modZone nsid z fun x => { x with
            voids := x.voids ++ [(x.reserved, last - x.reserved)], reserved := last } else s
      | none => s
    ((s.modZone nsid z fun x => { x with st := .full }).advanceWp nsid z).sealFinished (zoneKey nsid z)

/-- ZONE_FINISH (R120). [DEDUCED, unsafe: log 37] -/
def State.finishCmd (s : State) (r : CmdRef) (nsid slba : Nat) (all : Bool) : State :=
  s.zoneSend r nsid slba all 2 fun n s =>
    if all then (s.each (s.zonesIn nsid ZoneSt.active) fun s z => s.finishZone nsid z n).finish r .success
    else
      let z := slba / s.zoneLbas n
      let st := (s.zoneAt nsid z).st
      if st.active || st == .empty then (s.finishZone nsid z n).finish r .success
      else s.zoneFails r nsid z .invalidZoneTransition

def execZoneFinish (ref : CmdRef) (nsid slba : Nat) (all sec : Bool) (s : State) : Host.Outcome State Fault Refusal :=
  effect s fun s => if sec then s.secureRefused ref else s.finishCmd ref nsid slba all

/-! ### Resets (R131 to R136, R154) -/

/-- The keys of the block sets that a zone holds. -/
def State.zoneSetKeys (s : State) (x : Zone) : List Nat :=
  match x.column with
  | some c => s.setKeys c x.sets
  | none => []

/-- The keys of the block sets that the relocation of a zone holds beside them (R234). -/
def State.relocKeys (s : State) (k : Nat) : List Nat :=
  match mapGet? s.md.reloc k with
  | some r => s.setKeys r.column r.sets
  | none => []

/-- Is an operation about set `k`? -/
def purposeOfSet (k : Nat) : Purpose → Bool
  | .unit set _ _ => set == k
  | .move set => set == k
  | .repair set _ _ => set == k
  | .assay set => set == k
  | .rebuild set _ _ => set == k
  | _ => false

/-- A set no longer exists: its rows, row exceptions, relocation, the unit that one filled, and the operations, decodes and
reconstructions about it go with it (R234). -/
def State.forgetSet (s : State) (k : Nat) : State :=
  let gone := s.md.reloc.filter fun e => decide (e.2.set = k)
  let s := s.modNv fun v => { v with
    rows := v.rows.filter fun e => decide (e.1 / 4294967296 ≠ k)
    rowx := v.rowx.filter fun e => decide (e.set ≠ k)
    rus := v.rus.filter fun e => !(gone.any fun r => decide (2 ^ 60 ≤ k) && r.2.switched.isNone && r.2.dest == e.1) }
  let jobs := (s.md.job.filter fun e => e.2.set == k && (match e.2.kind with
    | .move _ => true
    | .repair => true
    | .rebuild _ _ _ => true
    | _ => false)).map (·.1)
  let of_ := fun (o : DieOp) => purposeOfSet k o.purpose || (match o.purpose with
    | .jobRead j _ => jobs.contains j
    | _ => false)
  let s := s.updMd fun m => { m with
    reloc := m.reloc.filter fun e => decide (e.2.set ≠ k)
    job := m.job.filter fun e => !jobs.contains e.1
    dec := m.dec.filter fun e => !of_ e.2.op
    repairGot := m.repairGot.filter fun e => decide (e.1 ≠ k)
    rebuildStarted := m.rebuildStarted.filter fun e => decide (e.1 ≠ k)
    rebuildReady := m.rebuildReady.filter fun e => decide (e.1 ≠ k)
    die := mapAll m.die fun _ d => { d with
      queue := d.queue.filter fun o => !of_ o, held := d.held.filter fun o => !of_ o } }
  s.each gone fun s e => s.releaseSets e.2.column e.2.sets

/-- What a reset of a zone does beside its block sets (R131, R132, R138, R274, R407): every pointer 0, no voids, no
buffered range, no cached block, no committed content. -/
def State.clearZone (s : State) (nsid z : Nat) (n : Ns) : State :=
  let zl := s.zoneLbas n
  let a := z * zl
  let s := s.forgetSet (zoneKey nsid z)
  let s := s.hotDrop nsid (a / n.per4k) (zl / n.per4k)
  let s := s.updWp fun w => { w with wr := w.wr.filter fun e => !(e.2.nsid == nsid && decide (e.2.zone = some z)) }
  let s := s.modNv fun v => { v with
    content := v.content.filter fun e => !(decide (contentKey nsid a ≤ e.1) && decide (e.1 < contentKey nsid (a + zl))) }
  let s := s.modNs nsid fun n => { n with lost := n.lost.rewritten a zl }
  let s := s.modZone nsid z fun x =>
    { (default : Zone) with lastWrite := x.lastWrite, openSeq := x.openSeq }
  s.noteChange nsid a zl

/-- Does a zone still wait for a range that was reserved in it: for its data, or for the end of its command (R132)? -/
def State.rangesPending (s : State) (nsid z : Nat) : Bool :=
  let x := s.zoneAt nsid z
  decide (x.wp ≠ x.reserved) || (s.zoneWrs nsid z).any fun e => e.2.completed.isNone

/-- Apply a reset to one of its zones, when every reserved range has committed or been voided (R132) and, for a secure one, the
constellation has room (R136): plain, the block sets go to the erase queue with the batch; secure, they are detached at once and
awaited. [DEDUCED, unsafe: log 74, 182, 185] -/
def State.applyReset (s : State) (k : Nat) (w : ZoneWait) (z : Nat) : State :=
  match s.ns? w.nsid with
  | none => s
  | some n =>
    let x := s.zoneAt w.nsid z
    let sets := s.zoneSetKeys x ++ s.relocKeys (zoneKey w.nsid z)
    if s.rangesPending w.nsid z then s
    else if w.secure && s.secureFull n sets then s.secureHeld k n.cons
    else
      let s := s.clearZone w.nsid z n
      let s := if w.secure && s.isPair && decide (s.nv.pairSt = .survivor) then
          s.updPair fun p => { p with secureZones := p.secureZones ++ [zoneKey w.nsid z] } else s
      let left := (w.zones.filter (· ≠ z))
      let s := if w.secure then
          (s.awaitErase k sets).updZone fun y => { y with
            released := (y.released.filter fun e => !sets.contains e.1) ++ sets.map fun j => (j, s.jr.openNo)
            secureWaits := y.secureWaits.filter (· ≠ k)
            resets := mapMod y.resets k fun w => { w with zones := left } }
        else
          let s := match x.column with
            | some c => s.releaseSets c x.sets
            | none => s
          s.updZone fun y => { y with resets := mapMod y.resets k fun w => { w with zones := left } }
      if left.isEmpty && !w.secure then
        (s.updZone fun y => { y with resets := mapErase y.resets k }).afterBatch w.ref
      else s

/-- Try to apply a reset to every zone that it still has, or a secure deallocation to the granules that it still has. [DEDUCED,
unsafe: log 185] -/
def State.tryReset (s : State) (k : Nat) : State :=
  match mapGet? s.zone.resets k with
  | none => s
  | some w =>
    let s := match s.ns? w.nsid with
      | some n => if w.granules.isEmpty then s else s.secureUnmap k n w.nsid w.granules
      | none => s
    s.each w.zones fun s z =>
      match mapGet? s.zone.resets k with
      | some w => s.applyReset k w z
      | none => s

/-- Does a secure operation wait for the companion (R133, R400): in a pair, until it confirms, except as SURVIVOR? -/
def State.companionHolds (s : State) (w : ZoneWait) : Bool :=
  s.isPair && !w.companion && decide (s.nv.pairSt ≠ .survivor)

/-- A secure operation is complete when it has applied everywhere, the batch that records it is on flash (Table WRT-3) and every
detached block set is erased and checked, with the flags of R133 in completion dword 0. [DEDUCED, unsafe: log 74, 162] -/
def State.secureDone (s : State) (k : Nat) : State :=
  match mapGet? s.zone.resets k with
  | none => s
  | some w =>
    if w.secure && w.zones.isEmpty && w.granules.isEmpty && w.left.isEmpty && decide (w.batch ≤ s.jr.onFlash) && !s.companionHolds w then
      (s.updZone fun y => { y with resets := mapErase y.resets k }).finish w.ref .success
        (w.residue.toNat + (s.isPair && !w.companion).toNat * 2)
    else s

/-- A reset command: EMPTY zones need nothing; the others apply now or wait. -/
def State.resetCmd (s : State) (r : CmdRef) (nsid slba : Nat) (all secure : Bool) (n : Ns) : State :=
  let z := slba / s.zoneLbas n
  let st := (s.zoneAt nsid z).st
  if all = false ∧ st = .offline then s.zoneFails r nsid z .invalidZoneTransition
  else
    let zones := if all then s.zonesIn nsid (fun t => t.active || t == .full) else if st = .empty then [] else [z]
    let sec := secure || n.secure
    if zones.isEmpty then s.finish r .success
    else
      let w : ZoneWait := ⟨r, nsid, zones, sec, [], false, !s.isPair || r.owner == companionOwner, [], 0⟩
      (((s.accept r).updZone fun y => { y with resets := mapSet y.resets (cmdKey r) w }).tryReset (cmdKey r)).secureDone
        (cmdKey r)

/-- ZONE_RESET (R131, R132): of a namespace whose SECURE attribute is 1 it acts as a secure reset (R133). -/
def State.zoneResetCmd (s : State) (r : CmdRef) (nsid slba : Nat) (all : Bool) : State :=
  s.zoneSend r nsid slba all 4 fun n s => s.resetCmd r nsid slba all false n

def execZoneReset (ref : CmdRef) (nsid slba : Nat) (all : Bool) (s : State) : Host.Outcome State Fault Refusal :=
  effect s fun s => s.zoneResetCmd ref nsid slba all

/-- SECURE_RESET (R133): in M3 and M2 it fails with Invalid Field in Command (R84). [DEDUCED, unsafe: log 182] -/
def State.secureResetCmd (s : State) (r : CmdRef) (nsid slba : Nat) (all : Bool) : State :=
  if s.secureOffered then s.zoneSend r nsid slba all 5 fun n s => s.resetCmd r nsid slba all true n
  else s.secureRefused r

def execSecureReset (ref : CmdRef) (nsid slba : Nat) (all : Bool) (s : State) : Host.Outcome State Fault Refusal :=
  effect s fun s => s.secureResetCmd ref nsid slba all

/-- ZONE_RESET_APPLY (R132). -/
def execZoneResetApply (nsid zone : Nat) (s : State) : Host.Outcome State Fault Refusal :=
  effect s fun s =>
    let l := (s.zone.resets.filter fun e => e.2.nsid == nsid && e.2.zones.contains zone).map (·.1)
    s.each l fun s k =>
      match mapGet? s.zone.resets k with
      | some w => s.applyReset k w zone
      | none => s

/-- SECURE_RESET_COMPLETE (R133, R135): nothing completes early. -/
def execSecureResetComplete (ref : CmdRef) (s : State) : Host.Outcome State Fault Refusal :=
  effect s fun s => s.secureDone (cmdKey ref)

/-- SECURE_PENDING_LIMIT_WAIT_END (R136): the waiting secure operations of a constellation try again, in order. -/
def execSecurePendingLimitWaitEnd (cons : Nat) (s : State) : Host.Outcome State Fault Refusal :=
  effect s fun s =>
    let mine := s.zone.secureWaits.filter fun k => match mapGet? s.zone.resets k with
      | some w => decide (s.nsCons w.nsid = some cons)
      | none => false
    s.each mine State.tryReset

/-- ZONE_OPEN_ERASE_WAIT_END (R119): the first command that waits for this zone opens it now, explicitly for a Zone Management
command; a write then proceeds on the open zone when it is presented again. [DESIGN CHOICE, unsafe: log 9] -/
def execZoneOpenEraseWaitEnd (nsid zone : Nat) (s : State) : Host.Outcome State Fault Refusal :=
  effect s fun s =>
    match s.zone.openWaits.find? fun e => e.1 = zoneKey nsid zone, s.ns? nsid with
    | some (_, r), some n =>
      let explicit := match s.cmd? r with
        | some c => c.opcode == 0x79
        | none => false
      let gone := fun (s : State) => s.updZone fun x => { x with openWaits := x.openWaits.filter fun e => e.2 ≠ r }
      if (s.zoneAt nsid zone).st ≠ .empty then gone s
      else match s.openZone nsid zone n explicit with
        | .ok s => if explicit then (gone s).finish r .success else gone s
        | .fails st s => (gone s).zoneFails r nsid zone st
        | .waits s => s
    | _, _ => s

/-- ZONE_REPORT (R122): a descriptor for every zone from the one that holds `slba`: state, capacity, ZSLBA and WP. -/
def execZoneReport (ref : CmdRef) (nsid slba : Nat) (s : State) : Host.Outcome State Fault Refusal :=
  effect s fun s => s.starting ref fun s => s.onNs ref nsid fun n s =>
    if n.zoned = false then s.finish ref .invalidOpcode
    else if n.nsze ≤ slba then s.finish ref .lbaOutOfRange
    else
      let zl := s.zoneLbas n
      let z := slba / zl
      let l := (List.range (n.zoneCount - z)).map fun i =>
        let x := s.zoneAt nsid (z + i)
        [x.st.code, s.zcap n, (z + i) * zl, (z + i) * zl + x.wp]
      (s.finish ref .success).emit [Out.data "zones" l.flatten]

/-! ### The hot cache's size and the SECURE attribute (R134, R140) -/

/-- ZONE_HOT_SIZE_WRITE (R140): ignored while BUSY, and outside HOT_CACHE_MIN to HOT_CACHE_MAX (R9); a grow is usable at
once, a shrink sets BUSY. -/
def State.hotSizeWrite (s : State) (request : Nat) : State :=
  if s.on Reg.ZONE_HOT_SIZE_BUSY then s
  else if s.charted = false ∨ request < s.chart.cur.dram.hotMinGiB ∨ s.chart.cur.dram.hotMaxGiB < request then
    s.event 13 [request]
  else
    let s := s.wr Reg.ZONE_HOT_SIZE_REQUEST request
    if request < s.rd Reg.ZONE_HOT_SIZE_CURRENT then s.set Reg.ZONE_HOT_SIZE_BUSY true
    else s.wr Reg.ZONE_HOT_SIZE_CURRENT request

def execZoneHotSizeWrite (request : Nat) (s : State) : Host.Outcome State Fault Refusal :=
  effect s fun s => s.hotSizeWrite request

/-- HOT_CACHE_SHRINK_DONE (R140): the least recent blocks are gone, BUSY clears, EV0046. [DESIGN CHOICE, unsafe: log 75] -/
def execHotCacheShrinkDone (s : State) : Host.Outcome State Fault Refusal :=
  effect s fun s =>
    if s.on Reg.ZONE_HOT_SIZE_BUSY then
      let s := s.wr Reg.ZONE_HOT_SIZE_CURRENT (s.rd Reg.ZONE_HOT_SIZE_REQUEST)
      let s := s.updZone fun z => { z with hot := z.hot.take s.hotCapacity }
      (s.set Reg.ZONE_HOT_SIZE_BUSY false).event 46 [s.rd Reg.ZONE_HOT_SIZE_CURRENT]
    else s

/-- ZONE_NS_ATTR_WRITE (R134, R142): for the namespace of ZONE_NS_SEL; in M3 and M2 a write of 1 is ignored with
EV0047. -/
def State.nsAttrWrite (s : State) (secure : Bool) : State :=
  let nsid := s.rd Reg.ZONE_NS_SEL_NSID
  if secure && !s.secureOffered then s.event 47 [nsid]
  else s.modNs nsid fun n => { n with secure := secure }

def execZoneNsAttrWrite (secure : Bool) (s : State) : Host.Outcome State Fault Refusal :=
  effect s fun s => s.nsAttrWrite secure

end Sys2Proof.Machine
end

