-- ==== Sys2Proof/Machine/Blocks.lean ====
section
/-! DEFINITION. Blocks, spares and their thresholds, channel events, dirty regions (spec/09 R209 to R245,
spec/10 R251, R256). -/

namespace Sys2Proof.Machine

/-- Event EV0320 + 4c + k with its snapshot: die position, block, page, result (R244). -/
def State.chanEvent (s : State) (d k block page result : Nat) (more : List Int := []) : State :=
  s.event (320 + 4 * dieCh d + k) ([(diePos d : Int), block, page, result] ++ more)

/-- MEDIA_ERR and MEDIA_ERR_LOC keep the first failed operation until cleared. -/
def State.mediaErr (s : State) (d block page result : Nat) : State :=
  s.firstError Reg.MEDIA_ERR_VALID [(Reg.MEDIA_ERR_RESULT, result), (Reg.MEDIA_ERR_CHANNEL, dieCh d),
    (Reg.MEDIA_ERR_DIE, diePos d), (Reg.MEDIA_ERR_LOC_BLOCK, block), (Reg.MEDIA_ERR_LOC_PAGE, page)]

/-- Change the health counters of a member. -/
def State.modHealth (s : State) (m : Nat) (f : Health → Health) : State :=
  s.modNv fun v => { v with health := mapSet v.health m (f (mapGet v.health m {})) }

/-! ### Capacity (R117, R238, R251, R267) -/

/-- Constellations are write-protected while their slots do not cover their commitment (R238), or while no column
qualifies for a new opening (R251); EV0027 when the first holds anew. -/
def State.consUpdate (s : State) : State :=
  let short := fun k => decide (s.consSlots k < s.consCommit k)
  let none_ := fun k => !((s.consOf k).columns.any s.columnServes)
  let l := (List.range s.chart.cur.cons.length).filter fun k => short k || none_ k
  let new := l.filter fun k => short k && !s.md.consWp.contains k
  let s := (s.updMd fun m => { m with consWp := l }).wr Reg.MEDIA_STATUS_CONS_WP
    ((List.range s.chart.cur.cons.length).filter short).length
  s.each new fun s k => s.event 27 [k]

/-- The read-only state begins or ends. It is persisted at once, and survives every reset (R239). -/
def State.setReadOnly (s : State) (b : Bool) : State := s.persist fun v => { v with readOnly := b }

/-- The spare thresholds of a die in service: EV0024 when s first falls to SPARE_MIN (R237), and the read-only state with
EV0025 at FINAL_RESERVE (R239). -/
def State.spareUpdate (s : State) (d : Nat) : State :=
  if !s.dieUp d then s
  else
    let n := s.spares d
    let s := if n ≤ s.chart.cur.media.spareMin ∧ s.md.spareWarned.contains d = false then
        (s.updMd fun m => { m with spareWarned := m.spareWarned ++ [d] }).event 24 [d]
      else s
    if n ≤ s.chart.cur.media.finalReserve ∧ s.nv.readOnly = false then
      let s := (s.setReadOnly true).event 25 [d]
      s.each (s.host.ctrls.filter fun e => e.2.en) fun s e => s.aen e.1 1 2 2
    else s

/-- A block's state changes; SUSPECT and RETIRED record event k = 2. -/
def State.setBlockSt (s : State) (d b : Nat) (st : BlockSt) : State :=
  let s := s.modBlock d b fun x => { x with st := st }
  if st = .suspect ∨ st = .retired then s.chanEvent d 2 b 0 0 else s

/-- The number of the block set of a die that holds a block. -/
def State.setOf (s : State) (d b : Nat) : Option Nat := (s.setsOf d).find? fun k => (s.setBlocks d k).contains b

/-- Replace a retired block of a block set (R229 steps 2 and 3, R230): by an ERASED spare of its plane, else by another
ERASED block set of the die, the old set's blocks going to the spare pools of their planes. A block of the metadata area or
the dusk pool is replaced by a spare; at FINAL_RESERVE a die gives spares for these, and for a set only where data needs it
(R236). -/
def State.replaceBlock (s : State) (d b : Nat) (data : Bool) : State :=
  let plane := (s.block d b).plane
  let spare := (s.blocksOf d).find? fun e =>
    decide (e.2.pool = 1) && decide (e.2.st = .erased) && decide (e.2.plane = plane)
  match s.setOf d b with
  | none =>
    let p := (s.block d b).pool
    (match spare with
      | some (n, _) => if p = 2 ∨ p = 3 then (s.modBlock d n fun x => { x with pool := p }).modBlock d b fun x => { x with pool := 1 } else s
      | none => s).spareUpdate d
  | some k =>
    let spare := if data || decide (s.chart.cur.media.finalReserve < s.spares d) then spare else none
    let s := match spare with
      | some (n, _) =>
        let s := s.modBlock d n fun x => { x with pool := 0 }
        s.modNv fun v => { v with sets := mapSet v.sets (blockKey d k) ((s.setBlocks d k).map fun x => if x = b then n else x) }
      | none =>
        match (s.setsOf d).find? fun j => j != k && s.setFree d j with
        | some j =>
          let old := (s.setBlocks d k).filter (· ≠ b)
          let s := s.each old fun s x => s.modBlock d x fun y => { y with pool := 1 }
          s.modNv fun v => { v with sets := mapErase (mapSet v.sets (blockKey d k) (s.setBlocks d j)) (blockKey d j) }
        | none => s
    (s.spareUpdate d).consUpdate

/-- A block is retired, and its set repaired; `data`: acknowledged data waits for the repair. -/
def State.retire (s : State) (d b : Nat) (data : Bool) : State := (s.setBlockSt d b .retired).replaceBlock d b data

/-- What waits on a die for a spare or a block set is repaired once erases have freed one: its retired metadata and dusk blocks first, then
its sets (R229 step 3, R236). -/
def State.repairWaiting (s : State) (d : Nat) : State :=
  let s := s.each ((s.blocksOf d).filter fun e => (e.2.pool == 2 || e.2.pool == 3) && decide (e.2.st = .retired)) fun s e =>
    s.replaceBlock d e.1 true
  s.each (s.setsOf d) fun s k =>
    match (s.setBlocks d k).find? fun b => decide ((s.block d b).st = .retired) with
    | some b => s.replaceBlock d b (s.setHeld d k)
    | none => s

/-! ### The division of a die's blocks (R236) -/

/-- The dies of a chart. -/
def diesOf (c : Chart) : List Nat :=
  (c.dies.chans.map fun p => ((List.range 32).filter fun i => chartPopulated c p.1 i).map fun i => dieKey p.1 i).flatten

/-- The kind of a die under a DIES section. -/
def diesKind (d : ChartDies) (die : Nat) : Option DieKind :=
  match d.chans.find? fun p => p.1 = dieCh die with
  | some p => if bit p.2.ceMask (diePos die / 4) && decide (diePos die % 4 < p.2.luns) then d.kinds[p.2.kind]? else none
  | none => none

/-- D, the blocks of the dusk pool in each plane (R236). -/
def duskPerPlane (holdup : Bool) (c : Chart) (k : DieKind) : Nat :=
  if !holdup || c.power.duskMiB = 0 then 0
  else
    let m := (chartMembers c).length
    let below := (m - 1) * ((diesOf c).length * k.planes * k.slcBlockKiB)
    (2 * c.power.duskMiB * 1024 * m + (below - 1)) / max below 1

/-- The division of one plane's good blocks: each with its pool, the data blocks as pool 0 (R236). [PRESUMED, unsafe: log 94] -/
def dividePlane (holdup : Bool) (c : Chart) (k : DieKind) (good : List Nat) : List (Nat × Nat) :=
  let d := duskPerPlane holdup c k
  let sp := (2 * c.media.spareMin + k.planes - 1) / max k.planes 1
  let rest := good.drop (2 + d)
  (good.take 2).map (fun b => (b, 2)) ++ ((good.drop 2).take d).map (fun b => (b, 3)) ++
    (rest.take sp).map (fun b => (b, 1)) ++ (rest.drop sp).map fun b => (b, 0)

/-- The block sets of a die: from each group of PLANES_PER_SET planes, the i-th data block of each plane (R236). -/
def groupSets (pps : Nat) : List (List Nat) → List (List Nat)
  | [] => []
  | l =>
    let groups := (List.range (l.length / max pps 1)).map fun g => (l.drop (g * pps)).take pps
    (groups.map fun g =>
      let n := (g.map (·.length)).foldl min ((g.headD []).length)
      (List.range n).map fun i => g.map fun p => p.getD i 0).flatten

/-- Divide the good blocks of a die anew (R236), with its s0. A block that kept its wear keeps it, and a retired block stays retired
(R44); `fresh`: its blocks are new to the topology; they are taken as erased on blank flash only. Blocks that were in use are to
be erased. [PRESUMED, unsafe: log 94] -/
def State.divideDie (s : State) (c : Chart) (badBlocks : List (Nat × Nat)) (old : Map Block) (fresh blank : Bool) (d : Nat) : State :=
  let k := chartKind c (columnOf d)
  let n := k.planes * k.blocksPerPlane
  let bad := fun b => badBlocks.contains (d, b) || (!fresh && decide ((mapGet old (blockKey d b) {}).st = .retired))
  let planes := (List.range k.planes).map fun p => (List.range n).filter fun b => b % k.planes == p && !bad b
  let parts := planes.map (dividePlane s.boot.straps.holdup c k)
  let data := parts.map fun l => (l.filter fun e => e.2 == 0).map (·.1)
  let sets := groupSets c.zone.planesPerSet data
  let used := sets.flatten
  let pools := parts.flatten
  let entry := fun b =>
    let o : Block := mapGet old (blockKey d b) {}
    let pool := (pools.find? fun e => e.1 == b).map (·.2)
    let x : Block := if fresh then { new := true, plane := b % max k.planes 1, st := if blank then .erased else .full } else
      { plane := b % max k.planes 1, eraseCount := o.eraseCount, weakCount := o.weakCount, weak := o.weak, new := o.new,
        st := if o.st = .retired then .retired else if o.st = .erased then .erased else .full }
    match pool with
    | none => { x with st := .retired }
    | some p => { x with pool := if p = 0 && !used.contains b then 1 else p }
  let s := s.modNv fun v => { v with
    blocks := (List.range n).foldl (fun m b => mapSet m (blockKey d b) (entry b)) (mapKeep v.blocks fun e _ => decide (e / 65536 ≠ d))
    sets := (List.range sets.length).foldl (fun m i => mapSet m (blockKey d i) (sets.getD i []))
      (mapKeep v.sets fun e _ => decide (e / 65536 ≠ d)) }
  s.modNv fun v => { v with spare0 := mapSet v.spare0 d (s.spares d) }

/-! ### Dirty regions (R256, R257) -/

/-- The bytes of a die, in KiB. -/
def kindKiB (k : DieKind) : Nat := k.planes * k.blocksPerPlane * k.pagesPerBlock * k.pageKiB

/-- The 64 MiB region of its member's address space in which a page of a block lies. -/
def State.regionOf (s : State) (d block page : Nat) : Nat :=
  let k := s.kindOf d
  let before := (s.allDies.filter fun e => decide (dieMember e = dieMember d) && decide (columnOf e < columnOf d)).map
    fun e => kindKiB (s.kindOf e)
  (before.sum + (block * k.pagesPerBlock + page) * k.pageKiB) / 65536

/-- Mark a region in the bitmap. -/
def State.markDirty (s : State) (r : Nat) : State :=
  s.modNv fun v => { v with dirty := if v.dirty.contains r then v.dirty else v.dirty ++ [r] }

/-- Region bits whose rows have all been journalled complete are cleared when a batch closes (R257): those that no
incomplete row and no waiting program touches. -/
def State.clearDirty (s : State) : State :=
  let held := (s.nv.rows.filter fun e => !e.2.parity && !e.2.passed.isEmpty).map fun e => e.2.regions
  let waiting := s.md.die.map fun e =>
    (e.2.queue.filter fun o => decide (o.kind = .program)).map fun o => s.regionOf e.1 (o.blocks.getD 0 0) o.page
  let keep := held.flatten ++ waiting.flatten
  s.modNv fun v => { v with dirty := v.dirty.filter keep.contains }

end Sys2Proof.Machine
end

