-- ==== Sys2Proof/Machine/Die.lean ====
section
/-! DEFINITION. The die schedulers: predictor, tokens and ledgers, entry into a die queue, deadline rescue, the choice of
the next operation and its issue (spec/08). -/

namespace Sys2Proof.Machine

/-! ### The predictor (R196, R197) -/

def kindCode : OpKind → Nat
  | .read => 0 | .program => 1 | .erase => 2 | .slc => 3

/-- Worst-case service time of a kind of operation in µs. -/
def worstOf (k : DieKind) : OpKind → Nat
  | .read => k.wcRead | .program => k.wcProg | .erase => k.wcErase | .slc => k.slcProg

/-- The predicted cost of an operation, in 1/256 die-µs (R196). [DESIGN CHOICE, unsafe: log 38; DEDUCED, unsafe: log 41] -/
def State.predicted (s : State) (d : Nat) (k : OpKind) : Nat :=
  let w := worstOf (s.kindOf d) k * 256
  if s.cold d (kindCode k) then w
  else min w ((s.predOf d (kindCode k)).mean + 4 * (s.predOf d (kindCode k)).dev)

/-- The cost of a suspend or a resume: the erase-suspend latency of the chart. -/
def State.suspendCost (s : State) (d : Nat) : Nat := (s.kindOf d).tSusp * 256

/-- A running average of weight 1/16 takes a measurement; both averages are kept in 1/256 µs, and a deviation is measured from the
mean before it takes the measurement. [DESIGN CHOICE, unsafe: log 38] -/
def Pred.learn (p : Pred) (x : Nat) : Pred :=
  let step := fun (a v : Nat) => ((a : Int) + ((v : Int) - a) / 16).toNat
  { mean := step p.mean x, dev := step p.dev (max x p.mean - min x p.mean), count := p.count + 1 }

/-- The predictor learns the measured time of an operation that has completed. -/
def State.learn (s : State) (d : Nat) (k : OpKind) (us : Nat) : State :=
  s.modDie d fun x => { x with pred := mapSet x.pred (kindCode k) ((mapGet x.pred (kindCode k) {}).learn (us * 256)) }

/-! ### Tokens and ledgers (R173 to R179) -/

def State.addTok (s : State) (d x : Nat) (v : Int) : State :=
  s.modDie d fun e => { e with tokens := mapPut e.tokens x (mapGet e.tokens x 0 + v) 0 }

/-- The grant of a class at a meridian (R173). [DEDUCED, unsafe: log 41] -/
def State.grantOf (s : State) (x : Nat) : Nat :=
  s.chart.cur.budget.meridianUs * s.md.shares.getD x 0 * s.md.throttle * 256 / 100000

def State.modLedger (s : State) (owner cons : Nat) (f : Ledger → Ledger) : State :=
  s.updMd fun m => { m with ledger := mapMod m.ledger (ledgerKey owner cons) f }

/-- A ledger's balance; an owner without one is treated as having 0 (R177). -/
def State.ledgerBal (s : State) (owner : Nat) (cons : Option Nat) : Int :=
  match cons with
  | some k => (s.ledger owner k).bal
  | none => 0

/-- Is the operation one whose reads are reconstructed for a unit out of service (R510)? -/
def State.unledgered (s : State) (o : DieOp) : Bool :=
  match o.purpose with
  | .jobRead j _ => match mapGet? s.md.job j with
    | some x => (match x.kind with | .outOfService _ _ _ => true | _ => false)
    | none => false
  | _ => false

/-- Does a die queue hold an operation of C0 to C2 of another owner with a positive ledger balance (R177)? -/
def State.rivals (s : State) (d : Nat) (o : DieOp) : Bool :=
  (s.die d).queue.any fun p => decide (p.cls ≤ 2) && p.owner != o.owner && decide (0 < s.ledgerBal p.owner p.cons)

/-- Does the operation pass the ledger check, and as a surplus issue (R177)? -/
def State.ledgerPass (s : State) (d : Nat) (o : DieOp) : Bool × Bool :=
  if 2 < o.cls ∨ s.unledgered o = true then (true, false)
  else if 0 < s.ledgerBal o.owner o.cons then (true, false)
  else match o.cons with
    | some k => (s.on (Reg.DSCH_CONS_MODE_IDLE_SHARE.at k) && !s.rivals d o, true)
    | none => (true, true)

/-- The balance an operation draws on (R174, R179): its class, or the reserve; `none` when neither is positive. -/
def State.drawOn (s : State) (d : Nat) (o : DieOp) : Option Nat :=
  if o.cls ≤ 5 then (if 0 < s.tok d o.cls then some o.cls else none)
  else if o.cls ≤ 7 then (if 0 < s.tok d o.cls then some o.cls else if 0 < s.tok d 8 then some 8 else none)
  else
    let c := o.recovers.getD 8
    if 0 < s.tok d 8 then some 8 else if 0 < s.tok d c then some c else none

/-- Charge an operation at issue, or correct it at completion (R174, R177): `v` is added to the balance it drew on and to
its ledger. -/
def State.charge (s : State) (d : Nat) (o : DieOp) (v : Int) : State :=
  if o.cls = 9 then s
  else
    let on := if o.fromReserve then 8 else if o.cls = 8 then o.recovers.getD 8 else o.cls
    let s := s.addTok d on v
    match o.cons with
    | some k => if o.cls ≤ 2 ∧ o.surplus = false then s.modLedger o.owner k fun l => { l with bal := l.bal + v } else s
    | none => s

/-! ### The rows of a die's operations (R246, R255) -/

/-- The die of a position of a column. -/
def State.posDie (s : State) (col pos : Nat) : Nat := columnDie (s.members.getD pos 0) col

/-- The blocks of a set at a position, and the first page of a row in them. -/
def State.posBlocks (s : State) (set pos : Nat) : List Nat :=
  match s.setPlace set with
  | some (c, b) => s.setBlocks (s.posDie c pos) (b.getD pos 0xFFFF)
  | none => []

/-- Pages of a block that one program unit takes. -/
def State.unitPages (s : State) (d n : Nat) : Nat := max ((s.kindOf d).unitKiB / max ((s.kindOf d).pageKiB * max n 1) 1) 1

def State.rowPage (s : State) (set row pos : Nat) : Nat :=
  match s.setPlace set with
  | some (c, _) => row * s.unitPages (s.posDie c pos) (s.posBlocks set pos).length
  | none => 0

/-- Is the row one that resync continues (R193)? -/
def State.isOpenRow (s : State) (set row : Nat) : Bool := (s.row set row).openRow && !(s.row set row).parity

/-- Has a row position an entry of the row exception table at some codeword offsets (R255)? -/
def State.hasRowx (s : State) (set row pos mask : Nat) (p : RowxKind → Bool) : Bool :=
  s.nv.rowx.any fun e => e.set == set && e.row == row && e.pos == pos && masksMeet e.mask mask && p e.kind

def isExcluded : RowxKind → Bool
  | .excluded => true
  | _ => false

def isLostKind : RowxKind → Bool
  | .lost => true
  | _ => false

def isPatchKind : RowxKind → Bool
  | .patch _ => true
  | _ => false

/-- The PATCH entries of a row position. -/
def State.patchesAt (s : State) (set row pos : Nat) : List Rowx :=
  s.nv.rowx.filter fun e => e.set == set && e.row == row && e.pos == pos && isPatchKind e.kind

/-- Where a patched codeword is: the set and the row of its patch unit, and its offset in the unit there (R253). -/
def State.patchPlace (s : State) (e : Rowx) (off : Nat) : Option (Nat × Nat × Nat) :=
  match e.kind, s.setCons e.set with
  | .patch slot, some cons =>
    let dest := ruKey (s.unitOf cons slot)
    (s.setPlace dest).map fun p =>
      let idx := s.slotOff slot * s.granule4k + (off - lowBit e.mask)
      (dest, (s.rowOf p.1 idx).1, idx % s.unit4k p.1)
  | _, _ => none

/-- Where a codeword of a row position is read: at its patch, where it has one, or in its unit (R253, R255). -/
def State.wordPlace (s : State) (set row pos off : Nat) : Nat × Nat × Nat :=
  match (s.patchesAt set row pos).find? fun e => bit e.mask off with
  | some e => (s.patchPlace e off).getD (set, row, off)
  | none => (set, row, off)

/-- Codewords of one page of a die. -/
def State.pageWords (s : State) (d : Nat) : Nat := max ((s.kindOf d).pageKiB / 4) 1

/-- The other positions of a row that a reconstruction at some codeword offsets reads: an EXCLUDED one is left out (R255), and of an open
row the parity position, whose running parity is in its ingot (R193, R260). -/
def State.sources (s : State) (set row pos mask : Nat) : List Nat :=
  let col := ((s.setPlace set).map (·.1)).getD 0
  (List.range s.memberCount).filter fun i => i != pos && !s.hasRowx set row i mask isExcluded &&
    !(s.isOpenRow set row && i == s.parityPos col row)

/-- The sources that cannot be read: out of service, or with LOST codewords at these offsets (R255, R271). -/
def State.sourcesOut (s : State) (set row pos mask : Nat) : List Nat :=
  let col := ((s.setPlace set).map (·.1)).getD 0
  (s.sources set row pos mask).filter fun i => s.unitOut set row col i || s.hasRowx set row i mask isLostKind

/-- A reconstruction needs a complete row, or an open row with its running parity, and every source (R193, R217, R271). -/
def State.canRebuild (s : State) (set row pos mask : Nat) : Bool :=
  (s.setPlace set).isSome && (s.rowComplete set row || s.isOpenRow set row) && (s.sourcesOut set row pos mask).isEmpty

/-! ### Entry into a die queue (R169, R170, R509) -/

/-- The command of a host read, with its class, its owner, its deadline and its base: a read without a live deadline at its fetch is
in C1 whatever its queue, and one whose deadline instant has passed since keeps its class (R170, R183, R184). [DEDUCED, unsafe:
log 200] -/
def State.cmdClass (s : State) (r : CmdRef) : Nat × Nat × Deadline × Nat :=
  match s.cmd? r with
  | some c => match c.deadline with
    | .live t => (if c.urgent then 0 else 1, r.owner, if t ≤ s.time.sid then .lost t else .live t, c.stamp.getD c.fetchedAt)
    | x => (1, r.owner, x, c.stamp.getD c.fetchedAt)
  | none => (1, r.owner, .none, 0)

/-- The owner whose host data a row holds: that of the first buffered range with data in it. [DEDUCED, unsafe: log 203] -/
def State.rowOwner (s : State) (set row : Nat) : Nat :=
  match s.wp.wr.find? fun e => (s.wrRows e.2 set).any fun p => decide (p.1 ≤ row) && decide (row ≤ p.2) with
  | some e => e.2.ref.owner
  | none => systemOwner

def State.wrOwner (s : State) (k : Nat) : Nat :=
  match mapGet? s.wp.wr k with
  | some w => w.ref.owner
  | none => systemOwner

/-- Class, owner, deadline, base and recovered class of a request (Table DSC-1). -/
def State.classify (s : State) (p : Purpose) : Nat × Nat × Deadline × Nat × Option Nat :=
  match p with
  | .hostRead r _ _ => let c := s.cmdClass r; (c.1, c.2.1, c.2.2.1, c.2.2.2, none)
  | .jobRead j _ => match mapGet? s.md.job j with
    | some x => match x.kind with
      | .ladder _ => (8, x.owner, x.deadline, x.base, some x.cls)
      | .companion _ _ => (8, systemOwner, .none, 0, some 7)
      | .rebuild _ _ _ => (6, systemOwner, .none, 0, none)
      | _ => (x.cls, x.owner, x.deadline, x.base, none)
    | none => (8, systemOwner, .none, 0, some 1)
  | .ladderRead e => match mapGet? s.md.dec e with
    | some x => (8, x.op.owner, x.op.deadline, x.op.base, some x.op.cls)
    | none => (8, systemOwner, .none, 0, some 1)
  | .unit set row _ => (2, s.rowOwner set row, .none, 0, none)
  | .patch w _ => (2, s.wrOwner w, .none, 0, none)
  | .patches l => (2, s.wrOwner ((l.map (·.1)).getD 0 0), .none, 0, none)
  | .flushRecord l => (2, s.wrOwner (l.getD 0 0), .none, 0, none)
  | .metadata => (7, systemOwner, .none, 0, none)
  | .adminRead => (7, systemOwner, .none, 0, none)
  | .move set => (if ((mapGet? s.md.reloc set).map (·.why)) = some 3 then 6 else 3, systemOwner, .none, 0, none)
  | .repair _ _ _ => (3, systemOwner, .none, 0, none)
  | .rebuild _ _ _ => (6, systemOwner, .none, 0, none)
  | .erase => (4, systemOwner, .none, 0, none)
  | .scrub _ => (5, systemOwner, .none, 0, none)
  | .assay _ => (5, systemOwner, .none, 0, none)
  | .dusk => (9, systemOwner, .none, 0, none)

/-- The operation that a request becomes. -/
def State.makeOp (s : State) (d : Nat) (k : OpKind) (blocks : List Nat) (page : Nat) (p : Purpose) : DieOp :=
  let c := s.classify p
  { id := s.md.nextOp, kind := k, cls := c.1, owner := c.2.1, cons := s.consOfColumn (columnOf d), deadline := c.2.2.1,
    base := c.2.2.2.1, arrival := s.time.sid, cost := s.predicted d k, blocks := blocks, page := page, purpose := p,
    reserve := false, openRow := false, surplus := false, fromReserve := false, recovers := c.2.2.2.2, snap := [],
    assay := (match p with | .move _ => true | .repair _ _ _ => true | _ => false) }

/-! ### The writer slots (R190, R191) -/

def slotKey (cons col : Nat) : Nat := cons * 256 + col

/-- The constellation of a die's column, when it is in stagger mode. -/
def State.staggered (s : State) (d : Nat) : Option Nat :=
  match s.consOfColumn (columnOf d) with
  | some k => if mapGet s.md.mode k false then some k else none
  | none => none

/-- What asks for a slot: an operation, or the resume of a die. -/
def opCode (o : DieOp) : Nat := 1048576 + o.id

/-- Give a slot back: a waiting resume has it next, then the first that asked. -/
def State.releaseSlot (s : State) (d : Nat) (code : Nat) : State :=
  match s.consOfColumn (columnOf d) with
  | none => s
  | some k =>
    let key := slotKey k (columnOf d)
    if mapGet? s.md.slot key = some code then
      let w := mapGet s.md.slotWait key []
      let next := match w.find? fun x => decide (x < 1048576) with
        | some x => some x
        | none => w.head?
      match next with
      | some x => s.updMd fun m => { m with
          slot := mapSet m.slot key x, slotWait := mapPut m.slotWait key (w.filter (· ≠ x)) [] }
      | none => s.updMd fun m => { m with slot := mapErase m.slot key }
    else s.updMd fun m => { m with slotWait := mapPut m.slotWait key ((mapGet m.slotWait key []).filter (· ≠ code)) [] }

/-- Take the slot: it is free, or it has been given to this one. -/
def State.takeSlotOf (s : State) (d code : Nat) : Option State :=
  match s.staggered d with
  | none => some s
  | some k =>
    let key := slotKey k (columnOf d)
    match mapGet? s.md.slot key with
    | none => some (s.updMd fun m => { m with slot := mapSet m.slot key code })
    | some c => if c = code then some s else none

/-- Ask for the slot. -/
def State.askSlot (s : State) (d code : Nat) : State :=
  match s.staggered d with
  | none => s
  | some k =>
    let key := slotKey k (columnOf d)
    let w := mapGet s.md.slotWait key []
    if w.contains code then s else s.updMd fun m => { m with slotWait := mapSet m.slotWait key (w ++ [code]) }

/-! ### What may issue (R171 to R180, R188) -/

/-- The tier of an operation (Table DSC-2). -/
def opTier (o : DieOp) : Nat :=
  if o.cls = 8 then 2
  else if o.cls ≤ 1 then (match o.deadline with
    | .live _ => if o.cls = 0 then 3 else 4
    | _ => 5)
  else if o.cls = 7 then 6 else if o.cls = 6 then 7 else if o.cls = 2 then 8 else if o.cls = 3 then 9
  else if o.cls = 4 then 10 else 11

/-- The effective deadline of an operation (R181). -/
def State.effective (s : State) (o : DieOp) : Nat :=
  match o.deadline with
  | .live t => t
  | .lost t => t
  | .none => if o.cls ≤ 1 then o.base + s.rd Reg.DSCH_BEST_EFFORT_MS * 1000000 else o.arrival

/-- Does one operation come before another: by tier, effective deadline, arrival? -/
def State.before (s : State) (a b : DieOp) : Bool :=
  if opTier a ≠ opTier b then decide (opTier a < opTier b)
  else if s.effective a ≠ s.effective b then decide (s.effective a < s.effective b)
  else decide (a.id < b.id)

/-- Is a command unfinished that a structural reset waits for (R40 step 2)? A held Asynchronous Event Request is none, and those of
the manager's admin queue, which is fetched on, count only with `all`. [DEDUCED, unsafe: log 27] -/
def State.unfinished (s : State) (all : Bool) : Bool :=
  mapAny s.q.cmds fun _ c => s.runs c.ref && !(s.ctrl c.ref.owner).aers.contains c.ref &&
    (all || c.ref.sqid != 0 || s.managerOwner != some c.ref.owner)

/-- The drains during which only drain operations issue (R180): the dusk drain, after which the device stays quiescent (R159), and step 3
of a structural reset, from when no command of the queues that are no longer fetched is in flight, or their time has run out (R40). -/
def State.draining (s : State) : Bool :=
  decide (s.wp.dusk ≠ .idle) || (decide (s.chart.phase = .draining) && (s.chart.timedOut || !s.unfinished false))

/-- A resume waits for the slot or has reached HOLD_MS: nothing new issues but reads that passed R182 (R188). -/
def State.resumePending (s : State) (d : Nat) : Bool :=
  match (s.die d).erase with
  | some e => e.holdReached || (match s.staggered d with
      | some k => (mapGet s.md.slotWait (slotKey k (columnOf d)) []).contains d
      | none => false)
  | none => false

/-- What a suspended erase lets issue (R188). -/
def State.suspendedLets (s : State) (d : Nat) (o : DieOp) : Bool :=
  match (s.die d).erase with
  | none => true
  | some e =>
    let live := match o.deadline with | .live _ => true | _ => false
    if s.resumePending d then o.kind == .read && decide (o.cls ≤ 1) && live
    else if o.kind = .read then true
    else if o.kind = .erase then false
    else (o.cls == 2 || o.cls == 3 || o.cls == 6) && !(o.blocks.any e.op.blocks.contains)

/-- Pages of one block of a block set that a program unit takes. -/
def State.setPages (s : State) (d : Nat) (blocks : List Nat) : Nat :=
  match s.setOf d (blocks.getD 0 0) with
  | some k => s.unitPages d (s.setBlocks d k).length
  | none => s.unitPages d blocks.length

/-- The unit of a relocation's destination that a program on a die is for: its row and position. -/
def State.moveUnit (s : State) (r : Reloc) (d : Nat) (blocks : List Nat) (page : Nat) : Option (Nat × Nat) :=
  ((List.range s.memberCount).find? fun i => decide (s.posDie r.column i = d) &&
    blocks.all (s.setBlocks d (r.sets.getD i 0xFFFF)).contains).map fun i => (page / s.setPages d blocks, i)

/-- The parity unit issues after every data unit (R249), no unit of a row with two positions out (R251), and none of a set while its
relocation has not switched (R231, R251); the same of a relocation's own rows. -/
def State.rowLets (s : State) (d : Nat) (o : DieOp) : Bool :=
  match o.purpose with
  | .unit set row pos =>
    match s.setPlace set with
    | some (col, _) =>
      let out := s.rowOut set col
      decide (out.length ≤ 1) && !out.contains pos && !(mapAny s.md.reloc fun k r => k == set && r.switched.isNone) &&
        (pos != s.parityPos col row || (List.range s.memberCount).all fun i =>
          i == pos || out.contains i || (s.row set row).passed.contains i)
    | none => false
  | .move set =>
    if o.kind = .read then true
    else match mapGet? s.md.reloc set with
      | some r => match s.moveUnit r d o.blocks o.page with
        | some (row, pos) =>
          let out := s.outPositions r.column
          decide (out.length ≤ 1) && !out.contains pos &&
            (pos != s.parityPos r.column row || r.todo.all fun e => e.1 != row || e.2 == pos || r.passed.contains e)
        | none => true
      | none => true
  | _ => true

/-- Does every block of a request come before no earlier request on the same block (R171)? -/
def inOrder (q : List DieOp) (o : DieOp) : Bool :=
  !(q.any fun p => decide (p.id < o.id) && p.blocks.any o.blocks.contains)

/-- Does the dirty-region bitmap on flash mark the region of a program (R257)? Metadata areas lie outside it. -/
def State.regionMarked (s : State) (d : Nat) (o : DieOp) : Bool :=
  o.kind != .program || o.purpose == .metadata || s.md.marked.contains (s.regionOf d (o.blocks.getD 0 0) o.page)

/-- Which members accept work: those in service and those being rebuilt. -/
def State.memberIssues (s : State) (m : Nat) : Bool :=
  decide ((s.member m).st = .inService) || decide ((s.member m).st = .rebuilding) || decide ((s.member m).st = .training)

/-- Is an operation eligible, the writer slot apart (R171, R174 to R179, R214, R257, R422)? -/
def State.eligibleOp (s : State) (d : Nat) (o : DieOp) : Bool :=
  inOrder (s.die d).queue o && s.memberIssues (dieMember d) && !mapHas s.md.retraining (dieCh d) &&
    (o.kind != .erase || s.md.restoredDies.contains d) && s.regionMarked d o && !(o.purpose == .scrub none && s.pausedPs) &&
    s.suspendedLets d o && s.rowLets d o && (s.drawOn d o).isSome && (s.ledgerPass d o).1

/-! ### Modes (R192) -/

/-- Is at most one die of each column of a constellation in a program or an unsuspended erase? -/
def State.oneWriter (s : State) (k : Nat) : Bool :=
  (s.consOf k).columns.all fun c =>
    decide ((s.members.filter fun m => match (s.die (columnDie m c)).busy with
      | .running o => o.kind != .read
      | .suspending _ _ => true
      | .resuming _ => true
      | _ => false).length ≤ 1)

/-- A constellation in stagger mode becomes compliant (R192): EV0059. -/
def State.complianceUpdate (s : State) : State :=
  let new := (List.range s.chart.cur.cons.length).filter fun k =>
    mapGet s.md.mode k false && !s.md.compliant.contains k && s.oneWriter k
  let s := s.updMd fun m => { m with compliant := m.compliant ++ new }
  s.each new fun s k => s.event 59 [k]

/-! ### Entry, prediction and rescue (R12, R169, R182, R187, R194, R195) -/

/-- Enter an operation (R12, R169, R509): reserve traffic takes one of the 2 reserve entries, or a general one; the rest
one of the 14 general entries; a drain operation the drain queue. `none`: no entry is free. -/
def State.enter (s : State) (d : Nat) (o : DieOp) : Option State :=
  let q := (s.die d).queue
  let res := (q.filter (·.reserve)).length
  let gen := (q.filter fun x => !x.reserve).length
  let put := fun (o : DieOp) =>
    some ((s.modDie d fun x => { x with queue := x.queue ++ [o] }).updMd fun m => { m with nextOp := m.nextOp + 1 })
  if o.cls = 9 then some ((s.modDie d fun x => { x with drain := x.drain ++ [o] }).updMd fun m =>
    { m with nextOp := m.nextOp + 1 })
  else if 6 ≤ o.cls ∧ res < 2 then put { o with reserve := true }
  else if gen < 14 then put o
  else none

/-- The predicted time left to the operation that runs on a die, in ns; a die whose channel retrains in full is busy until the retraining
has taken its 80 ms (R204). -/
def State.remaining (s : State) (d : Nat) : Nat :=
  let left := fun (cost : Nat) => cost * 1000 / 256 - (s.time.now - (s.die d).since)
  let ran := fun (o : DieOp) => if o.kind = .erase then ((s.die d).run.map (·.ran)).getD 0 else 0
  let retrain := match mapGet? s.md.retraining (dieCh d) with
    | some t => 80000000 - (s.time.now - t)
    | none => 0
  max retrain (match (s.die d).busy with
    | .idle => 0
    | .running o => left o.cost - ran o
    | .suspending _ _ => left (s.suspendCost d)
    | .resuming o => left (s.suspendCost d) + (o.cost * 1000 / 256 - ran o)
    | .resetting => left 256000)

/-- The costs of what tiers 1 to 4 would pick on a die before an operation, in ns: a resume of tier 1, and eligible operations. -/
def State.ahead (s : State) (d : Nat) (o : DieOp) : Nat :=
  let resume := if ((s.die d).erase.map (·.holdReached)).getD false then s.suspendCost d * 1000 / 256 else 0
  resume + (((s.die d).queue.filter fun p =>
      decide (opTier p ≤ 4) && p.id != o.id && s.eligibleOp d p && s.before p o).map fun p => p.cost * 1000 / 256).sum

/-- P of R182 for a read on a die. -/
def State.predictedEnd (s : State) (d : Nat) (o : DieOp) : Nat :=
  s.time.sid + s.remaining d + s.ahead d o + o.cost * 1000 / 256

/-- The limits of R187 on a further suspend of the running erase. -/
def State.maySuspend (s : State) (d : Nat) : Bool :=
  match (s.die d).run with
  | some e =>
    decide (s.rd Reg.DSCH_SUSPEND_CFG_MIN_RUN * 10000 ≤ s.time.now - (s.die d).since) &&
      decide (e.suspends < s.rd Reg.DSCH_SUSPEND_CFG_SUSPEND_MAX) &&
      decide (e.spent < s.rd Reg.DSCH_SUSPEND_CFG_HOLD_MS * 1000000)
  | none => false

/-- Start the suspend of the running erase for a read, whose class and ledger pay the latency (R187). -/
def State.startSuspend (s : State) (d : Nat) (e by_ : DieOp) : State :=
  let b := { by_ with cost := s.suspendCost d }
  let s := s.charge d b (-(b.cost : Int))
  let ran := s.time.now - (s.die d).since
  (s.modDie d fun x => { x with
    busy := .suspending e b, since := s.time.now, run := x.run.map fun r => { r with ran := r.ran + ran } }).bump
    (Reg.DSCH_CH_STAT_SUSPENDS.at (dieCh d))

/-- Rule 1 of R182: an unsuspended erase on the die is suspended for a read with deadline `D` where R187 permits it and the read then ends
in time; an erase that a limit of R187 keeps running is remembered. `true`: the suspend has started. -/
def State.trySuspend (s : State) (d : Nat) (o : DieOp) (D : Nat) : Bool × State :=
  match (s.die d).busy with
  | .running e =>
    if e.kind ≠ .erase then (false, s)
    else if !s.maySuspend d then (false, s.modDie d fun x => { x with run := x.run.map fun r => { r with refused := true } })
    else if s.time.sid + s.suspendCost d * 1000 / 256 + s.ahead d o + o.cost * 1000 / 256 ≤ D then (true, s.startSuspend d e o)
    else (false, s)
  | _ => (false, s)

/-- R182 for a live C0 or C1 read of a reconstruction that has entered a die queue: only a suspend can rescue it, since reading
around it would need the very die that it stands in for. [DEDUCED, unsafe: log 204] -/
def State.predictJob (s : State) (d : Nat) (o : DieOp) : State :=
  match o.purpose, o.deadline with
  | .jobRead _ _, .live D => if o.cls ≤ 1 ∧ D < s.predictedEnd d o then (s.trySuspend d o D).2 else s
  | _, _ => s

/-- The device sends an operation of its own: it enters its die queue, or its sender holds it until an entry is free (R14, R175).
[DESIGN CHOICE, unsafe: log 205] -/
def State.sendOp (s : State) (d : Nat) (o : DieOp) : State :=
  match s.enter d o with
  | some s => s.predictJob d o
  | none => (s.modDie d fun x => { x with held := x.held ++ [o] }).updMd fun m => { m with nextOp := m.nextOp + 1 }

/-- The operations that senders of a die hold are sent again, reserve traffic first (R13). [DESIGN CHOICE, unsafe: log 205] -/
def State.refill (s : State) (d : Nat) : State :=
  let l := (s.die d).held
  let s := s.modDie d fun x => { x with held := [] }
  s.each ((l.filter fun o => decide (6 ≤ o.cls)) ++ l.filter fun o => decide (o.cls < 6)) fun s o =>
    s.sendOp d { o with id := s.md.nextOp, arrival := s.time.sid }

/-- Operations leave their die queues without having issued; what they held of a slot is given back, and held operations take their
entries. -/
def State.dropOps (s : State) (d : Nat) (p : DieOp → Bool) : State :=
  let gone := (s.die d).queue.filter p
  if gone.isEmpty && !(s.die d).held.any p then s
  else
    let s := s.modDie d fun x => { x with queue := x.queue.filter fun o => !p o, held := x.held.filter fun o => !p o }
    (s.each gone fun s o => s.releaseSlot d (opCode o)).refill d

/-- The run of an erase whose suspend a limit refused is counted once when it ends, with EV0062 (R187). -/
def State.forcedCount (s : State) (d : Nat) : State :=
  match (s.die d).run <|> (s.die d).erase with
  | some e =>
    if e.refused then (s.bump (Reg.DSCH_CH_STAT2_FORCED.at (dieCh d))).eventPerMeridian 62 (dieCh d) [dieCh d] else s
  | none => s

/-- The other positions of a row. -/
def State.otherPos (s : State) (pos : Nat) : List Nat := (List.range s.memberCount).filter (· ≠ pos)

/-- Is a constellation compliant with stagger mode (R192)? -/
def State.compliant (s : State) (k : Nat) : Bool := s.md.compliant.contains k

/-- The C0 and C1 grants of a constellation for a period (R194). -/
def State.readGrants (s : State) (k : Nat) : Nat :=
  (s.allDies.filter fun d => (s.consOf k).columns.contains (columnOf d)).length * (s.grantOf 0 + s.grantOf 1)

/-- Does a row lie in a region that is not yet resynchronised (R261)? -/
def State.rowUnsynced (s : State) (set row : Nat) : Bool :=
  let col := ((s.setPlace set).map (·.1)).getD 0
  (List.range s.memberCount).any fun i =>
    s.md.resyncLeft.contains (s.regionOf (s.posDie col i) ((s.posBlocks set i).getD 0 0) (s.rowPage set row i))

/-- Conditions 1 to 5 and 7 of R194 for codewords of a row, and condition 6 apart from them; none in a region that is not yet
resynchronised (R261). -/
def State.mayOccult (s : State) (set row pos mask : Nat) (o : DieOp) : Bool × Bool :=
  match o.cons, o.deadline with
  | some k, .live D =>
    let col := ((s.setPlace set).map (·.1)).getD 0
    let others := s.sources set row pos mask
    let costs := others.map fun i => s.predicted (s.posDie col i) .read
    let five := s.on (Reg.DSCH_CONS_MODE_OCC_ENABLE.at k) && decide (o.cls ≤ 1) && s.canRebuild set row pos mask &&
      !s.rowUnsynced set row &&
      (others.all fun i =>
        let d := s.posDie col i
        decide (0 < s.tok d o.cls) && decide (s.predictedEnd d { o with cost := s.predicted d .read } ≤ D)) &&
      decide ((costs.sum : Int) ≤ s.ledgerBal o.owner o.cons) && s.rowComplete set row && !s.isOpenRow set row
    (five, decide ((mapGet s.md.occSpent k 0 + costs.sum) * 100 ≤ s.rd (Reg.DSCH_CONS_MODE_OCC_PCT.at k) * s.readGrants k))
  | _, _ => (false, false)

/-- The row position that a part of a job reads, and the page within its unit. -/
def partPos (x : Nat) : Nat := x % 256
def partPage (x : Nat) : Nat := x / 256

/-- The page number of the part that reads the first patch of a position, above those of every unit. -/
def patchPart : Nat := 65536

/-- The parts of a job that reads whole units: every page of the unit at each position, and its patched codewords where they are (R255,
R269). -/
def State.wholeParts (s : State) (set row : Nat) (l : List Nat) : List Nat :=
  (l.map fun i =>
    let d := s.posDie (((s.setPlace set).map (·.1)).getD 0) i
    (List.range (s.unitPages d (s.posBlocks set i).length)).map (fun p => i + 256 * p) ++
      (List.range (s.patchesAt set row i).length).map fun p => i + 256 * (patchPart + p)).flatten

/-- Does a job reconstruct a whole unit? -/
def State.isWhole (s : State) (j : Job) : Bool := j.mask == s.unitMask (((s.setPlace j.set).map (·.1)).getD 0)

/-- The set, the row and the offset of the first codeword that a part of a job reads. -/
def State.partPlace (s : State) (d : Nat) (j : Job) (part : Nat) : Nat × Nat × Nat :=
  let pos := partPos part
  if patchPart ≤ partPage part then
    match (s.patchesAt j.set j.row pos).drop (partPage part - patchPart) with
    | e :: _ => (s.patchPlace e (lowBit e.mask)).getD (j.set, j.row, 0)
    | [] => (j.set, j.row, 0)
  else if s.isWhole j then (j.set, j.row, partPage part * max (s.posBlocks j.set pos).length 1 * s.pageWords d)
  else s.wordPlace j.set j.row pos (lowBit j.mask)

/-- The read of one part of a job: the page of its codewords at their place, on every plane where it reads a page of a whole unit (R195,
R269). -/
def State.jobOp (s : State) (k : Nat) (j : Job) (part : Nat) : Nat × DieOp :=
  let pos := partPos part
  let d := s.posDie (((s.setPlace j.set).map (·.1)).getD 0) pos
  let at_ := s.partPlace d j part
  let b := s.posBlocks at_.1 pos
  let n := max b.length 1
  let blocks := if s.isWhole j && decide (partPage part < patchPart) then b else (b.drop (at_.2.2 / s.pageWords d % n)).take 1
  (d, s.makeOp d .read blocks (s.rowPage at_.1 at_.2.1 pos + at_.2.2 / (n * s.pageWords d)) (.jobRead k part))

/-- Is a job reserve traffic (R12)? -/
def Job.isReserve (j : Job) : Bool := decide (6 ≤ j.cls)

/-- A job that holds no lane of the crucible takes a free one; 14 and 15 are for reserve traffic alone (R248). [DESIGN CHOICE,
unsafe: log 233] -/
def State.takeLane (s : State) (k : Nat) (j : Job) : State :=
  let lanes := if j.isReserve then [14, 15] ++ List.range 14 else List.range 14
  if j.lane.isSome then s
  else match lanes.find? fun n => !(mapAny s.md.job fun _ x => x.lane == some n) with
    | some n => s.updMd fun m => { m with job := mapMod m.job k fun x => { x with lane := some n } }
    | none => s

/-- The jobs that wait for a lane take those that are free, reserve traffic first (R13, R248). [DESIGN CHOICE, unsafe: log 233] -/
def State.giveLanes (s : State) : State :=
  s.each ((s.md.job.filter fun e => e.2.isReserve) ++ s.md.job.filter fun e => !e.2.isReserve) fun s e => s.takeLane e.1 e.2

/-- The reads of a job are sent to the die queues. -/
def State.sendJob (s : State) (k : Nat) (j : Job) : State :=
  s.each j.left fun s x =>
    let p := s.jobOp k j x
    s.sendOp p.1 p.2

/-- Start a crucible job over other positions of a row (R195, R216, R250): its reads are sent to the die queues, those of a row that is
not yet resynchronised after its resync (R261). PD34 wakes when it sleeps (R248). -/
def State.startJob (s : State) (j : Job) : State :=
  let k := s.md.nextJob
  let s := s.updMd fun m => { m with job := mapSet m.job k { j with lane := none }, nextJob := k + 1 }
  let s := s.giveLanes.wake 34 0 3
  if (s.setPlace j.set).isNone || s.rowUnsynced j.set j.row then s else s.sendJob k j

/-- Start an occultation read (R195): reads of the same codewords at the other positions, in the class of the original, which stays as a
shadow. -/
def State.occult (s : State) (d nsid lba n set row pos : Nat) (o : DieOp) : State :=
  let mask := s.maskOf nsid lba n
  let col := ((s.setPlace set).map (·.1)).getD 0
  let others := s.sources set row pos mask
  let cost := (others.map fun i => s.predicted (s.posDie col i) .read).sum
  let s := s.startJob
    { kind := .occult o (dieCh d) (diePos d), set := set, row := row, pos := pos, left := others, bad := [],
      snap := s.atIssue nsid lba n, cls := o.cls, owner := o.owner, cons := o.cons, deadline := o.deadline, base := o.base,
      mask := mask }
  let s := s.bump (Reg.DSCH_CH_STAT_OCC_SOURCED.at (dieCh d))
  match o.cons with
  | some k =>
    let s := s.updMd fun m => { m with occSpent := mapSet m.occSpent k (mapGet m.occSpent k 0 + cost) }
    s.modLedger o.owner k fun l => { l with occ := min (l.occ + 1) 0xFFFFFFFF }
  | none => s

/-- Rule 2 of R182: the read is served by occultation where R194 permits it; EV0061 where its condition 6 alone forbids it. -/
def State.tryOccult (s : State) (d nsid lba n : Nat) (o : DieOp) : State :=
  match s.stripeOf nsid lba with
  | some (set, row, pos) =>
    let c := s.mayOccult set row pos (s.maskOf nsid lba n) o
    if c.1 && c.2 then s.occult d nsid lba n set row pos o
    else if c.1 then s.eventPerMeridian 61 (o.cons.getD 0) [o.cons.getD 0]
    else s
  | none => s

/-- R182: a live read that has entered a queue and whose predicted end lies after its deadline is rescued by the first
means allowed: a suspend of the die's erase, an occultation, or neither. -/
def State.rescue (s : State) (d nsid lba n : Nat) (o : DieOp) : State :=
  match o.deadline with
  | .live D =>
    if s.predictedEnd d o ≤ D then s
    else
      let r := s.trySuspend d o D
      if r.1 then r.2 else r.2.tryOccult d nsid lba n o
  | _ => s

/-! ### The choice of the next operation (R171 to R189) -/

/-- What a scheduler may pick. -/
inductive Pick where
  | op (o : DieOp)
  | resume (e : Erase)

/-- The eligible operations in the order of choice. -/
def State.insertOp (s : State) (o : DieOp) : List DieOp → List DieOp
  | [] => [o]
  | p :: l => if s.before o p then o :: p :: l else p :: s.insertOp o l

def State.sortOps (s : State) : List DieOp → List DieOp
  | [] => []
  | o :: l => s.insertOp o (s.sortOps l)

/-- The picks of a die in order: the resume in tier 1 when its suspension has reached HOLD_MS, otherwise in tier 10 and only
when no live C0 or C1 read waits (R189). -/
def State.picks (s : State) (d : Nat) : List Pick :=
  let l := s.sortOps ((s.die d).queue.filter (s.eligibleOp d))
  match (s.die d).erase with
  | none => l.map .op
  | some e =>
    if e.holdReached then .resume e :: l.map .op
    else if (s.die d).queue.any fun o => decide (opTier o = 3) || decide (opTier o = 4) then l.map .op
    else
      let first := l.filter fun o => decide (opTier o < 10) || (decide (opTier o = 10) && decide (o.id < e.op.id))
      first.map .op ++ [.resume e] ++ (l.filter fun o => !(first.any fun p => p.id == o.id)).map .op

/-- The operations of a die that have not ended. -/
def State.dieOps (s : State) (d : Nat) : List DieOp :=
  (s.die d).queue ++ (s.die d).held ++ (match (s.die d).busy with
    | .running o => [o]
    | .suspending o _ => [o]
    | .resuming o => [o]
    | _ => []) ++ ((s.die d).erase.map fun e => [e.op]).getD []

/-- The patches of a unit that was not programmed are collected again (R229, R254). -/
def State.patchesBack (s : State) (d : Nat) (o : DieOp) : State :=
  match o.purpose with
  | .patches l => s.updMd fun m => { m with patchUnits := mapSet m.patchUnits d (l ++ mapGet m.patchUnits d []) }
  | _ => s

/-- Start an operation on its die (R174, R210, R211, R212): its cost is charged; a program that the block state table does
not allow never reaches the die; an erase enters ERASING first. -/
def State.startOp (s : State) (d : Nat) (o : DieOp) : State :=
  let s := s.modDie d fun x => { x with queue := x.queue.filter fun p => p.id ≠ o.id }
  let raw := s.on Reg.MEDIA_STATUS_RAW
  let bad := if o.kind = .program ∨ o.kind = .slc then o.blocks.find? fun b =>
      let x := s.block d b
      !(decide (x.st = .erased) || decide (x.st = .open_)) || decide (x.nextPage ≠ o.page) else none
  if bad.isSome && !raw then
    let b := bad.getD 0
    let s := (s.bump Reg.MEDIA_REFUSED_COUNT).mediaErr d b o.page 1
    ((s.chanEvent d 0 b o.page 1).releaseSlot d (opCode o)).patchesBack d o
  else
    let s := match bad with
      | some b => (s.each o.blocks fun s b => s.modBlock d b fun x => { x with raw := true }).event 30
          [b, o.page, (s.block d b).st.code]
      | none => s
    let from_ := s.drawOn d o
    let o : DieOp := { o with
      surplus := (s.ledgerPass d o).2
      fromReserve := decide (from_ = some 8) && o.cls != 9
      snap := match o.purpose with
        | .hostRead r lba n => (match mapGet? s.md.reads (cmdKey r) with
          | some j => s.atIssue j.nsid lba n
          | none => [])
        | _ => [] }
    let s := s.charge d o (-(o.cost : Int))
    let s := if o.kind = .erase then
        s.each o.blocks fun s b => s.modBlock d b fun x => { x with
          reerases := if x.st = .suspect then x.reerases + 1 else x.reerases
          st := .erasing, eraseCount := x.eraseCount + 1, readCount := 0 }
      else s
    let run : Option Erase := if o.kind = .erase then some ⟨o, s.time.now, 0, 0, 0, false, false⟩ else (s.die d).run
    s.modDie d fun x => { x with busy := .running o, since := s.time.now, run := run }

/-- Start a resume: its latency is charged to C4 whatever that balance (R189). -/
def State.startResume (s : State) (d : Nat) (e : Erase) : State :=
  let s := s.addTok d 4 (-(s.suspendCost d : Int))
  s.modDie d fun x => { x with
    busy := .resuming e.op, since := s.time.now, erase := none
    run := some { e with spent := e.spent + (s.time.now - e.since) } }

/-- Take the first pick that can start; a writer that finds its column's slot taken asks for it and waits. -/
def State.takePick (s : State) (d : Nat) : List Pick → State
  | [] => s
  | .resume e :: l =>
    match s.takeSlotOf d d with
    | some s => s.startResume d e
    | none => (s.askSlot d d).takePick d l
  | .op o :: l =>
    -- a resume that has just begun to wait for its slot lets less issue (R188)
    if !s.suspendedLets d o then s.takePick d l
    else if o.kind = .read then s.startOp d o
    else match s.takeSlotOf d (opCode o) with
      | some s => s.startOp d o
      | none => (s.askSlot d (opCode o)).takePick d l

/-- OPERATION_ISSUE (R171 to R181, R188 to R190, R204): a die that can accept work takes the best eligible operation, or during a drain
the next drain operation, and after it none (R159), and operations held by their senders take the entries that are free. A die that was reset has then reported
ready (R206). -/
def State.issue (s : State) (ch pos : Nat) : State :=
  let d := dieKey ch pos
  let ready := match (s.die d).busy with
    | .idle => true
    | .resetting => true
    | _ => false
  if !ready || !s.populated d || (s.die d).failed || mapHas s.md.retraining ch then s
  else
    let s := s.modDie d fun x => { x with busy := .idle }
    if s.wp.dusk = .done then s
    else if s.draining then
      match (s.die d).drain with
      | o :: l => (s.modDie d fun x => { x with drain := l }).startOp d o
      | [] => s
    else (s.takePick d (s.picks d)).refill d

def execOperationIssue (ch die : Nat) (s : State) : Host.Outcome State Fault Refusal :=
  effect s fun s => s.issue ch die

/-! ### Deadlines and suspends while operations wait (R184, R189) -/

/-- DEADLINE_PASS (R184): a waiting read whose deadline instant has passed moves to tier 5. -/
def execDeadlinePass (ch die op : Nat) (s : State) : Host.Outcome State Fault Refusal :=
  effect s fun s => s.modDie (dieKey ch die) fun x => { x with queue := x.queue.map fun o =>
    if o.id = op then (match o.deadline with
      | .live t => { o with deadline := .lost t }
      | _ => o) else o }

/-- HOLD_MS_REACHED (R189): the resume of a suspended erase moves to tier 1. -/
def execHoldMsReached (ch die : Nat) (s : State) : Host.Outcome State Fault Refusal :=
  effect s fun s => s.modDie (dieKey ch die) fun x => { x with erase := x.erase.map fun e => { e with holdReached := true } }

/-- ERASE_SUSPEND_DONE (R187, R188, R190, R196): the die is free for other work, the slot is released, and the measured time
corrects the charge of the read that caused the suspend. -/
def execEraseSuspendDone (ch die us : Nat) (s : State) : Host.Outcome State Fault Refusal :=
  effect s fun s =>
    let d := dieKey ch die
    match (s.die d).busy, (s.die d).run with
    | .suspending e by_, some r =>
      let s := s.charge d by_ ((by_.cost : Int) - us * 256)
      let s := s.modDie d fun x => { x with
        busy := .idle, run := none
        erase := some { r with op := e, since := s.time.now, suspends := r.suspends + 1 } }
      ((s.releaseSlot d (opCode e)).releaseSlot d d).complianceUpdate
    | _, _ => s

/-- ERASE_RESUME_DONE (R189, R196): the erase runs again; the measured time corrects C4. A dusk drain suspends it again (R158). -/
def execEraseResumeDone (ch die us : Nat) (s : State) : Host.Outcome State Fault Refusal :=
  effect s fun s =>
    let d := dieKey ch die
    match (s.die d).busy with
    | .resuming e =>
      let s := s.addTok d 4 ((s.suspendCost d : Int) - us * 256)
      let s := s.modDie d fun x => { x with busy := .running e, since := s.time.now }
      if s.wp.dusk = .idle then s else s.startSuspend d e { e with cls := 9 }
    | _ => s

end Sys2Proof.Machine
end

