-- ==== Sys2Proof/Machine/Read.lean ====
section
/-! DEFINITION. Reads: the READ command, what a read finds without media, the data that reaches it, and its end (spec/06 R126, R137 to
R139; spec/07 R147; spec/08 R183, R185; spec/10 R263). -/

namespace Sys2Proof.Machine

/-! ### The READ command (R60, R126, R137, R183) -/

/-- The deadline of a read at its fetch (R60, R183). -/
def Cmd.deadlineAtFetch (c : Cmd) : Deadline :=
  if c.dl = 0 ∨ c.dl = 0xFFFF then .none
  else match c.stamp with
    | none => .lost c.fetchedAt
    | some b => if b + c.dl * 2000 ≤ c.fetchedAt then .lost (b + c.dl * 2000) else .live (b + c.dl * 2000)

/-- Give a read its namespace and its deadline; a command whose deadline is lost at fetch is counted as lost once in its ledger
(R185). -/
def State.setDeadline (s : State) (r : CmdRef) (nsid cons : Nat) (d : Deadline) : State :=
  let first := decide (((s.cmd? r).map (·.deadline)).getD .none = .none)
  let s := s.modCmd r fun c => { c with deadline := d, nsid := nsid }
  match d with
  | .lost _ => if first then s.modLedger r.owner cons fun l => { l with lost := min (l.lost + 1) 0xFFFFFFFF } else s
  | _ => s

/-- A read is counted as missed in its ledger; EV0063 at most once per ledger per second (R185). -/
def State.missed (s : State) (owner cons : Nat) : State :=
  (s.modLedger owner cons fun l => { l with missed := min (l.missed + 1) 0xFFFFFFFF }).eventPer 63 (ledgerKey owner cons) 1000000000
    [owner, cons]

/-- A read with a deadline is counted in its ledger: as met at or before its deadline, as missed after it or where it was lost at fetch;
a best-effort read is not counted (R183, R185). -/
def State.measure (s : State) (r : CmdRef) : State :=
  match s.cmd? r with
  | none => s
  | some c =>
    let cons := (s.nsCons c.nsid).getD 0
    match c.deadline with
    | .none => s
    | .live d => if s.time.sid ≤ d then s.modLedger r.owner cons fun l => { l with met := min (l.met + 1) 0xFFFFFFFF }
      else s.missed r.owner cons
    | .lost _ => s.missed r.owner cons

/-- A read ends: the read of a GATHER step waits for its step to go on, and a read command ends with its status. -/
def State.endRead (s : State) (r : CmdRef) (st : Status) (data : List Nat) : State :=
  if ((s.cmd? r).map (·.opcode)) = some serveOpcode then
    s.updServe fun v => { v with got := mapSet v.got (cmdKey r) (st, data) }
  else if st ≠ .success then s.finish r st
  else if s.isFabric r.owner then
    (s.finish r st).queueReadData r (4096 / ((((s.cmd? r).bind fun c => s.ns? c.nsid).map (·.per4k)).getD 1)) data
  else (s.finish r st).emit [Out.data "read" data]

/-- A block of a zone that reads as zeros (R126): at or above WP, void, or in a zone FULL unwritten. -/
def State.zoneZero (s : State) (n : Ns) (nsid lba : Nat) : Bool :=
  let zl := s.zoneLbas n
  let x := s.zoneAt nsid (lba / zl)
  let o := lba % zl
  decide (x.wp ≤ o) || x.unwrittenFull || (x.voids.any fun v => decide (v.1 ≤ o) && decide (o < v.1 + v.2)) ||
    decide (x.column = none)

/-- Does a block read as zeros: in a zone by R126, elsewhere where nothing maps it (R131)? -/
def State.readsZero (s : State) (n : Ns) (nsid lba : Nat) : Bool :=
  if n.zoned then s.zoneZero n nsid lba else !mapHas s.nv.map (mapKey nsid (lba / n.per4k / s.granule4k))

/-- What a read finds for one block without media, decrypted (R311): the write buffer, whatever WP is, then zeros, then the hot
cache (R126, R137, R147). [DEDUCED, unsafe: log 206] -/
def State.readBlock (s : State) (n : Ns) (nsid lba : Nat) : Option Nat :=
  match s.buffered nsid lba with
  | some v => some (s.decrypt nsid lba v)
  | none =>
    if s.readsZero n nsid lba then some 0
    else (s.hotFind nsid (lba / n.per4k)).map fun h => s.decrypt nsid lba (h.data.getD (lba % n.per4k) 0)

/-- What a read finds for a range of blocks: a 4 KiB of which any block is still to come from media comes from media whole, so that it is
read at one instant (R147). -/
def State.readFound (s : State) (n : Ns) (nsid slba nlb : Nat) : List (Option Nat) :=
  let found := (List.range nlb).map fun i => s.readBlock n nsid (slba + i)
  (List.range nlb).map fun i =>
    if (List.range nlb).any fun j => decide ((slba + j) / n.per4k = (slba + i) / n.per4k) && (found.getD j none).isNone then none
    else found.getD i none

/-- The protection information of the blocks of a range that read as zeros: each block, the guard of its zero data, and the
application and the reference tag of all ones (R126). [PRESUMED, unsafe: log 207] -/
def State.zeroPi (s : State) (n : Ns) (nsid slba nlb : Nat) : List Nat :=
  if n.pi = 0 then []
  else ((((List.range nlb).map (slba + ·)).filter fun a => (s.buffered nsid a).isNone && s.readsZero n nsid a).map fun a =>
    [a, Config.zeroGuard n.guard n.per4k, 0xFFFF, (if n.guard = 0 then 2 ^ 32 else if n.guard = 1 then 2 ^ 80 else 2 ^ 48) - 1]).flatten

/-- The generated hallmarks that a read returns in the first 16 bytes of each block's metadata, in LBAF 3 without protection
information (R262): of each block that does not read as zeros, its LBA, the CRC-64 guard, the application tag NSID − 1 and the
reference tag, bits 47:0 of the LBA. [DESIGN CHOICE, safe: log 229] -/
def State.hallmarks (s : State) (n : Ns) (nsid slba : Nat) (data : List Nat) : List Nat :=
  if n.lbaf ≠ 3 ∨ n.pi ≠ 0 then []
  else (((List.range data.length).filter fun i => (s.buffered nsid (slba + i)).isSome || !s.readsZero n nsid (slba + i)).map fun i =>
    [slba + i, Config.crc64 (data.getD i 0), nsid - 1, (slba + i) % 2 ^ 48]).flatten

/-- Hits among the 4 KiB blocks of a range, refreshed when the read carries the hint (R137); ZONE_HOT_STAT counts them in
units of 65,536. -/
def State.hotHit (s : State) (n : Ns) (nsid slba nlb : Nat) (hint : Bool) : State :=
  let blks := (List.range (units4k n slba nlb)).map (slba / n.per4k + ·)
  let hits := blks.filter fun b => (s.hotFind nsid b).isSome && (s.buffered nsid (b * n.per4k)).isNone
  let total := s.zone.hotHits + hits.length
  let s := s.updZone fun z => { z with hotHits := total % 65536 }
  let s := s.bump Reg.ZONE_HOT_STAT_HITS (total / 65536)
  if hint then s.each hits fun s b => s.hotRefresh nsid b else s

/-- A read ends with its data, and with the generated hallmarks that it returns (R262). [DESIGN CHOICE, safe: log 229] -/
def State.readDone (s : State) (r : CmdRef) (nsid slba : Nat) (data : List Nat) : State :=
  let n := s.ns? nsid
  let s := s.modNv fun v => { v with read4k := v.read4k + ((n.map fun n => units4k n slba data.length).getD 0) }
  let h := (n.map fun n => s.hallmarks n nsid slba data).getD []
  let s := if h.isEmpty then s else s.emit [Out.data "hallmarks: LBA, guard, application tag, reference tag" h]
  let s := s.updMd fun m => { m with reads := mapErase m.reads (cmdKey r) }
  s.endRead r .success data

/-- An entry of the Error Information log (R219). -/
def State.errLog (s : State) (r : CmdRef) (st : Status) : State :=
  s.modCtrl r.owner fun c => { c with errs := ((r, st) :: c.errs).take 256 }

/-- Read blocks of a namespace: what the buffer, the cache and zeros do not give comes from media (R126, R137); the read
ends at once where the pair is blind (R403), a zone is OFFLINE, or the map entry of a block is unrecoverable (Table DRM-4). -/
def State.readBlocks (s : State) (r : CmdRef) (n : Ns) (nsid slba nlb : Nat) (hot : Bool) : State :=
  if n.nsze < slba + nlb then s.endRead r .lbaOutOfRange []
  else if s.pairBlind then s.endRead r .anaInaccessible []
  else if n.zoned && ((List.range nlb).any fun i => decide ((s.zoneAt nsid ((slba + i) / s.zoneLbas n)).st = .offline)) then
    s.endRead r .zoneIsOffline []
  else
    let s := s.accept r
    let blocks := s.readFound n nsid slba nlb
    let s := s.hotHit n nsid slba nlb hot
    let zeros := s.zeroPi n nsid slba nlb
    let s := if zeros.isEmpty then s else s.emit [Out.data "zero blocks: LBA, guard, application tag, reference tag" zeros]
    let lost := !n.zoned && ((List.range nlb).any fun i => (blocks.getD i none).isNone &&
      mapGet? s.nv.map (mapKey nsid ((slba + i) / n.per4k / s.granule4k)) == some lostSlot)
    if blocks.all Option.isSome then s.readDone r nsid slba (blocks.filterMap id)
    else if lost then
      ((s.modNv fun v => { v with mediaErrors := v.mediaErrors + 1 }).endRead r .unrecoveredRead []).errLog r .unrecoveredRead
    else s.updMd fun m => { m with reads := mapSet m.reads (cmdKey r) ⟨r, nsid, slba, hot, blocks⟩ }

/-- READ (R60, R126, R137, R183, R403). -/
def State.readCmd (s : State) (r : CmdRef) (nsid slba nlb : Nat) (hot : Bool) : State :=
  s.starting r fun s => s.onNs r nsid fun n s =>
    let s := s.setDeadline r nsid n.cons (((s.cmd? r).map Cmd.deadlineAtFetch).getD .none)
    if nlb = 0 ∨ 256 * n.per4k < nlb then s.finish r .invalidField else s.readBlocks r n nsid slba nlb hot

def execRead (ref : CmdRef) (nsid slba nlb : Nat) (hot : Bool) (s : State) : Host.Outcome State Fault Refusal :=
  effect s fun s => s.readCmd ref nsid slba nlb hot

/-- Is what a read fetched for a 4 KiB block still its data: nothing has overwritten, deallocated or reset it since (R138)? -/
def State.stillThere (s : State) (n : Ns) (nsid blk : Nat) (vals : List Nat) : Bool :=
  ((List.range n.per4k).all fun i => (s.buffered nsid (blk * n.per4k + i)).isNone && !s.readsZero n nsid (blk * n.per4k + i)) &&
    s.onMedia nsid (blk * n.per4k) n.per4k == vals

/-- Insert the 4 KiB blocks that a hinted read fetched from media, those that have not changed since (R137, R138). -/
def State.hotFill (s : State) (j : ReadJob) (lba : Nat) (vals : List Nat) : State :=
  match s.ns? j.nsid with
  | none => s
  | some n =>
    if !j.hot || s.hotCapacity == 0 then s
    else
      let blks := (List.range (vals.length / n.per4k)).map fun i => (lba / n.per4k + i, (vals.drop (i * n.per4k)).take n.per4k)
      s.each (blks.filter fun b => s.stillThere n j.nsid b.1 b.2) fun s b =>
        s.hotInsert ⟨j.nsid, b.1, b.2, j.ref.owner⟩

/-- Data from media reaches a read and is decrypted (R311); the last of it ends the command. -/
def State.fillRead (s : State) (r : CmdRef) (lba : Nat) (vals : List Nat) : State :=
  match mapGet? s.md.reads (cmdKey r) with
  | none => s
  | some j =>
    let put := (List.range j.blocks.length).map fun i =>
      let a := j.slba + i
      if lba ≤ a ∧ a < lba + vals.length then
        (match j.blocks.getD i none with
          | some v => some v
          | none => some (s.decrypt j.nsid a (vals.getD (a - lba) 0)))
      else j.blocks.getD i none
    let s := s.hotFill j lba vals
    if put.all Option.isSome then s.readDone r j.nsid j.slba (put.filterMap id)
    else s.updMd fun m => { m with reads := mapSet m.reads (cmdKey r) { j with blocks := put } }

/-- A read ends with Unrecovered Read Error (R219). -/
def State.readFails (s : State) (r : CmdRef) : State :=
  if (mapGet? s.md.reads (cmdKey r)).isNone then s
  else
    let s := s.updMd fun m => { m with reads := mapErase m.reads (cmdKey r) }
    let s := s.modNv fun v => { v with mediaErrors := v.mediaErrors + 1 }
    (s.endRead r .unrecoveredRead []).errLog r .unrecoveredRead

/-! ### Egress (R263) -/

/-- The hallmark that fails at egress: what the check finds, or poison passed on toward the host (Tables CEL-10, DRM-4),
whose guard fails. -/
def State.egressFailure (s : State) (r : CmdRef) (found : Option (Nat × Nat)) : Option (Nat × Nat) :=
  match found with
  | some x => some x
  | none => (s.dram.poisoned.find? fun e => e.1 == cmdKey r).map fun e => (0, e.2)

/-- Is a namespace formatted with host protection information (R82)? -/
def Ns.hostPi (n : Ns) : Bool := n.pi != 0

/-- A failure at egress (Table RED-3): counted, CRU_HALL_ERR, EV0847, and the status that the command completes with. -/
def State.egressFails (s : State) (nsid field lba : Nat) : Status × State :=
  let pi := ((s.ns? nsid).map fun n => n.hostPi).getD false
  let s := s.bump Reg.CRU_HALL_STAT_EGRESS
  let s := s.firstError Reg.CRU_HALL_ERR_VALID [(Reg.CRU_HALL_ERR_POINT, 3), (Reg.CRU_HALL_ERR_FIELD, field),
    (Reg.CRU_HALL_ERR_NSID, nsid), (Reg.CRU_HALL_LBA_LO_LBA, lba), (Reg.CRU_HALL_LBA_HI_LBA, lba / 4294967296)]
  let st := if !pi then .unrecoveredRead else if field = 0 then .guardCheck else if field = 1 then .appTagCheck else .refTagCheck
  (st, s.event 847 [nsid, lba])

end Sys2Proof.Machine
end

