-- ==== Sys2Proof/Machine/Reloc.lean ====
section
/-! DEFINITION. Where the codewords of an operation lie, the row exception table, the threshold book, crucible jobs that are withdrawn,
and relocation (spec/09 R219 to R221, R231 to R235; spec/10 R246, R251 to R255, R267, R271, R273). -/

namespace Sys2Proof.Machine

/-! ### The threshold book and marks (R219 to R221) -/

/-- The shifts of the retries of step 2 (Table MED-8). -/
def retryShifts : List Int := [2, -2, 4, -4, 6, -6]

/-- The hard-decode capability of a code rate in bits (Table MED-4). -/
def capability (rate : Nat) : Nat := if rate = 90 then 120 else if rate = 88 then 148 else if rate = 86 then 176 else 204

/-- The code rate of a block's codewords: that of its constellation for a data block, 0.84 for every other block (R208). -/
def State.codeRate (s : State) (d b : Nat) : Nat :=
  if (s.block d b).pool ≠ 0 then 84
  else match s.consOfColumn (columnOf d) with
    | some k => (s.consOf k).codeRate
    | none => 84

/-- The threshold-book entry of a block: its 15 offsets and source; the die kind's defaults until restored (R221). -/
def State.bookEntry (s : State) (d b : Nat) : List Int × Nat :=
  mapGet s.md.book (blockKey d b) ((s.kindOf d).readOffsets.map Int.ofNat, 0)

/-- Move every used level of a block's entry by a shift, clamped to ±127 (R220). -/
def State.shiftBook (s : State) (d b : Nat) (by_ : Int) (source : Nat) : State :=
  let e := s.bookEntry d b
  s.updMd fun m => { m with book := mapSet m.book (blockKey d b) (e.1.map fun x => clampInt (-127) 127 (x + by_), source) }

/-- The bin of ERR_HIST for a decode at step 1 (Table MED-13). -/
def errBin (bits : Nat) : Nat := if bits = 0 then 0 else min (Nat.log2 bits + 1) 8

/-- Count a codeword in ERR_HIST. [DEDUCED, unsafe: log 235] -/
def State.histogram (s : State) (d bin : Nat) : State :=
  s.modHealth (dieMember d) fun h => { h with errHist := mapSet h.errHist bin (mapGet h.errHist bin 0 + 1) }

/-- Mark a block for refresh (R219, R225, R226). -/
def State.markRefresh (s : State) (d b : Nat) : State :=
  s.updMd fun m => { m with refresh := if m.refresh.contains (blockKey d b) then m.refresh else m.refresh ++ [blockKey d b] }

/-! ### The codewords of an operation -/

/-- The set, a zone or a reclaim unit, that holds a block of a die. -/
def State.holderOf (s : State) (d b : Nat) : Option Nat :=
  match s.setOf d b with
  | none => none
  | some k => (s.nv.zones.map (·.1) ++ s.nv.rus.map fun e => ruKey e.1).find? fun key => match s.setPlace key with
    | some (col, sets) => (List.range s.memberCount).any fun i => decide (s.posDie col i = d) && sets.getD i 0xFFFF == k
    | none => false

/-- The row and the position of a page of a block of a set. -/
def State.pageAt (s : State) (set d page : Nat) : Option (Nat × Nat × Nat) :=
  match s.setPlace set with
  | some (col, _) => ((List.range s.memberCount).find? fun i => s.posDie col i = d).map fun i =>
      (set, page / s.unitPages d (s.posBlocks set i).length, i)
  | none => none

/-- The offset in its unit of the first codeword of a page of a block: pages in order, and the planes within a page (R246).
[DEDUCED, unsafe: log 208] -/
def State.firstWord (s : State) (set row pos d block page : Nat) : Nat :=
  let b := s.posBlocks set pos
  ((page - s.rowPage set row pos) * max b.length 1 + (b.findIdx? (· == block)).getD 0) * s.pageWords d

/-- The logical blocks of codeword `k` of a host read: the first one and how many. -/
def hostWord (per lba n k : Nat) : Nat × Nat :=
  let a := max lba ((lba / per + k) * per)
  let b := min (lba + n) ((lba / per + k + 1) * per)
  (a, b - a)

/-- The logical blocks of codeword `k` of a host read's operation: namespace, first LBA and count. -/
def State.hostBlocks (s : State) (r : CmdRef) (lba n k : Nat) : Option (Nat × Nat × Nat) :=
  match mapGet? s.md.reads (cmdKey r) with
  | none => none
  | some j =>
    let w := hostWord (((s.ns? j.nsid).map (·.per4k)).getD 1) lba n k
    some (j.nsid, w.1, w.2)

/-- The codeword offsets that a part of a job decodes: the job's own; where it reads whole units, those of the page that no patch
replaces, or of the patch. -/
def State.jobWords (s : State) (j : Job) (d : Nat) (part : Nat) : List Nat :=
  let pos := partPos part
  let patches := s.patchesAt j.set j.row pos
  if !s.isWhole j then (List.range 64).filter (bit j.mask)
  else if patchPart ≤ partPage part then match patches.drop (partPage part - patchPart) with
    | e :: _ => (List.range 64).filter (bit e.mask)
    | [] => []
  else
    let n := max (s.posBlocks j.set pos).length 1 * s.pageWords d
    ((List.range n).map fun k => partPage part * n + k).filter fun off => !(patches.any fun e => bit e.mask off)

/-- How many codewords an operation reads. -/
def State.opWords (s : State) (d : Nat) (o : DieOp) : Nat :=
  match o.purpose with
  | .hostRead r lba n =>
    let per := (match mapGet? s.md.reads (cmdKey r) with
      | some j => ((s.ns? j.nsid).map (·.per4k)).getD 1
      | none => 1)
    (lba + n - 1) / per + 1 - lba / per
  | .jobRead k part => match mapGet? s.md.job k with
    | some j => (s.jobWords j d part).length
    | none => 0
  | .ladderRead _ => 0
  | _ => o.blocks.length * s.pageWords d

/-- The block that holds codeword `k` of an operation. -/
def State.wordBlock (s : State) (d : Nat) (o : DieOp) (k : Nat) : Nat :=
  match o.purpose with
  | .hostRead _ _ _ => o.blocks.getD 0 0
  | .jobRead _ _ => o.blocks.getD 0 0
  | _ => o.blocks.getD (k / s.pageWords d) (o.blocks.getD 0 0)

/-- The codeword offsets of the granule that a small write changes, in the unit that holds it (R253). -/
def State.granuleMask (s : State) (w : Wr) : Nat :=
  let per := ((s.ns? w.nsid).map (·.per4k)).getD 1
  let g := s.granule4k * per
  s.maskOf w.nsid (w.slba / g * g) g

/-- Where codeword `k` of an operation on a die lies: set, row, position, and its offset as a mask; `none` where the spec gives its
rows no place (metadata areas and dusk blocks). [DEDUCED, unsafe: log 208] -/
def State.codewordAt (s : State) (d : Nat) (o : DieOp) (k : Nat) : Option (Nat × Nat × Nat × Nat) :=
  match o.purpose with
  | .hostRead r lba n => match s.hostBlocks r lba n k with
    | some (nsid, a, m) => (s.stripeOf nsid a).map fun x => (x.1, x.2.1, x.2.2, s.maskOf nsid a m)
    | none => none
  | .jobRead e part => (mapGet? s.md.job e).map fun j => (j.set, j.row, partPos part, 2 ^ (s.jobWords j d part).getD k 0)
  | .patch w parity => match mapGet? s.wp.wr w with
    | some x => (s.stripeOf x.nsid x.slba).map fun y =>
        let col := ((s.setPlace y.1).map (·.1)).getD 0
        (y.1, y.2.1, (if parity then s.parityPos col y.2.1 else y.2.2), s.granuleMask x)
    | none => none
  | _ =>
    let b := s.wordBlock d o k
    match (s.holderOf d b).bind fun set => s.pageAt set d o.page with
    | some (set, row, pos) => some (set, row, pos, 2 ^ (s.firstWord set row pos d b o.page + k % s.pageWords d))
    | none => none

/-- Has a codeword a LOST entry at its position (R271)? -/
def State.isLost (s : State) (d : Nat) (o : DieOp) (k : Nat) : Bool :=
  match s.codewordAt d o k with
  | some (set, row, pos, mask) => s.hasRowx set row pos mask isLostKind
  | none => false

/-! ### The row exception table (R255) -/

/-- The table with one more entry: codewords of a row position with an entry of the same kind share it. -/
def addEntry (l : List Rowx) (e : Rowx) : List Rowx :=
  if l.any fun x => x.set == e.set && x.row == e.row && x.pos == e.pos && decide (x.kind = e.kind) then
    l.map fun x => if x.set == e.set && x.row == e.row && x.pos == e.pos && decide (x.kind = e.kind) then
      { x with mask := Nat.lor x.mask e.mask } else x
  else l ++ [e]

/-- Row exceptions are entered, from 90 % full only EXCLUDED and LOST ones; EV0848 when the table reaches 90 % (R255). -/
def State.addRowx (s : State) (l : List Rowx) : State :=
  let before := s.nv.rowx.length
  let l := if 943719 ≤ before then l.filter fun e => !isPatchKind e.kind else l
  let s := s.modNv fun v => { v with rowx := (l.foldl addEntry v.rowx).take 1048576 }
  if before < 943719 ∧ 943719 ≤ s.nv.rowx.length then s.event 848 [s.nv.rowx.length] else s

/-- LOST entries for codewords of row positions (R271). -/
def State.addLost (s : State) (set row : Nat) (poss : List Nat) (mask : Nat) : State :=
  s.addRowx (poss.map fun i => ⟨set, row, i, mask, .lost⟩)

/-! ### The logical blocks of codewords (R163, R273) -/

/-- The logical blocks of a 4 KiB unit of a set, valid ones only: in a zone those below WP that no void covers, in a reclaim unit those
whose map entry names the slot. -/
def State.unitBlocks (s : State) (set idx : Nat) : Option (Nat × Nat × Nat) :=
  if set < 2 ^ 60 then
    let nsid := set / 4294967296
    match s.ns? nsid with
    | some n =>
      let lba := set % 4294967296 * s.zoneLbas n + idx * n.per4k
      if s.zoneZero n nsid lba then none else some (nsid, lba, n.per4k)
    | none => none
  else
    let i := set - 2 ^ 60
    let slot := i % 4294967296 * s.ruGranules + idx / s.granule4k
    match s.nv.map.find? fun e => e.2 == slot && s.nsCons (e.1 / 2 ^ 40) == some (i / 4294967296) with
    | some (k, _) =>
      let per := ((s.ns? (k / 2 ^ 40)).map (·.per4k)).getD 1
      some (k / 2 ^ 40, (k % 2 ^ 40 * s.granule4k + idx % s.granule4k) * per, per)
    | none => none

/-- Ranges in order, neighbours joined. -/
def joinRanges : List (Nat × Nat × Nat) → List (Nat × Nat × Nat)
  | [] => []
  | (a, l, n) :: r => match joinRanges r with
    | (b, m, k) :: q => if a = b ∧ l + n = m then (a, l, n + k) :: q else (a, l, n) :: (b, m, k) :: q
    | [] => [(a, l, n)]

/-- The ranges of logical blocks that codewords of a row position hold (R273): none for parity, void or invalid ones. -/
def State.rangesAt (s : State) (set row pos mask : Nat) : List (Nat × Nat × Nat) :=
  match s.setPlace set with
  | some (col, _) => match s.dataUnit col row pos with
    | some j => joinRanges (((List.range (s.unit4k col)).filter (bit mask)).filterMap fun off =>
        s.unitBlocks set (s.wordIndex col row j off))
    | none => []
  | none => []

/-- Was a range acknowledged: does no buffered write that is not yet complete hold any block of it (R163)? [DEDUCED, unsafe: log
209] -/
def State.acknowledged (s : State) (nsid lba n : Nat) : Bool :=
  !(s.wp.wr.any fun e => e.2.nsid == nsid && decide (e.2.completed = none) && decide (e.2.slba < lba + n) &&
    decide (lba < e.2.slba + e.2.nlb))

/-- Codewords of a row are lost (R271, R273): their ranges are logged, counted and recorded with a cause; codewords with no valid
block are counted only. [DEDUCED, unsafe: log 180] -/
def State.loseWords (s : State) (set row pos mask cause : Nat) (others : List Nat) : State :=
  let col := ((s.setPlace set).map (·.1)).getD 0
  let members := ((pos :: others).map fun i => 2 ^ s.members.getD i 0).sum
  let l := s.rangesAt set row pos mask
  if l.isEmpty then s.bump Reg.CRU_LOST_COUNT
  else s.each l fun s r => s.lostRange r.1 r.2.1 r.2.2 cause col members (s.acknowledged r.1 r.2.1 r.2.2)

/-- Codewords that cannot be programmed: acknowledged blocks of theirs become deferred errors of kind PROGRAM (R163, R229, R239). -/
def State.deferWords (s : State) (set row pos mask : Nat) : State :=
  s.each (s.rangesAt set row pos mask) fun s r =>
    if s.acknowledged r.1 r.2.1 r.2.2 then s.deferredError r.1 r.2.1 r.2.2 1 else s

/-! ### Crucible jobs (R195, R217, R248) -/

/-- Withdraw a crucible job: its reads that have not issued go at no charge, and what the others read is discarded (R195, R217). -/
def State.dropJob (s : State) (k : Nat) : State :=
  let of_ := fun (o : DieOp) => match o.purpose with
    | .jobRead j _ => j == k
    | _ => false
  let s := s.updMd fun m => { m with job := mapErase m.job k, dec := m.dec.filter fun e => !of_ e.2.op }
  s.giveLanes.each (s.md.die.map (·.1)) fun s d => s.dropOps d of_

/-- The jobs of some kinds. -/
def State.jobsFor (s : State) (p : JobKind → Bool) : List Nat := (s.md.job.filter fun e => p e.2.kind).map (·.1)

def isLadder (e : Nat) : JobKind → Bool
  | .ladder x => x == e
  | _ => false

def isOccult (id : Nat) : JobKind → Bool
  | .occult o _ _ => o.id == id
  | _ => false

/-- The LOST codewords of a row position. -/
def State.lostMask (s : State) (set row pos : Nat) : Nat :=
  (s.nv.rowx.filter fun e => e.set == set && e.row == row && e.pos == pos && isLostKind e.kind).foldl (fun m e => Nat.lor m e.mask) 0

/-- The sources of a row position that cannot be read, each with the codewords concerned: all of a unit out of service, or those that
are LOST (R255, R271). -/
def State.badSources (s : State) (set row pos mask : Nat) : List (Nat × Nat) :=
  let col := ((s.setPlace set).map (·.1)).getD 0
  ((s.sources set row pos mask).map fun i =>
    (i, if s.unitOut set row col i then mask else Nat.land mask (s.lostMask set row i))).filter fun e => decide (e.2 ≠ 0)

/-- A job over whole units (R269): every codeword at each source of a row position, in a class. -/
def State.wholeJob (s : State) (kind : JobKind) (set row pos cls : Nat) : Job :=
  let col := ((s.setPlace set).map (·.1)).getD 0
  let mask := s.unitMask col
  let up := (s.sources set row pos mask).filter fun i => !s.unitOut set row col i
  { kind := kind, set := set, row := row, pos := pos, left := s.wholeParts set row up, bad := s.badSources set row pos mask, snap := [],
    cls := cls, owner := systemOwner, cons := s.setCons set, deadline := .none, mask := mask }

/-! ### Relocation (R231 to R235, R251, R254, R267) -/

/-- The rows of a set with a programmed unit. -/
def State.rowsOf (s : State) (set : Nat) : List Nat :=
  (s.nv.rows.filter fun e => decide (e.1 / 4294967296 = set) && !e.2.passed.isEmpty).map fun e => e.1 % 4294967296

/-- Do any sets lie on a column? -/
def State.columnEmpty (s : State) (col : Nat) : Bool :=
  !(mapAny s.nv.zones fun _ z => decide (z.column = some col)) && !(mapAny s.nv.rus fun _ r => r.column == col)

/-- Set the column and block sets of a set, and whether it is relocating. -/
def State.placeSet (s : State) (set col : Nat) (sets : List Nat) (busy : Bool) : State :=
  if set < 2 ^ 60 then
    s.modZone (set / 4294967296) (set % 4294967296) fun z =>
      { z with column := some col, sets := sets, relocating := busy }
  else s.modNv fun v => { v with rus := mapMod v.rus (set - 2 ^ 60) fun r =>
    { r with column := col, sets := sets, relocating := busy } }

/-- The positions of a column that are in service. -/
def State.inPositions (s : State) (col : Nat) : List Nat := (List.range s.memberCount).filter fun i => !s.posOut col i

/-- The destination units of a zone's relocation, as row and position: those of every complete row, and of a row that resync continues
those of its programmed data units; the other rows are programmed from the write buffer after the switch (R193, R231). -/
def State.zoneTodo (s : State) (set col dest : Nat) : List (Nat × Nat) :=
  ((s.rowsOf set).map fun r =>
    if s.rowComplete set r then (s.inPositions dest).map fun i => (r, i)
    else if s.isOpenRow set r then
      (((List.range (s.memberCount - 1)).filter fun j => (s.row set r).passed.contains (s.dataPos col r j)).map
        fun j => (r, s.dataPos dest r j)).filter fun e => !s.posOut dest e.2
    else []).flatten

/-- The rows that so many granules fill. -/
def State.rowsFor (s : State) (col granules : Nat) : Nat :=
  (granules * s.granule4k + (s.memberCount - 1) * s.unit4k col - 1) / ((s.memberCount - 1) * s.unit4k col)

/-- Does a granule slot of a constellation lie in a reclaim unit, or patch a row of it? -/
def State.slotIn (s : State) (cons slot i : Nat) : Bool :=
  slot != lostSlot && (s.unitOf cons slot == i || ((s.patchEntry cons slot).map (·.set)) == some (ruKey i))

/-- The valid granules of a reclaim unit, by their map keys in order, with those that patches of its rows hold, each with its source slot
(R231, R254). -/
def State.validOf (s : State) (i : Nat) : List (Nat × Nat) :=
  s.nv.map.filter fun e => s.nsCons (e.1 / 2 ^ 40) == some (i / 4294967296) && s.slotIn (i / 4294967296) e.2 i

/-- The source units that a destination unit is made of, by row key and position: an EXCLUDED unit is left out; the parity unit is
made of every data unit of its row (R231, R247). -/
def State.moveSources (s : State) (r : Reloc) (row pos : Nat) : List (Nat × Nat) :=
  let m := s.memberCount
  let js := match s.dataUnit r.column row pos with
    | some j => [j]
    | none => List.range (m - 1)
  if r.set < 2 ^ 60 then
    match s.setPlace r.set with
    | some (col, _) => (js.map (s.dataPos col row)).filterMap fun p =>
        if s.hasRowx r.set row p (s.unitMask col) isExcluded then none else some (rowKey r.set row, p)
    | none => []
  else
    let cons := (r.set - 2 ^ 60) / 4294967296
    let words := (js.map fun j => (List.range (s.unit4k r.column)).map fun off => s.wordIndex r.column row j off).flatten
    (words.filterMap fun w => match r.moves.drop (w / s.granule4k) with
      | (_, src, _) :: _ => (s.slotPlace cons src (w % s.granule4k)).map fun p => (rowKey p.1 p.2.2.1, p.2.2.2)
      | [] => none).eraseDups

/-- The pages of the unit at a row position: by block key and page. -/
def State.unitPageKeys (s : State) (set row pos : Nat) : List (Nat × Nat) :=
  match s.setPlace set with
  | some (col, _) =>
    let d := s.posDie col pos
    let b := s.posBlocks set pos
    (b.map fun k => (List.range (s.unitPages d b.length)).map fun p => (blockKey d k, s.rowPage set row pos + p)).flatten
  | none => []

/-- A source unit is in cells, decoded and checked (R201). -/
def State.unitGot (s : State) (set : Nat) (u : Nat × Nat) : State :=
  s.updMd fun m => { m with reloc := mapMod m.reloc set fun r => { r with got := if r.got.contains u then r.got else r.got ++ [u] } }

/-- A page that a relocation has read is decoded and checked: with the last one of its unit the unit is in cells (R201). -/
def State.moveRead (s : State) (set d : Nat) (o : DieOp) : State :=
  let s := s.updMd fun m => { m with reloc := mapMod m.reloc set fun r =>
    { r with pages := r.pages ++ (o.blocks.map fun b => (blockKey d b, o.page)).filter fun e => !r.pages.contains e } }
  match (s.holderOf d (o.blocks.getD 0 0)).bind fun k => s.pageAt k d o.page, mapGet? s.md.reloc set with
  | some (k, row, pos), some r =>
    let l := s.unitPageKeys k row pos
    if l.all r.pages.contains then
      (s.updMd fun m => { m with reloc := mapMod m.reloc set fun r => { r with pages := r.pages.filter fun e => !l.contains e } }).unitGot
        set (rowKey k row, pos)
    else s
  | _, _ => s

/-- A source unit that cannot be read from its die is reconstructed for a relocation (R250, R267), once. -/
def State.moveRebuild (s : State) (set : Nat) (u : Nat × Nat) : State :=
  let k := u.1 / 4294967296
  let row := u.1 % 4294967296
  let busy := mapAny s.md.job fun _ j => decide (j.kind = .move set) && j.set == k && j.row == row && j.pos == u.2
  let got := ((mapGet? s.md.reloc set).map fun r => r.got.contains u).getD true
  if busy || got then s
  else s.startJob (s.wholeJob (.move set) k row u.2 (s.classify (.move set)).1)

/-- The rows of a set that has moved whole to another column: the units that were copied are there. -/
def State.movedRows (s : State) (set col dest : Nat) (rows : List (Nat × Row)) : List (Nat × Row) :=
  rows.filterMap fun e =>
    if e.1 / 4294967296 ≠ set then some e
    else
      let r := e.1 % 4294967296
      let out := s.outPositions dest
      if s.rowComplete set r then
        some (e.1, { passed := s.inPositions dest, out := out, parity := !out.contains (s.parityPos dest r) })
      else if s.isOpenRow set r then
        let js := (List.range (s.memberCount - 1)).filter fun j => e.2.passed.contains (s.dataPos col r j)
        some (e.1, { passed := (js.map (s.dataPos dest r)).filter fun i => !out.contains i, out := out, openRow := true })
      else none

/-- The row exceptions after a zone has moved: its lost data codewords stay LOST, every other entry of its rows goes (R254, R271). -/
def State.movedRowx (s : State) (set col dest : Nat) : List Rowx :=
  s.nv.rowx.filterMap fun e =>
    if e.set ≠ set then some e
    else if e.kind ≠ .lost then none
    else (s.dataUnit col e.row e.pos).map fun j => { e with pos := s.dataPos dest e.row j }

/-- The LOST entries that moved granules bring with them into their new unit (R271). -/
def State.lostMoves (s : State) (r : Reloc) (moves : List (Nat × Nat × Nat)) : List Rowx :=
  let cons := r.dest / 4294967296
  (moves.map fun m => (List.range s.granule4k).filterMap fun o =>
    match s.slotPlace cons m.2.1 o with
    | some (set, col, row, pos) =>
      let off := (s.slotOff m.2.1 * s.granule4k + o) % s.unit4k col
      let idx := s.slotOff m.2.2 * s.granule4k + o
      let p := s.rowOf r.column idx
      if s.hasRowx set row pos (2 ^ off) isLostKind then
        some ⟨ruKey r.dest, p.1, p.2, 2 ^ (idx % s.unit4k r.column), .lost⟩
      else none
    | none => none).flatten

/-- The switch of a zone (R231): one record names the destination. -/
def State.switchZone (s : State) (set col : Nat) (r : Reloc) : State :=
  let rows := s.movedRows set col r.column s.nv.rows
  let rowx := s.movedRowx set col r.column
  (s.placeSet set r.column r.sets false).modNv fun v => { v with rows := rows, rowx := rowx }

/-- The switch of a reclaim unit (R231, R232): a granule's move commits only if its map entry still names its source slot; the others keep
their newer value. The old unit goes, with its rows' exceptions (R254). -/
def State.switchUnit (s : State) (set : Nat) (r : Reloc) : State :=
  let cons := r.dest / 4294967296
  let moves := r.moves.filter fun m => mapGet? s.nv.map m.1 == some m.2.1
  let out := s.outPositions r.column
  let row := fun (i : Nat) => ({ passed := s.inPositions r.column, out := out, parity := !out.contains (s.parityPos r.column i) } : Row)
  let rows := (List.range (s.rowsFor r.column r.moves.length)).foldl (fun m i => mapSet m (rowKey (ruKey r.dest) i) (row i))
    (s.nv.rows.filter fun e => decide (e.1 / 4294967296 ≠ set))
  let lost := s.lostMoves r moves
  let s := s.modNv fun v => { v with
    map := moves.foldl (fun m e => mapSet m e.1 e.2.2) v.map
    rows := rows
    rowx := (v.rowx.filter fun e => decide (e.set ≠ set))
    rus := mapErase (mapMod v.rus r.dest fun u => { u with relocating := false }) (set - 2 ^ 60) }
  -- its data has moved (R130)
  (s.addRowx lost).updZone fun z => { z with fdp := (0x80, cons, set - 2 ^ 60) :: z.fdp }

/-- RELOCATION_SWITCH (R231 to R233, R255): the switch is one journal record; the source waits for its batch. EV0840 when a failed die's
column has become empty (R267). -/
def State.switchReloc (s : State) (set : Nat) : State :=
  match mapGet? s.md.reloc set, s.setPlace set with
  | some r, some (col, sets) =>
    if r.switched.isSome then s
    else
      let s := if set < 2 ^ 60 then s.switchZone set col r else s.switchUnit set r
      let r' : Reloc := { r with column := col, sets := sets, switched := some s.jr.openNo, got := [], pages := [], passed := [], assayed := [] }
      let s := s.updMd fun m => { m with reloc := mapSet m.reloc set r' }
      if s.md.columnOut.contains col && s.columnEmpty col then s.event 840 [col] else s
  | _, _ => s

/-- The relocation of a set is over where nothing is left to copy. -/
def State.relocCheck (s : State) (set : Nat) : State :=
  match mapGet? s.md.reloc set with
  | some r => if r.todo.isEmpty then s.switchReloc set else s
  | none => s

/-- A handle loses its reclaim unit; one that is not full is noted for the handle's next unit (R130). -/
def State.releaseUnit (s : State) (i : Nat) (u : Ru) : State :=
  let s := s.modNv fun v => { v with rus := mapMod v.rus i fun u => { u with held := none } }
  match u.held with
  | some p => if u.taken < s.ruGranules then s.updZone fun z => { z with fdpShort := z.fdpShort.filter (· != p) ++ [p] } else s
  | none => s

/-- Buffered ranges that are not committed leave a reclaim unit: their handle gives them new slots, and a small write to its rows goes to
the handle path (R128, R252). -/
def State.reslot (s : State) (i : Nat) (u : Ru) : State :=
  let mine := fun (x : Wr) => (x.ru.any fun g => s.unitOf u.cons g.2 == i) ||
    (x.rmw && ((s.stripeOf x.nsid x.slba).map (·.1)) == some (ruKey i))
  let free := fun (x : Wr) => { x with
    ru := [], rmw := false, patchData := false, patchParity := false, oldData := false, oldParity := false, rowsDone := false }
  s.updWp fun w => { w with
    wr := mapAll w.wr fun _ x =>
      if decide (x.committed = none) && s.nsCons x.nsid == some u.cons && mine x then free x else x }

/-- The relocation of a set to a column and block sets there begins (R231, R254): of a reclaim unit its valid granules move into a new unit
that no handle holds (R128). -/
def State.beginReloc (s : State) (set why col : Nat) (sets : List Nat) : State :=
  match s.setPlace set with
  | none => s
  | some (from_, old) =>
    let r : Reloc := ⟨set, col, sets, why, 0, [], [], [], [], [], [], none⟩
    if set < 2 ^ 60 then
      ((s.updMd fun m => { m with reloc := mapSet m.reloc set { r with todo := s.zoneTodo set from_ col } }).placeSet set from_ old
        true).relocCheck set
    else
      let i := set - 2 ^ 60
      match mapGet? s.nv.rus i with
      | none => s
      | some u =>
        let s := if u.held.isSome then s.releaseUnit i u else s
        let s := s.reslot i u
        let dest := s.freeRu u.cons
        let l := s.validOf i
        let moves := ((List.range l.length).zip l).map fun e => (e.2.1, e.2.2, dest % 4294967296 * s.ruGranules + e.1)
        let new : Ru := ⟨u.cons, col, sets, none, l.length, false, true⟩
        let s := s.modNv fun v => { v with rus := mapSet (mapMod v.rus i fun u => { u with relocating := true }) dest new }
        let s := s.noteCopies (l.map (·.1)) dest
        let todo := ((List.range (s.rowsFor col l.length)).map fun row => (s.inPositions col).map fun p => (row, p)).flatten
        (s.updMd fun m => { m with reloc := mapSet m.reloc set { r with dest := dest, moves := moves, todo := todo } }).relocCheck set

/-- The constellation of a set that relocates; the number of a reclaim unit holds its own (R129). -/
def State.relocCons (s : State) (set : Nat) : Option Nat := if set < 2 ^ 60 then s.setCons set else some ((set - 2 ^ 60) / 4294967296)

/-- Start to move a set to the column that firmware chooses (R119, R231): `why` as in Reloc. -/
def State.startReloc (s : State) (set why : Nat) : State :=
  if mapHas s.md.reloc set then s
  else match (s.setCons set).bind s.chooseColumn with
    | some (c, b) => s.beginReloc set why c b
    | none => s

/-- The sets whose relocation empties a set: of a patch unit those whose rows it patches (R254). -/
def State.relocTargets (s : State) (set : Nat) : List Nat :=
  if set < 2 ^ 60 then [set]
  else match mapGet? s.nv.rus (set - 2 ^ 60) with
    | some u =>
      if u.patch then ((s.nv.rowx.filter fun e => match e.kind with
        | .patch slot => s.setCons e.set == some u.cons && s.unitOf u.cons slot == set - 2 ^ 60
        | _ => false).map (·.set)).eraseDups
      else [set]
    | none => []

/-- Start every relocation that empties a set. -/
def State.startRelocs (s : State) (set why : Nat) : State := s.each (s.relocTargets set) fun s k => s.startReloc k why

/-- A relocation gives up its destination, whose block sets go to the erase queue, and starts again on another (R224, R251). -/
def State.restartReloc (s : State) (set : Nat) : State :=
  match mapGet? s.md.reloc set with
  | none => s
  | some r =>
    if r.switched.isSome then s
    else
      let s := s.updMd fun m => { m with
        reloc := mapErase m.reloc set
        die := mapAll m.die fun _ d => { d with
          queue := d.queue.filter fun o => o.purpose != .move set && o.purpose != .assay set
          held := d.held.filter fun o => o.purpose != .move set && o.purpose != .assay set }
        dec := m.dec.filter fun e => e.2.op.purpose != .move set && e.2.op.purpose != .assay set }
      let s := if set < 2 ^ 60 then s else s.modNv fun v => { v with rus := mapErase v.rus r.dest }
      (s.releaseSets r.column r.sets).startReloc set r.why

/-- The sets with block sets on a column, those open for writing first (R267). -/
def State.setsOn (s : State) (col : Nat) : List Nat :=
  let z := s.nv.zones.filter fun e => decide (e.2.column = some col)
  let r := s.nv.rus.filter fun e => e.2.column == col
  ((z.filter fun e => e.2.st.isOpen).map (·.1)) ++ ((r.filter fun e => e.2.held.isSome).map fun e => ruKey e.1) ++
    ((z.filter fun e => !e.2.st.isOpen).map (·.1)) ++ ((r.filter fun e => e.2.held.isNone).map fun e => ruKey e.1)

/-- The copy of a destination unit has passed its program and its assay (R231, R233). -/
def State.relocPass (s : State) (set : Nat) (u : Nat × Nat) : State :=
  (s.updMd fun m => { m with reloc := mapMod m.reloc set fun r => { r with todo := r.todo.filter (· != u) } }).relocCheck set

/-- A position of a destination column goes out of service: its units are not copied (R250). -/
def State.relocOut (s : State) (col : Nat) : State :=
  let l := s.md.reloc.filter fun e => e.2.switched.isNone && e.2.column == col
  s.each l fun s e =>
    if 2 ≤ (s.outPositions col).length then s.restartReloc e.1
    else (s.updMd fun m => { m with reloc := mapMod m.reloc e.1 fun r =>
      { r with todo := r.todo.filter fun u => !s.posOut col u.2 } }).relocCheck e.1

end Sys2Proof.Machine
end

