-- ==== Sys2Proof/Machine/Ladder.lean ====
section
/-! DEFINITION. The decoder ladder: decodes, assays, patrol scrub, reconstruction, codewords that nothing recovers, and members and dies
that leave service (spec/09 R206, R207, R215 to R228; spec/10 R248 to R273). -/

namespace Sys2Proof.Machine

/-! ### Decodes -/

/-- The number of the decode of codeword `k` of an operation. -/
def decKey (id k : Nat) : Nat := id + k * 2 ^ 40

/-- Is a result for an operation's codewords still to come, from a decoder or from the companion? -/
def State.opPending (s : State) (id : Nat) : Bool :=
  (mapAny s.md.dec fun _ x => x.op.id == id) ||
    mapAny s.pair.asks fun _ a => (a.dec.map fun x => x.op.id) == some id

/-- Is what an operation reads still wanted: nothing else has served it since it issued (R195, R217)? -/
def State.wants (s : State) (d : Nat) (o : DieOp) (k : Nat) : Bool :=
  match o.purpose with
  | .hostRead r lba n => match mapGet? s.md.reads (cmdKey r), s.hostBlocks r lba n k with
    | some j, some (_, a, m) => (List.range m).any fun i => (j.blocks.getD (a + i - j.slba) none).isNone
    | _, _ => false
  | .jobRead e part => ((mapGet? s.md.job e).map fun j => j.left.contains part).getD false
  | .ladderRead e => mapHas s.md.dec e
  | .scrub _ => mapHas s.md.scrubs (blockKey d (o.blocks.getD 0 0))
  | .move set => ((mapGet? s.md.reloc set).map fun r => r.switched.isNone).getD false
  | _ => true

/-- The decodes of every codeword of an operation begin at a step. -/
def State.decodeAll (s : State) (ch die step : Nat) (o : DieOp) : State :=
  let d := dieKey ch die
  s.each (List.range (s.opWords d o)) fun s k =>
    if s.wants d o k then
      s.updMd fun m => { m with dec := mapSet m.dec (decKey o.id k) ⟨o, ch, die, step, 0, false, 0, false, k⟩ }
    else s

/-! ### Assays (R222 to R225) -/

/-- Do two operations read the same program unit for the same purpose? -/
def State.sameUnit (s : State) (d : Nat) (o p : DieOp) : Bool :=
  p.purpose == o.purpose && p.blocks == o.blocks && p.page / s.setPages d o.blocks == o.page / s.setPages d o.blocks

/-- An assay fails (R224): ASSAY_FAIL; the block is WEAK, or FULL where it was the last wordline's assay; its data is refreshed, and
a relocation that programmed it takes another destination (R233). The rest of the assay is dropped. [DEDUCED, unsafe: log 174]
-/
def State.assayFails (s : State) (d : Nat) (o : DieOp) (b set : Nat) : State :=
  let last := (s.block d b).lwAssay
  let s := (s.mediaErr d b o.page 8).modHealth (dieMember d) fun h => { h with assayFails := h.assayFails + 1 }
  let s := s.modBlock d b fun x =>
    if last then { x with st := .full, lwAssay := false } else { x with weak := true, weakCount := min (x.weakCount + 1) 3 }
  let s := s.updMd fun m => { m with dec := m.dec.filter fun e => !(dieKey e.2.ch e.2.die == d && s.sameUnit d o e.2.op) }
  let s := (s.dropOps d (s.sameUnit d o)).markRefresh d b
  s.restartReloc set

/-- Every codeword of an assay's page has passed (R222, R223): the last page of a unit that a relocation programmed ends its assay
(R231). -/
def State.assayPage (s : State) (d : Nat) (o : DieOp) (set : Nat) : State :=
  let more := (s.dieOps d).any (s.sameUnit d o) || mapAny s.md.dec fun _ x => dieKey x.ch x.die == d && s.sameUnit d o x.op
  let s := if more then s else s.each o.blocks fun s b =>
    if (s.block d b).lwAssay then s.modBlock d b fun x => { x with lwAssay := false } else s
  match mapGet? s.md.reloc set with
  | none => s
  | some r =>
    let n := s.setPages d o.blocks
    let b := blockKey d (o.blocks.getD 0 0)
    let done := (r.assayed.filter (· != (b, o.page))) ++ [(b, o.page)]
    let whole := (List.range n).all fun p => done.contains (b, o.page / n * n + p)
    let kept := if whole then done.filter fun e => !(e.1 == b && e.2 / n == o.page / n) else done
    let s := s.updMd fun m => { m with reloc := mapMod m.reloc set fun r => { r with assayed := kept } }
    if whole then match s.moveUnit r d o.blocks o.page with
      | some u => if r.passed.contains u then s.relocPass set u else s
      | none => s
    else s

/-- A codeword of an assay has decoded (R223). [DEDUCED, unsafe: log 174] -/
def State.assayWord (s : State) (d : Nat) (o : DieOp) (k set bits : Nat) : State :=
  let b := s.wordBlock d o k
  if bits * 100 ≤ s.rd Reg.MEDIA_ASSAY_CFG_LIMIT_PCT * capability (s.codeRate d b) then
    if s.opPending o.id then s else s.assayPage d o set
  else s.assayFails d o b set

/-! ### Patrol scrub (R220, R226 to R228) -/

/-- The data blocks that a scrub pass covers. -/
def State.scrubList (s : State) : List Nat :=
  (s.nv.blocks.filter fun e => decide (e.2.pool = 0) && (decide (e.2.st = .open_) || decide (e.2.st = .full))).map (·.1)

/-- Per cent of the pass in progress. -/
def State.scrubPct (s : State) : Nat :=
  let l := s.scrubList
  if l.isEmpty then 0 else (l.filter s.md.scrubbed.contains).length * 100 / l.length

/-- The scrub of a block ends: the block is scrubbed now, and marked for refresh where its run says so (R226). A pass that has read every
block ends; SCRUB_BEHIND clears where it took no longer than its period (R227). -/
def State.scrubDone (s : State) (d b : Nat) (r : ScrubRun) : State :=
  let k := blockKey d b
  let s := s.updMd fun m => { m with
    scrubs := mapErase m.scrubs k
    scrubAt := mapSet m.scrubAt k (s.time.now, (s.block d b).readCount)
    scrubbed := if m.scrubbed.contains k then m.scrubbed else m.scrubbed ++ [k] }
  let s := if r.mark then s.markRefresh d b else s
  if s.scrubList.all s.md.scrubbed.contains then
    let s := (s.bump Reg.MEDIA_SCRUB_STATUS_PASSES).wr Reg.MEDIA_SCRUB_STATUS_PROGRESS 0
    let inTime := decide (s.time.now - s.md.scrubFrom ≤ s.rd Reg.MEDIA_SCRUB_CFG_PERIOD_H * 3600000000000)
    let s := s.updMd fun m => { m with scrubbed := [], scrubFrom := s.time.now, scrubNoted := false }
    if inTime then (s.set Reg.MEDIA_STATUS_SCRUB_BEHIND false).set Reg.MEDIA_SCRUB_STATUS_BEHIND false else s
  else s.wr Reg.MEDIA_SCRUB_STATUS_PROGRESS s.scrubPct

/-- The next read of a block's scrub: its next page, then for a tuning each probed page at each shift of step 2 (R220); after the
last one the scrub ends. A block that is no longer OPEN or FULL is scrubbed no further. [DEDUCED, unsafe: log 175] -/
def State.scrubNext (s : State) (d b : Nat) : State :=
  match mapGet? s.md.scrubs (blockKey d b) with
  | none => s
  | some r =>
    if (s.block d b).st ≠ .open_ ∧ (s.block d b).st ≠ .full then s.updMd fun m => { m with scrubs := mapErase m.scrubs (blockKey d b) }
    else match r.left with
      | p :: _ => s.sendOp d (s.makeOp d .read [b] p (.scrub none))
      | [] =>
        if r.tuneLeft = 0 then s.scrubDone d b r
        else
          let i := 6 * r.probes.length - r.tuneLeft
          s.sendOp d (s.makeOp d .read [b] (r.probes.getD (i / 6) 0) (.scrub (some (i % 6))))

/-- A page of a block's scrub has been read and decoded: after the last one the threshold book is tuned where the mean of the corrected
bits is above 30 % of the hard capability (R220). -/
def State.scrubPage (s : State) (d b : Nat) : State :=
  let cap := capability (s.codeRate d b)
  let s := s.modHealth (dieMember d) fun h => { h with scrubPages := h.scrubPages + 1 }
  let next := fun (r : ScrubRun) =>
    let left := r.left.drop 1
    { r with left := left, tuneLeft := if left.isEmpty && decide (cap * 30 * r.words < r.bits * 100) then 6 * r.probes.length else 0 }
  (s.updMd fun m => { m with scrubs := mapMod m.scrubs (blockKey d b) next }).scrubNext d b

/-- A codeword of a scrub read ends: one that took the ladder, or needed more than REFRESH_PCT of the hard capability, marks the block for
refresh (R226). -/
def State.scrubWord (s : State) (d : Nat) (o : DieOp) (step bits : Nat) : State :=
  let b := o.blocks.getD 0 0
  let high := decide (capability (s.codeRate d b) * s.rd Reg.MEDIA_SCRUB_CFG_REFRESH_PCT < bits * 100)
  let word := fun (r : ScrubRun) =>
    if step = 1 then { r with bits := r.bits + bits, words := r.words + 1, mark := r.mark || high } else { r with mark := true }
  let s := s.updMd fun m => { m with scrubs := mapMod m.scrubs (blockKey d b) word }
  if s.opPending o.id then s else s.scrubPage d b

/-- The shift of step 2 with the fewest corrected bits in a tuning, the first of equal ones. -/
def bestShift (t : Map Nat) : Int :=
  let k := (List.range 6).foldl (fun a k => if mapGet t k 0 < mapGet t a 0 then k else a) 0
  retryShifts.getD k 0

/-- A codeword of a tuning read ends: the last read of all stores the best shift in the threshold book (R220). [DEDUCED, unsafe: log
175] -/
def State.tuneWord (s : State) (d : Nat) (o : DieOp) (shift bits : Nat) : State :=
  let b := o.blocks.getD 0 0
  let k := blockKey d b
  let s := s.updMd fun m => { m with scrubs := mapMod m.scrubs k fun r => { r with tune := mapSet r.tune shift (mapGet r.tune shift 0 + bits) } }
  if s.opPending o.id then s
  else
    let s := s.updMd fun m => { m with scrubs := mapMod m.scrubs k fun r => { r with tuneLeft := r.tuneLeft - 1 } }
    match mapGet? s.md.scrubs k with
    | some r => (if r.tuneLeft = 0 then s.shiftBook d b (bestShift r.tune) 2 else s).scrubNext d b
    | none => s

/-! ### A codeword reaches whom it was read for -/

/-- A part of a job has all its codewords. -/
def State.partDone (s : State) (e part : Nat) : State :=
  s.updMd fun m => { m with job := mapMod m.job e fun j => { j with left := j.left.filter (· ≠ part) } }

/-- The small write of a patch falls back to the handle path (R252, R254). -/
def State.patchFalls (s : State) (w : Nat) : State :=
  s.updWp fun x => { x with wr := mapMod x.wr w fun w => { w with rmw := false, patchData := false, patchParity := false } }

/-- The last codeword of an operation has ended, each decoded or recorded as lost. -/
def State.opRead (s : State) (d : Nat) (o : DieOp) : State :=
  match o.purpose with
  | .jobRead e part => s.partDone e part
  | .move set => s.moveRead set d o
  | .repair set row pos => s.updMd fun m => { m with
      repairGot := m.repairGot ++ [(set, row, pos + 256 * (o.page - s.rowPage set row pos))] }
  | .patch w parity => s.updWp fun x => { x with
      wr := mapMod x.wr w fun w => if parity then { w with oldParity := true } else { w with oldData := true } }
  | _ => s

/-- A codeword that decoded at a step of the ladder reaches whom it was read for. -/
def State.wordRead (s : State) (d : Nat) (x : Dec) (step bits : Nat) : State :=
  let o := x.op
  match o.purpose with
  | .hostRead r lba n => match s.hostBlocks r lba n x.cw with
    | some (_, a, m) =>
      let s := s.fillRead r a ((o.snap.drop (a - lba)).take m)
      if s.opPending o.id then s else s.each (s.jobsFor (isOccult o.id)) State.dropJob
    | none => s
  | .assay set => s.assayWord d o x.cw set bits
  | .scrub none => s.scrubWord d o step bits
  | .scrub (some k) => s.tuneWord d o k bits
  | _ => if s.opPending o.id then s else s.opRead d o

/-- A codeword's ladder ends: what is left of it is withdrawn, and what issued reads discarded (R217). -/
def State.endLadder (s : State) (e : Nat) (x : Dec) : State :=
  let s := s.updMd fun m => { m with dec := mapErase m.dec e }
  let s := s.each (s.jobsFor (isLadder e)) State.dropJob
  s.dropOps (dieKey x.ch x.die) fun o => o.purpose == .ladderRead e

/-- A codeword's ladder ends with a decode at a step: histogram, event k = 1 from step 3 on, refresh, delivery (R219, R244). A source page
that only reconstruction reads marks its block WEAK (R233). -/
def State.ladderWins (s : State) (e : Nat) (x : Dec) (step bits : Nat) : State :=
  let d := dieKey x.ch x.die
  let b := s.wordBlock d x.op x.cw
  let s := s.endLadder e x
  let s := s.histogram d (if step = 1 then errBin bits else if step = 2 then 9 else if step = 3 then 13 else 14)
  let s := if 3 ≤ step then (s.chanEvent d 1 b x.op.page 4 [step]).markRefresh d b else s
  let s := match x.op.purpose with
    | .move _ => if 4 ≤ step then s.modBlock d b fun y => { y with weak := true } else s
    | _ => s
  s.wordRead d x step bits

/-- Send a recovery read of a codeword (Table DSC-1). -/
def State.recoverRead (s : State) (e : Nat) (x : Dec) : State :=
  let d := dieKey x.ch x.die
  s.sendOp d (s.makeOp d .read [s.wordBlock d x.op x.cw] x.op.page (.ladderRead e))

/-! ### Step 5 (R219, R271 to R273) -/

/-- The position and the others that cannot be read are LOST (R271), with cause 5 where every position is in service, 3 where one is
not; the ranges of each are logged (R273). [DEDUCED, unsafe: log 180] -/
def State.loseStripe (s : State) (d : Nat) (x : Dec) (other : List Nat) : State :=
  match s.codewordAt d x.op x.cw with
  | none => s
  | some (set, row, pos, mask) =>
    let col := ((s.setPlace set).map (·.1)).getD 0
    let cause := if (s.otherPos pos).any (s.posOut col) then 3 else 5
    let l := pos :: other
    let s := s.addLost set row l mask
    s.each l fun s i => s.loseWords set row i mask cause (l.filter (· ≠ i))

/-- Ask the companion for a codeword before it is declared lost (R272). -/
def State.ask (s : State) (a : Ask) : State :=
  let k := s.pair.nextAsk
  (s.updPair fun p => { p with asks := mapSet p.asks k a, nextAsk := k + 1 }).emit
    [Out.bulum "codeword request" [k, a.nsid, a.lba, a.n]]

/-- Does a pair ask its companion (R272)? -/
def State.asksCompanion (s : State) : Bool := s.isPair && decide (s.nv.pairSt = .paired)

/-- The codeword that an operation reads is over without data: the read fails, the position of a job cannot be read, or the device goes on
with a lost codeword. -/
def State.wordFails (s : State) (d : Nat) (x : Dec) : State :=
  let o := x.op
  match o.purpose with
  | .hostRead r _ _ => s.readFails r
  | .jobRead e part =>
    let mask := ((s.codewordAt d o x.cw).map (·.2.2.2)).getD 0
    let s := s.updMd fun m => { m with job := mapMod m.job e fun j => { j with bad := j.bad ++ [(partPos part, mask)] } }
    if s.opPending o.id then s else s.opRead d o
  | .patch w _ => s.patchFalls w
  | .scrub none => s.scrubWord d o 5 0
  | _ => if s.opPending o.id then s else s.opRead d o

/-- A codeword is unrecovered (R219): counted, recorded, its block marked for refresh; where it is lost, its stripe is (R271); a page below
a failed unit becomes a deferred error of kind PROGRAM (R229). -/
def State.wordLost (s : State) (x : Dec) (lose : Bool) (other : List Nat) : State :=
  let d := dieKey x.ch x.die
  let b := s.wordBlock d x.op x.cw
  let s := (s.bump Reg.MEDIA_LADDER_STAT2_UNRECOVERED).mediaErr d b x.op.page 5
  let s := (s.modHealth (dieMember d) fun h => { h with unrecovered := h.unrecovered + 1 }).histogram d 15
  let s := s.chanEvent d 1 b x.op.page 5 [5]
  let s := match x.op.purpose, s.codewordAt d x.op x.cw with
    | .repair _ _ _, some (set, row, pos, mask) => (s.deferWords set row pos mask).addLost set row [pos] mask
    | _, _ => if lose then s.loseStripe d x other else s
  (s.markRefresh d b).wordFails d x

/-- Step 5 (R219): unrecovered. A codeword of a job's read goes no further than step 3 (R271), with its event k = 1 if it came so far (R244). In M0 the companion is asked before a
codeword with valid blocks is declared lost (R272). -/
def State.unrecovered (s : State) (e : Nat) (x : Dec) (lose : Bool) (other : List Nat) : State :=
  let d := dieKey x.ch x.die
  let s := s.endLadder e x
  match x.op.purpose with
  | .jobRead _ _ =>
    let b := s.wordBlock d x.op x.cw
    let s := if x.step = 3 then (s.chanEvent d 1 b x.op.page 4 [3]).markRefresh d b else s
    (s.histogram d 15).wordFails d x
  | p =>
    match s.codewordAt d x.op x.cw with
    | some (set, row, pos, mask) => match s.rangesAt set row pos mask with
      | (nsid, lba, n) :: _ =>
        if lose && s.asksCompanion then
          s.ask ⟨(match p with | .hostRead r _ _ => some r | _ => none), nsid, lba, n, set, row, pos, other, some x⟩
        else s.wordLost x lose other
      | [] => s.wordLost x lose other
    | none => s.wordLost x lose other

/-! ### Step 4 (R193, R217, R218, R271) -/

/-- The reconstruction of a codeword for its ladder: counted, its reads sent (Table MED-8). -/
def State.stripeJob (s : State) (e : Nat) (x : Dec) (set row pos mask : Nat) : State :=
  let d := dieKey x.ch x.die
  let s := (s.bump Reg.MEDIA_LADDER_STAT2_STRIPE).modHealth (dieMember d) fun h => { h with stripe := h.stripe + 1 }
  let snap := match x.op.purpose with
    | .hostRead r lba n => match s.hostBlocks r lba n x.cw with
      | some (_, a, m) => (x.op.snap.drop (a - lba)).take m
      | none => []
    | _ => []
  s.startJob
    { kind := .ladder e, set := set, row := row, pos := pos, left := s.sources set row pos mask, bad := [], snap := snap,
      cls := x.op.cls, owner := x.op.owner, cons := x.op.cons, deadline := x.op.deadline, base := x.op.base, mask := mask }

/-- Step 4 (Table MED-8): reconstruction from the other positions; one that cannot be done is counted and goes to step 5. A reconstruction
that started early has counted the codeword, and is not repeated (R217). -/
def State.stripeStep (s : State) (e : Nat) (x : Dec) : State :=
  match x.op.purpose with
  | .jobRead _ _ => s.unrecovered e x false []
  | _ =>
    let d := dieKey x.ch x.die
    let x := { x with step := 4 }
    let s := s.updMd fun m => { m with dec := mapSet m.dec e x }
    match s.codewordAt d x.op x.cw with
    | none =>
      ((s.bump Reg.MEDIA_LADDER_STAT2_STRIPE).modHealth (dieMember d) fun h => { h with stripe := h.stripe + 1 }).unrecovered e x false []
    | some (set, row, pos, mask) =>
      if x.early then (if (s.jobsFor (isLadder e)).isEmpty then s.unrecovered e x true [] else s)
      else if s.canRebuild set row pos mask then s.stripeJob e x set row pos mask
      else
        ((s.bump Reg.MEDIA_LADDER_STAT2_STRIPE).modHealth (dieMember d) fun h => { h with stripe := h.stripe + 1 }).unrecovered e x
          (s.rowComplete set row || s.isOpenRow set row) (s.sourcesOut set row pos mask)

/-! ### Steps 2 and 3 (R215 to R217) -/

/-- Step 3: three soft reads; PD33 wakes when it sleeps (R215). A die that has left service is read around (R510). -/
def State.softStep (s : State) (e : Nat) (x : Dec) : State :=
  let d := dieKey x.ch x.die
  if !s.dieUp d then s.stripeStep e x else
  let x := { x with step := 3, softLeft := 3 }
  let s := (s.bump Reg.MEDIA_LADDER_STAT_SOFT).modHealth (dieMember d) fun h => { h with soft := h.soft + 1 }
  let s := (s.updMd fun m => { m with dec := mapSet m.dec e x }).wake 33 0 3
  ((s.recoverRead e x).recoverRead e x).recoverRead e x

/-- Step 2 (R216): the next retry, or step 3 after the last; with RETRY_MAX = 0 step 2 is not entered. -/
def State.retryStep (s : State) (e : Nat) (x : Dec) : State :=
  let max_ := s.rd Reg.MEDIA_LADDER_CFG_RETRY_MAX
  if !s.dieUp (dieKey x.ch x.die) then s.stripeStep e x
  else if max_ ≤ x.retry then s.softStep e x
  else
    let d := dieKey x.ch x.die
    let first := decide (x.step = 1)
    let x := { x with step := 2, retry := x.retry + 1, softLeft := 1 }
    let s := if first then
        let n := s.md.retryCount + 1
        let s := s.updMd fun m => { m with retryCount := n % 1024 }
        (s.bump Reg.MEDIA_LADDER_STAT_RETRY (n / 1024)).modHealth (dieMember d) fun h => { h with retries := h.retries + 1 }
      else s
    (s.updMd fun m => { m with dec := mapSet m.dec e x }).recoverRead e x

/-! ### Members and dies leave service (R206, R207, R251, R265 to R267) -/

/-- Change a member. -/
def State.modMember (s : State) (m : Nat) (f : Member → Member) : State :=
  s.modNv fun v => { v with members := mapSet v.members m (f (mapGet v.members m {})) }

/-- Columns with two positions out of service: what is open on them moves to one that qualifies, and a relocation to one of them takes
another destination (R251). -/
def State.moveOpen (s : State) : State :=
  let cols := ((s.chart.cur.cons.map (·.columns)).flatten).filter fun c => decide (2 ≤ (s.outPositions c).length)
  let s := s.each cols State.relocOut
  s.each cols fun s c =>
    let open_ := (s.nv.zones.filter fun e => decide (e.2.column = some c) && e.2.st.isOpen).map (·.1) ++
      (s.nv.rus.filter fun e => e.2.column == c && e.2.held.isSome).map fun e => ruKey e.1
    s.each open_ fun s k => s.startReloc k 3

/-- A read of a unit at an out-of-service position that no reconstruction can serve is lost (R271, R510); in M0 the companion is asked
first (R272). -/
def State.outLost (s : State) (r : CmdRef) (nsid lba n set row pos : Nat) (other : List Nat) : State :=
  let col := ((s.setPlace set).map (·.1)).getD 0
  let mask := s.maskOf nsid lba n
  let cause := if other.any (s.posOut col) then 4 else 3
  let l := pos :: other
  let s := s.addLost set row l mask
  (s.each l fun s i => s.loseWords set row i mask cause (l.filter (· ≠ i))).readFails r

/-- A read of a unit at an out-of-service position ends unreconstructed. -/
def State.outFails (s : State) (r : CmdRef) (nsid lba n set row pos : Nat) (other : List Nat) : State :=
  if (mapGet? s.md.reads (cmdKey r)).isNone then s
  else if s.hasRowx set row pos (s.maskOf nsid lba n) isLostKind then s.readFails r
  else if s.asksCompanion then s.ask ⟨some r, nsid, lba, n, set, row, pos, other, none⟩
  else s.outLost r nsid lba n set row pos other

/-- A read of a unit at an out-of-service position is reconstructed from the other positions in a class; where another one is out too, or
the codeword is LOST, it is lost (R250, R271, R510). -/
def State.readAround (s : State) (r : CmdRef) (nsid lba n set row pos cls owner : Nat) (dl : Deadline) (base : Nat) : State :=
  let mask := s.maskOf nsid lba n
  if !s.canRebuild set row pos mask || s.hasRowx set row pos mask isLostKind then
    s.outFails r nsid lba n set row pos (s.sourcesOut set row pos mask)
  else s.startJob
    { kind := .outOfService r lba n, set := set, row := row, pos := pos, left := s.sources set row pos mask, bad := [],
      snap := s.atIssue nsid lba n, cls := cls, owner := owner, cons := s.setCons set, deadline := dl, base := base, mask := mask }

/-- An operation on a die that leaves service: a read is reconstructed as reserve traffic, a job's read fails its position, the unit of a
program's row is degraded (R12, R250, R266). -/
def State.withdraw (s : State) (d : Nat) (o : DieOp) : State :=
  match o.purpose with
  | .hostRead r lba n =>
    match mapGet? s.md.reads (cmdKey r) with
    | some j => match s.stripeOf j.nsid lba with
      | some (set, row, pos) => s.readAround r j.nsid lba n set row pos 8 o.owner o.deadline o.base
      | none => s
    | none => s
  | .jobRead k part => s.updMd fun m => { m with job := mapMod m.job k fun j =>
      { j with left := j.left.filter (· ≠ part), bad := j.bad ++ [(partPos part, j.mask)] } }
  | .ladderRead e => match mapGet? s.md.dec e with
    | some x => if x.step < 4 then s.stripeStep e x else s
    | none => s
  | .unit set row pos => s.modRow set row fun x => { x with out := if x.out.contains pos then x.out else x.out ++ [pos] }
  | .scrub _ => s.updMd fun m => { m with scrubs := mapErase m.scrubs (blockKey d (o.blocks.getD 0 0)) }
  | .move set =>
    if o.kind = .read then match (s.holderOf d (o.blocks.getD 0 0)).bind fun k => s.pageAt k d o.page with
      | some (k, row, pos) => s.moveRebuild set (rowKey k row, pos)
      | none => s
    else s
  | _ => s

/-- Every operation of a die is withdrawn or abandoned (R266): an erase that a limit of R187 kept running is counted, and the writer slots
are free (R192). -/
def State.emptyDie (s : State) (d : Nat) : State :=
  let x := s.die d
  let run := match x.busy with
    | .running o => [o]
    | .suspending o _ => [o]
    | .resuming o => [o]
    | _ => (x.erase.map fun e => [e.op]).getD []
  let s := s.forcedCount d
  let s := s.modDie d fun x => { x with queue := [], held := [], busy := .idle, erase := none, run := none }
  let s := s.updMd fun m => { m with patchUnits := mapErase m.patchUnits d }
  let s := s.each (run ++ x.queue ++ x.held) fun s o => (s.withdraw d o).releaseSlot d (opCode o)
  ((s.releaseSlot d d).complianceUpdate).relocOut (columnOf d)

/-- A member enters ISOLATING (R265, R266): EV0832; the dies of its channels stop, and their work moves to the others. -/
def State.isolate (s : State) (m cause : Nat) : State :=
  let st := (s.member m).st
  if st ≠ .inService ∧ st ≠ .rebuilding then s
  else
    let s := (s.modMember m fun x => { x with st := .isolating, cause := cause, rebuilt := [] }).event 832 [m, cause]
    let s := s.each (s.allDies.filter fun d => dieMember d == m) fun s d => s.emptyDie d
    (s.consUpdate).moveOpen

/-- Failed dies of a member. -/
def State.diesFailed (s : State) (m : Nat) : Nat := mapCount s.md.die fun d x => decide (dieMember d = m) && x.failed

/-- A bus fault declares the member of the channel failed (R207): result BUS_FAULT (Table MED-5). -/
def State.busFault (s : State) (ch : Nat) : State :=
  let s := (s.set (Reg.MEDIA_CH_STATUS_BUS_FAULT.at ch) true).mediaErr (dieKey ch 0) 0 0 7
  (s.event (320 + 4 * ch + 3) [0, 0, 0, 7]).isolate (ch / 8) 1

/-- DIE_DECLARED_FAILED (R206, R265, R267): the die leaves service and its column is relocated; at DIE_LIMIT its member
fails. -/
def State.dieFails (s : State) (d : Nat) : State :=
  if (s.die d).failed then s
  else
    let s := (s.modDie d fun x => { x with failed := true }).chanEvent d 3 0 0 6
    if s.rd Reg.CRU_FAIL_CFG_DIE_LIMIT ≤ s.diesFailed (dieMember d) then s.isolate (dieMember d) 2
    else
      let s := s.emptyDie d
      let col := columnOf d
      let s := if s.md.columnOut.contains col then s
        else (s.updMd fun m => { m with columnOut := m.columnOut ++ [col] }).event 839 [col]
      let s := s.consUpdate
      let s := s.each (s.setsOn col) fun s k => s.startRelocs k 3
      if s.columnEmpty col then s.event 840 [col] else s

/-! ### Decodes end (R195, R215 to R220, R263, R271) -/

/-- The occultation that a read is part of (R195). -/
def State.occultOf (s : State) (p : Purpose) : Option Nat :=
  match p with
  | .jobRead k _ => (match mapGet? s.md.job k with
    | some j => (match j.kind with
      | .occult _ _ _ => some k
      | _ => none)
    | none => none)
  | _ => none

/-- Does step 4 start together with step 2 (R193, R217): EARLY_STRIPE, a host read whose deadline is still live, and a complete row with
every source? -/
def State.startsEarly (s : State) (x : Dec) : Bool :=
  let live := match x.op.deadline with
    | .live t => decide (s.time.sid < t)
    | _ => false
  match s.codewordAt (dieKey x.ch x.die) x.op x.cw, x.op.purpose with
  | some (set, row, pos, mask), .hostRead _ _ _ => s.on Reg.MEDIA_LADDER_CFG_EARLY_STRIPE && live &&
      s.canRebuild set row pos mask && s.rowComplete set row && !x.op.openRow
  | _, _ => false

/-- A hard decode of step 1 failed (R195, R216, R217, R271): an assay's is judged, a tuning's counts as one bit more than the capability, an
occultation's ends it; a LOST codeword goes to step 5, and every other one to step 2. -/
def State.hardFails (s : State) (e : Nat) (x : Dec) : State :=
  let d := dieKey x.ch x.die
  let b := s.wordBlock d x.op x.cw
  let gone := fun (s : State) => s.updMd fun m => { m with dec := mapErase m.dec e }
  match x.op.purpose with
  | .assay set => (gone s).assayFails d x.op b set
  | .scrub (some k) => (gone s).tuneWord d x.op k (capability (s.codeRate d b) + 1)
  | p =>
    let s := s.mediaErr d b x.op.page 4
    match s.occultOf p with
    | some k => (gone s).dropJob k
    | none =>
      if s.isLost d x.op x.cw then s.unrecovered e x false []
      else
        let early := s.startsEarly x
        let s := if early then (match s.codewordAt d x.op x.cw with
            | some (set, row, pos, mask) => s.stripeJob e x set row pos mask
            | none => s)
          else s
        s.retryStep e { x with early := early }

/-- A hallmark failed at media read (R263): counted, recorded with the first block of the codeword; the ladder goes on at step 4 (R218). -/
def State.hallmarkAt (s : State) (l : Nat × Nat × Nat) : State :=
  let s := s.bump Reg.CRU_HALL_STAT_MEDIA_READ
  let s := s.firstError Reg.CRU_HALL_ERR_VALID [(Reg.CRU_HALL_ERR_POINT, 2), (Reg.CRU_HALL_ERR_FIELD, 0),
    (Reg.CRU_HALL_ERR_NSID, l.1), (Reg.CRU_HALL_LBA_LO_LBA, l.2.1), (Reg.CRU_HALL_LBA_HI_LBA, l.2.1 / 4294967296)]
  s.event 846 [l.1, l.2.1]

/-- The first logical blocks of a codeword, for the records of a hallmark failure. -/
def State.firstRange (s : State) (c : Option (Nat × Nat × Nat × Nat)) : Nat × Nat × Nat :=
  match c with
  | some (set, row, pos, mask) => (s.rangesAt set row pos mask).getD 0 (0, 0, 0)
  | none => (0, 0, 0)

def State.hallmarkFails (s : State) (e : Nat) (x : Dec) : State :=
  (s.hallmarkAt (s.firstRange (s.codewordAt (dieKey x.ch x.die) x.op x.cw))).stripeStep e { x with hallmark := true }

/-- Is the hallmark of a read's codewords checked as they decode: those of a reconstruction's sources are checked when it is whole (R218,
R247, R263), and an assay checks none? -/
def checksHallmark : Purpose → Bool
  | .jobRead _ _ => false
  | .assay _ => false
  | .scrub (some _) => false
  | _ => true

/-- HARD_DECODE_DONE (R195, R216 to R220, R263): the decode of a codeword that nothing wants any more is discarded. -/
def State.hardDecode (s : State) (e : Nat) (ok : Bool) (bits : Nat) (hallmarkOk : Bool) : State :=
  match mapGet? s.md.dec e with
  | none => s
  | some x =>
    let d := dieKey x.ch x.die
    if 2 < x.step ∨ x.softLeft ≠ 0 then s
    else if !s.wants d x.op x.cw then s.endLadder e x
    else if ok then
      if hallmarkOk || !checksHallmark x.op.purpose then
        let s := if x.step = 2 then s.shiftBook d (s.wordBlock d x.op x.cw) (retryShifts.getD (x.retry - 1) 0) 1 else s
        s.ladderWins e x x.step bits
      else s.hallmarkFails e x
    else if x.step = 1 then s.hardFails e x
    else s.retryStep e x

def execHardDecodeDone (op : Nat) (ok : Bool) (bits : Nat) (hallmarkOk : Bool) (s : State) :
    Host.Outcome State Fault Refusal :=
  effect s fun s => s.hardDecode op ok bits hallmarkOk

/-- SOFT_DECODE_DONE (R215, R216, R218, R220): `shift` is the one whose read showed the fewest corrected bits. A decode waits until PD33 is
awake. -/
def State.softDecode (s : State) (e : Nat) (ok hallmarkOk : Bool) (shift : Int) : State :=
  match mapGet? s.md.dec e with
  | none => s
  | some x =>
    if x.step ≠ 3 ∨ x.softLeft ≠ 0 ∨ (s.domain 33).state ≠ .on then s
    else if !s.wants (dieKey x.ch x.die) x.op x.cw then s.endLadder e x
    else if ok then
      if hallmarkOk || !checksHallmark x.op.purpose then
        (s.shiftBook (dieKey x.ch x.die) (s.wordBlock (dieKey x.ch x.die) x.op x.cw) shift 3).ladderWins e x 3 0
      else s.hallmarkFails e x
    else s.stripeStep e x

def execSoftDecodeDone (op : Nat) (ok hallmarkOk : Bool) (shift : Int) (s : State) : Host.Outcome State Fault Refusal :=
  effect s fun s => s.softDecode op ok hallmarkOk shift

/-! ### Reconstructions end (R195, R218, R248, R250, R263, R269, R271) -/

/-- The codewords of a job that could not be reconstructed: for each mask the positions that could not be read. A combination that fails, or
whose hallmark does, concerns every codeword of the job. -/
def Job.failures (j : Job) (good : Bool) : List (Nat × List Nat) :=
  let masks := (j.bad.map (·.2)).eraseDups
  if !good && masks.isEmpty then [(j.mask, [])]
  else masks.map fun m => (m, ((j.bad.filter fun e => masksMeet e.2 m).map (·.1)).eraseDups)

/-- The unit of a rebuild is ready for its program (R269, R271): codewords that could not be reconstructed are LOST, with those of the other
positions that could not be read, and their ranges logged with cause 1 or 2. -/
def State.rebuildReady (s : State) (j : Job) (good : Bool) : State :=
  let col := ((s.setPlace j.set).map (·.1)).getD 0
  let s := s.each (j.failures good) fun s f =>
    let others := (f.2 ++ s.sourcesOut j.set j.row j.pos f.1).eraseDups
    let cause := if others.any (s.posOut col) then 1 else 2
    let l := j.pos :: others
    -- a codeword that was LOST before is written as one, and logged no more
    let mask := f.1 - Nat.land f.1 (s.lostMask j.set j.row j.pos)
    if mask = 0 then s
    else
      let s := s.addLost j.set j.row l mask
      s.each l fun s i => s.loseWords j.set j.row i mask cause (l.filter (· ≠ i))
  s.updMd fun m => { m with rebuildReady := m.rebuildReady.filter (· != (j.set, j.row)) ++ [(j.set, j.row)] }

/-- CRUCIBLE_JOB_DONE (R195, R218, R248, R250, R263, R271): a reconstruction ends that holds a lane, once PD34 is awake. -/
def State.jobDone (s : State) (k : Nat) (ok hallmarkOk : Bool) : State :=
  match mapGet? s.md.job k with
  | none => s
  | some j =>
    if !j.left.isEmpty ∨ (s.domain 34).state ≠ .on ∨ j.lane = none then s
    else
      let good := ok && hallmarkOk && j.bad.isEmpty
      let s := if ok && !hallmarkOk then s.hallmarkAt (s.firstRange (some (j.set, j.row, j.pos, j.mask))) else s
      let s := (s.updMd fun m => { m with job := mapErase m.job k }).giveLanes
      match j.kind with
      | .occult o ch die =>
        if good then
          let s := s.dropOps (dieKey ch die) fun p => p.id == o.id
          match o.purpose with
          | .hostRead r lba _ => s.fillRead r lba j.snap
          | _ => s
        else s
      | .ladder e =>
        match mapGet? s.md.dec e with
        | none => s
        | some x =>
          if good then s.ladderWins e x 4 0
          else if x.step < 4 then s
          else s.unrecovered e x true ((j.bad.map (·.1)).eraseDups)
      | .outOfService r lba n =>
        if good then s.fillRead r lba j.snap
        else match mapGet? s.md.reads (cmdKey r) with
          | none => s
          | some x => s.outFails r x.nsid lba n j.set j.row j.pos
              (((j.bad.map (·.1)) ++ s.sourcesOut j.set j.row j.pos j.mask).eraseDups)
      | .move set =>
        let s := s.each (j.failures good) fun s f =>
          let mask := f.1 - Nat.land f.1 (s.lostMask j.set j.row j.pos)
          let l := j.pos :: f.2
          if mask = 0 then s
          else (s.each l fun s i => s.loseWords j.set j.row i mask 3 (l.filter (· ≠ i))).addLost j.set j.row l mask
        s.unitGot set (rowKey j.set j.row, j.pos)
      | .repair =>
        let s := s.each (j.failures good) fun s f => (s.deferWords j.set j.row j.pos f.1).addLost j.set j.row [j.pos] f.1
        s.updMd fun m => { m with repairGot := m.repairGot ++ ((List.range 256).map fun p => (j.set, j.row, j.pos + 256 * p)) }
      | .patch w parity =>
        if good then s.updWp fun x => { x with
          wr := mapMod x.wr w fun w => if parity then { w with oldParity := true } else { w with oldData := true } }
        else s.patchFalls w
      | .rebuild _ _ _ => s.rebuildReady j good
      | .companion nsid lba =>
        if good then s.emit [Out.bulum "codeword" (nsid :: lba :: s.decryptAll nsid lba j.snap)]
        else if (j.bad.any fun b => b.1 == j.pos) && s.canRebuild j.set j.row j.pos j.mask then
          s.startJob { j with left := s.sources j.set j.row j.pos j.mask, bad := [] }
        else s.emit [Out.bulum "no codeword" [nsid, lba]]

def execCrucibleJobDone (job : Nat) (ok hallmarkOk : Bool) (s : State) : Host.Outcome State Fault Refusal :=
  effect s fun s => s.jobDone job ok hallmarkOk

/-! ### A page has been read (R172, R174, R196, R207) -/

/-- Is a reference one of an epoch that has ended (R341)? Such a command is kept under an owner above 0xFFFF. [DESIGN CHOICE, safe:
log 63] -/
def isStale (r : CmdRef) : Bool := decide (65536 ≤ r.owner)

/-- Does a die run a read of a command? -/
def State.readRuns (s : State) (r : CmdRef) : Bool :=
  mapAny s.md.die fun _ x => match x.busy with
    | .running o => (match o.purpose with
      | .hostRead q _ _ => decide (q = r)
      | _ => false)
    | _ => false

/-- The last operation of a command of an ended epoch is over: its context returns (R342). [DESIGN CHOICE, safe: log 63] -/
def State.releaseStale (s : State) (p : Purpose) : State :=
  match p with
  | .hostRead r _ _ => if isStale r && !s.readRuns r then s.updQ fun q => { q with cmds := mapErase q.cmds (cmdKey r) } else s
  | _ => s

def purposeStale : Purpose → Bool
  | .hostRead r _ _ => isStale r
  | _ => false

/-- PAGE_READ_DONE (R172, R174, R196, R207, R209): the measured time corrects the balances and the predictor; the codewords that are still
wanted go to their decoders; a line not at its idle level is a bus fault. -/
def State.pageRead (s : State) (ch die us : Nat) (linesOk : Bool) : State :=
  let d := dieKey ch die
  match (s.die d).busy with
  | .running o =>
    if o.kind ≠ .read then s
    else
      let s := (s.charge d o ((o.cost : Int) - us * 256)).learn d .read us
      let s := s.modDie d fun x => { x with busy := .idle }
      let s := s.each o.blocks fun s b => s.modBlock d b fun x => { x with readCount := min (x.readCount + 1) 0xFFFFFFFF }
      let s := match o.purpose with
        | .ladderRead e => s.updMd fun m => { m with dec := mapMod m.dec e fun x => { x with softLeft := x.softLeft - 1 } }
        | p => if purposeStale p then s.releaseStale p else s.decodeAll ch die 1 o
      if linesOk then s else s.busFault ch
  | _ => s

def execPageReadDone (ch die us : Nat) (linesOk : Bool) (s : State) : Host.Outcome State Fault Refusal :=
  effect s fun s => s.pageRead ch die us linesOk

end Sys2Proof.Machine
end

