-- ==== Sys2Proof/Machine/Entry.lean ====
section
/-! DEFINITION. DIE_QUEUE_ENTRY: what the senders of operations ask of the die queues, and the checks that an erase or a program passes on
its way there (spec/08 R169, R182, R510; spec/09 R201, R210, R213, R224, R229; spec/10 R253, R254, R263, R269). -/

namespace Sys2Proof.Machine

/-! ### Erases (R210, R213, R224) -/

/-- Blocks a request's erase still has to erase: `none` when one of them may not be erased at all (R213). -/
def State.eraseBlocks (s : State) (d : Nat) (l : List Nat) : Option (List Nat) :=
  if l.any fun b => decide ((s.block d b).st = .erasing) || decide ((s.block d b).st = .retired) then none
  else some (l.filter fun b => decide ((s.block d b).st ≠ .erased))

/-- The blocks of a set of a die are erased, or have left service: the set leaves the queue of released sets, and every secure operation
that waits for it has one fewer to wait for (R131, R133). -/
def State.setErased (s : State) (d k : Nat) : State :=
  let key := blockKey d k
  if (s.setBlocks d k).all fun x => decide ((s.block d x).st = .erased) || decide ((s.block d x).st = .retired) then
    let s := s.updJr fun j => { j with copies := j.copies.filter fun e => e.2 ≠ key }
    s.updZone fun z => { z with
      secureSets := z.secureSets.filter (· ≠ key)
      resets := mapAll z.resets fun _ w => { w with left := w.left.filter (· ≠ key) }
      released := z.released.filter fun e => e.1 ≠ key }
  else s

/-- The sets of a die that hold some blocks. -/
def State.setsHolding (s : State) (d : Nat) (l : List Nat) : List Nat := (l.filterMap (s.setOf d)).eraseDups

/-- Is a released block set not yet free to be erased, because the batch that released it is not on flash (R154)? [DEDUCED, unsafe:
log 162] -/
def State.eraseHeld (s : State) (d : Nat) (blocks : List Nat) : Bool :=
  s.zone.released.any fun e => decide (e.1 / 65536 = d) && decide (s.jr.onFlash < e.2) &&
    (s.setBlocks d (e.1 % 65536)).any blocks.contains

/-- Does a secure operation wait for the erase of a block (R133)? -/
def State.secureBlock (s : State) (d b : Nat) : Bool :=
  ((s.setOf d b).map fun k => s.zone.secureSets.contains (blockKey d k)).getD false

/-- A secure operation waits for this block's set, and the block is retired unerased: residue (R135), EV0043. -/
def State.residue (s : State) (d b : Nat) : State :=
  if !s.secureBlock d b then s
  else
    let key := ((s.setOf d b).map (blockKey d)).getD 0
    let s := (s.event 43 [d, b]).bump Reg.ZONE_SEC_STAT_RESIDUE
    s.updZone fun z => { z with
      resets := mapAll z.resets fun _ w => if w.left.contains key then { w with residue := true } else w }

/-- A block that is to be retired in place of an erase: its WEAK_COUNT has reached 2 (R224), which a secure erase still precedes (R133), or
it is SUSPECT and has been re-erased twice (R210, R230). -/
def State.retiresNow (s : State) (d b : Nat) : Bool :=
  let x := s.block d b
  (decide (2 ≤ x.weakCount) && !s.secureBlock d b) || (decide (x.st = .suspect) && decide (2 ≤ x.reerases))

/-- A request for an erase (R210, R213, R224). -/
def State.eraseEntry (s : State) (d : Nat) (blocks : List Nat) : State :=
  match s.eraseBlocks d blocks with
  | none => (s.mediaErr d (blocks.getD 0 0) 0 9).chanEvent d 0 (blocks.getD 0 0) 0 9
  | some [] => s.each (s.setsHolding d blocks) fun s k => s.setErased d k
  | some l =>
    if s.eraseHeld d l then s
    else
      let sets := s.setsHolding d l
      let gone := l.filter (s.retiresNow d)
      let s := s.each gone fun s b => (s.residue d b).retire d b false
      let l := l.filter fun b => !gone.contains b
      if l.isEmpty then s.each sets fun s k => s.setErased d k else (s.enter d (s.makeOp d .erase l 0 .erase)).getD s

/-! ### Buffer to media (R263) -/

/-- The place of a buffered block in its row: set, row, position and offset mask. -/
def State.wrPlace (s : State) (w : Wr) (lba : Nat) : Option (Nat × Nat × Nat × Nat) :=
  match s.ns? w.nsid with
  | none => none
  | some n =>
    let at_ := fun (set idx : Nat) => (s.setPlace set).map fun p =>
      let r := s.rowOf p.1 idx
      (set, r.1, r.2, 2 ^ (idx % s.unit4k p.1))
    match w.zone with
    | some z => at_ (zoneKey w.nsid z) ((w.offset + (lba - w.slba)) / n.per4k)
    | none =>
      let g := lba / n.per4k / s.granule4k
      (w.ru.find? (·.1 = g)).bind fun e => at_ (ruKey (s.unitOf n.cons e.2)) (s.slotOff e.2 * s.granule4k + lba / n.per4k % s.granule4k)

/-- Content that fails its hallmark on the way to the media (R263): counted, EV0845; in M0 the companion's copy is asked for, otherwise the
4 KiB is programmed as a LOST codeword, and where it was acknowledged a deferred error of kind PROGRAM is logged (R163). -/
def State.badToMedia (s : State) (p : Purpose) (lba : Nat) : State :=
  let mine := fun (w : Wr) => decide (w.slba ≤ lba) && decide (lba < w.slba + w.nlb)
  let wr : Option Wr := match p with
    | .unit set row pos => (s.wp.wr.find? fun e => mine e.2 && (match s.wrPlace e.2 lba with
        | some (a, b, c, _) => a == set && b == row && c == pos
        | none => false)).map (·.2)
    | .patch w _ => (mapGet? s.wp.wr w).filter mine
    | _ => none
  match wr with
  | none => s
  | some w =>
    let n := ((s.ns? w.nsid).map (·.per4k)).getD 1
    let s := s.bump Reg.CRU_HALL_STAT_TO_MEDIA
    let s := s.firstError Reg.CRU_HALL_ERR_VALID [(Reg.CRU_HALL_ERR_POINT, 1), (Reg.CRU_HALL_ERR_FIELD, 0),
      (Reg.CRU_HALL_ERR_NSID, w.nsid), (Reg.CRU_HALL_LBA_LO_LBA, lba), (Reg.CRU_HALL_LBA_HI_LBA, lba / 4294967296)]
    if s.isPair && decide (s.nv.pairSt = .paired) then s.emit [Out.bulum "fetch mirror" [w.nsid, lba]]
    else
      let s := s.event 845 [w.nsid, lba]
      let s := match s.wrPlace w lba with
        | some (set, row, pos, mask) => s.addLost set row [pos] mask
        | none => s
      if w.completed.isSome then s.deferredError w.nsid (lba / n * n) n 1 else s

/-! ### Reads -/

/-- A host read asks for its die (R182, R193, R510): it must be a read in execution, some of whose blocks come from media. A unit at
an out-of-service position is reconstructed in the read's class, or C1 for a best-effort read. [DEDUCED, unsafe: log 177] -/
def State.enterRead (s : State) (d : Nat) (r : DieReq) (ref : CmdRef) (lba n : Nat) : State :=
  match mapGet? s.md.reads (cmdKey ref) with
  | none => s
  | some j =>
    match s.locate j.nsid lba, s.stripeOf j.nsid lba with
    | some (set, col, row, pos), some (set', row', pos') =>
      if s.posDie col pos ≠ d then s
      else if s.unitOut set row col pos then
        let c := s.cmdClass ref
        s.readAround ref j.nsid lba n set' row' pos' c.1 c.2.1 c.2.2.1 c.2.2.2
      else
        let o := { s.makeOp d .read r.blocks r.page r.purpose with openRow := s.isOpenRow set row }
        match s.enter d o with
        | none => s
        | some s => s.rescue d j.nsid lba n o
    | _, _ => s

/-- Is a part of a job asked for already: its read waits, runs, or is being decoded? -/
def State.partAsked (s : State) (d k part : Nat) : Bool :=
  let mine := fun (o : DieOp) => o.purpose == .jobRead k part
  (s.dieOps d).any mine || mapAny s.md.dec fun _ x => mine x.op

/-! ### Small writes (R253, R254) -/

/-- The origin row of a small write's granule, and the position of its data. -/
def State.patchRow (s : State) (w : Wr) : Option (Nat × Nat × Nat) := s.stripeOf w.nsid w.slba

/-- Is an earlier small write to the same row still uncommitted (R254)? -/
def State.patchBefore (s : State) (k : Nat) (w : Wr) : Bool :=
  match s.patchRow w with
  | some (set, row, _) => s.wp.wr.any fun e => decide (e.1 < k) && e.2.rmw && e.2.committed.isNone && !e.2.rowsDone &&
      (s.patchRow e.2).any fun p => p.1 == set && p.2.1 == row
  | none => false

/-- A read of the small-write path whose position is out of service is a reconstruction (R254). -/
def State.patchAround (s : State) (k : Nat) (parity : Bool) : State :=
  match mapGet? s.wp.wr k with
  | none => s
  | some w => match s.patchRow w with
    | some (set, row, pos) =>
      let col := ((s.setPlace set).map (·.1)).getD 0
      let mask := s.granuleMask w
      if parity || !s.unitOut set row col pos || w.oldData ||
          mapAny s.md.job fun _ j => decide (j.kind = .patch k false) then s
      else if s.canRebuild set row pos mask then s.startJob
        { kind := .patch k false, set := set, row := row, pos := pos, left := s.sources set row pos mask, bad := [], snap := [], cls := 2,
          owner := w.ref.owner, cons := s.setCons set, deadline := .none, mask := mask }
      else s.patchFalls k
    | none => s

/-- Has a small write what its patches are made of (R253, R254): the old data, and the old parity unless its position is out of service or
an earlier small write's parity stands in the write buffer? -/
def State.patchHas (s : State) (k : Nat) (parity : Bool) : Bool :=
  match mapGet? s.wp.wr k with
  | none => false
  | some w => match s.patchRow w with
    | some (set, row, pos) =>
      let col := ((s.setPlace set).map (·.1)).getD 0
      w.rmw && (if parity then w.oldData && (w.oldParity || s.patchBefore k w) && !s.posOut col (s.parityPos col row)
        else !s.posOut col pos)
    | none => false

/-- The die that takes the data or the parity patch of a small write (R253). -/
def State.patchDie (s : State) (k : Nat) (parity : Bool) : Option Nat :=
  ((mapGet? s.wp.wr k).bind s.patchRow).map fun p =>
    let col := ((s.setPlace p.1).map (·.1)).getD 0
    s.posDie col (if parity then s.parityPos col p.2.1 else p.2.2)

/-- The codewords of some patches. -/
def State.patchWordCount (s : State) (l : List (Nat × Bool)) : Nat :=
  (l.map fun e => ((mapGet? s.wp.wr e.1).map fun w => ((List.range 64).filter (bit (s.granuleMask w))).length).getD 0).sum

/-- The place of the next program unit of patches on a die: in a patch unit of its column that has room there, after what is on its
way, or in a new one (R253). [DESIGN CHOICE, unsafe: log 228] -/
def State.patchRoom (s : State) (d : Nat) : Option ((List Nat × Nat) × State) :=
  match s.consOfColumn (columnOf d) with
  | none => none
  | some cons =>
    let pos := (s.members.findIdx? (· == dieMember d)).getD 0
    let place := fun (s : State) (r : Ru) =>
      let b := s.setBlocks d (r.sets.getD pos 0xFFFF)
      let n := s.unitPages d b.length
      let asked := ((s.dieOps d).filter fun o => o.kind == .program && o.blocks == b).map fun o => o.page + n
      let page := asked.foldl max (s.block d (b.getD 0 0)).nextPage
      if b.isEmpty || decide ((s.kindOf d).pagesPerBlock < page + n) then none else some (b, page)
    match s.nv.rus.findSome? fun e => if e.2.patch && e.2.cons == cons && e.2.column == columnOf d && !e.2.relocating then place s e.2 else none with
    | some p => some (p, s)
    | none => match s.takeSets (columnOf d) with
      | none => none
      | some sets =>
        let r : Ru := ⟨cons, columnOf d, sets, none, 0, true, false⟩
        let i := s.freeRu cons
        let s := s.modNv fun v => { v with rus := mapSet v.rus i r }
        match place s r with
        | none => none
        | some p => some (p, s)

/-- The patches that are collected for a die are programmed, the rest of the unit filled with void codewords (R253). [DESIGN CHOICE,
unsafe: log 228] -/
def State.programPatches (s : State) (d : Nat) : State :=
  let l := mapGet s.md.patchUnits d []
  if l.isEmpty then s
  else match s.patchRoom d with
    | some (at_, s) =>
      let s := s.updMd fun m => { m with patchUnits := mapErase m.patchUnits d }
      (s.markDirty (s.regionOf d (at_.1.getD 0 0) at_.2)).sendOp d (s.makeOp d .program at_.1 at_.2 (.patches l))
    | none => s

/-- A patch joins those that are collected for its die, once; a full unit is programmed (R253). [DESIGN CHOICE, unsafe: log 228] -/
def State.collectPatch (s : State) (d k : Nat) (parity : Bool) : State :=
  let have_ := mapGet s.md.patchUnits d []
  let asked := (s.dieOps d).any fun o => match o.purpose with
    | .patches l => l.contains (k, parity)
    | _ => false
  if s.patchDie k parity ≠ some d || have_.contains (k, parity) || asked then s
  else
    let l := have_ ++ [(k, parity)]
    let s := s.updMd fun m => { m with patchUnits := mapSet m.patchUnits d l }
    if s.unit4k (columnOf d) ≤ s.patchWordCount l then s.programPatches d else s

/-- At the close of a batch every unit of patches is programmed (R253). [DESIGN CHOICE, unsafe: log 228] -/
def State.flushPatches (s : State) : State := s.each s.md.patchUnits fun s e => s.programPatches e.1

/-! ### Programs that move, repair or rebuild (R201, R229, R231, R269) -/

/-- Has a program of the device's own what it writes: units in cells, decoded and checked (R201)? -/
def State.hasContent (s : State) (d : Nat) (r : DieReq) : Bool :=
  match r.purpose with
  | .move set => match mapGet? s.md.reloc set with
    | some x => match s.moveUnit x d r.blocks r.page with
      | some (row, pos) => x.switched.isNone && x.todo.contains (row, pos) && !x.passed.contains (row, pos) &&
          (s.moveSources x row pos).all x.got.contains
      | none => false
    | none => false
  | .repair set row pos => (List.range (s.setPages d r.blocks)).all fun p => s.md.repairGot.contains (set, row, pos + 256 * p)
  | .rebuild set row _ => s.md.rebuildReady.contains (set, row)
  | .patch k parity => s.patchHas k parity
  | _ => true

/-- The units that a relocation's program lacks and no die can give are reconstructed (R250, R267). -/
def State.moveLacks (s : State) (d : Nat) (r : DieReq) : State :=
  match r.purpose with
  | .move set => match mapGet? s.md.reloc set with
    | some x => match s.moveUnit x d r.blocks r.page with
      | some (row, pos) => s.each ((s.moveSources x row pos).filter fun u => !x.got.contains u &&
            s.unitOut (u.1 / 4294967296) (u.1 % 4294967296) (((s.setPlace (u.1 / 4294967296)).map (·.1)).getD 0) u.2) fun s u =>
          s.moveRebuild set u
      | none => s
    | none => s
  | _ => s

/-! ### The command -/

/-- Is the program of a row's unit asked for or under way? -/
def State.unitAsked (s : State) (d set row pos : Nat) : Bool :=
  let mine := fun (o : DieOp) => o.purpose == .unit set row pos
  (s.die d).queue.any mine || (s.die d).held.any mine || (match (s.die d).busy with
    | .running o => mine o
    | _ => false)

/-- Has the unit of a request been asked for already: by its sender, or by a flush (R152)? -/
def State.askedFor (s : State) (d : Nat) : Purpose → Bool
  | .unit set row pos => s.unitAsked d set row pos
  | _ => false

/-- A request that finds its die out of service: reads are served around it (R250, R254, R510). -/
def State.entryAround (s : State) (d : Nat) (r : DieReq) : State :=
  match r.purpose with
  | .hostRead ref lba n => s.enterRead d r ref lba n
  | .move set =>
    if r.kind = .read then match (s.holderOf d (r.blocks.getD 0 0)).bind fun k => s.pageAt k d r.page with
      | some (k, row, pos) => s.moveRebuild set (rowKey k row, pos)
      | none => s
    else s
  | .patch k parity => if r.kind = .read then s.patchAround k parity else s
  | _ => s

/-- DIE_QUEUE_ENTRY (R11, R12, R169, R170, R182, R201, R213, R509): an operation enters a die queue; a full queue leaves it with its
sender, and so does a program that has not all it writes. -/
def State.queueEntry (s : State) (r : DieReq) : State :=
  let d := dieKey r.ch r.die
  if !s.populated d || !s.memberIssues (dieMember d) || (s.die d).failed then s.entryAround d r
  else match r.purpose with
    | .hostRead ref lba n => s.enterRead d r ref lba n
    | .jobRead k part => match mapGet? s.md.job k with
      | some j =>
        let p := s.jobOp k j part
        if j.left.contains part && p.1 == d && !s.partAsked d k part && !s.rowUnsynced j.set j.row then
          match s.enter d p.2 with
          | some s => s.predictJob d p.2
          | none => s
        else s
      | none => s
    | .erase => s.eraseEntry d r.blocks
    | p =>
      if r.kind = .read then (s.enter d (s.makeOp d .read r.blocks r.page p)).getD s
      else if !s.hasContent d r then s.moveLacks d r
      else if s.askedFor d p then s
      else
        let s := match r.bad with
          | some lba => s.badToMedia p lba
          | none => s
        match p with
        | .patch k parity => s.collectPatch d k parity
        | _ => match s.enter d (s.makeOp d r.kind r.blocks r.page p) with
          | none => s
          | some s =>
            if r.kind = .program then s.markDirty (s.regionOf d (r.blocks.getD 0 0) r.page) else s

def execDieQueueEntry (r : DieReq) (s : State) : Host.Outcome State Fault Refusal :=
  effect s fun s => s.queueEntry r

end Sys2Proof.Machine
end

