-- ==== Sys2Proof/Machine/Media.lean ====
section
/-! DEFINITION. Programs and erases that end, timeouts, strobes and temperatures, scrub, wear, the read-only state and raw
mode (spec/08 R172, R190, R192; spec/09 R202 to R245; spec/10 R249 to R255). -/

namespace Sys2Proof.Machine

/-! ### Programs (R192, R210, R222, R229, R249 to R254) -/

/-- A program or erase ends on its die: the charge is corrected, the predictor learns, the slot is released. -/
def State.opEnds (s : State) (d : Nat) (o : DieOp) (us : Nat) : State :=
  let s := (s.charge d o ((o.cost : Int) - us * 256)).learn d o.kind us
  let s := s.modDie d fun x => { x with busy := .idle }
  ((s.releaseSlot d (opCode o)).releaseSlot d d).complianceUpdate

/-- A program unit has passed on its blocks but for some (Table MED-7); an unchecked program of raw mode leaves the state of a block that
is neither ERASED nor OPEN. -/
def State.advancePages (s : State) (d : Nat) (o : DieOp) (but : List Nat) : State :=
  let pages := if o.kind = .slc then 1 else s.setPages d o.blocks
  s.each (o.blocks.filter fun b => !but.contains b) fun s b => s.modBlock d b fun x =>
    let n := max x.nextPage (o.page + pages)
    { x with nextPage := n
             st := if x.st ≠ .erased ∧ x.st ≠ .open_ then x.st else if (s.kindOf d).pagesPerBlock ≤ n then .full else .open_ }

/-- A sampled program, and every program of relocation and repair, is assayed: every page of its unit on the blocks that passed
(R222). [DEDUCED, unsafe: log 174] -/
def State.assayAfter (s : State) (d : Nat) (o : DieOp) (blocks : List Nat) : State :=
  let n := (s.die d).samples + 1
  let due := decide (2 ^ s.rd Reg.MEDIA_ASSAY_CFG_SAMPLE_LOG2 ≤ n)
  let s := s.modDie d fun x => { x with samples := if due then 0 else n }
  let set := match o.purpose with | .move set => set | _ => 0
  if blocks.isEmpty || !(due || o.assay) then s
  else
    let pages := if o.kind = .slc then 1 else s.setPages d o.blocks
    s.each (List.range pages) fun s p => s.sendOp d (s.makeOp d .read blocks (o.page + p) (.assay set))

/-- A slot in the patch unit of a column, with a new unit when there is none with room (R253). -/
def State.patchSlot (s : State) (cons col : Nat) : Option (Nat × State) :=
  let put := fun (s : State) (i : Nat) (r : Ru) => (i % 4294967296 * s.ruGranules + r.taken,
    s.modNv fun v => { v with rus := mapSet v.rus i { r with taken := r.taken + 1 } })
  match s.nv.rus.find? fun e => e.2.patch && e.2.cons == cons && e.2.column == col && decide (e.2.taken < s.ruGranules) with
  | some (i, r) => some (put s i r)
  | none => (s.takeSets col).map fun b => put s (s.freeRu cons) ⟨cons, col, b, none, 0, true, false⟩

/-- The ranges of a small write: one for each of its granules (R253). -/
def State.patchMates (s : State) (w : Wr) : List (Nat × Wr) :=
  s.wp.wr.filter fun e => e.2.rmw && decide (e.2.ref = w.ref) && e.2.nsid == w.nsid && decide (e.2.completed = w.completed) &&
    e.2.committed.isNone && !e.2.rowsDone

/-- Have both patches of a granule passed, or is a position out of service that needs none (R253, R254)? An earlier small write to its row
outside its own command commits first. -/
def State.patchReady (s : State) (mates : List (Nat × Wr)) (e : Nat × Wr) : Bool :=
  match s.patchRow e.2 with
  | none => false
  | some (set, row, pos) =>
    let col := ((s.setPlace set).map (·.1)).getD 0
    e.2.got && (!e.2.needAck || e.2.acked) && (e.2.patchData || s.posOut col pos) &&
      (e.2.patchParity || s.posOut col (s.parityPos col row)) &&
      !(s.wp.wr.any fun f => decide (f.1 < e.1) && f.2.rmw && f.2.committed.isNone && !f.2.rowsDone &&
        !(mates.any fun m => m.1 == f.1) && (s.patchRow f.2).any fun p => p.1 == set && p.2.1 == row)

/-- Codewords of a row position leave the patches that held them. -/
def dropPatched (l : List Rowx) (set row pos mask : Nat) : List Rowx :=
  (l.map fun e => if e.set == set && e.row == row && e.pos == pos && isPatchKind e.kind then
    { e with mask := e.mask - Nat.land e.mask mask } else e).filter fun e => decide (e.mask ≠ 0)

/-- One record names the patch slot of a granule, and the PATCH entries of its data and of its parity codewords (R253); a patch that
either had gives way to them. CRU_RMW_STAT counts the granules in units of 1,024. -/
def State.patchGranule (s : State) (k : Nat) (w : Wr) (cons : Nat) : State :=
  match s.patchRow w with
  | none => s
  | some (set, row, pos) =>
    let col := ((s.setPlace set).map (·.1)).getD 0
    let mask := s.granuleMask w
    match s.patchSlot cons col with
    | none => s
    | some (slot, s) =>
      let par := s.parityPos col row
      let s := s.modNv fun v => { v with rowx := dropPatched (dropPatched v.rowx set row pos mask) set row par mask }
      let s := s.addRowx [⟨set, row, pos, mask, .patch slot⟩, ⟨set, row, par, mask, .patch slot⟩]
      let g := w.slba / ((((s.ns? w.nsid).map (·.per4k)).getD 1) * s.granule4k)
      let s := s.noteCopies [mapKey w.nsid g] (s.unitOf cons slot)
      let s := s.updWp fun x => { x with wr := mapMod x.wr k fun w => { w with ru := [(g, slot)], rowsDone := true } }
      let t := s.md.patchCount + 1
      (s.updMd fun m => { m with patchCount := t % 1024 }).bump Reg.CRU_RMW_STAT_PATCHES (t / 1024)

/-- A small write commits once the patches of its granules have passed (R253 to R255); from 90 % of the row exception table no PATCH entry
is admitted, and it goes to the handle path. -/
def State.patchCheck (s : State) (k : Nat) : State :=
  match mapGet? s.wp.wr k with
  | none => s
  | some w =>
    let mates := s.patchMates w
    if w.rmw && !mates.isEmpty && mates.all (s.patchReady mates) then
      if 943719 ≤ s.nv.rowx.length then (s.each mates fun s e => s.patchFalls e.1).bump Reg.CRU_RMW_STAT_FALLBACK
      else (s.each mates fun s e => s.patchGranule e.1 e.2 ((s.nsCons e.2.nsid).getD 0)).commitAll
    else s

/-- Small writes commit in their order, where nothing keeps them any more (R254). -/
def State.patchChecks (s : State) : State :=
  s.each (s.wp.wr.filter fun e => e.2.rmw && !e.2.rowsDone) fun s e => s.patchCheck e.1

/-- One of the two patches of a granule has passed. -/
def State.patchPass (s : State) (k : Nat) (parity : Bool) : State :=
  (s.updWp fun x => { x with wr := mapMod x.wr k fun w =>
    if parity then { w with patchParity := true } else { w with patchData := true } }).patchChecks

/-- The unit of a row has passed its program. -/
def State.unitPass (s : State) (d : Nat) (o : DieOp) (set row pos : Nat) : State :=
  match s.setPlace set with
  | none => s
  | some (col, _) =>
    let r := s.regionOf d (o.blocks.getD 0 0) o.page
    s.modRow set row fun x =>
      { x with
        passed := if x.passed.contains pos then x.passed else x.passed ++ [pos]
        out := (s.rowOut set col).filter (· ≠ pos)
        parity := x.parity || pos == s.parityPos col row
        openRow := x.openRow && pos != s.parityPos col row
        regions := if x.regions.contains r then x.regions else x.regions ++ [r] }

/-- The unit of a rebuild has passed its program: the row has it again (R269, R270). -/
def State.rebuildPass (s : State) (set row m : Nat) : State :=
  match s.setPlace set with
  | none => s
  | some (col, _) =>
    let pos := (s.members.findIdx? (· == m)).getD 0
    let s := s.modRow set row fun x =>
      { x with
        passed := if x.passed.contains pos then x.passed else x.passed ++ [pos]
        out := x.out.filter (· ≠ pos)
        parity := x.parity || pos == s.parityPos col row }
    let s := s.modNv fun v => { v with members := mapMod v.members m fun x =>
      { x with rebuilt := if x.rebuilt.contains (set, row) then x.rebuilt else x.rebuilt ++ [(set, row)] } }
    let n := s.md.rebuiltUnits + 1
    (s.updMd fun x => { x with
      rebuiltUnits := n, rebuildReady := x.rebuildReady.filter (· != (set, row))
      rebuildStarted := x.rebuildStarted.filter (· != (set, row)) }).wr Reg.CRU_REBUILD_DONE_UNITS (n / 1024)

/-- What a program that passed makes true. -/
def State.programPass (s : State) (d : Nat) (o : DieOp) : State :=
  match o.purpose with
  | .unit set row pos => (s.unitPass d o set row pos).commitAll.sealFinished set
  | .patches l => s.each l fun s e => s.patchPass e.1 e.2
  | .flushRecord l =>
    let m := dieMember d
    let note := fun (k : Nat) (w : Wr) =>
      if l.contains k && !w.recorded.contains m then { w with recorded := w.recorded ++ [m] } else w
    if o.kind ≠ .slc ∨ (s.block d (o.blocks.getD 0 0)).pool ≠ 2 then s
    else (s.updWp fun x => { x with wr := mapAll x.wr note }).commitAll
  | .move set => match (mapGet? s.md.reloc set).bind fun r => s.moveUnit r d o.blocks o.page with
    | some u => s.updMd fun m => { m with reloc := mapMod m.reloc set fun r =>
        { r with passed := if r.passed.contains u then r.passed else r.passed ++ [u] } }
    | none => s
  | .repair set row pos => s.updMd fun m => { m with
      repairGot := m.repairGot.filter fun e => !(e.1 == set && e.2.1 == row && e.2.2 % 256 == pos) }
  | .rebuild set row m => s.rebuildPass set row m
  | _ => s

/-- The codeword offsets of a unit that lie on one block of its block set. -/
def State.blockMask (s : State) (set row pos d b : Nat) : Nat :=
  ((List.range (s.unitPages d (s.posBlocks set pos).length)).map fun p =>
    maskFrom (s.firstWord set row pos d b (s.rowPage set row pos + p)) (s.pageWords d)).sum

/-- May a failed block of a set still be replaced (R229): by a spare or an ERASED block set, or by one that erases will free? -/
def State.mayReplace (s : State) (d k b : Nat) : Bool :=
  !(s.setBlocks d k).contains b || decide (0 < s.spares d) || s.zone.released.any fun e => decide (e.1 / 65536 = d)

/-- A program failed on some blocks (R229): each is retired, its set repaired; the data is still in the write buffer or in
cells, and its unit is programmed again. With no spare block or set left, acknowledged data of the unit that cannot be
programmed becomes deferred errors of kind PROGRAM (R239). -/
def State.programFails (s : State) (d : Nat) (o : DieOp) (failed : List Nat) (result : Nat) : State :=
  let b := failed.getD 0 0
  let s := s.modHealth (dieMember d) fun h => { h with programFails := h.programFails + 1 }
  let s := ((s.mediaErr d b o.page result).chanEvent d 0 b o.page result).patchesBack d o
  s.each failed fun s b =>
    let k := s.setOf d b
    let mask := match o.purpose with
      | .unit set row pos => s.blockMask set row pos d b
      | _ => 0
    let s := s.retire d b true
    match o.purpose, k with
    | .unit set row pos, some k => if s.mayReplace d k b then s else s.deferWords set row pos mask
    | _, _ => s

/-- PROGRAM_DONE (R172, R174, R190, R196, R210, R229, R249): `failed` lists the blocks whose planes reported failure. -/
def State.programDone (s : State) (ch die us : Nat) (failed : List Nat) : State :=
  let d := dieKey ch die
  match (s.die d).busy with
  | .running o =>
    if o.kind = .read ∨ o.kind = .erase then s
    else
      let failed := failed.filter o.blocks.contains
      let s := (s.opEnds d o us).advancePages d o failed
      let s := if failed.isEmpty then s.programPass d o else s.programFails d o failed 2
      s.assayAfter d o (o.blocks.filter fun b => !failed.contains b)
  | _ => s

def execProgramDone (ch die us : Nat) (failed : List Nat) (s : State) : Host.Outcome State Fault Refusal :=
  effect s fun s => s.programDone ch die us failed

/-! ### Erases (R187, R210, R223, R224, R230) -/

/-- One block's erase ends (Table MED-7); a block whose WEAK_COUNT has reached 2 is then retired (R224). -/
def State.eraseEnds (s : State) (d b : Nat) (ok assayOk : Bool) : State :=
  let x := s.block d b
  let again := fun (s : State) => if 2 ≤ x.reerases then (s.residue d b).retire d b false else s.setBlockSt d b .suspect
  if ok then
    let needs := decide (0 < x.reerases) || x.new || x.weak
    let s := s.modBlock d b fun x => { x with nextPage := 0, readCount := 0 }
    if needs && !assayOk then
      again ((s.mediaErr d b 0 8).modHealth (dieMember d) fun h => { h with assayFails := h.assayFails + 1 })
    else
      let s := s.modBlock d b fun x => { x with st := .erased, weak := false, new := false, reerases := 0, raw := false }
      if 2 ≤ x.weakCount then s.retire d b false else s
  else
    let s := s.modHealth (dieMember d) fun h => { h with eraseFails := h.eraseFails + 1 }
    again ((s.mediaErr d b 0 3).chanEvent d 0 b 0 3)

/-- The erase of some blocks of a die is over, for their sets and for what waits for them. -/
def State.erased (s : State) (d : Nat) (sets : List Nat) : State :=
  ((s.each sets fun s k => s.setErased d k).repairWaiting d).wbufUpdate

/-- ERASE_DONE (R172, R174, R187, R190, R196, R210, R223, R230): `failed` lists the blocks that failed, `assayBad` those
whose erase assay failed. A secure operation that awaited the set has one fewer to wait for. -/
def State.eraseDone (s : State) (ch die us : Nat) (failed assayBad : List Nat) : State :=
  let d := dieKey ch die
  match (s.die d).busy with
  | .running o =>
    if o.kind ≠ .erase then s
    else
      let sets := s.setsHolding d o.blocks
      let s := s.forcedCount d
      let s := (s.opEnds d o us).modDie d fun x => { x with run := none }
      let s := s.each o.blocks fun s b => s.eraseEnds d b (!failed.contains b) (!assayBad.contains b)
      s.erased d sets
  | _ => s

def execEraseDone (ch die us : Nat) (failed assayBad : List Nat) (s : State) : Host.Outcome State Fault Refusal :=
  effect s fun s => s.eraseDone ch die us failed assayBad

/-! ### Timeouts (R206) -/

/-- The decodes of an operation. -/
def State.decsOf (s : State) (id : Nat) : List Nat := (s.md.dec.filter fun e => e.2.op.id == id).map (·.1)

/-- A read has timed out (R206): its codewords go to step 4 of the ladder. An assay or a tuning read has failed; a retry or a soft read
takes its codeword to step 4, and an occultation is abandoned. -/
def State.readTimesOut (s : State) (ch die : Nat) (o : DieOp) : State :=
  let fails := match o.purpose with
    | .assay _ => true
    | .scrub (some _) => true
    | _ => false
  match o.purpose, s.occultOf o.purpose with
  | .ladderRead e, _ => match mapGet? s.md.dec e with
    | some x => if x.step < 4 then s.stripeStep e x else s
    | none => s
  | _, some k => s.dropJob k
  | p, none =>
    if purposeStale p then s.releaseStale p
    else
      let s := s.decodeAll ch die (if fails then 1 else 4) o
      s.each (s.decsOf o.id) fun s e => match mapGet? s.md.dec e with
        | some x => if fails then s.hardFails e x else s.stripeStep e x
        | none => s

/-- OPERATION_TIMEOUT (R206): the die is reset; a read enters the ladder at step 4, a program or an erase has failed; the
third timeout within 1 s declares the die failed. -/
def State.timeout (s : State) (ch die : Nat) : State :=
  let d := dieKey ch die
  let op := match (s.die d).busy with
    | .running o => some o
    | .suspending o _ => some o
    | .resuming o => some o
    | _ => none
  match op with
  | none => s
  | some o =>
    let b := o.blocks.getD 0 0
    let recent := (s.die d).timeouts.filter fun t => decide (s.time.now - t ≤ 1000000000)
    let s := (s.mediaErr d b o.page 6).chanEvent d 3 b o.page 6
    let s := if o.kind = .erase then s.forcedCount d else s
    let s := (s.releaseSlot d (opCode o)).releaseSlot d d
    let s := s.modDie d fun x => { x with
      busy := .resetting, since := s.time.now, run := if o.kind = .erase then none else x.run, timeouts := recent ++ [s.time.now] }
    let s := match o.kind with
      | .read => s.readTimesOut ch die o
      | .erase =>
        let sets := s.setsHolding d o.blocks
        (s.each o.blocks fun s b => s.eraseEnds d b false true).erased d sets
      | _ => s.programFails d o o.blocks 6
    let s := s.complianceUpdate
    if 2 ≤ recent.length then s.dieFails d else s

def execOperationTimeout (ch die : Nat) (s : State) : Host.Outcome State Fault Refusal :=
  effect s fun s => s.timeout ch die

/-- DIE_RESET_TIMEOUT (R206, R207): how the die answers its Reset. Without ready within 1 ms it is declared failed; with ID bytes that
differ from its kind it is a bus fault; otherwise it accepts work again. -/
def State.resetAnswer (s : State) (ch die : Nat) (answer : Option Bool) : State :=
  let d := dieKey ch die
  match (s.die d).busy, answer with
  | .resetting, none => s.dieFails d
  | .resetting, some true => s.modDie d fun x => { x with busy := .idle }
  | .resetting, some false => s.busFault ch
  | _, _ => s

def execDieResetTimeout (die : Nat × Nat) (answer : Option Bool) (s : State) : Host.Outcome State Fault Refusal :=
  effect s fun s => s.resetAnswer die.1 die.2 answer

/-! ### The channel interface (R204, R205, R207) -/

/-- IDLE_LEVEL_CHECK (R207): at the end of a transfer, a program's too, and every 100 µs on an idle channel, a line that is not at its idle
level is a bus fault. -/
def execIdleLevelCheck (ch : Nat) (ok : Bool) (s : State) : Host.Outcome State Fault Refusal :=
  effect s fun s => if ok then s else s.busFault ch

/-- RECENTRE (R204): the strobes are centred again, or with no passing eye the channel retrains in full. -/
def State.recentred (s : State) (ch : Nat) (ok : Bool) : State :=
  let s := s.bump (Reg.MEDIA_CH_STATUS_RECENTRES.at ch)
  let temps := (s.allDies.filter fun d => dieCh d == ch).map fun d => (d, (s.die d).temp)
  let s := s.updMd fun m => { m with
    sinceCentre := temps.foldl (fun t e => mapSet t e.1 e.2) m.sinceCentre, recentreDue := m.recentreDue.filter (· ≠ ch) }
  if ok || mapHas s.md.retraining ch then s
  else (s.updMd fun m => { m with retraining := mapSet m.retraining ch s.time.now }).event (320 + 4 * ch + 3) [0, 0, 0, 0]

def execRecentre (ch : Nat) (ok : Bool) (s : State) : Host.Outcome State Fault Refusal :=
  effect s fun s => s.recentred ch ok

/-- FULL_RETRAINING_DONE (R204, R207): issue resumes, or the failure is a bus fault. -/
def execFullRetrainingDone (ch : Nat) (ok : Bool) (s : State) : Host.Outcome State Fault Refusal :=
  effect s fun s =>
    if !mapHas s.md.retraining ch then s
    else
      let s := s.updMd fun m => { m with retraining := mapErase m.retraining ch }
      if ok then s else s.busFault ch

/-- A package that has moved 15 °C since its channel's last centring has the channel centred again (R204); the first reading of a
package is its temperature at the training. [DEDUCED, safe: log 210] -/
def State.centreCheck (s : State) (d : Nat) (temp : Int) : State :=
  match mapGet? s.md.sinceCentre d with
  | none => s.updMd fun m => { m with sinceCentre := mapSet m.sinceCentre d temp }
  | some t =>
    if 15 ≤ (temp - t).natAbs ∧ s.md.recentreDue.contains (dieCh d) = false then
      (s.updMd fun m => { m with recentreDue := m.recentreDue ++ [dieCh d] }).emit [Out.data "re-centre channel" [dieCh d]]
    else s

/-- FLASH_TEMPERATURE_READ (R204, R205, R430): the reading joins the member's history and the re-centring rule; the hottest package sets
and lifts the flash cap (EV0023) and contributes to critical warning bit 1. -/
def State.flashTemp (s : State) (ch die : Nat) (temp : Int) : State :=
  let d := dieKey ch die
  let m := dieMember d
  let s := (s.modDie d fun x => { x with temp := temp }).centreCheck d temp
  let s := { s with power := { s.power with flashHot := mapSet s.power.flashHot d temp } }
  let now := ((s.power.flashHot.filter fun e => dieMember e.1 == m).map (·.2)).foldl max temp
  let s := s.modHealth m fun h =>
    if h.tempMaxTime = 0 ∨ h.tempMax < now then { h with tempNow := now, tempMax := now, tempMaxTime := s.time.sid }
    else { h with tempNow := now }
  let limit : Int := s.rd Reg.THERM_FLASH_CFG_LIMIT
  let hottest := (s.power.flashHot.map (·.2)).foldl max temp
  let s := if limit ≤ hottest ∧ s.power.flashCap = false then
      ({ s with power := { s.power with flashCap := true } }).event 23 [hottest]
    else if hottest < limit - 3 then { s with power := { s.power with flashCap := false } }
    else s
  s.warnUpdate

def execFlashTemperatureRead (ch die : Nat) (temp : Int) (s : State) : Host.Outcome State Fault Refusal :=
  effect s fun s => if s.populated (dieKey ch die) then s.flashTemp ch die temp else s

/-! ### Scrub (R226 to R228) -/

/-- Of some blocks the one scrubbed longest ago. -/
def State.oldestScrubbed (s : State) (l : List Nat) : Option Nat :=
  match l with
  | [] => none
  | x :: xs => some (xs.foldl (fun a b => if (mapGet s.md.scrubAt b (0, 0)).1 < (mapGet s.md.scrubAt a (0, 0)).1 then b else a) x)

/-- The block of a die that patrol scrub takes next (R226, R228): one read more than DISTURB_K × 1,024 times since its last scrub,
else the one scrubbed longest ago. [DEDUCED, unsafe: log 175] -/
def State.scrubTurn (s : State) (d : Nat) : Option Nat :=
  let mine := s.scrubList.filter fun k => decide (k / 65536 = d)
  let worn := mine.filter fun k =>
    decide (s.rd Reg.MEDIA_SCRUB_CFG_DISTURB_K * 1024 < (s.block d (k % 65536)).readCount - (mapGet s.md.scrubAt k (0, 0)).2)
  s.oldestScrubbed (if worn.isEmpty then mine else worn)

/-- SCRUB_READ (R220, R226, R228): the scrub of the block that is next on its die begins; its pages are read one by one through the
die queue. `probes` names one page of each page type for a tuning of the threshold book. [DEDUCED, unsafe: log 175] -/
def State.scrubRead (s : State) (ch die block : Nat) (probes : List Nat) : State :=
  let d := dieKey ch die
  let k := blockKey d block
  let n := (s.block d block).nextPage
  if s.pausedPs = true ∨ s.scrubTurn d ≠ some k ∨ (mapAny s.md.scrubs fun j _ => decide (j / 65536 = d)) = true then s
  else
    (s.updMd fun m => { m with
      scrubs := mapSet m.scrubs k ⟨List.range n, probes.filter fun p => decide (p < n), 0, 0, false, [], 0⟩ }).scrubNext d block

/-- The operands of SCRUB_READ name a page of the lowest page type, one of the highest, and one of each type between. -/
def execScrubRead (ch die block lower upper : Nat) (between : List Nat) (s : State) : Host.Outcome State Fault Refusal :=
  effect s fun s => s.scrubRead ch die block (lower :: between ++ [upper]).eraseDups

/-- SCRUB_MIDPOINT (R227): less than 45 % done at the midpoint sets SCRUB_BEHIND, with EV0028 once for the pass. -/
def execScrubMidpoint (s : State) : Host.Outcome State Fault Refusal :=
  effect s fun s =>
    if s.scrubPct < 45 ∧ s.scrubList ≠ [] then
      let s := (s.set Reg.MEDIA_STATUS_SCRUB_BEHIND true).set Reg.MEDIA_SCRUB_STATUS_BEHIND true
      if s.md.scrubNoted then s else (s.updMd fun m => { m with scrubNoted := true }).event 28
    else s

/-! ### Wear leveling (R235) and the block state table (R209) -/

/-- Erases of the blocks of a list of (die, block set), and how many blocks they are. -/
def State.wearOf (s : State) (l : List (Nat × Nat)) : Nat × Nat :=
  let b := (l.map fun p => (s.setBlocks p.1 p.2).map fun k => (s.block p.1 k).eraseCount).flatten
  (b.sum, b.length)

/-- The block sets of a set on the dies in service. -/
def State.setDies (s : State) (set : Nat) : List (Nat × Nat) :=
  match s.setPlace set with
  | some (c, b) => (List.range s.memberCount).filterMap fun i =>
      if b.getD i 0xFFFF = 0xFFFF then none else some (s.posDie c i, b.getD i 0)
  | none => []

/-- Is mean `a` below mean `b` (each a sum and a count)? -/
def meanLt (a b : Nat × Nat) : Bool := decide (a.1 * max b.2 1 < b.1 * max a.2 1)

/-- The sets that wear leveling may move: FULL zones and unheld reclaim units of a constellation, with their age. -/
def State.wearSets (s : State) (cons : Nat) : List (Nat × Nat) :=
  let z := (s.nv.zones.filter fun e => decide (e.2.st = .full) && e.2.column.isSome && decide (s.nsCons (e.1 / 4294967296) = some cons)).map
    fun e => (e.1, e.2.lastWrite)
  let u := (s.nv.rus.filter fun e => e.2.cons == cons && e.2.held.isNone && !e.2.patch && !e.2.relocating).map fun e => (ruKey e.1, 0)
  (z ++ u).filter fun x => !mapHas s.md.reloc x.1

/-- Move a set to the serving column with the highest mean erase count. -/
def State.wearMove (s : State) (set cons : Nat) : State :=
  let l := (s.consOf cons).columns.filterMap fun c =>
    if s.columnServes c then (s.takeSets c).map fun b => (c, b) else none
  match l with
  | [] => s
  | x :: xs =>
    let b := xs.foldl (fun b y => if meanLt (s.columnWear b.1) (s.columnWear y.1) then y else b) x
    s.beginReloc set 2 b.1 b.2

/-- Does a block of a constellation wait for its refresh, which comes first (R225)? -/
def State.refreshDue (s : State) (cons : Nat) : Bool :=
  s.md.refresh.any fun b => decide (s.consOfColumn (columnOf (b / 65536)) = some cons)

/-- The block sets of the dies in service: (die, set). -/
def State.wearPool (s : State) : List (Nat × Nat) :=
  ((s.allDies.filter s.dieUp).map fun d => (s.setsOf d).map fun b => (d, b)).flatten

/-- WEAR_LEVEL_CHECK (R235, R239): the set with the lowest mean moves, of those whose constellation has no wear-leveling relocation in
progress and no refresh that waits (R225). -/
def State.wearCheck (s : State) : State :=
  if !s.on Reg.MEDIA_WL_CFG_ENABLE || s.nv.readOnly || s.pausedPs then s
  else
    let free := (List.range s.chart.cur.cons.length).filter fun k =>
      !s.refreshDue k && !(mapAny s.md.reloc fun x r => decide (r.why = 2) && decide (s.relocCons x = some k))
    let all := s.wearPool
    let dev := s.wearOf all
    let delta := s.rd Reg.MEDIA_WL_CFG_DELTA
    if all.any fun p => meanLt (dev.1 + delta * max dev.2 1, dev.2) (s.wearOf [p]) then
      match (free.map fun k => (s.wearSets k).map fun x => (k, x)).flatten with
      | [] => s
      | x :: xs =>
        let best := xs.foldl (fun a b =>
          let wa := s.wearOf (s.setDies a.2.1)
          let wb := s.wearOf (s.setDies b.2.1)
          if meanLt wb wa || (!meanLt wa wb && decide (b.2.2 < a.2.2)) then b else a) x
        s.wearMove best.2.1 best.1
    else s

def execWearLevelCheck (s : State) : Host.Outcome State Fault Refusal := effect s fun s => s.wearCheck

/-- BLOCK_STATE_TABLE_SNAPSHOT: the whole block state table is written to the metadata areas (spec/09, R209). -/
def execBlockStateTableSnapshot (s : State) : Host.Outcome State Fault Refusal :=
  effect s fun s => s.updJr fun j => { j with disk := { j.disk with blocks := s.nv.blocks, sets := s.nv.sets } }

/-! ### The read-only state and raw mode (R212, R240) -/

/-- MEDIA_WP_CTRL_RELEASE (R240). -/
def State.wpRelease (s : State) (unlock : Nat) : State :=
  s.unlocked unlock 0x4D57 fun s =>
    if s.nv.readOnly && (s.allDies.filter s.dieUp).all fun d => decide (s.chart.cur.media.finalReserve < s.spares d) then
      (s.setReadOnly false).event 26
    else s

def execMediaWpCtrlRelease (unlock : Nat) (s : State) : Host.Outcome State Fault Refusal :=
  effect s fun s => s.wpRelease unlock

/-- MEDIA_RAW_CTRL_WRITE (R212): raw mode needs the DBG block unlocked under the OTP policy and no namespace; on leaving it
every block that received an unchecked program becomes SUSPECT. EV0031 on entry and exit. -/
def State.rawWrite (s : State) (enable : Bool) : State :=
  let now := s.on Reg.MEDIA_STATUS_RAW
  if enable = now then s
  else if enable then
    if s.boot.dbgUnlocked && s.nv.ns.isEmpty then
      ((s.set Reg.MEDIA_STATUS_RAW true).set Reg.MEDIA_RAW_CTRL_ENABLE true).event 31 [1]
    else s
  else
    let s := s.each (s.nv.blocks.filter fun e => e.2.raw) fun s e =>
      (s.modBlock (e.1 / 65536) (e.1 % 65536) fun x => { x with raw := false }).setBlockSt (e.1 / 65536) (e.1 % 65536) .suspect
    ((s.set Reg.MEDIA_STATUS_RAW false).set Reg.MEDIA_RAW_CTRL_ENABLE false).event 31 [0]

def execMediaRawCtrlWrite (enable : Bool) (s : State) : Host.Outcome State Fault Refusal :=
  effect s fun s => s.rawWrite enable

end Sys2Proof.Machine
end

