-- ==== Sys2Proof/Machine/Flush.lean ====
section
/-! DEFINITION. Flush, the flush records of partly filled rows, and the erases that keep dusk blocks ready (spec/07 R144, R151, R152,
R159, R165). -/

namespace Sys2Proof.Machine

/-! ### What a flush asks of the dies (R152) -/

/-- The place of the next metadata program on a member: the first page of its metadata area that no program has and none is asked
for. [DESIGN CHOICE, unsafe: log 219] -/
def State.metaSlot (s : State) (m : Nat) : Option (Nat × Nat × Nat) :=
  s.nv.blocks.findSome? fun (e : Nat × Block) =>
    let d := e.1 / 65536
    let b := e.1 % 65536
    let page := e.2.nextPage + ((s.dieOps d).filter fun o => o.blocks.contains b).length
    if dieMember d = m ∧ e.2.pool = 2 ∧ (e.2.st = .erased ∨ e.2.st = .open_) ∧ (s.die d).failed = false ∧
        page < (s.kindOf d).pagesPerBlock then some (d, b, page)
    else none

/-- The members on which a flush record of a range is or will be. -/
def State.recordMembers (s : State) (k : Nat) : List Nat :=
  (((mapGet? s.wp.wr k).map (·.recorded)).getD [] ++ (s.allDies.filter fun d => (s.dieOps d).any fun o => match o.purpose with
    | .flushRecord l => l.contains k
    | _ => false).map dieMember).eraseDups

/-- The buffered ranges whose durability a Flush or an FUA write waits for, and that no complete row and no record has. -/
def State.flushAwaited (s : State) : List Nat :=
  let asked := (s.wp.flushes.map (·.2)).flatten
  (s.wp.wr.filter fun e => (asked.contains e.1 || (e.2.fua && decide (e.2.completed = none))) && e.2.got && !e.2.rmw &&
    !e.2.rowsDone && !e.2.flushed && decide (e.2.committed = none)).map (·.1)

/-- A flush programs the wholly filled units of a partial row whose die is at their page (R152). -/
def State.flushUnits (s : State) (set row : Nat) : State :=
  match s.setPlace set with
  | none => s
  | some (col, _) => s.each (s.filledUnits set row) fun s pos =>
    let d := s.posDie col pos
    let b := s.posBlocks set pos
    let page := s.rowPage set row pos
    if s.posOut col pos || (s.row set row).passed.contains pos || s.unitAsked d set row pos ||
        b.any fun k => decide ((s.block d k).nextPage ≠ page) then s
    else (s.sendOp d (s.makeOp d .program b page (.unit set row pos))).markDirty (s.regionOf d (b.getD 0 0) page)

/-- The rest of a partial row goes into a flush record, in SLC mode, to the metadata areas of the two members that hold the copies
of the batch that is collecting (R152, R258). [DESIGN CHOICE, unsafe: log 219] -/
def State.flushRest (s : State) (set row : Nat) (l : List Nat) : State :=
  let i := s.jr.openNo % max s.memberCount 1
  let a := s.journalMember i 16
  let mine := l.filter fun k => (s.recordMembers k).length < 2 && (((mapGet? s.wp.wr k).map fun w =>
    (s.wrRows w set).any fun p => decide (p.1 ≤ row) && decide (row ≤ p.2)).getD false)
  s.each ([a, s.journalMember (i + s.memberCount / 2) a].eraseDups) fun s m =>
    let new := mine.filter fun k => !(s.recordMembers k).contains m
    match s.metaSlot m with
    | some (d, b, page) => if new.isEmpty then s else s.sendOp d (s.makeOp d .slc [b] page (.flushRecord new))
    | none => s

/-- What the flushes that wait ask for (R152). -/
def State.flushSend (s : State) : State :=
  let l := s.flushAwaited
  let sets := ((l.filterMap fun k => (mapGet? s.wp.wr k).map s.wrSets).flatten).eraseDups
  s.each sets fun s set => match s.partialRow set with
    | some row => (s.flushUnits set row).flushRest set row l
    | none => s

/-! ### Flush (R151, R165) -/

/-- The namespaces that a Flush covers. -/
def State.flushSet (s : State) (r : CmdRef) (nsid : Nat) : List Nat := if nsid = 0xFFFFFFFF then s.attached r.owner else [nsid]

/-- FLUSH (R151): it waits for every write that completed before its fetch, and asks for what their partial rows need (R152); R165 applies to each namespace it covers. -/
def State.flushCmd (s : State) (r : CmdRef) (nsid : Nat) : State :=
  s.starting r fun s =>
    let l := s.flushSet r nsid
    let run := fun (s : State) =>
      if l.any fun x => s.unseenBy r x then (l.foldl (fun s x => s.see r.owner x) s).finish r .deferredWriteFault
      else
        let q := ((s.cmd? r).map (·.seq)).getD 0
        let w := (s.wp.wr.filter fun e => l.contains e.2.nsid && !s.lasting e.2 &&
          (match e.2.completed with | some c => decide (c ≤ q) | none => false)).map (·.1)
        let s := s.accept r
        if w.isEmpty then s.finish r .success
        else (s.updWp fun p => { p with flushes := mapSet p.flushes (cmdKey r) w }).flushSend
    if nsid = 0xFFFFFFFF then run s else s.onNs r nsid fun _ s => run s

def execFlush (ref : CmdRef) (nsid : Nat) (s : State) : Host.Outcome State Fault Refusal :=
  effect s fun s => s.flushCmd ref nsid

/-! ### Dusk blocks (R144, R159) -/

/-- Is an erase of a block asked for or under way? -/
def State.eraseAsked (s : State) (d b : Nat) : Bool := (s.dieOps d).any fun o => o.kind == .erase && o.blocks.contains b

/-- The dusk blocks that a drain has written are erased in C4 once their data is programmed elsewhere (R144, R159). -/
def State.duskErase (s : State) : State :=
  if !s.charted || !s.boot.stepsDone.contains 7 || decide (s.wp.dusk ≠ .idle) || s.wp.wr.any fun e => e.2.inDusk && !e.2.rowsDone then s
  else s.each (s.nv.blocks.filter fun e => decide (e.2.pool = 3) &&
      (decide (e.2.st = .open_) || decide (e.2.st = .full) || decide (e.2.st = .suspect))) fun s e =>
    if s.eraseAsked (e.1 / 65536) (e.1 % 65536) then s else s.eraseEntry (e.1 / 65536) [e.1 % 65536]

end Sys2Proof.Machine
end

