-- ==== Sys2Proof/Machine/Members.lean ====
section
/-! DEFINITION. Members: failing, insertion, rebuild, and the resync after a start (spec/10 R259 to R272). -/

namespace Sys2Proof.Machine

/-! ### The manager's requests (R265, R268) -/

/-- Set CRU_STATUS.RESULT. -/
def State.cruResult (s : State) (r : Nat) : State := s.wr Reg.CRU_STATUS_RESULT r

/-- MEMBER_FAIL (R265): refused when two members would be out of service, unless FORCE = 1. -/
def State.memberFail (s : State) (unlock m : Nat) (force : Bool) : State :=
  s.unlocked unlock 0x4352 fun s =>
    if !s.members.contains m then s.cruResult 3
    else if (s.member m).st ≠ .inService ∧ (s.member m).st ≠ .rebuilding then s.cruResult 1
    else if force = false ∧ (s.members.any fun x => x != m && !s.memberUp x) = true then s.cruResult 2
    else (s.cruResult 0).isolate m 3

def execMemberFail (unlock m : Nat) (force : Bool) (s : State) : Host.Outcome State Fault Refusal :=
  effect s fun s => s.memberFail unlock m force

/-- MEMBER_INSERT (R268): accepted for a FAILED member only; its domain wakes (Table PWR-2) and its channels train. -/
def State.memberInsert (s : State) (unlock m : Nat) : State :=
  s.unlocked unlock 0x4352 fun s =>
    if !s.members.contains m then s.cruResult 3
    else if (s.member m).st ≠ .failed then s.cruResult 1
    else
      ((s.cruResult 0).modMember m fun x => { x with st := .training, cause := 0, rebuilt := [] }).wake (15 + m) 3 0

def execMemberInsert (unlock m : Nat) (s : State) : Host.Outcome State Fault Refusal :=
  effect s fun s => s.memberInsert unlock m

/-- The position of a member. -/
def State.posOf (s : State) (m : Nat) : Nat := (s.members.findIdx? (· == m)).getD 0

/-- A channel has trained at a rate in MT/s, with its interface event where it fell back (R203). -/
def State.channelTrained (s : State) (c : Chart) (ch : Nat) (rates : List (Nat × Nat)) : State :=
  let r := ((rates.find? fun e => e.1 == ch).map (·.2)).getD c.dies.rate
  let s := (s.wr (Reg.MEDIA_CH_STATUS_RATE.at ch) (r / 100)).set (Reg.MEDIA_CH_STATUS_TRAINED.at ch) true
  if r < c.dies.rate then s.event (320 + 4 * ch + 3) [0, 0, 0, 0, r] else s

/-- A replacement member starts anew (R197, R236, R243, R268): every block is to be erased and assayed as NEW, with no wear, its
pools divided, a cold predictor, its health counters 0. [DEDUCED, unsafe: log 234] -/
def State.freshMember (s : State) (m : Nat) (rates badBlocks : List (Nat × Nat)) : State :=
  let dies := s.allDies.filter fun d => dieMember d == m
  let s := s.modNv fun v => { v with health := mapErase v.health m }
  let s := s.each dies fun s d =>
    (s.modDie d fun x => { x with failed := false, pred := [], timeouts := [], samples := 0, busy := .idle }).divideDie
      s.chart.cur badBlocks [] true false d
  -- no row has its unit on the new member
  let pos := s.posOf m
  let s := s.modNv fun v => { v with rows := mapAll v.rows fun _ x =>
    if x.passed.isEmpty then x else
      { x with passed := x.passed.filter (· ≠ pos), out := if x.out.contains pos then x.out else x.out ++ [pos] } }
  let s := s.updMd fun x => { x with
    memberSince := mapSet x.memberSince m x.meridians
    sinceCentre := x.sinceCentre.filter fun e => dieMember e.1 != m
    spareWarned := x.spareWarned.filter fun d => dieMember d != m
    restoredDies := x.restoredDies ++ dies.filter fun d => !x.restoredDies.contains d
    book := x.book.filter fun e => dieMember (e.1 / 65536) != m }
  s.each (List.range 8) fun s i =>
    (s.set (Reg.MEDIA_CH_STATUS_BUS_FAULT.at (8 * m + i)) false).channelTrained s.chart.cur (8 * m + i) rates

/-- Does a set have anything to rebuild: a zone that is not EMPTY, or a reclaim unit that a handle or a patch holds or that has valid data
(R269)? -/
def State.rebuildSet (s : State) (set : Nat) : Bool :=
  if set < 2 ^ 60 then (s.setPlace set).isSome
  else match mapGet? s.nv.rus (set - 2 ^ 60) with
    | some u => u.held.isSome || u.patch || u.relocating || !(s.validOf (set - 2 ^ 60)).isEmpty
    | none => false

/-- The rows whose unit at a position is to be rebuilt, in rebuild order: those of sets open for writing, then the others by set
(R269). [DESIGN CHOICE, unsafe: log 72] -/
def State.rebuildRows (s : State) (pos : Nat) : List (Nat × Nat) :=
  let l := (s.nv.rows.filter fun e => !e.2.passed.isEmpty && !e.2.passed.contains pos && s.rebuildSet (e.1 / 4294967296)).map
    fun e => (e.1 / 4294967296, e.1 % 4294967296)
  let writing := fun (e : Nat × Nat) =>
    if e.1 < 2 ^ 60 then ((mapGet? s.nv.zones e.1).map fun z => z.st.isOpen).getD false
    else ((mapGet? s.nv.rus (e.1 - 2 ^ 60)).map fun u => u.held.isSome).getD false
  l.filter writing ++ l.filter fun e => !writing e

/-- Start the rebuild of the first member of the queue (R269): EV0836. [DEDUCED, unsafe: log 176] -/
def State.startRebuild (s : State) : State :=
  match s.md.rebuildQueue with
  | m :: _ =>
    let n := (s.rebuildRows (s.posOf m)).length
    let s := (s.modMember m fun x => { x with total := n, rebuilt := [] }).updMd fun x =>
      { x with rebuiltUnits := 0, rebuildStarted := [], rebuildReady := [] }
    ((s.wr Reg.CRU_REBUILD_DONE_UNITS 0).wr Reg.CRU_REBUILD_TOTAL_UNITS (n / 1024)).event 836 [m]
  | [] => s

/-- A member leaves the rebuild queue; where it stood first, the next one's rebuild starts. [DEDUCED, unsafe: log 176] -/
def State.leaveQueue (s : State) (m : Nat) : State :=
  let first := decide (s.md.rebuildQueue.head? = some m)
  let s := s.updMd fun x => { x with rebuildQueue := x.rebuildQueue.filter (· ≠ m) }
  if first then s.startRebuild else s

/-- MEMBER_TRAINING_DONE (R203, R268, R269, Table RED-4): accepted (EV0834) and REBUILDING, in its turn, or rejected (EV0835) with
its domain off. `found` holds the rates in MT/s of the channels that fell back and the factory bad blocks as (die, block), and
is none where a die's kind or ID differs. [DEDUCED, unsafe: log 176, 234] -/
def State.memberTrained (s : State) (m : Nat) (ok : Bool) (found : Option (List (Nat × Nat) × List (Nat × Nat))) : State :=
  if (s.member m).st ≠ .training then s
  else if ok && found.isSome then
    let s := (s.event 834 [m]).freshMember m (found.getD ([], [])).1 (found.getD ([], [])).2
    let s := s.modMember m fun x => { x with st := .rebuilding, total := 0, rebuilt := [] }
    let s := s.updMd fun x => { x with rebuildQueue := x.rebuildQueue ++ [m] }
    if s.md.rebuildQueue.head? = some m then s.startRebuild else s
  else
    let s := s.modMember m fun x => { x with st := .failed, cause := if ok then 5 else 4 }
    (s.toOff (15 + m)).event 835 [m]

def execMemberTrainingDone (m : Nat) (ok : Bool) (found : Option (List (Nat × Nat) × List (Nat × Nat))) (s : State) :
    Host.Outcome State Fault Refusal :=
  effect s fun s => s.memberTrained m ok found

/-- ISOLATION_COMPLETE (R266): the I/O domain is off, the member FAILED: EV0833, critical warning bit 2 and its event to the
controllers. -/
def State.isolated (s : State) (m : Nat) : State :=
  if (s.member m).st ≠ .isolating then s
  else
    let s := (s.modMember m fun x => { x with st := .failed }).toOff (15 + m)
    let s := (s.leaveQueue m).event 833 [m]
    s.each (s.host.ctrls.filter fun e => e.2.en) fun s e => s.aen e.1 1 0 2

def execIsolationComplete (m : Nat) (s : State) : Host.Outcome State Fault Refusal := effect s fun s => s.isolated m

/-! ### Rebuild (R269 to R271) -/

/-- The row that a rebuild takes next on a column (R269): the first in order that it has not started. -/
def State.rebuildNext (s : State) (m col : Nat) : Option (Nat × Nat) :=
  (s.rebuildRows (s.posOf m)).find? fun e => decide ((s.setPlace e.1).map (·.1) = some col) && !s.md.rebuildStarted.contains e

/-- The unit of a row is made ready for its program (R193, R269, R270): of a complete row, and of one that resync continues, it is
reconstructed in class C6; of an incomplete row it comes from the write buffer, a parity unit once every other unit has passed. -/
def State.rebuildUnit (s : State) (m set row col : Nat) : State :=
  let pos := s.posOf m
  let started := fun (s : State) => s.updMd fun x => { x with rebuildStarted := x.rebuildStarted ++ [(set, row)] }
  if s.rowComplete set row || s.isOpenRow set row then (started s).startJob (s.wholeJob (.rebuild set row m) set row pos 6)
  else if pos ≠ s.parityPos col row ∨ ((List.range s.memberCount).all fun i =>
      i == pos || s.unitOut set row col i || (s.row set row).passed.contains i) = true then
    (started s).updMd fun x => { x with rebuildReady := x.rebuildReady ++ [(set, row)] }
  else s

/-- REBUILD_ROW (R201, R269, R270): the rebuild of the next row of its column begins, in a block set taken on the new die; its
program asks for the die queue when the unit is ready. [DESIGN CHOICE, safe: log 88] -/
def State.rebuildRow (s : State) (m set row : Nat) : State :=
  if (s.member m).st ≠ .rebuilding ∨ s.md.rebuildQueue.head? ≠ some m then s
  else match s.setPlace set with
    | none => s
    | some (col, sets) =>
      if s.rebuildNext m col ≠ some (set, row) then s
      else
        let pos := s.posOf m
        let d := s.posDie col pos
        let fresh := !((s.member m).rebuilt.any fun e => e.1 == set) && !(s.md.rebuildStarted.any fun e => e.1 == set)
        if !fresh then s.rebuildUnit m set row col
        else match (s.setsOf d).find? (s.setFree d) with
          | none => s
          | some b =>
            let sets' := (List.range s.memberCount).map fun i => if i = pos then b else sets.getD i 0xFFFF
            (s.placeSet set col sets' (mapHas s.md.reloc set)).rebuildUnit m set row col

def execRebuildRow (m set row : Nat) (s : State) : Host.Outcome State Fault Refusal :=
  effect s fun s => s.rebuildRow m set row

/-- The zones and reclaim units that had no row to rebuild take a block set on a member's new dies, in place of the one on the failed
module or of none (R269, R270). -/
def State.takeNew (s : State) (m : Nat) : State :=
  let pos := s.posOf m
  let old := ((s.nv.zones.filter fun e => e.2.column.isSome).map (·.1) ++ s.nv.rus.map fun e => ruKey e.1).filter fun k => s.namesOld k pos
  s.each old fun s set => match s.setPlace set with
    | some (col, sets) =>
      let d := s.posDie col pos
      let b := (if (s.die d).failed then none else (s.setsOf d).find? (s.setFree d)).getD 0xFFFF
      let s := s.placeSet set col ((List.range s.memberCount).map fun i => if i = pos then b else sets.getD i 0xFFFF) (mapHas s.md.reloc set)
      s.modMember m fun x => { x with rebuilt := x.rebuilt ++ [(set, 0)] }
    | none => s

/-- REBUILD_COMPLETE (R197, R270): only when every row with a unit at its position has that unit; the member is IN_SERVICE, EV0837,
its columns return to service, its predictors stay cold from now on for their 64 meridians, and the next member's rebuild
starts. [DESIGN CHOICE, unsafe: log 72] -/
def State.rebuilt (s : State) (m : Nat) : State :=
  if (s.member m).st ≠ .rebuilding ∨ s.md.rebuildQueue.head? ≠ some m then s
  else if !(s.rebuildRows (s.posOf m)).isEmpty then s
  else
    let s := ((s.takeNew m).modMember m fun x => { x with st := .inService, cause := 0 }).event 837 [m]
    let s := s.updMd fun x => { x with
      memberSince := mapSet x.memberSince m x.meridians
      columnOut := x.columnOut.filter fun c => s.members.any fun k => (s.die (columnDie k c)).failed }
    let s := s.each (s.allDies.filter fun d => dieMember d == m) State.spareUpdate
    s.consUpdate.leaveQueue m

def execRebuildComplete (m : Nat) (s : State) : Host.Outcome State Fault Refusal := effect s fun s => s.rebuilt m

/-! ### Resync (R259 to R261) -/

/-- Codewords of a row position are written anew as patches, a granule slot at a time (R253). -/
def State.patchWords (s : State) (set row pos mask : Nat) : State :=
  match s.setPlace set, s.setCons set with
  | some (col, _), some cons =>
    let n := s.granule4k
    let parts := ((List.range ((s.unit4k col + n - 1) / n)).map fun i => Nat.land mask (maskFrom (i * n) n)).filter (· ≠ 0)
    s.each parts fun s part => match s.patchSlot cons col with
      | some (slot, s) =>
        (s.modNv fun v => { v with rowx := dropPatched v.rowx set row pos part }).addRowx [⟨set, row, pos, part, .patch slot⟩]
      | none => s
  | _, _ => s

/-- The parity unit of a row is written anew (R260). -/
def State.parityPatch (s : State) (set row : Nat) : State :=
  let col := ((s.setPlace set).map (·.1)).getD 0
  s.patchWords set row (s.parityPos col row) (s.unitMask col)

/-- What a resync finds in a row (Table RED-2): 0 no unit programmed, 1 parity unprogrammed, 2 a torn unit, 3 parity equal,
4 parity unreadable or unequal. `pos` is the position of a torn unit, whose blocks are voided (R156). -/
def State.resyncRow (s : State) (set row found pos : Nat) : State :=
  let col := ((s.setPlace set).map (·.1)).getD 0
  if found = 1 then s.modRow set row fun x => { x with openRow := true }
  else if found = 2 then
    let l := s.rangesAt set row pos (s.unitMask col)
    let s := (s.addRowx [⟨set, row, pos, s.unitMask col, .excluded⟩]).event 849 [set, row, pos]
    let s := s.modRow set row fun x => { x with openRow := true }
    s.each l fun s r => match s.ns? r.1 with
      | some y => if y.zoned then s.voidRange r.1 (r.2.1 / s.zoneLbas y) (r.2.1 % s.zoneLbas y) r.2.2 else s
      | none => s
  else if found = 3 then s.modRow set row fun x => { x with parity := true, openRow := false }
  else if found = 4 then
    ((s.parityPatch set row).modRow set row fun x => { x with parity := true, openRow := false }).event 850 [set, row]
  else s

/-- RESYNC_REGION (R259, R261): a region's rows are resynchronised, each as (row key, 8 × position + finding); with the last
region the resync is complete, EV0843. -/
def State.resyncRegion (s : State) (region : Nat) (rows : List (Nat × Nat)) : State :=
  if !s.md.resyncLeft.contains region then s
  else
    let s := s.each rows fun s r => s.resyncRow (r.1 / 4294967296) (r.1 % 4294967296) (r.2 % 8) (r.2 / 8)
    let waits := s.md.job.filter fun e => s.rowUnsynced e.2.set e.2.row
    let s := s.updMd fun m => { m with resyncLeft := m.resyncLeft.filter (· ≠ region) }
    let s := s.each (waits.filter fun e => !s.rowUnsynced e.2.set e.2.row) fun s e => s.sendJob e.1 e.2
    if s.md.resyncLeft.isEmpty then (s.updMd fun m => { m with resyncFull := false }).event 843 else s

def execResyncRegion (region : Nat) (rows : List (Nat × Nat)) (s : State) : Host.Outcome State Fault Refusal :=
  effect s fun s => s.resyncRegion region rows

end Sys2Proof.Machine
end

