-- ==== Sys2Proof/Machine/Keys.lean ====
section
/-! DEFINITION. The key store: slots, bindings, usage limits and the alarm (spec/12_cipher_keys.md). -/

namespace Sys2Proof.Machine

/-! ### Slots (R312, R315, R339) -/

/-- Is an owner active: a tenant slot that is not INACTIVE, or the PF of a link? -/
def State.ownerActive (s : State) (owner : Nat) : Bool := s.present owner

/-- Are kind and owner right for the pool of a slot (Table KEY-1), within the limit of R339? -/
def State.keyFits (s : State) (k : Nat) (kind : KeyKind) (owner : Nat) : Bool :=
  if s.systemSlot k then decide (kind = .xts) && owner == systemOwner
  else (decide (kind = .gcm) || decide (kind = .cipher)) &&
    (isTenant owner || (decide (0x1000 ≤ owner) && s.hasLink (owner - 0x1000))) &&
    (decide (s.keysOwned owner < 1024) || decide ((s.keySlot? k).map (·.owner) = some owner))

/-- A key enters a slot (Table KEY-2): LOADED, COUNT 0; EV0965. A bound slot's wrapped key goes into the journal with its count mark
(R322, R326). [DEDUCED, unsafe: log 70] -/
def State.putKey (s : State) (k : Nat) (kind : KeyKind) (owner key : Nat) : State :=
  let s := s.updKey fun x => { x with slots := mapSet x.slots k ⟨false, kind, owner, key, 0⟩ }
  let s := if (s.boundTo k).isEmpty then s else s.modNv fun v => { v with keys := mapSet v.keys k (key, 65536) }
  s.event 965 [k]

/-- A key from the DRBG (R318): a free value; the DRBG is reseeded after every 1,024 keys. [DESIGN CHOICE, safe: log 5] -/
def State.drbgKey (s : State) : Nat × State :=
  (s.fresh, s.nextFree.updKey fun x => { x with sinceReseed := (x.sinceReseed + 1) % 1024 })

/-! ### Destroying a namespace's data (R321) -/

/-- The commands of a namespace that are in flight: its I/O commands, Serve apart, whose NSID is ignored (R291), and whatever has ranges,
reads or waits in it. -/
def State.commandsOn (s : State) (nsid : Nat) : List CmdRef :=
  let c := (s.q.cmds.filter fun e => e.2.nsid == nsid && e.2.ref.sqid != 0 && e.2.opcode != 0x95 && s.runs e.2.ref).map (·.2.ref)
  let w := (s.wp.wr.filter fun e => e.2.nsid == nsid && decide (e.2.completed = none)).map (·.2.ref)
  let r := (s.md.reads.filter fun e => e.2.nsid == nsid).map (·.2.ref)
  let z := (s.zone.resets.filter fun e => e.2.nsid == nsid).map (·.2.ref)
  let o := (s.zone.openWaits.filter fun e => e.1 / 4294967296 == nsid).map (·.2)
  (c ++ w ++ r ++ z ++ o).eraseDups

/-- Commands of a namespace end with a status, and no longer wait for anything. -/
def State.endThese (s : State) (nsid : Nat) (l : List CmdRef) (st : Status) : State :=
  let s := s.updWp fun w => { w with flushes := w.flushes.filter fun e => !(l.any fun r => cmdKey r == e.1) }
  let s := s.updMd fun m => { m with reads := m.reads.filter fun e => e.2.nsid != nsid }
  let s := s.updZone fun z => { z with
    resets := z.resets.filter fun e => e.2.nsid != nsid
    openWaits := z.openWaits.filter fun e => e.1 / 4294967296 != nsid }
  let s := s.updJr fun j => { j with waiting := j.waiting.filter fun e => !l.contains e.2 }
  let s := s.updPair fun p => { p with forwards := p.forwards.filter fun e => !l.contains e.2.1 }
  s.each l fun s r => s.endRead r st []

/-- The commands in flight to a namespace end with a status; nothing of them is committed. [DEDUCED, unsafe: log 79] -/
def State.endCommands (s : State) (nsid : Nat) (st : Status) : State :=
  let l := s.commandsOn nsid
  let s := s.updWp fun w => { w with
    wr := w.wr.filter fun e => !(e.2.nsid == nsid && decide (e.2.completed = none)) }
  s.endThese nsid l st

/-- The data of a namespace is destroyed (R321): every zone EMPTY, every map entry unmapped, buffered data dropped, cached
blocks invalidated; what was in flight ends with Namespace Not Ready. -/
def State.discardNs (s : State) (nsid : Nat) : State :=
  match s.ns? nsid with
  | none => s
  | some n =>
    let s := s.endCommands nsid .namespaceNotReady
    let s := s.updWp fun w => { w with wr := w.wr.filter fun e => e.2.nsid != nsid }
    let s := s.each ((s.zonesOf nsid).map (·.1)) fun s z =>
      let x := s.zoneAt nsid z
      let s := match x.column with
        | some c => s.releaseSets c x.sets
        | none => s
      s.clearZone nsid z n
    let s := s.modNv fun v => { v with
      map := v.map.filter fun e => e.1 / 2 ^ 40 != nsid
      content := v.content.filter fun e => e.1 / 2 ^ 64 != nsid
      rus := mapAll v.rus fun _ u => if (u.held.map (·.1)) = some nsid then { u with held := none } else u }
    (s.updJr fun j => { j with copies := j.copies.filter fun e => e.1 / 2 ^ 40 ≠ nsid }).hotDropNs nsid

/-- The namespaces bound to a slot lose their data, and the request waits for the batch (R321): one of KEY_SLOT_CTRL with
BUSY = 1. -/
def State.forcedChange (s : State) (k : Nat) (ref : Option CmdRef) : State :=
  let s := s.each (s.boundTo k) State.discardNs
  (s.when ref.isNone fun s => s.set Reg.KEY_SLOT_STATUS_BUSY true).updKey fun x =>
    { x with waits := x.waits ++ [⟨s.jr.openNo, k, ref⟩] }

/-! ### KEY_SLOT_CTRL (R315 to R321) -/

/-- Write the RESULT of a request. -/
def State.keyResult (s : State) (k r : Nat) : State := (s.wr Reg.KEY_SLOT_STATUS_RESULT r).wr Reg.KEY_SLOT_STATUS_SLOT k

/-- The checks of a LOAD or GENERATE in the order 4, 3, 5, 2 (log entry 31): the RESULT, 0 where none fails. [DEDUCED, unsafe: log
31] -/
def State.keyChecks (s : State) (k kind owner : Nat) (force load : Bool) : Nat :=
  if s.key.wiped || (load && s.key.kek.isNone) then 4
  else if s.keyFits k (.ofCode kind) owner = false then 3
  else if isTenant owner && !s.ownerActive owner then 5
  else if !(s.boundTo k).isEmpty && !force then 2
  else 0

/-- KEY_WRAP is zeroed (R317). -/
def State.zeroWrap (s : State) : State := (List.range 18).foldl (fun s i => s.wr (Reg.KEY_WRAP_DATA.at i) 0) s

/-- The accepted key of a request: into the slot, with the forced change of a bound one. -/
def State.keyAccepted (s : State) (k kind owner key : Nat) : State :=
  let bound := !(s.boundTo k).isEmpty
  let s := (s.putKey k (.ofCode kind) owner key).keyResult k 0
  if bound then s.forcedChange k none else s

/-- The KIND of a request: the reserved 0 leaves the kind written before in force (R9). -/
def State.keyKind (s : State) (kind : Nat) : Nat := if kind % 4 = 0 then s.rd Reg.KEY_SLOT_CTRL_KIND else kind % 4

/-- KEY_LOAD (R317): ignored while BUSY; the wrapping is 10 dwords, or 18 for an XTS key. [DEDUCED, unsafe: log 31] -/
def State.keyLoad (s : State) (kind owner : Nat) (force : Bool) : State :=
  if s.on Reg.KEY_SLOT_STATUS_BUSY then s
  else
    let k := s.rd Reg.KEY_SLOT_SEL_SLOT
    let kind := s.keyKind kind
    let s := s.wr Reg.KEY_SLOT_CTRL_KIND kind
    let words := (List.range (if kind = 1 then 18 else 10)).map fun i => s.rd (Reg.KEY_WRAP_DATA.at i)
    let r := s.keyChecks k kind owner force true
    let s := s.zeroWrap
    if r ≠ 0 then s.keyResult k r
    else match Config.unwrap (s.key.kek.getD 0) words with
      | none => ((s.keyResult k 1).bump Reg.KEY_USE_STAT_UNWRAP_FAILS).event 964 [k]
      | some key => s.keyAccepted k kind owner key

def execKeyLoad (kind owner : Nat) (force : Bool) (s : State) : Host.Outcome State Fault Refusal :=
  effect s fun s => s.keyLoad kind owner force

/-- KEY_GENERATE (R318). [DEDUCED, unsafe: log 31] -/
def State.keyGenerate (s : State) (kind owner : Nat) (force : Bool) : State :=
  if s.on Reg.KEY_SLOT_STATUS_BUSY then s
  else
    let k := s.rd Reg.KEY_SLOT_SEL_SLOT
    let kind := s.keyKind kind
    let s := s.wr Reg.KEY_SLOT_CTRL_KIND kind
    let r := s.keyChecks k kind owner force false
    if r ≠ 0 then s.keyResult k r
    else
      let g := s.drbgKey
      g.2.keyAccepted k kind owner g.1

def execKeyGenerate (kind owner : Nat) (force : Bool) (s : State) : Host.Outcome State Fault Refusal :=
  effect s fun s => s.keyGenerate kind owner force

/-- A slot becomes EMPTY (Table KEY-2): EV0966 where it was not. -/
def State.clearKey (s : State) (k : Nat) : State :=
  if (s.keySlot? k).isNone then s
  else (s.updKey fun x => { x with slots := mapErase x.slots k }).event 966 [k]

/-- KEY_CLEAR (R315, R321): a bound slot is refused with RESULT 2. -/
def State.keyClear (s : State) : State :=
  if s.on Reg.KEY_SLOT_STATUS_BUSY then s
  else
    let k := s.rd Reg.KEY_SLOT_SEL_SLOT
    if s.key.wiped then s.keyResult k 4
    else if !(s.boundTo k).isEmpty then s.keyResult k 2
    else (s.clearKey k).keyResult k 0

def execKeyClear (s : State) : Host.Outcome State Fault Refusal := effect s fun s => s.keyClear

/-- When a tenant slot becomes inactive, every key slot it owns is cleared (R315). -/
def State.clearOwnerKeys (s : State) (owner : Nat) : State :=
  s.each ((s.key.slots.filter fun e => e.2.owner == owner).map (·.1)) State.clearKey

/-! ### Bindings (R319, R320) -/

/-- The lowest-numbered EMPTY system slot (R319); after an alarm every slot is WIPED (R328). -/
def State.emptySystemSlot (s : State) : Option Nat :=
  if s.key.wiped then none else ((List.range 8192).drop s.chart.cur.keys.tenantSlots).find? fun k => (s.keySlot? k).isNone

/-- Does a namespace hold no data: every zone EMPTY, no entry mapped (R320)? -/
def State.nsEmpty (s : State) (nsid : Nat) : Bool :=
  ((s.zonesOf nsid).all fun e => decide (e.2.st = .empty)) && !(mapAny s.nv.map fun k _ => k / 2 ^ 40 == nsid)

/-- Bind a namespace to a slot, which invalidates its cached blocks (R138); a slot without any binding left keeps its key. -/
def State.bindNs (s : State) (nsid k : Nat) : State :=
  let s := (s.modNs nsid fun n => { n with keySlot := some k }).hotDropNs nsid
  match s.keySlot? k with
  | some x => s.modNv fun v => { v with keys := mapSet v.keys k (x.key, max (((mapGet? v.keys k).map (·.2)).getD 0) (x.count + 65536)) }
  | none => s

/-- KEY_NS_BIND (R320): RESULT 4 alarm, 3 no such namespace, 2 slot not a LOADED system XTS slot, 1 namespace holds data;
EV0967. -/
def State.nsBind (s : State) (k : Nat) : State :=
  let nsid := s.rd Reg.ZONE_NS_SEL_NSID
  let res := fun (s : State) (r : Nat) => s.wr Reg.KEY_NS_BIND_RESULT r
  if s.key.wiped then res s 4
  else if (s.ns? nsid).isNone then res s 3
  else
    let good := s.systemSlot k && (match s.keySlot? k with
      | some x => !x.spent && decide (x.kind = .xts)
      | none => false)
    if !good then res s 2
    else if s.nsEmpty nsid = false then res s 1
    else res ((s.bindNs nsid k).event 967 [nsid, k]) 0

def execKeyNsBind (slot : Nat) (s : State) : Host.Outcome State Fault Refusal :=
  effect s fun s => s.nsBind (slot % 8192)

/-! ### Limits (R327) -/

/-- The value that a limit register holds: for GCM the limit less 1. -/
def State.limitNow (s : State) : KeyLimit → Nat
  | .gcm => s.rd Reg.KEY_LIMIT_GCM_GCM_M1
  | .xts => s.keyLimit .xts
  | .ctr => s.keyLimit .cipher

/-- The range of a limit register (Table CHT-6). [DEDUCED, unsafe: log 149] -/
def limitRange : KeyLimit → Nat × Nat
  | .gcm => (0, 2 ^ 32 - 1)
  | .xts => (2 ^ 20, 2 ^ 40)
  | .ctr => (2 ^ 30, 2 ^ 50)

/-- Write a limit register. -/
def State.putLimit (s : State) (l : KeyLimit) (v : Nat) : State :=
  match l with
  | .gcm => s.wr Reg.KEY_LIMIT_GCM_GCM_M1 v
  | .xts => (s.wr Reg.KEY_LIMIT_XTS_LO_DU v).wr Reg.KEY_LIMIT_XTS_HI_DU (v / 4294967296)
  | .ctr => (s.wr Reg.KEY_LIMIT_CTR_LO_BYTES v).wr Reg.KEY_LIMIT_CTR_HI_BYTES (v / 4294967296)

/-- KEY_LIMIT_WRITE (R38, R327): a lower limit applies to later reservations, EV0969; a raise, or a value outside the range of Table
CHT-6, is ignored with EV0013. [DEDUCED, unsafe: log 149] -/
def State.limitLower (s : State) (l : KeyLimit) (v : Nat) : State :=
  if v = s.limitNow l then s
  else if s.limitNow l < v ∨ v < (limitRange l).1 ∨ (limitRange l).2 < v then s.event 13 [v]
  else (s.putLimit l v).event 969 [v]

def execKeyLimitWrite (which : KeyLimit) (value : Nat) (s : State) : Host.Outcome State Fault Refusal :=
  effect s fun s => s.limitLower which value

/-! ### Alarms (R328, R329, R496) -/

/-- ALARM (R328): every slot is WIPED, the KEK and the DRBG are gone, the cause is set in KEY_ALARM and recorded; I/O in flight ends
with Namespace Not Ready (R329). [DEDUCED, unsafe: log 179] -/
def State.alarm (s : State) (f : Field) (ev : Nat) : State :=
  let s := s.each (s.key.waits.filterMap (·.ref)) fun s r => s.finish r .internalError
  let s := s.updKey fun x => { x with slots := [], wiped := true, kek := none, waits := [], sinceReseed := 0 }
  let s := (s.set Reg.KEY_STATUS_ALARM true).set Reg.KEY_STATUS_KEK_READY false
  let s := (((s.set Reg.KEY_ALARM_VALID true).set f true).set Reg.KEY_SLOT_STATUS_BUSY false).event ev
  s.each (s.nv.ns.map (·.1)) fun s nsid =>
    let conv := s.dropWrite fun w => w.nsid == nsid && decide (w.completed = none) && (!w.got || s.runs w.ref)
    conv.endThese nsid (s.commandsOn nsid) .namespaceNotReady

/-- GLITCH_DETECTOR_TRIP (R328, R496): a detector acts once it is armed. [DESIGN CHOICE, unsafe: log 114] -/
def execGlitchDetectorTrip (kind : Glitch) (s : State) : Host.Outcome State Fault Refusal :=
  effect s fun s =>
    if s.boot.detectorsArmed = false then s
    else match kind with
      | .voltage => s.alarm Reg.KEY_ALARM_VOLTAGE 960
      | .clock => s.alarm Reg.KEY_ALARM_CLOCK 960
      | .temperature => s.alarm Reg.KEY_ALARM_TEMP 960

/-- TAMPER (R328). -/
def execTamper (s : State) : Host.Outcome State Fault Refusal :=
  effect s fun s => (s.updBoot fun b => { b with pins := { b.pins with tamperN := false } }).alarm Reg.KEY_ALARM_TAMPER 962

end Sys2Proof.Machine
end

