-- ==== Sys2Proof/Machine/Meridian.lean ====
section
/-! DEFINITION. What a meridian does: the period's end in the clock, and every change that takes effect at a meridian
(R17, R18, R57 to R59, R507; R111, R149, R173, R176, R178, R192, R197, R199, R393). -/

namespace Sys2Proof.Machine

/-- The period in progress ends: one that a step stretched or shortened records EV0074 with its length (R58). [DESIGN CHOICE,
unsafe: log 155] -/
def State.periodEnd (s : State) : State :=
  let t := s.time
  let s := if t.curStretched then s.event 74 [(t.sid : Int) - t.periodStart] else s
  s.updTime fun x => { x with periodStart := t.sid, curStretched := t.nextStretched, nextStretched := false }

/-- The sequence number advances by one, and the next meridian is due one interval later (R17, R57). -/
def State.advanceMseq (s : State) : State :=
  s.updTime fun t => { t with
    mseq := (t.mseq + 1) % 2 ^ 64, nextMeridian := t.nextMeridian + t.interval }

/-! ### Weights and shares (R105, R111, R199) -/

/-- The quantum that QENG_DRR_QUANTUM asks for applies. -/
def State.applyQuantum (s : State) : State := s.updQ fun q => { q with quantum := s.rd Reg.QENG_DRR_QUANTUM_UNITS }

/-- A written weight takes effect: the deficit is clipped to the new cap, EV0169 (R111). -/
def State.applyWeight (s : State) (owner w : Nat) : State :=
  if w = s.weightNow owner then s
  else
    let s := s.updQ fun q => { q with
      applied := mapSet q.applied owner w
      deficit := mapMod q.deficit owner fun d => min d ((2 * w * q.quantum : Nat) : Int) }
    s.event 169 [owner, w]

def State.applyWeights (s : State) : State := s.each s.q.pendingWeight fun s e => s.applyWeight e.1 e.2

/-- The eight pending class shares (DSCH_SHARE_C01 to C67). -/
def State.pendingShares (s : State) : List Nat :=
  [s.rd Reg.DSCH_SHARE_C01_CX, s.rd Reg.DSCH_SHARE_C01_CY, s.rd Reg.DSCH_SHARE_C23_CX, s.rd Reg.DSCH_SHARE_C23_CY,
   s.rd Reg.DSCH_SHARE_C45_CX, s.rd Reg.DSCH_SHARE_C45_CY, s.rd Reg.DSCH_SHARE_C67_CX, s.rd Reg.DSCH_SHARE_C67_CY]

/-- Write the pending class shares. -/
def State.putShares (s : State) (l : List Nat) : State :=
  let s := ((s.wr Reg.DSCH_SHARE_C01_CX (l.getD 0 0)).wr Reg.DSCH_SHARE_C01_CY (l.getD 1 0)).wr Reg.DSCH_SHARE_C23_CX (l.getD 2 0)
  let s := ((s.wr Reg.DSCH_SHARE_C23_CY (l.getD 3 0)).wr Reg.DSCH_SHARE_C45_CX (l.getD 4 0)).wr Reg.DSCH_SHARE_C45_CY (l.getD 5 0)
  (s.wr Reg.DSCH_SHARE_C67_CX (l.getD 6 0)).wr Reg.DSCH_SHARE_C67_CY (l.getD 7 0)

/-- CLASS_SHARE_APPLY (R199): checked and applied with EV0056, or restored with RESULT 1 or 2 and EV0057. -/
def State.applyShares (s : State) : State :=
  if s.on Reg.DSCH_SHARE_CTRL_PENDING = false then s
  else
    let s := s.set Reg.DSCH_SHARE_CTRL_PENDING false
    let l := s.pendingShares
    let r := if l.sum + s.chart.cur.budget.reserve ≠ 1000 then 1 else if l.getD 7 0 < 10 then 2 else 0
    let s := s.wr Reg.DSCH_SHARE_CTRL_RESULT r
    if r = 0 then (s.updMd fun m => { m with shares := l }).event 56 else (s.putShares s.md.shares).event 57 [r]

/-! ### Modes (R192) -/

/-- A written mode takes effect (R192): to open, the writer slots are lifted and COMPLIANT reads 0; to stagger,
COMPLIANT follows once each column has one writer. EV0058. -/
def State.applyMode (s : State) (k : Nat) : State :=
  let stagger := s.rd (Reg.DSCH_CONS_MODE_MODE.at k) == 1
  if stagger = mapGet s.md.mode k false then s
  else
    let s := s.updMd fun m => { m with
      mode := mapSet m.mode k stagger
      compliant := m.compliant.filter (· ≠ k)
      slot := if stagger then m.slot else m.slot.filter fun e => e.1 / 256 ≠ k
      slotWait := if stagger then m.slotWait else m.slotWait.filter fun e => e.1 / 256 ≠ k }
    s.event 58 [k]

def State.applyModes (s : State) : State :=
  (s.each (List.range s.chart.cur.cons.length) State.applyMode).complianceUpdate

/-! ### Tokens (R173, R176, R178) -/

/-- A balance at a meridian: debt carries, and the grant is added (R173). -/
def refreshed (bal : Int) (grant : Nat) : Int := min bal 0 + grant

/-- Every die's class and reserve balances are refreshed; throttling never scales the reserve grant (R173). [DESIGN CHOICE, unsafe:
log 87] -/
def State.refreshTokens (s : State) : State :=
  let reserve := s.chart.cur.budget.meridianUs * s.chart.cur.budget.reserve * 256 / 1000
  let g := fun x => if x = 8 then reserve else s.grantOf x
  s.each s.allDies fun s d =>
    s.modDie d fun e => { e with
      tokens := (List.range 9).foldl (fun m x => mapPut m x (refreshed (mapGet m x 0) (g x)) 0) e.tokens }

/-- The owners attached to a namespace of a constellation with a weight above 0 (R176). -/
def State.ledgerOwners (s : State) (k : Nat) : List Nat :=
  let on := (s.nv.ns.filter fun e => e.2.cons == k).map (·.1)
  ((s.nv.attach.filter fun e => on.contains (e.1 % 4294967296)).map fun e => e.1 / 4294967296).eraseDups.filter
    fun o => decide (0 < s.weightNow o)

/-- The dies of a constellation. -/
def State.consDies (s : State) (k : Nat) : List Nat := s.allDies.filter fun d => s.consOfColumn (columnOf d) = some k

/-- The exact sum of the C0 to C2 grants over the dies of a constellation, in 1/100,000 die-µs (R176). -/
def State.consGrant (s : State) (k : Nat) : Nat :=
  (s.consDies k).length * s.chart.cur.budget.meridianUs * (s.md.shares.getD 0 0 + s.md.shares.getD 1 0 + s.md.shares.getD 2 0) *
    s.md.throttle

/-- The ledgers of a constellation: created, removed and granted by weight, rounded down to whole die-µs (R176). [DEDUCED, unsafe:
log 41] -/
def State.consLedgers (s : State) (k : Nat) : State :=
  let os := s.ledgerOwners k
  let w := (os.map s.weightNow).sum
  let g := fun o => s.consGrant k * s.weightNow o / (max w 1 * 100000) * 256
  let others := s.md.ledger.filter fun e => e.1 % 256 ≠ k
  let mine := os.map fun o =>
    let l := s.ledger o k
    (ledgerKey o k, { l with exists_ := true, grant := g o, bal := refreshed l.bal (g o) })
  s.updMd fun m => { m with ledger := mine.foldl (fun t e => mapSet t e.1 e.2) others }

def State.refreshLedgers (s : State) : State := s.each (List.range s.chart.cur.cons.length) State.consLedgers

/-- Is an operation of a class held on a die: it waits and fails a check, or waits for its column's slot or for its region's mark (R175,
R190, R257)? -/
def State.classHeld (s : State) (d x : Nat) : Bool :=
  (s.die d).queue.any fun o => o.cls == x && (!((s.drawOn d o).isSome && (s.ledgerPass d o).1 && s.regionMarked d o) ||
    (match s.consOfColumn (columnOf d) with
      | some k => (mapGet s.md.slotWait (slotKey k (columnOf d)) []).contains (opCode o)
      | none => false))

/-- Does LEND_MATRIX let class `l` lend to class `b` (R178)? -/
def State.mayLend (s : State) (l b : Nat) : Bool := bit s.chart.cur.budget.lend (8 * l + b)

/-- LEND (R178) on one die: `old` holds the balances before the refresh and whether each class had no held operation. Lenders act in
class order, and a later one sees what earlier ones lent. [DESIGN CHOICE, unsafe: log 211] -/
def State.lendDie (s : State) (d : Nat) (old : List (Int × Bool)) : State :=
  s.each (List.range 8) fun s l =>
    let o := old.getD l (0, false)
    if o.1 ≤ 0 ∨ o.2 = false then s
    else match (List.range 8).find? fun b => s.mayLend l b && (s.classHeld d b || decide (s.tok d b < 0)) with
      | none => s
      | some b =>
        let room := max ((s.grantOf b : Int) - s.tok d b) 0
        (s.addTok d b (min o.1 room)).bump (Reg.DSCH_CH_STAT2_LENDS.at (dieCh d))

/-- TOKEN_REFRESH and LEND (R173, R178). -/
def State.tokenRefresh (s : State) : State :=
  let old := s.allDies.map fun d => (d, (List.range 8).map fun x => (s.tok d x, !s.classHeld d x))
  let s := (s.updMd fun m => { m with throttle := s.throttle, occSpent := [] }).refreshTokens.refreshLedgers
  s.each old fun s e => s.lendDie e.1 e.2

/-- Full grants from zero balances, as at a seal (R507). -/
def State.fullGrants (s : State) : State :=
  let s := s.updMd fun m => { m with
    throttle := s.throttle, occSpent := [], ledger := [], die := mapAll m.die fun _ d => { d with tokens := [] } }
  s.refreshTokens.refreshLedgers

/-- PREDICTOR_WARM (R197): EV0060 at the 64th meridian after the seal. -/
def State.predictorMeridian (s : State) : State :=
  let s := s.updMd fun m => { m with meridians := m.meridians + 1 }
  if s.md.meridians = 64 then s.event 60 else s

/-! ### The pair's homes (R393) -/

/-- HOME_CHANGE_APPLY (R393): the confirmed changes of one PAIR_HOME register take effect, with EV1101. [DESIGN CHOICE, unsafe: log
84] -/
def State.applyHome (s : State) (j want : Nat) : State :=
  let now := s.rd (Reg.PAIR_HOME_SIDE_B.at j)
  let ready := (List.range 32).filter fun b => bit now b != bit want b && s.pair.homeOk.contains (32 * j + b)
  let new := ready.foldl (fun v b => if bit want b then v + 2 ^ b else v - 2 ^ b) now
  let s := s.wr (Reg.PAIR_HOME_SIDE_B.at j) new
  let s := s.updPair fun p => { p with
    homeOk := p.homeOk.filter fun k => !(ready.any fun b => 32 * j + b == k)
    homeWant := if new = want then mapErase p.homeWant j else p.homeWant }
  s.each ready fun s b => s.event 1101 [32 * j + b]

def State.applyHomes (s : State) : State := s.withAna fun s => s.each s.pair.homeWant fun s e => s.applyHome e.1 e.2

/-! ### Reclaim units with nothing valid left (R134, R154; log entry 32) -/

/-- Does a reclaim unit hold a mapped granule? -/
def State.unitValid (s : State) (i : Nat) : Bool :=
  s.nv.map.any fun e => s.nsCons (e.1 / 2 ^ 40) == some (i / 4294967296) && s.unitOf (i / 4294967296) e.2 == i

/-- Does a patch unit hold codewords that a row exception names (R253)? -/
def State.patchUsed (s : State) (i : Nat) (u : Ru) : Bool :=
  u.patch && s.nv.rowx.any fun e => match e.kind with
    | .patch slot => s.setCons e.set == some u.cons && s.unitOf u.cons slot == i
    | _ => false

/-- Is a reclaim unit a source or a destination of a relocation? -/
def State.unitMoving (s : State) (i : Nat) (u : Ru) : Bool :=
  u.relocating || mapAny s.md.reloc fun k r => k == ruKey i || (decide (2 ^ 60 ≤ k) && r.dest == i && r.switched.isNone)

/-- An unheld unit with no valid granule gives up its block sets; one that a secure deallocation waits for is emptied first. [DESIGN
CHOICE, unsafe: log 32] -/
def State.sweepUnit (s : State) (i : Nat) (u : Ru) : State :=
  let secure := (s.unitKeys u).any s.zone.secureSets.contains
  let busy := s.wp.wr.any fun e => s.nsCons e.2.nsid == some u.cons && e.2.ru.any fun g => s.unitOf u.cons g.2 == i
  if busy || s.unitMoving i u then s
  else
    let s := if secure && u.held.isSome then s.releaseUnit i u else s
    if u.held.isSome && !secure then s
    else if s.unitValid i || s.patchUsed i u then (if secure then s.startRelocs (ruKey i) 1 else s)
    else if u.patch && !secure && decide (u.taken < s.ruGranules) then s
    else
      let s := (s.releaseSets u.column u.sets).forgetSet (ruKey i)
      s.modNv fun v => { v with rus := mapErase v.rus i }

/-- Reclaim units without a valid granule give up their block sets. [DESIGN CHOICE, unsafe: log 32] -/
def State.sweepUnits (s : State) : State := s.each s.nv.rus fun s e => s.sweepUnit e.1 e.2

/-- Buffered ranges of conventional namespaces that found no column to serve them take their slots once one can (R119, R128). -/
def State.placeWrites (s : State) : State :=
  s.each (s.wp.wr.filter fun e => e.2.zone.isNone && e.2.got && !e.2.rmw && e.2.ru.isEmpty && e.2.committed.isNone) fun s e =>
    match s.ns? e.2.nsid with
    | none => s
    | some n => match s.takeSlots e.2.nsid e.2.handle n (s.granulesOf n e.2.slba e.2.nlb) with
      | some (l, s) => { s with wp := { s.wp with wr := mapMod s.wp.wr e.1 fun w => { w with ru := l } } }
      | none => s

/-! ### Relocations that firmware starts, and the regions of the next rows (R225, R257) -/

/-- The refresh of a set starts where none is in progress on its constellation. -/
def State.startRefresh (s : State) (set : Nat) : State :=
  let cons := s.relocCons set
  if mapAny s.md.reloc fun k r => decide (r.why = 0) && r.switched.isNone && s.relocCons k == cons then s else s.startRelocs set 0

/-- The set of the row with the most row exceptions, while their table is 90 % full or more (R255). -/
def State.crowdedSet (s : State) : Option Nat :=
  let l := if s.nv.rowx.length < 943719 then [] else s.nv.rowx.map fun e =>
    (e.set, (s.nv.rowx.filter fun x => x.set == e.set && x.row == e.row).length)
  match l with
  | [] => none
  | x :: xs => some (xs.foldl (fun a b => if a.2 < b.2 then b else a) x).1

/-- Refreshes start in order of detection (R225), before them that of the row with the most exceptions (R255); the mark of a block
that no set holds any more goes. [DESIGN CHOICE, safe: log 202] -/
def State.startRefreshes (s : State) : State :=
  let s := s.updMd fun m => { m with refresh := m.refresh.filter fun b => (s.holderOf (b / 65536) (b % 65536)).isSome }
  let s := s.each s.crowdedSet.toList State.startRefresh
  s.each s.md.refresh fun s b => match s.holderOf (b / 65536) (b % 65536) with
    | some set => s.startRefresh set
    | none => s

/-- The sets of a constellation that hold block sets. -/
def State.setsUsed (s : State) (k : Nat) : Nat :=
  (mapCount s.nv.zones fun z x => x.column.isSome && decide (s.nsCons (z / 4294967296) = some k)) + mapCount s.nv.rus fun _ u => u.cons == k

/-- The unheld reclaim unit of a constellation with the fewest valid granules, one that is not all valid. -/
def State.emptiest (s : State) (k : Nat) : Option Nat :=
  let l := ((s.nv.rus.filter fun e => e.2.cons == k && e.2.held.isNone && !e.2.patch && !s.unitMoving e.1 e.2).map fun e =>
    (e.1, (s.validOf e.1).length)).filter fun e => decide (e.2 < s.ruGranules)
  match l with
  | [] => none
  | x :: xs => some (xs.foldl (fun a b => if b.2 < a.2 then b else a) x).1

/-- A constellation whose slots are all in use relocates a reclaim unit for free space, one at a time, while the device is not
read-only (R239) and after its refreshes (R225). [DESIGN CHOICE, safe: log 202] -/
def State.freeSpace (s : State) : State :=
  if s.nv.readOnly then s
  else s.each (List.range s.chart.cur.cons.length) fun s k =>
    if s.setsUsed k < s.consSlots k || s.refreshDue k || mapAny s.md.reloc fun x r => decide (r.why = 1) && s.relocCons x == some k then s
    else match s.emptiest k with
      | some i => s.startReloc (ruKey i) 1
      | none => s

/-- The next rows of a set (R257). [DESIGN CHOICE, safe: log 212] -/
def State.nextRows (s : State) (set : Nat) : List Nat :=
  match (s.rowsOf set).getLast? with
  | some r => [r, r + 1, r + 2]
  | none => [0, 1]

/-- The regions of some rows of block sets on a column. -/
def State.rowRegions (s : State) (col : Nat) (sets rows : List Nat) : List Nat :=
  ((List.range s.memberCount).map fun i =>
    let d := s.posDie col i
    let b := s.setBlocks d (sets.getD i 0xFFFF)
    let n := s.unitPages d b.length
    (b.map fun k => rows.map fun r => s.regionOf d k (r * n)).flatten).flatten

/-- The regions into which the next rows will fall are marked (R257): of every open zone, held reclaim unit, patch unit, relocation
destination, and of the rows that a rebuild takes. [DESIGN CHOICE, safe: log 212] -/
def State.markNext (s : State) : State :=
  let at_ := fun (set : Nat) (rows : List Nat) => match s.setPlace set with
    | some (c, b) => s.rowRegions c b rows
    | none => []
  let zones := (s.nv.zones.filter fun e => e.2.st.isOpen).map fun e => at_ e.1 (s.nextRows e.1)
  let units := (s.nv.rus.filter fun e => e.2.held.isSome || e.2.patch).map fun e => at_ (ruKey e.1) (s.nextRows (ruKey e.1))
  let moves := (s.md.reloc.filter fun e => e.2.switched.isNone).map fun e =>
    s.rowRegions e.2.column e.2.sets ((e.2.todo.map (·.1)).eraseDups.take 3)
  let built := s.md.rebuildStarted.map fun e => at_ e.1 [e.2]
  s.each ((zones ++ units ++ moves ++ built).flatten.eraseDups) State.markDirty

/-! ### The meridian -/

/-- Fetch of a tenant that resumed from an eclipse starts again (Table TEN-1). -/
def State.resumeTenants (s : State) : State :=
  s.updTen fun t => { t with slots := mapAll t.slots fun _ x => { x with resumeAtMeridian := false } }

/-- A secure operation that waits for room among the pending erases of a constellation is reported at every meridian of its wait (R136). -/
def State.secureWaiting (s : State) : State :=
  let l := s.zone.secureWaits.filterMap fun k => (mapGet? s.zone.resets k).bind fun w => s.nsCons w.nsid
  s.each l.eraseDups fun s c => s.eventPerMeridian 44 c [c]

/-- What a meridian does to the die schedulers and the journal of a sealed chart. While only drain operations issue, no die
time is divided (R180, R507), and a dusk drain closes no batch of its own. -/
def State.divide (s : State) : State :=
  let s := s.applyQuantum.applyWeights.applyShares.applyModes
  let s := if s.draining then s else s.tokenRefresh
  let s := s.predictorMeridian.applyHomes
  if decide (s.wp.dusk = .idle) && s.charted && s.boot.stepsDone.contains 5 then 
    s.startRefreshes.freeSpace.sweepUnits.placeWrites.patchChecks.flushPatches.flushSend.duskErase.clearDirty.markNext.closeBatch
  else s

/-- A meridian fires (R57): the sequence number advances by one and every scheduler starts its period. -/
def State.meridian (s : State) : State := s.periodEnd.advanceMseq.divide.secureWaiting.resumeTenants

end Sys2Proof.Machine
end

