-- ==== Sys2Proof/Machine/Queue.lean ====
section
/-! DEFINITION. Doorbells, stamps, fetch and arbitration, completion interrupts, queue counts (spec/05). -/

namespace Sys2Proof.Machine

/-! ### Doorbells (R98 to R101) -/

/-- Doorbells of queue identifiers from this number on lie beyond the BAR (Table HST-2, R70). -/
def State.doorbellRange (s : State) (owner : Nat) : Nat :=
  if isTenant owner then
    let need := max 16384 (4096 + 8 * s.maxQueues)
    (2 ^ (Nat.log2 (need - 1) + 1) - 4096) / 8
  else (1048576 - 4096) / 8

/-- An invalid doorbell write (R99): it is discarded, counted, recorded in QENG_DB_ERR and as EV0160, and reported to the controller
as an Error event of the standard. [PRESUMED, unsafe: log 17] -/
def State.badDoorbell (s : State) (kind owner qid : Nat) : State :=
  let s := s.bump Reg.QENG_DB_COUNT_COUNT
  let s := s.firstError Reg.QENG_DB_ERR_VALID
    [(Reg.QENG_DB_ERR_KIND, kind), (Reg.QENG_DB_ERR_OWNER, owner), (Reg.QENG_DB_ERR_QID, qid)]
  (s.event 160 [owner, qid]).aen owner 0 (if kind = 1 ∨ kind = 2 then 1 else 0) 1

/-- The next `n` entries from the head on are fetched: a stamp whose entries end among them is spent, and B becomes A (R100). -/
def QCtx.dropStamps (c : QCtx) (n : Nat) : QCtx :=
  let spent (x : Option Stamp) : Bool := match x with
    | some st => decide ((st.tail + (c.sqSize + 1) - c.sqHead) % (c.sqSize + 1) ≤ n)
    | none => false
  if spent c.stampA then
    if spent c.stampB then { c with stampA := none, stampB := none } else { c with stampA := c.stampB, stampB := none }
  else c

/-- A valid doorbell takes an empty slot; when both are full it moves B's tail and keeps B's stamp (R100). -/
def QCtx.addStamp (c : QCtx) (tail time : Nat) : QCtx :=
  match c.stampA, c.stampB with
  | none, _ => { c with stampA := some { tail := tail, time := time, expired := false } }
  | some _, none => { c with stampB := some { tail := tail, time := time, expired := false } }
  | some _, some b => { c with stampB := some { b with tail := tail } }

/-- The stamp of now, in units of 64 ns (R100). -/
def State.stampNow (s : State) : Nat := s.time.sid / 64 * 64

/-- Is a new tail valid (R98)? -/
def QCtx.tailValid (c : QCtx) (t : Nat) : Bool :=
  decide (t ≤ c.sqSize) && decide (c.visible ≤ (t + (c.sqSize + 1) - c.sqHead) % (c.sqSize + 1))

/-- Is a new head valid (R98): does it lie between the old head and the tail in ring order? -/
def QCtx.headValid (c : QCtx) (h : Nat) : Bool :=
  decide (h ≤ c.cqSize) && decide ((h + (c.cqSize + 1) - c.cqHead) % (c.cqSize + 1) ≤ c.unfreed)

/-- Completions that wait for room in a completion queue. -/
def State.waitingOn (s : State) (owner cqid : Nat) : Nat :=
  mapCount s.q.cmds fun _ c => decide (c.ref.owner = owner) && decide ((s.qctx owner c.ref.sqid).sqCqid = cqid) &&
    (match c.phase with | .done _ _ _ => true | _ => false)

/-- A doorbell whose context is at hand; its stamp is that of its receipt (R100). -/
def State.doorbell (s : State) (owner qid : Nat) : CtxWait → State
  | .tail t time =>
    let c := s.qctx owner qid
    if c.tailValid t then s.modCtx owner qid fun c => ({ c.addStamp t time with sqTail := t }).dropStamps 0
    else s.badDoorbell 1 owner qid
  | .head h =>
    let c := s.qctx owner qid
    if c.headValid h then s.modCtx owner qid fun c => { c with cqHead := h } else s.badDoorbell 2 owner qid

/-- An access finds its context in the cache, or asks DRAM for it; each is counted (R92, Table QUE-7). [DEDUCED, unsafe: log 171] -/
def State.lookup (s : State) (k : Nat) : State :=
  if s.q.cached.contains k then s.bumpUnits Reg.QENG_CACHE_STAT_HITS 65536
  else (s.bumpUnits Reg.QENG_CACHE_STAT_MISSES 1024).updQ fun q => { q with
    fills := if q.fills.contains k then q.fills else q.fills ++ [k] }

/-- Is a slot that of an enabled VF, whether its controller is ACTIVE or not (R67, R68)? [DESIGN CHOICE, safe: log 184] -/
def State.isVf (s : State) (t : Nat) : Bool :=
  (List.range 8).any fun l => (s.link l).vfEnable && decide (s.firstSlot l ≤ t) &&
    decide (t < s.firstSlot l + min (s.link l).enabled (s.totalVfs l))

/-- A doorbell is checked against the function, the range and the queue, and then recorded; one whose context is not cached waits
for it (R92). [DEDUCED, unsafe: log 171] -/
def State.doorbellIn (s : State) (owner qid : Nat) (w : CtxWait) (exists_ : Bool) : State :=
  if !(s.present owner || (isTenant owner && s.isVf owner)) || (s.ctrl owner).flr || s.isFabric owner then s
  else
    let t := s.tenant owner
    if isTenant owner && decide (t.phase = .eclipsed) && t.recorded then s.bump (Reg.TEN_ECL_STATUS_LATE_DB.at owner)
    else if s.doorbellRange owner ≤ qid then s.badDoorbell 3 owner qid
    else if !exists_ then s.badDoorbell 0 owner qid
    else
      let s := s.powerExit 1
      let k := qKey owner qid
      if s.q.cached.contains k then (s.lookup k).doorbell owner qid w
      else (s.lookup k).updQ fun q => { q with waits := q.waits ++ [(k, w)] }

/-- SQ_TAIL_DOORBELL (R98 to R101, R347). -/
def execSqTailDoorbell (owner qid tail : Nat) (s : State) : Host.Outcome State Fault Refusal :=
  effect s fun s => s.doorbellIn owner qid (.tail tail s.stampNow) (s.hasSq owner qid)

/-- CQ_HEAD_DOORBELL (R98, R99, R109). -/
def execCqHeadDoorbell (owner qid head : Nat) (s : State) : Host.Outcome State Fault Refusal :=
  effect s fun s =>
    let s := s.doorbellIn owner qid (.head head) (s.hasCq owner qid)
    -- a queue that has drained may be noted again (R109)
    if s.waitingOn owner qid = 0 ∧ (s.qctx owner qid).fullNoted = true
    then s.modCtx owner qid fun c => { c with fullNoted := false } else s

/-- Is a stamp more than 2 s old and not yet marked? -/
def stampOld (now : Nat) : Option Stamp → Bool
  | some st => !st.expired && decide (2000000000 < now - st.time)
  | none => false

/-- STAMP_SWEEP (R100): every stamp more than 2 s old is marked expired, and EV0170 is recorded for its queue. -/
def execStampSweep (s : State) : Host.Outcome State Fault Refusal :=
  effect s fun s =>
    let now := s.time.sid
    let hit := (s.q.ctx.filter fun e => stampOld now e.2.stampA || stampOld now e.2.stampB).map (·.1)
    let mark (x : Option Stamp) : Option Stamp := if stampOld now x then x.map ({ · with expired := true }) else x
    let s := { s with q := { s.q with ctx := mapAll s.q.ctx fun _ c =>
      { c with stampA := mark c.stampA, stampB := mark c.stampB } } }
    s.each hit fun s k => s.event 170 [k / 65536, k % 65536]

/-- May a cached context be written back and dropped (R92)? [DESIGN CHOICE, unsafe: log 26] -/
def State.ctxIdle (s : State) (k : Nat) : Bool :=
  let c := mapGet s.q.ctx k {}
  c.visible == 0 && c.inflight == 0 && c.fetching == 0 && s.waitingOn (k / 65536) (k % 65536) == 0

/-- A recorded doorbell in the layout of Table QUE-1: its tail, and its stamp in units of 64 ns, modulo 2³². -/
def stampTail (x : Option Stamp) : List Nat := leBytes 2 ((x.map (·.tail)).getD 0)
def stampTime (x : Option Stamp) : List Nat := leBytes 4 ((x.map (·.time)).getD 0 / 64 % 2 ^ 32)

/-- The 64 bytes of a context (Table QUE-1). -/
def QCtx.bytes (c : QCtx) (owner qid : Nat) : List Nat :=
  leBytes 8 c.sqBase ++ leBytes 8 c.cqBase ++ leBytes 2 c.sqSize ++ leBytes 2 c.cqSize ++ leBytes 2 c.sqTail ++
    leBytes 2 c.sqHead ++ leBytes 2 c.cqTail ++ leBytes 2 c.cqHead ++ leBytes 2 c.sqCqid ++
    leBytes 2 (c.vector % 2048 + c.ien.toNat * 32768) ++ leBytes 2 owner ++ leBytes 2 qid ++ leBytes 2 c.dlDefault ++
    [c.epoch % 256, c.sqValid.toNat + 2 * c.cqValid.toNat + 4 * (c.prio % 4) + 16 * c.phase.toNat] ++ leBytes 2 c.inflight ++
    stampTail c.stampA ++ stampTime c.stampA ++ stampTail c.stampB ++ leBytes 2 0 ++ stampTime c.stampB ++ leBytes 8 0

/-- The cache writes a context back to its place in the DRAM table (R91, R92). -/
def State.writeBackCtx (s : State) (k : Nat) : State :=
  match s.ctxNumber (k / 65536) (k % 65536) with
  | some n => s.updQ fun q => { q with stored := mapSet q.stored n ((mapGet q.ctx k {}).bytes (k / 65536) (k % 65536)) }
  | none => s

/-- Every cached context is written back: before an eclipse record is saved, and before a structural reset loads a chart (R92). -/
def State.writeBackAll (s : State) : State := s.each s.q.cached State.writeBackCtx

/-- A context takes its place in the cache of 65,536; a full cache writes back and drops its first idle context, and one without an
idle context takes no other (R92). [DESIGN CHOICE, unsafe: log 26] -/
def State.cache (s : State) (k : Nat) : State :=
  if s.q.cached.contains k then s
  else if s.q.cached.length < 65536 then s.updQ fun q => { q with cached := q.cached ++ [k] }
  else match s.q.cached.find? s.ctxIdle with
    | some j => (s.writeBackCtx j).updQ fun q => { q with cached := q.cached.filter (· ≠ j) ++ [k] }
    | none => s

/-- CONTEXT_FILL (R92): the context arrives, and the accesses that waited for it proceed in order. Where no cached context is idle
it goes on waiting. [DESIGN CHOICE, unsafe: log 26] -/
def execContextFill (owner qid : Nat) (s : State) : Host.Outcome State Fault Refusal :=
  effect s fun s =>
    let k := qKey owner qid
    if !s.q.fills.contains k || !(s.cache k).q.cached.contains k then s
    else
      let w := (s.q.waits.filter fun e => decide (e.1 = k)).map (·.2)
      let s := (s.cache k).updQ fun q => { q with
        fills := q.fills.filter (· ≠ k), waits := q.waits.filter fun e => decide (e.1 ≠ k) }
      s.each w fun s w => s.doorbell owner qid w

/-! ### Fetch (R102 to R108) -/

/-- Free command contexts (R108, Table ARC-4), with the reads outstanding counted as taken. -/
def State.fetchingFor (s : State) (p : Nat → Bool) : Nat :=
  ((s.q.ctx.filter fun e => p e.1).map fun e => e.2.fetching).sum

/-- R104: the manager's admin queue and the firmware queues are served first. -/
def State.firstTier (s : State) (k : Nat) : Bool :=
  k / 65536 == systemOwner || (match s.managerOwner with | some o => k == qKey o 0 | none => false)

/-- Free command contexts of a queue's pool: reserve traffic may also take general ones (R13), and what its outstanding reads will
take beyond the reserve is not free. [DEDUCED, unsafe: log 178; DESIGN CHOICE, unsafe: log 199] -/
def State.credits (s : State) (k : Nat) : Nat :=
  let reserve := 4096 - s.ctxUsed true
  let first := s.fetchingFor s.firstTier
  let general := 262144 - (s.ctxUsed false + (s.fetchingFor fun j => !s.firstTier j) + (first - reserve))
  if s.firstTier k then (reserve - first) + general else general

/-- Non-posted requests that a link has outstanding: its fetch reads, and one read for the data of each write that it still awaits.
[DESIGN CHOICE, unsafe: log 170] -/
def State.fetchReads (s : State) (l : Nat) : Nat :=
  mapCount s.q.ctx fun k c => s.linkOf (k / 65536) == l && decide (0 < c.fetching)
/-- The non-posted requests outstanding on a link (R72). [DESIGN CHOICE, unsafe: log 170] -/
def State.nonPosted (s : State) (l : Nat) : Nat :=
  s.fetchReads l + mapCount s.wp.wr fun _ w => s.linkOf w.ref.owner == l && !w.got

/-- May a link issue one more fetch read: 128 of them (R102), within its tags (R72)? [DESIGN CHOICE, unsafe: log 170] -/
def State.fetchRoom (s : State) (owner : Nat) : Bool :=
  let l := s.linkOf owner
  decide (8 ≤ l) || (decide (s.fetchReads l < 128) &&
    decide (s.nonPosted l < if s.on (Reg.HOST_LINK_STATUS_TAG10.at l) then 768 else 256))

/-- Slots of a completion queue that no fetched command has been promised (R102 rule 4). -/
def State.unpromised (s : State) (owner cqid : Nat) : Nat :=
  let mine (q : Nat) : Bool := decide ((s.qctx owner q).sqCqid = cqid)
  let promised := mapCount s.q.cmds fun _ c => decide (c.ref.owner = owner) && mine c.ref.sqid
  (s.qctx owner cqid).room - (promised + s.fetchingFor fun k => decide (k / 65536 = owner) && mine (k % 65536))

/-- A tenant's fetch is stopped by an eclipse, a restore or a reset (R335, R345). -/
def State.tenantOpen (s : State) (owner : Nat) : Bool :=
  !isTenant owner || (decide ((s.tenant owner).phase = .active) && !(s.tenant owner).resumeAtMeridian)

/-- Fetch is stopped on every queue from the start of a dusk drain (R158), and on every queue but the manager's admin queue while a
structural reset drains (R40). -/
def State.fetchStopped (s : State) (k : Nat) : Bool :=
  decide (s.wp.dusk ≠ .idle) ||
    ((decide (s.chart.phase = .draining) || decide (s.chart.phase = .loading)) && decide (s.managerOwner.map (qKey · 0) ≠ some k))

/-- How many entries one grant may read from a queue now; 0 when the queue is not eligible (R102, R106, R111). A queue has one read
outstanding at most, and is not eligible while it has one. [DESIGN CHOICE, unsafe: log 170] -/
def State.grantable (s : State) (k : Nat) : Nat :=
  let owner := k / 65536
  let qid := k % 65536
  let c := s.qctx owner qid
  let t := s.ctrl owner
  let live := s.fetchRoom owner && c.sqValid && s.epochOk owner c && c.fetching == 0 && decide (c.deleting = none) && s.q.cached.contains k
  let runs := t.rdy && !t.cfs && !t.flr && s.tenantOpen owner && !s.q.stopped && !s.fetchStopped k && decide (s.rd Reg.PWR_STATUS_PS < 3)
  let weighted := s.firstTier k || decide (0 < s.weightNow owner)
  if live && (runs || owner == systemOwner) && weighted then
    let room := if s.isFabric owner then c.visible else s.unpromised owner c.sqCqid
    let slot := if isTenant owner then s.limit owner - (s.tenantInflight owner + s.fetchingFor fun j => j / 65536 == owner)
      else c.visible
    min (min (2 ^ min t.ab 3) c.visible) (min room (min slot (s.credits k)))
  else 0

/-- The next element of a round after `last`, in rising order: the first above it, else the first. -/
def roundRobin (last : Nat) (l : List Nat) : Option Nat :=
  match l.find? (last < ·) with
  | some x => some x
  | none => l.head?

/-- The keys of round-robin places: class c of an owner; the first tier. -/
def rrKey (owner cls : Nat) : Nat := owner * 8 + cls

/-- The eligible queues of a controller, of one priority class, in rising order. -/
def State.eligible (s : State) (owner : Nat) (p : Nat → QCtx → Bool) : List Nat :=
  ((s.queuesOf owner).filter fun e =>
    p e.1 e.2 && !s.firstTier (qKey owner e.1) && decide (0 < s.grantable (qKey owner e.1))).map (·.1)

/-- What each class has left of its share: HPW + 1 : MPW + 1 : LPW + 1 (R106). [DEDUCED, unsafe: log 18] -/
def Ctrl.shareOf (c : Ctrl) (cls : Nat) : Nat := (if cls = 1 then c.hpw else if cls = 2 then c.mpw else c.lpw) + 1

/-- The queue that the third tier chooses, and the state with its round-robin places moved (R106). [DEDUCED, unsafe: log 18] -/
def State.thirdTier (s : State) (owner : Nat) : Option (Nat × State) :=
  let c := s.ctrl owner
  let rr := fun (s : State) (cls : Nat) (l : List Nat) =>
    (roundRobin (mapGet s.q.rr (rrKey owner cls) 0) l).map fun q =>
      (q, { s with q := { s.q with rr := mapSet s.q.rr (rrKey owner cls) q } })
  if s.eligible owner (fun q _ => q == 0) ≠ [] then some (0, s)
  else if c.ams = 0 then rr s 4 (s.eligible owner fun q _ => q != 0)
  else
    let cls := fun p => s.eligible owner fun q x => q != 0 && x.prio == p
    if cls 0 ≠ [] then rr s 0 (cls 0)
    else
      let left := fun p => mapGet s.q.wrr (rrKey owner p) (c.shareOf p)
      let take := fun (s : State) (p l : Nat) => (rr s p (cls p)).map fun r =>
        (r.1, { r.2 with q := { r.2.q with wrr := mapSet r.2.q.wrr (rrKey owner p) (l - 1) } })
      match [1, 2, 3].find? fun p => decide (cls p ≠ []) && decide (0 < left p) with
      | some p => take s p (left p)
      | none =>
        -- every class with work has used its share: the next round of shares begins
        match [1, 2, 3].find? fun p => decide (cls p ≠ []) with
        | none => none
        | some p =>
          let s := { s with q := { s.q with wrr := [1, 2, 3].foldl (fun m j => mapErase m (rrKey owner j)) s.q.wrr } }
          take s p (c.shareOf p)

/-- Issue the read of a grant (R102): up to 8 entries of one queue. [DEDUCED, unsafe: log 171] -/
def State.issueFetch (s : State) (owner qid : Nat) : State :=
  let n := min (s.grantable (qKey owner qid)) 8
  ((s.lookup (qKey owner qid)).modCtx owner qid fun c => { c with fetching := n }).emit [Out.fetchRead owner qid n]

/-- Owner `x` lies on the way round from `a`, not included, to `b`. -/
def onTheWay (a b x : Nat) : Bool := if a < b then a < x && x ≤ b else a < x || x ≤ b

/-- The round of the second tier visits controller `c`: the controllers passed over bank nothing, and `c` receives its weight times
the quantum, up to twice that (R105). [DESIGN CHOICE, unsafe: log 40] -/
def State.visit (s : State) (c : Nat) : State :=
  let w : Int := s.weightNow c * s.q.quantum
  let d := mapGet s.q.deficit c 0
  { s with q := { s.q with
    turn := c
    deficit := mapSet (mapKeep s.q.deficit fun k _ => k == c || !onTheWay s.q.turn c k) c (min (d + w) (2 * w)) } }

/-- One round over the controllers with an eligible queue, stopping at the first whose deficit is above 0. [DESIGN CHOICE, unsafe:
log 40] -/
def State.round (s : State) : List Nat → Option State
  | [] => none
  | c :: l =>
    let s := s.visit c
    if 0 < mapGet s.q.deficit c 0 then
      (s.thirdTier c).map fun r => r.2.issueFetch c r.1
    else
      match s.round l with
      | some s' => some s'
      | none => some s

/-- The owners of listed contexts, in rising order and each once. -/
def State.owners (s : State) : List Nat := ((s.q.ctx.map fun e => e.1 / 65536).eraseDups)

/-- EV0164 each time the general pool empties, EV0165 each time the reserve is drawn below half (R108): `s` is the state after the
contexts were taken, `before` the counts in use before. -/
def State.poolMarks (s : State) (before : Nat × Nat) : State :=
  let s := if before.1 < 262144 ∧ 262144 ≤ s.ctxUsed false then s.event 164 else s
  if before.2 ≤ 2048 ∧ 2048 < s.ctxUsed true then s.event 165 else s

/-- FETCH (R102 to R108): one grant. The first tier is served before any other queue; then the controller being served while its
deficit lasts; then the next of the round. [DESIGN CHOICE, unsafe: log 40, 170] -/
def State.fetchOne (s : State) : State :=
  let first := (s.q.ctx.map (·.1)).filter fun k => s.firstTier k && decide (0 < s.grantable k)
  match roundRobin (mapGet s.q.rr (rrKey 0x2000 0) 0) first with
  | some k =>
    let s := { s with q := { s.q with rr := mapSet s.q.rr (rrKey 0x2000 0) k } }
    s.issueFetch (k / 65536) (k % 65536)
  | none =>
    let has := fun c => decide (s.eligible c (fun _ _ => true) ≠ [])
    if has s.q.turn && decide (0 < mapGet s.q.deficit s.q.turn 0) then
      match s.thirdTier s.q.turn with
      | some r => r.2.issueFetch s.q.turn r.1
      | none => s
    else
      let l := s.owners.filter has
      ((s.round (l.filter (s.q.turn < ·) ++ l.filter (· ≤ s.q.turn))).getD s)

def execFetch (s : State) : Host.Outcome State Fault Refusal := effect s State.fetchOne

/-- The cost of a command in the second tier (R105). -/
def costOf (qid : Nat) (e : Sqe) : Nat := if qid = 0 ∨ e.opcode = 0x95 then 1 else max e.units 1

/-- The stamp of the entry at ring position `h`: A's while A's entries last, then B's. -/
def QCtx.stampOf (c : QCtx) (h : Nat) : Option Stamp :=
  match c.stampA with
  | some a =>
    if (h + (c.sqSize + 1) - c.sqHead) % (c.sqSize + 1) < (a.tail + (c.sqSize + 1) - c.sqHead) % (c.sqSize + 1)
    then some a else c.stampB
  | none => c.stampB

/-- Is the lock state one in which the doorbell stamp is the base (R60)? -/
def State.stampIsBase (s : State) : Bool := decide (s.time.lock = .locked) || decide (s.time.lock = .holdover)

/-- The opcodes of the commands that the T9 supports (R80, R85): a fabric controller has Fabrics commands and Keep Alive, and no
commands that create or delete queues. [PRESUMED, unsafe: log 195] -/
def State.supports (s : State) (owner qid opcode : Nat) : Bool :=
  if qid = 0 then
    [0x02, 0x06, 0x08, 0x09, 0x0A, 0x0C, 0x0D, 0x10, 0x11, 0x15, 0x80, 0x84].contains opcode ||
      (if s.isFabric owner then [0x18, 0x7F] else [0x00, 0x01, 0x04, 0x05]).contains opcode
  else
    [0x00, 0x01, 0x02, 0x08, 0x09, 0x12, 0x1D, 0x79, 0x7A, 0x7D, serveOpcode].contains opcode || (s.isFabric owner && opcode == 0x7F)

/-- A fetched entry becomes a command (R60, R83, R93, R102, R107, R108). [DESIGN CHOICE, unsafe: log 19] -/
def State.startCommand (s : State) (owner qid : Nat) (st : Option Stamp) (e : Sqe) : State :=
  let c := s.qctx owner qid
  let first := s.firstTier (qKey owner qid)
  let useReserve := first && decide (s.ctxUsed true < 4096)
  let lost := match st with
    | some x => x.lost
    | none => false
  let base := if lost then none else if s.stampIsBase then
      (match st with
        | some x => if x.expired then none else some x.time
        | none => some s.time.sid)
    else some s.time.sid
  let dl := if e.dl = 0 then c.dlDefault else e.dl
  let cmd : Cmd :=
    { ref := ⟨owner, qid, e.cid⟩, opcode := e.opcode, units := e.units, dl := dl, stamp := base,
      fetchedAt := s.time.sid, seq := s.q.seq, nsid := 0, reserve := useReserve, epoch := (s.tenant owner).epoch,
      urgent := c.prio == 0 && (s.ctrl owner).ams != 0, deadline := .none, phase := .fetched }
  let s := { s with q := { s.q with cmds := mapSet s.q.cmds (cmdKey cmd.ref) cmd, seq := s.q.seq + 1 } }
  if e.fuse ≠ 0 then s.finish cmd.ref .invalidField
  else if s.supports owner qid e.opcode then s else s.finish cmd.ref .invalidOpcode

/-- The entries of a completed read, each with its stamp. -/
def QCtx.withStamps (c : QCtx) : Nat → List Sqe → List (Option Stamp × Sqe)
  | _, [] => []
  | i, e :: l => (c.stampOf ((c.sqHead + i) % (c.sqSize + 1)), e) :: c.withStamps (i + 1) l

/-- FETCH_READ_COMPLETE (R100, R102, R103, R105): the entries leave host memory and their commands start, or the read
fails: SQ_HEAD stays, EV0161 is recorded, and the controller fails. A fabric queue's entries come from its ring. -/
def State.fetched (s : State) (owner qid : Nat) (entries : Option (List Sqe)) : State :=
  let c := s.qctx owner qid
  let k := qKey owner qid
  if c.fetching = 0 then s
  else
    match entries with
    | none => ((s.modCtx owner qid fun c => { c with fetching := 0 }).event 161 [owner, qid]).fatal owner
    | some l =>
      let ring := mapGet s.q.rings k []
      let l := (if s.isFabric owner then ring else l).take c.fetching
      let s := if s.isFabric owner then { s with q := { s.q with rings := mapPut s.q.rings k (ring.drop l.length) [] } } else s
      let used := (s.ctxUsed false, s.ctxUsed true)
      let s := s.each (c.withStamps 0 l) fun s e => s.startCommand owner qid e.1 e.2
      let cost : Int := ((l.map (costOf qid)).sum : Nat)
      let s := s.modCtx owner qid fun c => { c.dropStamps l.length with
        fetching := 0, sqHead := (c.sqHead + l.length) % (c.sqSize + 1), inflight := c.inflight + l.length }
      let s := if s.firstTier k then s
        else { s with q := { s.q with deficit := mapSet s.q.deficit owner (mapGet s.q.deficit owner 0 - cost) } }
      let s := s.poolMarks used
      if isTenant owner && decide (s.limit owner ≤ s.tenantInflight owner) then s.eventPerMeridian 163 owner [owner] else s

def execFetchReadComplete (owner qid : Nat) (entries : Option (List Sqe)) (s : State) : Host.Outcome State Fault Refusal :=
  effect s fun s => s.fetched owner qid entries

/-! ### Completion entries and interrupts (R109, R110, R71) -/

/-- A completion has been written to a queue with interrupts: it is held for coalescing, or its interrupt is sent (R110). The admin
queue's completions and those with a non-zero status are never held. [PRESUMED, unsafe: log 17] -/
def State.completionInterrupt (s : State) (owner cqid vector : Nat) (ok : Bool) : State :=
  let c := s.ctrl owner
  let n := ((c.held.find? fun e => e.1 = vector).map (·.2)).getD 0 + 1
  let hold := ok && cqid != 0 && c.aggTime != 0 && !c.coalNoneVectors.contains vector && decide (n ≤ c.aggThr)
  let others := c.held.filter fun e => e.1 ≠ vector
  if hold then s.modCtrl owner fun c => { c with held := others ++ [(vector, n)] }
  else (s.modCtrl owner fun c => { c with held := others }).msix owner vector

/-- CQ_FULL_WAIT_EXPIRY (R109): EV0166, once until the queue has drained. -/
def execCqFullWaitExpiry (owner cqid : Nat) (s : State) : Host.Outcome State Fault Refusal :=
  effect s fun s =>
    if s.waitingOn owner cqid = 0 ∨ (s.qctx owner cqid).room ≠ 0 ∨ (s.qctx owner cqid).fullNoted = true then s
    else (s.modCtx owner cqid fun c => { c with fullNoted := true }).event 166 [owner, cqid]

/-- AGGREGATION_TIME_EXPIRY (R110): the held interrupt of a vector is sent. -/
def execAggregationTimeExpiry (owner vector : Nat) (s : State) : Host.Outcome State Fault Refusal :=
  effect s fun s =>
    if (s.ctrl owner).held.any fun e => e.1 = vector then
      (s.modCtrl owner fun c => { c with held := c.held.filter fun e => e.1 ≠ vector }).msix owner vector
    else s

/-- The pending interrupts of the vectors that are no longer masked are sent (R71). -/
def State.sendPending (s : State) (o : Nat) : State :=
  let l := (s.ctrl o).pba.filter fun v => !(s.ctrl o).isMasked v
  (s.modCtrl o fun c => { c with pba := c.pba.filter fun v => !l.contains v }).emit (l.map (Out.msix o))

/-- VECTOR_UNMASK (R71, R77): a mask bit of a vector or the function mask is written; a write during an FLR is discarded, as is one
beyond the 2,048 vectors. -/
def State.maskWrite (s : State) (o : Nat) (w : MsixWrite) : State :=
  if (s.ctrl o).flr then s
  else match w with
    | .vector v masked =>
      if 2048 ≤ v then s
      else (s.modCtrl o fun c => { c with
        unmasked := if masked then c.unmasked.filter (· ≠ v) else if c.unmasked.contains v then c.unmasked
          else c.unmasked ++ [v] }).sendPending o
    | .function masked => (s.modCtrl o fun c => { c with fnMask := masked }).sendPending o

/-- VECTOR_UNMASK (R71): a write of a vector's mask bit or of the function mask; what it leaves unmasked is sent. [PRESUMED, unsafe:
log 8] -/
def execVectorUnmask (fn : Fn) (w : MsixWrite) (s : State) : Host.Outcome State Fault Refusal :=
  effect s fun s => s.maskWrite (s.fnOwner fn) w

/-! ### Queue counts and limits (R97, R108) -/

/-- QCOUNT_CHANGE (R97): ignored while BUSY. -/
def State.qcountStart (s : State) (slot countM1 : Nat) : State :=
  if s.on Reg.QENG_QCOUNT_STATUS_BUSY then s
  else { s.set Reg.QENG_QCOUNT_STATUS_BUSY true with
    q := { (s.set Reg.QENG_QCOUNT_STATUS_BUSY true).q with qcount := some (slot % 4096, countM1 % 65536) } }

def execQcountChange (slot countM1 : Nat) (s : State) : Host.Outcome State Fault Refusal :=
  effect s fun s => s.qcountStart slot countM1

/-- The RESULT of a request (R97): the first check that fails, in the order 4, 3, then 1 or 2. -/
def State.qcountResult (s : State) (slot count : Nat) : Nat :=
  let have_ := (s.ctrl slot).queues
  if (s.tenant slot).phase ≠ .active then 4
  else if count < 2 ∨ s.maxQueues < count then 3
  else if count < have_ then
    if (s.queuesOf slot).any fun e => decide (count ≤ e.1) && (s.hasSq slot e.1 || s.hasCq slot e.1) then 1 else 0
  else if s.poolFree (s.poolOf slot) < count - have_ then 2 else 0

/-- QCOUNT_CHANGE_DONE (R97): the change ends with its RESULT; a success posts Queue Count Changed and records EV0167, a refusal
EV0168. The log page of the event is not stated: a free value (log entry 5). [DESIGN CHOICE, safe: log 5; DEDUCED, safe: log 16]
-/
def execQcountChangeDone (s : State) : Host.Outcome State Fault Refusal :=
  effect s fun s => match s.q.qcount with
    | none => s
    | some (slot, m1) =>
      let r := s.qcountResult slot (m1 + 1)
      let s := { s with q := { s.q with qcount := none } }
      let s := if r = 0 then s.holdContexts slot (m1 + 1) else s
      let s := (s.set Reg.QENG_QCOUNT_STATUS_BUSY false).wr Reg.QENG_QCOUNT_STATUS_RESULT r
      let s := (s.wr Reg.QENG_QCOUNT_STATUS_SLOT slot).wr Reg.QENG_QCOUNT_STATUS_COUNT ((s.ctrl slot).queues - 1)
      if r = 0 then (s.nextFree.aen slot 7 0xC0 (s.fresh % 256)).event 167 [slot] else s.event 168 [slot, r]

/-- QENG_TEN_LIMIT_WRITE (R108): a value from 1 to 262,144 is the slot's limit for the next fetch decision; another value
is ignored (R9). -/
def State.limitWrite (s : State) (slot v : Nat) : State :=
  if 4096 ≤ slot then s
  else if 1 ≤ v ∧ v ≤ 262144 then { s with q := { s.q with limits := mapSet s.q.limits slot v } }
  else s.event 13 [slot]

def execQengTenLimitWrite (slot limit : Nat) (s : State) : Host.Outcome State Fault Refusal :=
  effect s fun s => s.limitWrite slot limit

end Sys2Proof.Machine
end

