-- ==== Sys2Proof/Machine/Cells.lean ====
section
/-! DEFINITION. Buffer cells: pools, handles, allocation, sharing and release (spec/14_buffer_cells.md). -/

namespace Sys2Proof.Machine

/-! ### Pools and handles (R353 to R356) -/

/-- The null handle (R355). -/
def nullHandle : Nat := 0xC0000000

/-- Bytes of a cell of a pool (Table CEL-1). -/
def cellBytes (p : Nat) : Nat := if p = 0 then 256 else if p = 1 then 4096 else 65536

/-- Is a handle one of a cell (R355)? -/
def State.validHandle (s : State) (h : Nat) : Bool :=
  handlePool h < 3 && h / 2 ^ 17 % 2 ^ 13 == 0 && decide (handleIndex h < s.poolCells (handlePool h))

/-- The lowest-numbered free cell of a pool, searching `fuel` indices from `i`. [DESIGN CHOICE, unsafe: log 69] -/
def State.freeCell (s : State) (p : Nat) : Nat → Nat → Option Nat
  | 0, _ => none
  | fuel + 1, i =>
    if s.poolCells p ≤ i then none
    else if mapHas s.cell.cells (handleOf p i) || s.cell.withdrawn.contains (handleOf p i) then s.freeCell p fuel (i + 1)
    else some i

/-- The pool marks of R366: the lowest general count, and an event each time the general part empties or the reserve falls below
half. `g` and `r` are the general and the reserve count before. [DEDUCED, unsafe: log 48] -/
def State.cellMarks (s : State) (p g r : Nat) : State :=
  let g' := s.cellGeneral p
  let r' := s.cellReserve p
  let s := s.updCell fun c => { c with low := c.low.set p (min (c.low.getD p 0) g') }
  let s := if g' = 0 ∧ g ≠ 0 then s.event (898 + p) else s
  if r' * 2 < s.poolReserve p ∧ s.poolReserve p ≤ r * 2 then s.event (901 + p) else s

/-- Take a cell of a pool (R360), from its reserve part or from its general part. [DESIGN CHOICE, unsafe: log 69] -/
def State.takeCell (s : State) (p : Nat) (fromReserve : Bool) (next fill : Nat) : Option (Nat × State) :=
  match s.freeCell p (mapCount s.cell.cells (fun h _ => handlePool h == p) + s.cell.withdrawn.length + 1) 0 with
  | none => none
  | some i =>
    let g := s.cellGeneral p
    let r := s.cellReserve p
    let h := handleOf p i
    let s := s.updCell fun c => { c with
      cells := mapSet c.cells h ⟨1, fill, next⟩
      reserve := if fromReserve then c.reserve.set p (r - 1) else c.reserve }
    some (h, s.cellMarks p g r)

/-- Does a pool hold its general cells for the request at the head of its queue (R359)? -/
def State.cellHeld (s : State) (p : Nat) : Bool := s.cell.hold.contains p

/-- The count of a fallback from a pool (R358, CELL_STAT). -/
def State.fellBack (s : State) (p : Nat) : State :=
  s.bumpUnits (if p = 0 then Reg.CELL_STAT_TO_SHEET else Reg.CELL_STAT_TO_INGOT) 1024

/-- CELL_ALLOCATE (R358): the pools from the starting one upward; a request that none can serve waits, and is presented
again. -/
def State.allocate (s : State) (reserve : Bool) : List Nat → Option (Nat × State)
  | [] => none
  | p :: l =>
    let take : Option (Nat × State) :=
      if reserve && decide (0 < s.cellReserve p) then s.takeCell p true nullHandle 0
      else if decide (0 < s.cellGeneral p) && (reserve || !s.cellHeld p) then s.takeCell p false nullHandle 0
      else none
    match take with
    | some x => some x
    | none => (if l.isEmpty then s else s.fellBack p).allocate reserve l

/-- The pools from a starting pool upward. -/
def poolsFrom (p : Nat) : List Nat := [0, 1, 2].filter (p ≤ ·)

/-- Is a request reserve traffic (R12)? A serve engine's (requester 7, Table CEL-8) never is. -/
def isReserve (requester : Nat) (reserve : Bool) : Bool := reserve && requester != 7

def execCellAllocate (requester : Nat) (reserve : Bool) (pool : Nat) (s : State) : Host.Outcome State Fault Refusal :=
  effect s fun s =>
    match s.allocate (isReserve requester reserve) (poolsFrom pool) with
    | some (h, s) => s.emit [Out.data "chain" [requester, h, h]]
    | none => s.bumpUnits Reg.CELL_WAIT_WAITS 1024

/-! ### Whole buffers (R359) -/

/-- The cells of pool `q` that hold what `n` cells of pool `p` hold. -/
def cellsIn (p n q : Nat) : Nat := (n * cellBytes p + cellBytes q - 1) / cellBytes q

/-- Can a pool supply `n` cells at once? `head`: the request for which the pool holds its cells. -/
def State.canSupply (s : State) (p n : Nat) (reserve head : Bool) : Bool :=
  if reserve then decide (n ≤ s.cellReserve p + s.cellGeneral p)
  else decide (n ≤ s.cellGeneral p) && (head || !s.cellHeld p)

/-- Take `n` cells of a pool as one chain, built from its last cell: the chain's first cell and the state. `bytes` is what
the chain holds. -/
def State.takeChain (s : State) (p : Nat) (reserve : Bool) (next bytes : Nat) : Nat → Nat × State
  | 0 => (next, s)
  | n + 1 =>
    let fill := min (bytes - n * cellBytes p) (cellBytes p)
    match s.takeCell p (reserve && decide (0 < s.cellReserve p)) next fill with
    | some (h, s) => s.takeChain p reserve h (min bytes (n * cellBytes p)) n
    | none => (next, s)

/-- A whole buffer from its starting pool, or from the next larger one (R359). [DESIGN CHOICE, unsafe: log 69] -/
def State.wholeBuffer (s : State) (p n : Nat) (reserve head : Bool) (bytes : Nat) : Option (Nat × State) :=
  if s.canSupply p n reserve head then some (s.takeChain p reserve nullHandle bytes n)
  else if p < 2 ∧ s.canSupply (p + 1) (cellsIn p n (p + 1)) reserve false = true then
    some ((s.fellBack p).takeChain (p + 1) reserve nullHandle bytes (cellsIn p n (p + 1)))
  else none

/-- The requests that wait for a pool. -/
def State.wholeQueue (s : State) (p : Nat) : List WholeWait := mapGet s.cell.queues p []

def State.setWholeQueue (s : State) (p : Nat) (l : List WholeWait) : State :=
  s.updCell fun c => { c with
    queues := mapPut c.queues p l []
    hold := if l.isEmpty then c.hold.filter (· ≠ p) else c.hold }

/-- The head of a pool's queue leaves it, and its hold ends. -/
def State.headServed (s : State) (p : Nat) : State :=
  (s.setWholeQueue p (s.wholeQueue p).tail).updCell fun c => { c with hold := c.hold.filter (· ≠ p) }

/-- A served request leaves its pool's queue; the hold ends with the head. -/
def State.leavePoolQueue (s : State) (p i : Nat) : State :=
  if i = 0 then s.headServed p else s.setWholeQueue p ((s.wholeQueue p).eraseIdx i)

/-- Serve the waiting reserve requests of a pool, the oldest first: they pass the general ones (R13, R15). -/
def State.serveReserve (s : State) (p : Nat) : Nat → State
  | 0 => s
  | fuel + 1 =>
    match (s.wholeQueue p).findIdx? (·.reserve) with
    | none => s
    | some i =>
      let w := (s.wholeQueue p).getD i ⟨0, true, 0, none⟩
      match s.wholeBuffer p w.cells true (i == 0) 0 with
      | some (h, s) => ((s.leavePoolQueue p i).emit [Out.data "chain" [w.requester, h]]).serveReserve p fuel
      | none => s

/-- Serve the head of a pool's queue while it can be served; the request of a Serve command is served by its own row. -/
def State.serveGeneral (s : State) (p : Nat) : Nat → State
  | 0 => s
  | fuel + 1 =>
    match s.wholeQueue p with
    | [] => s
    | w :: _ =>
      if w.ref.isSome || w.reserve then s
      else match s.wholeBuffer p w.cells false true 0 with
        | some (h, s) => ((s.headServed p).emit [Out.data "chain" [w.requester, h]]).serveGeneral p fuel
        | none => s

/-- Serve a pool's queue: the reserve requests first (R13), then the general ones in arrival order (R359). -/
def State.serveQueue (s : State) (p n : Nat) : State := (s.serveReserve p n).serveGeneral p n

/-- Cells have been freed: the queues of the pools are served. -/
def State.cellsFreed (s : State) : State :=
  s.each [0, 1, 2] fun s p => s.serveQueue p (s.wholeQueue p).length

/-- WHOLE_BUFFER_ALLOCATE (R359): granted at once, or queued behind the requests that already wait for its pool; reserve traffic
waits behind reserve traffic alone (R13). -/
def execWholeBufferAllocate (requester : Nat) (reserve : Bool) (pool cells : Nat) (s : State) :
    Host.Outcome State Fault Refusal :=
  effect s fun s =>
    if 3 ≤ pool ∨ cells = 0 then s
    else
      let own := isReserve requester reserve
      let before := (s.wholeQueue pool).any fun w => w.reserve || !own
      match (if before then none else s.wholeBuffer pool cells own false 0) with
      | some (h, s) => s.emit [Out.data "chain" [requester, h]]
      | none =>
        (s.setWholeQueue pool (s.wholeQueue pool ++ [⟨requester, own, cells, none⟩])).bumpUnits Reg.CELL_WAIT_WAITS 1024

/-- WHOLE_BUFFER_HOLD (R359): the head of the queue has waited 1 ms; the pool grants no general cell to a later request
until it is satisfied; EV0904. -/
def execWholeBufferHold (pool : Nat) (s : State) : Host.Outcome State Fault Refusal :=
  effect s fun s =>
    if (s.wholeQueue pool).isEmpty || s.cellHeld pool then s
    else ((s.updCell fun c => { c with hold := c.hold ++ [pool] }).bump Reg.CELL_WAIT_HOLDS).event 904 [pool]

/-! ### Sharing and release (R361 to R365) -/

/-- A refused cell operation (R362, R364): kinds 0 double free, 1 SHARE of a free cell, 2 REFCNT at 255, 3 invalid. -/
def State.cellRefuse (s : State) (kind requester h : Nat) : State :=
  let s := s.bump Reg.CELL_ERR_COUNT_COUNT
  let s := s.firstError Reg.CELL_ERR_VALID
    [(Reg.CELL_ERR_KIND, kind), (Reg.CELL_ERR_REQUESTER, requester), (Reg.CELL_ERR_HANDLE_HANDLE, h)]
  let ev := if kind = 0 then 896 else if kind = 3 then 905 else 897
  match mapGet? s.cell.cells h with
  | some c => s.eventPer ev requester 1000000 [h, c.refcnt, c.fill, c.next, requester]
  | none => s.eventPer ev requester 1000000 [h, 0, 0, 0, requester]

/-- A cell is freed: it goes to the reserve part while that is below its size (R354). -/
def State.freeOne (s : State) (h : Nat) : State :=
  let p := handlePool h
  s.updCell fun c => { c with
    cells := mapErase c.cells h
    reserve := if c.reserve.getD p 0 < s.poolReserve p then c.reserve.set p (c.reserve.getD p 0 + 1) else c.reserve }

/-- R365: the descriptor of a cell is uncorrectable: the cell is withdrawn, counted and recorded (R391). -/
def State.withdrawCell (s : State) (h requester : Nat) : State :=
  let s := s.updCell fun c => { c with cells := mapErase c.cells h, withdrawn := c.withdrawn ++ [h] }
  let s := (s.bump Reg.CELL_STATUS_QUARANTINED).bump Reg.ECC_SRAM_STAT_UNCORRECTABLE
  let a := Config.descriptorAt h
  let s := s.firstError Reg.ECC_ERR_VALID [(Reg.ECC_ERR_SPACE, 1), (Reg.ECC_ERR_REQUESTER, requester), (Reg.ECC_ERR_POISON, 0),
    (Reg.ECC_ERR_CHANNEL, 0), (Reg.ECC_ERR_SUBCH, 0), (Reg.ECC_ERR_ADDR_LO_ADDR, a), (Reg.ECC_ERR_ADDR_HI_ADDR, a / 4294967296)]
  s.eventPer 915 requester 1000000 [h, requester]

/-- How a walk of a chain ended. -/
inductive Walk where
  | done
  | refused
  | uncorrectable
  deriving DecidableEq, Repr

/-- Walk a chain from handle `h` (R361, R362, R365): apply `f` to each cell, stop at a refused cell or at the one whose
descriptor is uncorrectable. `bad` is how many cells lie before that one. -/
def State.walk (s : State) (release : Bool) (requester : Nat) (bad : Option Nat) : Nat → Nat → State × Walk
  | 0, _ => (s, .done)
  | fuel + 1, h =>
    if h = nullHandle then (s, .done)
    else if s.validHandle h = false then (s.cellRefuse 3 requester h, .refused)
    else if bad = some 0 then (s.withdrawCell h requester, .uncorrectable)
    else
      match mapGet? s.cell.cells h with
      | none => (s.cellRefuse (if release then 0 else 1) requester h, .refused)
      | some c =>
        if release then
          let s := if c.refcnt = 1 then s.freeOne h
            else s.updCell fun x => { x with cells := mapSet x.cells h { c with refcnt := c.refcnt - 1 } }
          s.walk release requester (bad.map (· - 1)) fuel c.next
        else if c.refcnt = 255 then (s.cellRefuse 2 requester h, .refused)
        else
          let s := s.updCell fun x => { x with cells := mapSet x.cells h { c with refcnt := c.refcnt + 1 } }
          s.walk release requester (bad.map (· - 1)) fuel c.next

/-- RELEASE of a chain by the block itself. -/
def State.releaseChain (s : State) (requester h : Nat) : State :=
  ((s.walk true requester none (s.cell.cells.length + 1) h).1).cellsFreed

/-- The seal of a structural reset rebuilds every free list (R363). [DEDUCED, unsafe: log 48] -/
def State.cellsReset (s : State) : State :=
  (s.updCell fun _ => { reserve := [2048, 64, s.ingots / 64], low := [129024, 4032, s.ingots - s.ingots / 64] }).wr
    Reg.CELL_STATUS_QUARANTINED 0

end Sys2Proof.Machine
end

