-- ==== Sys2Proof/Machine/Serve.lean ====
section
/-! DEFINITION. Serve programs: their layout, validation, contexts, buffers and steps, and the program slots
(spec/11 R290 to R304, R308). -/

namespace Sys2Proof.Machine

/-! ### Bytes -/

/-- `n` bytes at byte `off` of a list of dwords, as a little-endian number. -/
def bytesAt (w : List Nat) (off n : Nat) : Nat :=
  (List.range n).foldr (fun i a => a * 256 + w.getD ((off + i) / 4) 0 / 256 ^ ((off + i) % 4) % 256) 0

/-- `n` bytes at byte `off` of a buffer, which is a little-endian number; and a buffer with those bytes replaced. -/
def sub (b off n : Nat) : Nat := b / 256 ^ off % 256 ^ n
def put (b off n v : Nat) : Nat := b % 256 ^ off + v % 256 ^ n * 256 ^ off + b / 256 ^ (off + n) * 256 ^ (off + n)

/-! ### The layout of a program (Tables SRV-5 to SRV-9) -/

/-- The length and address parameters of a descriptor (plus 1, 0 for none) are in range (Table SRV-6). [DEDUCED, unsafe: log 66] -/
def paramOk (p : Nat) : Bool := decide (p / 16 ≤ 8) && decide (p % 16 ≤ 8)

/-- The step at descriptor position `p`, with the positions it takes; none where its encoding is not known. [DEDUCED, unsafe: log
66] -/
def parseStep (w : List Nat) (p : Nat) : Option (ServeStep × Nat) :=
  let a := 128 + 64 * p
  let op := bytesAt w a 1
  let flags := bytesAt w (a + 1) 1
  let par := bytesAt w (a + 2) 1
  let bufs := bytesAt w (a + 3) 1
  let buf := bufs % 4
  let sbuf := bufs / 16 % 4
  let off := bytesAt w (a + 4) 4
  let ok := paramOk par && bufs / 64 == 0 && bufs / 4 % 4 == 0
  if op = 1 then
    let n := bytesAt w (a + 0x0C) 1
    let r := (List.range n).map fun i => (bytesAt w (a + 0x10 + 0x10 * i) 8, bytesAt w (a + 0x18 + 0x10 * i) 4)
    if ok && 1 ≤ n && n ≤ 3 && flags < 2 then
      some (.gather (par / 16) (par % 16) buf off (bytesAt w (a + 8) 4) (flags == 1) r, 1)
    else none
  else if op = 2 then
    let aad := bytesAt w (a + 0x0A) 2
    if ok && par % 16 == 0 && flags == 0 && aad ≤ 4096 then
      some (.openStep (par / 16) buf sbuf off (bytesAt w (a + 8) 2) aad (bytesAt w (a + 0x0C) 4) (bytesAt w (a + 0x10) 4), 1)
    else none
  else if op = 3 then
    let scheme := bytesAt w (a + 0x0A) 1
    let map := bytesAt w (a + 0x0B) 1
    if ok && par % 16 == 0 && flags == 0 && 1 ≤ scheme && scheme ≤ 2 && map < 2 then
      some (.cipher (par / 16) buf sbuf off (bytesAt w (a + 8) 2) scheme (map == 1) (bytesAt w (a + 0x0C) 4)
        (bytesAt w (a + 0x10) 4) (bytesAt w (a + 0x20) 16), 1)
    else none
  else if op = 4 then
    let len := bytesAt w (a + 8) 2
    if ok && par == 0 && flags == 0 && 1 ≤ len && len ≤ 256 then
      some (.emit buf off len (bytesAt w (a + 0x10) len) ((len + 16 + 63) / 64), (len + 16 + 63) / 64)
    else none
  else if op = 5 then
    let kind := bytesAt w (a + 0x0C) 1
    if ok && flags < 2 && 1 ≤ kind && kind ≤ 2 then
      some (.send (par / 16) (par % 16) buf off (bytesAt w (a + 8) 4) kind (bytesAt w (a + 0x10) 4) (bytesAt w (a + 0x14) 4)
        (bytesAt w (a + 0x18) 8) (if flags = 1 then some (bytesAt w (a + 0x20) 4) else none), 1)
    else none
  else if op = 6 then
    if ok && par == 0 && flags < 2 then some (.post (flags == 1) (bytesAt w (a + 8) 4), 1) else none
  else none

/-- The steps from position `p` to position `n`; none where one is not known or runs past the end. -/
def parseSteps (w : List Nat) (n : Nat) : Nat → Nat → Option (List (Nat × ServeStep))
  | 0, _ => some []
  | fuel + 1, p =>
    if n ≤ p then (if p = n then some [] else none)
    else match parseStep w p with
      | none => none
      | some (x, k) => (parseSteps w n fuel (p + k)).map ((p, x) :: ·)

def ServeStep.isPost : ServeStep → Bool
  | .post _ _ => true
  | _ => false

/-- A program of `w` dwords whose encoding is known (R293, first two conditions). [DEDUCED, unsafe: log 66] -/
def parseProgram (w : List Nat) : Option Program :=
  let n := bytesAt w 1 1
  if bytesAt w 0 1 = 1 ∧ 1 ≤ n ∧ n ≤ 64 then
    match parseSteps w n (n + 1) 0 with
    | none => none
    | some l =>
      if (l.dropLast.any fun x => x.2.isPost) then none
      else some ⟨n, (List.range 4).map fun i => bytesAt w (4 + 4 * i) 4, (List.range 8).map fun i => bytesAt w (64 + 8 * i) 8, l⟩
  else none

/-- The opcode of a step (Table SRV-6). -/
def ServeStep.op : ServeStep → Nat
  | .gather .. => 1 | .openStep .. => 2 | .cipher .. => 3 | .emit .. => 4 | .send .. => 5 | .post .. => 6

def Program.bufSize (p : Program) (b : Nat) : Nat := p.bufs.getD b 0

/-- The bytes of a logical block of a namespace; 4,096 where it does not exist. -/
def State.lbaBytes (s : State) (nsid : Nat) : Nat :=
  match s.ns? nsid with
  | some n => 4096 / n.per4k
  | none => 4096

/-- R293: every buffer a step names is declared, and every fixed offset plus fixed length lies inside its buffer. -/
def State.stepFits (s : State) (p : Program) : ServeStep → Bool
  | .gather lp _ b off nsid _ r => decide (0 < p.bufSize b) && decide (off ≤ p.bufSize b) &&
      decide (off + ((if lp = 0 then r else r.drop 1).map (·.2)).sum * s.lbaBytes nsid ≤ p.bufSize b)
  | .openStep lp b sb off _ aad src len => decide (0 < p.bufSize b) && decide (0 < p.bufSize sb) &&
      decide (off ≤ p.bufSize b) && decide (src + 28 + aad ≤ p.bufSize sb) &&
      (lp != 0 || (decide (off + len ≤ p.bufSize b) && decide (src + 28 + aad + len ≤ p.bufSize sb)))
  | .cipher lp b sb off _ _ map len mo _ => decide (0 < p.bufSize b) && decide (off ≤ p.bufSize b) &&
      (lp != 0 || decide (off + len ≤ p.bufSize b)) && (!map || (decide (0 < p.bufSize sb) && decide (mo + 16 ≤ p.bufSize sb)))
  | .emit b off len _ _ => decide (0 < p.bufSize b) && decide (off + len ≤ p.bufSize b)
  | .send lp _ b off _ _ len _ _ _ => decide (0 < p.bufSize b) && decide (off ≤ p.bufSize b) &&
      (lp != 0 || (decide (1 ≤ len) && decide (len ≤ 67108864) && decide (off + len ≤ p.bufSize b)))
  | .post _ _ => true

/-- The conditions of R293 that do not depend on the issuer. [DEDUCED, unsafe: log 66] -/
def State.programOk (s : State) (p : Program) : Bool :=
  p.steps.all (fun x => s.stepFits p x.2) && decide (p.bufs.sum ≤ s.rd Reg.SERVE_CFG_MAX_MIB * 1048576)

/-- The conditions of R293 that depend on the issuing controller: attachments, bound key slots, READY queue pairs. After an alarm
the slots are WIPED, and the step that names one fails instead (R329). -/
def State.issuerOk (s : State) (owner : Nat) : ServeStep → Bool
  | .gather _ _ _ _ nsid _ _ => s.isAttached owner nsid && (s.ns? nsid).isSome
  | .openStep _ _ _ _ k _ _ _ => (match s.keySlot? k with
      | some x => x.owner == owner && decide (x.kind = .gcm)
      | none => s.key.wiped)
  | .cipher _ _ _ _ k _ _ _ _ _ => (match s.keySlot? k with
      | some x => x.owner == owner && decide (x.kind = .cipher)
      | none => s.key.wiped)
  | .send _ _ _ _ q _ _ _ _ _ => (match mapGet? s.net.sqps q with
      | some x => x.owner == owner && decide (x.st = .ready)
      | none => false)
  | _ => true

/-! ### Ends (R301 to R303) -/

/-- The status code type and status code of a status (Tables HST-7 and SRV-10; the standard's codes are PRESUMED, log entry 33).
[PRESUMED, unsafe: log 33; DESIGN CHOICE, safe: log 159] -/
def statusCode : Status → Nat × Nat
  | .success => (0, 0) | .invalidOpcode => (0, 1) | .invalidField => (0, 2) | .dataTransferError => (0, 4)
  | .abortedPowerLoss => (0, 5) | .internalError => (0, 6) | .abortRequested => (0, 7) | .abortedSqDeletion => (0, 8)
  | .invalidNamespace => (0, 0x0B) | .commandSequenceError => (0, 0x0C) | .sanitizeFailed => (0, 0x1C)
  | .sanitizeInProgress => (0, 0x1D) | .namespaceWriteProtected => (0, 0x20) | .transientTransport => (0, 0x22)
  | .lbaOutOfRange => (0, 0x80) | .capacityExceeded => (0, 0x81) | .namespaceNotReady => (0, 0x82)
  | .completionQueueInvalid => (1, 0) | .invalidQueueId => (1, 1) | .invalidQueueSize => (1, 2) | .abortLimitExceeded => (1, 3)
  | .aerLimitExceeded => (1, 5) | .invalidFirmwareSlot => (1, 6) | .invalidFirmwareImage => (1, 7)
  | .invalidInterruptVector => (1, 8) | .invalidFormat => (1, 0x0A) | .firmwareNeedsConventionalReset => (1, 0x0B)
  | .invalidQueueDeletion => (1, 0x0C) | .featureNotSaveable => (1, 0x0D) | .featureNotChangeable => (1, 0x0E)
  | .namespaceInsufficientCapacity => (1, 0x15) | .namespaceIdUnavailable => (1, 0x16) | .namespaceAlreadyAttached => (1, 0x18)
  | .namespaceNotAttached => (1, 0x1A) | .controllerListInvalid => (1, 0x1C) | .invalidProtection => (1, 0x81)
  | .connectControllerBusy => (1, 0x81) | .connectInvalidParameters => (1, 0x82) | .connectInvalidHost => (1, 0x84)
  | .zoneBoundaryError => (1, 0xB8) | .zoneIsFull => (1, 0xB9) | .zoneIsReadOnly => (1, 0xBA) | .zoneIsOffline => (1, 0xBB)
  | .zoneInvalidWrite => (1, 0xBC) | .tooManyActiveZones => (1, 0xBD) | .tooManyOpenZones => (1, 0xBE)
  | .invalidZoneTransition => (1, 0xBF)
  | .writeFault => (2, 0x80) | .unrecoveredRead => (2, 0x81) | .guardCheck => (2, 0x82) | .appTagCheck => (2, 0x83)
  | .refTagCheck => (2, 0x84) | .anaInaccessible => (3, 2) | .anaTransition => (3, 3)
  | .raw a b => (a, b) | .deferredWriteFault => (7, 1) | .keySlotSpent => (7, 2) | .serveAuthFailed => (7, 3) | .serveProgramInvalid => (7, 4)

/-- The running program of a command. -/
def State.program (s : State) (r : CmdRef) : Option Run1 := mapGet? s.serve.runs (cmdKey r)

def State.modRun (s : State) (r : CmdRef) (f : Run1 → Run1) : State :=
  s.updServe fun v => { v with runs := mapMod v.runs (cmdKey r) f }

/-- A program leaves its context: its buffers are released, it leaves the queues it waits in, its read ends, and so do the messages
that R302 and R303 end. -/
def State.dropRun (s : State) (r : CmdRef) : State :=
  let k := cmdKey r
  let s := s.unsend r (((s.program r).bind (·.sending)).getD 0 != 0)
  let chains := ((s.program r).map (·.chains)).getD []
  let s := s.updServe fun v => { v with
    runs := mapErase v.runs k, got := mapErase v.got k, waits := v.waits.filter fun w => w.ref ≠ r }
  let s := s.updMd fun m => { m with reads := mapErase m.reads k }
  let s := s.updCell fun c => { c with queues := mapKeep (mapAll c.queues fun _ l => l.filter fun w => w.ref ≠ some r) fun _ l => !l.isEmpty }
  let s := s.updCell fun c => { c with hold := c.hold.filter fun p => mapHas c.queues p }
  (s.each chains fun s h => if h = nullHandle then s else (s.walk true 7 none (s.cell.cells.length + 1) h).1).cellsFreed

def ServeStep.isGather : ServeStep → Bool
  | .gather .. => true
  | _ => false

/-- A gather ends: its Serve command is counted in its ledger once (R185), as missed by the first gather that ends after the
deadline or under one lost at fetch, as met by the last of its gathers. [DEDUCED, unsafe: log 213] -/
def State.measureGather (s : State) (r : CmdRef) (last : Bool) : State :=
  match s.program r, s.cmd? r with
  | some x, some c =>
    let late := match c.deadline with
      | .none => false
      | .live d => decide (d < s.time.sid)
      | .lost _ => true
    if x.measured || !(late || last) then s
    else (s.measure r).modRun r fun x => { x with measured := true }
  | _, _ => s

/-- A program fails at a step (R302, Table SRV-10); the gather that fails ends here (R185). -/
def State.serveFails (s : State) (r : CmdRef) (st : Status) (ev pos op : Nat) : State :=
  let s := if op = 1 then s.measureGather r true else s
  let s := s.firstError Reg.SERVE_ERR_VALID
    [(Reg.SERVE_ERR_POSITION, pos), (Reg.SERVE_ERR_SC, (statusCode st).2), (Reg.SERVE_ERR_SCT, (statusCode st).1),
      (Reg.SERVE_ERR_OWNER, r.owner)]
  let s := ((s.bump Reg.SERVE_STAT_FAILED).event ev [r.owner, pos]).finish r st (pos + op * 256)
  s.dropRun r

/-- A program stops after its current step (R303): its cells are released, EV1035. The command is dealt with by the rule
that stops it. -/
def State.serveStop (s : State) (r : CmdRef) : State :=
  if (s.program r).isNone then s.dropRun r else (s.dropRun r).event 1035 [r.owner, r.cid]

/-- Every program and every waiting Serve command of an owner. -/
def State.serveRefs (s : State) (p : CmdRef → Bool) : List CmdRef :=
  ((s.serve.runs.map (·.2.ref)) ++ s.serve.waits.map (·.ref)).filter p

/-- The first step that a program still has to run, or the implicit POST after the last (R301). -/
def Run1.next (x : Run1) : Nat × ServeStep := x.left.headD (x.prog.positions, .post true 0)

/-- A step ends well. -/
def State.stepDone (s : State) (r : CmdRef) : State := s.modRun r fun x => { x with left := x.left.tail, ranges := none, place := 0, sending := none }

/-! ### Contexts and buffers (R290, R291, R359) -/

/-- Contexts in use on an engine. -/
def State.engineUse (s : State) (e : Nat) : Nat := mapCount s.serve.runs fun _ x => x.engine == e

/-- The lowest-numbered engine with a free context (log entry 34). [DESIGN CHOICE, unsafe: log 34] -/
def State.freeEngine (s : State) : Option Nat := (List.range 16).find? fun e => decide (s.engineUse e < 64)

/-- May the owner take one more context (SERVE_CFG.TEN_MAX)? -/
def State.contextFor (s : State) (owner : Nat) : Option Nat :=
  if (mapCount s.serve.runs fun _ x => x.ref.owner == owner) < s.rd Reg.SERVE_CFG_TEN_MAX then s.freeEngine else none

/-- The starting pool and the cells of a serve buffer of `n` bytes (Table CEL-4). -/
def serveCells (n : Nat) : Nat × Nat :=
  if n ≤ 256 then (0, 1) else if n ≤ 16384 then (1, (n + 4095) / 4096) else (2, (n + 65535) / 65536)

/-- Allocate the buffers of a program, all of them or none: the chains and the state, or the pool and the cells of the first that
cannot be had. `head`: the pool at the head of whose queue the program stands. [DESIGN CHOICE, unsafe: log 68] -/
def State.allocBufs (s : State) (head : Option Nat) : List Nat → (List Nat × State) ⊕ (Nat × Nat)
  | [] => .inl ([], s)
  | 0 :: l => match s.allocBufs head l with
    | .inl (cs, s) => .inl (nullHandle :: cs, s)
    | .inr e => .inr e
  | n :: l =>
    let p := (serveCells n).1
    let mine := decide (head = some p)
    let got := if mine || (s.wholeQueue p).isEmpty then s.wholeBuffer p (serveCells n).2 false mine n else none
    match got with
    | none => .inr (p, (serveCells n).2)
    | some (h, s) => match s.allocBufs head l with
      | .inl (cs, s) => .inl (h :: cs, s)
      | .inr e => .inr e

/-- The pool at the head of whose queue a program stands. -/
def State.headOf (s : State) (r : CmdRef) : Option Nat :=
  [0, 1, 2].find? fun p => decide (((s.wholeQueue p).head?.bind (·.ref)) = some r)

/-- Does a program stand in a pool's queue? -/
def State.queuedIn (s : State) (r : CmdRef) (p : Nat) : Bool := (s.wholeQueue p).any fun w => decide (w.ref = some r)

/-- Give a program its buffers, or let it wait with nothing allocated (R14, R359). [DESIGN CHOICE, unsafe: log 68] -/
def State.giveBuffers (s : State) (r : CmdRef) : State :=
  match s.program r with
  | none => s
  | some x =>
    if x.ready then s
    else
      let head := s.headOf r
      match s.allocBufs head x.prog.bufs with
      | .inl (cs, s) =>
        let s := match head with
          | some p => s.headServed p
          | none => s
        (s.modRun r fun x => { x with ready := true, chains := cs, bufs := x.prog.bufs.map fun _ => 0 }).accept r
      | .inr (p, n) =>
        let s := s.bumpUnits Reg.CELL_WAIT_WAITS 1024
        if s.queuedIn r p then s
        else
          -- the program waits for the pool that is short
          let s := match head with
            | some q => s.headServed q
            | none => s
          s.setWholeQueue p (s.wholeQueue p ++ [⟨7, false, n, some r⟩])

/-- The dwords of the program of a Serve command: those of its data buffer, or its slot's with header bytes 0x40 to 0x7F
replaced (R291, R292). -/
def State.serveWords (s : State) (owner : Nat) (slot : Option Nat) (len : Nat) (words : List Nat) : Option (List Nat) :=
  match slot with
  | none => if len = 128 + 64 * bytesAt words 1 1 then some words else none
  | some k => match mapGet? s.serve.slots k with
    | none => none
    | some x =>
      if len = 64 ∧ (x.owner = owner ∨ x.owner = systemOwner) then some (x.words.take 16 ++ words.take 16 ++ x.words.drop 32)
      else none

/-- A Serve command starts on engine `e` (R290 to R293), which wakes where PD13 sleeps (R415). -/
def State.serveStart (s : State) (r : CmdRef) (e : Nat) (slot : Option Nat) (len : Nat) (words : List Nat) : State :=
  let s := s.updServe fun v => { v with waits := v.waits.filter fun w => w.ref ≠ r }
  match (s.serveWords r.owner slot len words).bind parseProgram with
  | none => s.serveFails r .serveProgramInvalid 1032 0 0
  | some p =>
    if s.programOk p && (p.steps.all fun x => s.issuerOk r.owner x.2) then
      ((s.updServe fun v => { v with
        runs := mapSet v.runs (cmdKey r) ⟨r, e, p, p.steps, false, [], [], none, 0, [], false, none⟩ }).wake 13 0 3).giveBuffers r
    else s.serveFails r .serveProgramInvalid 1032 0 0

/-- SERVE (R290, R291): a context is taken, or the command waits for one. -/
def State.serveCmd (s : State) (r : CmdRef) (slot : Option Nat) (len : Nat) (words : List Nat) : State :=
  s.starting r fun s =>
    if (s.program r).isSome then s
    else match s.contextFor r.owner with
      | some e => s.serveStart r e slot len words
      | none =>
        (s.updServe fun v => { v with waits := (v.waits.filter fun w => w.ref ≠ r) ++ [⟨r, slot, words, len⟩] }).hold r

def execServe (ref : CmdRef) (slot : Option Nat) (len : Nat) (words : List Nat) (s : State) :
    Host.Outcome State Fault Refusal :=
  effect s fun s => s.serveCmd ref slot len words

/-- SERVE_CONTEXT_WAIT_END (R290, R359): a waiting Serve starts once a context, or its buffers, are available. [DESIGN CHOICE,
unsafe: log 9, 68] -/
def execServeContextWaitEnd (ref : CmdRef) (s : State) : Host.Outcome State Fault Refusal :=
  effect s fun s =>
    if (s.program ref).isSome then s.giveBuffers ref
    else match s.serve.waits.find? fun w => decide (w.ref = ref) with
      | some w => s.serveCmd ref w.slot w.len w.words
      | none => s

/-! ### Steps (R294 to R301) -/

/-- A parameter, by its index plus 1; `d` where there is none. -/
def Run1.param (x : Run1) (i d : Nat) : Nat := if i = 0 then d else x.prog.params.getD (i - 1) 0

/-- A length that a parameter's bits 31:0 may replace; an address to which a parameter is added modulo 2⁶⁴ (R295). -/
def Run1.length (x : Run1) (i d : Nat) : Nat := x.param i d % 2 ^ 32
def Run1.address (x : Run1) (i a : Nat) : Nat := (a + x.param i 0) % 2 ^ 64

def Run1.buf (x : Run1) (b : Nat) : Nat := x.bufs.getD b 0

/-- Change a buffer of a program. -/
def State.setBuf (s : State) (r : CmdRef) (b v : Nat) : State := s.modRun r fun x => { x with bufs := x.bufs.set b v }

/-- The step at hand of a program whose buffers are allocated. -/
def State.atStep (s : State) (r : CmdRef) (f : Run1 → Nat → ServeStep → State) : State :=
  match s.program r with
  | none => s
  | some x => if x.ready then f x x.next.1 x.next.2 else s

/-- The ranges of a GATHER with its substitutions (R295). -/
def Run1.gatherRanges (x : Run1) (lp ap : Nat) : List (Nat × Nat) → List (Nat × Nat)
  | [] => []
  | (a, n) :: l => (x.address ap a, x.length lp n) :: l

/-- Read the next range of a GATHER as a tenant read (R296); at the end its deadline is measured (R185). -/
def State.gatherNext (s : State) (r : CmdRef) (nsid : Nat) (hot : Bool) : State :=
  match s.program r with
  | none => s
  | some x => match x.ranges with
    | none => s
    | some [] => (s.measureGather r !(x.left.tail.any fun e => e.2.isGather)).stepDone r
    | some ((a, n) :: _) =>
      match s.ns? nsid with
      | none => s.endRead r .invalidNamespace []
      | some m =>
        if s.reaches r nsid = false then s.endRead r .invalidNamespace []
        else if s.nsReady nsid = false then s.endRead r .namespaceNotReady []
        else s.readBlocks r m nsid a n hot

/-- Take what the read in progress has brought (R263, R296): its blocks go into the buffer, and the next range is read; a
failed read, or a hallmark that fails at egress, fails the step. -/
def State.gatherTake (s : State) (r : CmdRef) (x : Run1) (pos b nsid : Nat) (hot : Bool) (egress : Option (Nat × Nat)) :
    State :=
  match mapGet? s.serve.got (cmdKey r) with
  | none => s
  | some (st, data) =>
    let s := s.updServe fun v => { v with got := mapErase v.got (cmdKey r) }
    if st ≠ .success then s.serveFails r st 1034 pos 1
    else match s.egressFailure r egress with
      | some (f, lba) =>
        let e := (s.updDram fun d => { d with poisoned := d.poisoned.filter fun e => e.1 != cmdKey r }).egressFails nsid f lba
        e.2.serveFails r e.1 1034 pos 1
      | none =>
        let w := s.lbaBytes nsid
        let v := data.foldr (fun d a => a * 256 ^ w + d % 256 ^ w) 0
        let s := s.setBuf r b (put (x.buf b) x.place (data.length * w) v)
        let s := s.modRun r fun x => { x with ranges := x.ranges.map List.tail, place := x.place + data.length * w }
        s.gatherNext r nsid hot

/-- GATHER (R296): begins, or goes on with what its reads have brought. -/
def State.gather (s : State) (r : CmdRef) (egress : Option (Nat × Nat)) : State :=
  s.atStep r fun x pos step => match step with
    | .gather lp ap b off nsid hot rs =>
      match x.ranges with
      | some _ => s.gatherTake r x pos b nsid hot egress
      | none =>
        let l := (x.gatherRanges lp ap rs).filter fun e => e.2 ≠ 0
        if x.prog.bufSize b < off + (l.map (·.2)).sum * s.lbaBytes nsid then s.serveFails r .serveProgramInvalid 1032 pos 1
        else
          let s := s.modRun r fun x => { x with ranges := some l, place := off }
          -- relative to the base of its Serve command (R291)
          let s := s.setDeadline r nsid ((s.nsCons nsid).getD 0) (((s.cmd? r).map Cmd.deadlineAtFetch).getD .none)
          let s := s.gatherNext r nsid hot
          match s.program r with
          | some x => s.gatherTake r x pos b nsid hot egress
          | none => s
    | _ => s

def execGather (ref : CmdRef) (egress : Option (Nat × Nat)) (s : State) : Host.Outcome State Fault Refusal :=
  effect s fun s => s.gather ref egress

/-- OPEN (R297). -/
def State.openSealed (s : State) (r : CmdRef) : State :=
  s.atStep r fun x pos step => match step with
    | .openStep lp b sb off key aad src len =>
      let n := x.length lp len
      if x.prog.bufSize b < off + n ∨ x.prog.bufSize sb < src + 28 + aad + n then s.serveFails r .serveProgramInvalid 1032 pos 2
      else
        let ok := s.keyAllows key 1
        let s := s.reserveKey key 1
        if !ok then s.serveFails r .keySlotSpent 1034 pos 2
        else
          let from_ := x.buf sb
          let k := ((s.keySlot? key).map (·.key)).getD 0
          match Config.gcmOpen k (sub from_ src 12) (sub from_ (src + 12) aad) (sub from_ (src + 12 + aad) n)
              (sub from_ (src + 12 + aad + n) 16) with
          | some pt => (s.setBuf r b (put (x.buf b) off n pt)).stepDone r
          | none => (s.setBuf r b (put (x.buf b) off n 0)).serveFails r .serveAuthFailed 1033 pos 2
    | _ => s

/-- OPEN_STEP (R298). [DEDUCED, unsafe: log 179] -/
def execOpenStep (ref : CmdRef) (s : State) : Host.Outcome State Fault Refusal := effect s fun s => s.openSealed ref

/-- A sample of a CIPHER: its IV, its size, and its clear and protected parts in order. -/
structure Sample where
  iv : Nat
  size : Nat
  parts : List (Nat × Nat)
  deriving DecidableEq, Repr

/-- The samples of a subsample map at byte `o` of a buffer of `size` bytes (R298); none where it runs past the end. -/
def parseMap (b size : Nat) : Nat → Nat → Option (List Sample)
  | 0, _ => some []
  | n + 1, o =>
    let subs := sub b (o + 20) 2
    if size < o + 24 + 8 * subs then none
    else
      let parts := (List.range subs).map fun i => (sub b (o + 24 + 8 * i) 4, sub b (o + 28 + 8 * i) 4)
      let z := sub b (o + 16) 4
      (parseMap b size n (o + 24 + 8 * subs)).map
        (⟨sub b o 16, z, if subs = 0 then [(0, z)] else parts⟩ :: ·)

/-- The checks of a map: the sizes add up (R298). -/
def samplesOk (l : List Sample) (len : Nat) : Bool :=
  (l.map (·.size)).sum == len && l.all fun x => (x.parts.map fun p => p.1 + p.2).sum == x.size

/-- The bytes that pass through AES (R298): every protected byte, or one block in ten of each protected region. [DEDUCED, unsafe:
log 67] -/
def aesBytes (scheme : Nat) (l : List Sample) : Nat :=
  (l.map fun x => (x.parts.map fun p => if scheme = 1 then p.2 else (p.2 / 16 + 9) / 10 * 16).sum).sum

/-- The protected bytes of a sample's parts at byte `o`, joined, with their number. -/
def joined (b : Nat) : Nat → List (Nat × Nat) → Nat × Nat
  | _, [] => (0, 0)
  | o, (c, p) :: l =>
    let t := joined b (o + c + p) l
    (sub b (o + c) p + t.1 * 256 ^ p, p + t.2)

/-- Lay joined bytes out again over the protected parts. -/
def scatter (b v : Nat) : Nat → List (Nat × Nat) → Nat
  | _, [] => b
  | o, (c, p) :: l => scatter (put b (o + c) p v) (v / 256 ^ p) (o + c + p) l

/-- The bytes of an 8-byte number in the other order. -/
def rev8 (n : Nat) : Nat := (List.range 8).foldl (fun a i => a * 256 + n / 256 ^ i % 256) 0

/-- Counter block `i` of cenc: the low 64 bits of the initial block go up big-endian and wrap without carry (R298). -/
def counterBlock (iv i : Nat) : Nat := iv % 2 ^ 64 + rev8 ((rev8 (iv / 2 ^ 64 % 2 ^ 64) + i) % 2 ^ 64) * 2 ^ 64

/-- cenc of the protected bytes of one sample: one AES-CTR keystream (R298). -/
def cenc (key iv n data : Nat) : Nat :=
  let blocks := (List.range ((n + 15) / 16)).map fun i => Config.aes key (counterBlock iv i) % 2 ^ 128
  Nat.xor (data % 256 ^ n) (blocks.foldr (fun b a => b + a * 2 ^ 128) 0 % 256 ^ n)

/-- The 16-byte blocks of a protected region under cbcs from block `i` on: of each ten the first is encrypted, chained to the encrypted one
before it; a shorter trailing part stays clear (R298). -/
def cbcsBlocks (key data : Nat) : Nat → Nat → Nat → Nat
  | 0, i, _ => data / 256 ^ (16 * i) * 256 ^ (16 * i)
  | n + 1, i, chain =>
    let b := sub data (16 * i) 16
    if i % 10 = 0 then
      let c := Config.aes key (Nat.xor b chain) % 2 ^ 128
      c * 256 ^ (16 * i) + cbcsBlocks key data n (i + 1) c
    else b * 256 ^ (16 * i) + cbcsBlocks key data n (i + 1) chain

/-- cbcs of one protected region of `n` bytes: a new AES-CBC chain from the sample's constant IV (R298). -/
def cbcs (key iv n data : Nat) : Nat := cbcsBlocks key (data % 256 ^ n) (n / 16) 0 iv

/-- Cipher the samples of a buffer from byte `o` on (R298). -/
def cipherAll (key scheme b : Nat) : Nat → List Sample → Nat
  | _, [] => b
  | o, x :: l =>
    let b' :=
      if scheme = 1 then
        let j := joined b o x.parts
        scatter b (cenc key x.iv j.2 j.1) o x.parts
      else (x.parts.foldl (fun (a : Nat × Nat) p =>
        (put a.1 (a.2 + p.1) p.2 (cbcs key x.iv p.2 (sub a.1 (a.2 + p.1) p.2)), a.2 + p.1 + p.2)) (b, o)).1
    cipherAll key scheme b' (o + x.size) l

/-- CIPHER (R298): the map and the key limit are checked before any byte. [DEDUCED, unsafe: log 67, 179] -/
def State.cipherStep (s : State) (r : CmdRef) : State :=
  s.atStep r fun x pos step => match step with
    | .cipher lp b sb off key scheme map len mo iv =>
      let n := x.length lp len
      let samples := if map then
          (if x.prog.bufSize sb < mo + 16 then none
           else parseMap (x.buf sb) (x.prog.bufSize sb) (sub (x.buf sb) mo 4) (mo + 16))
        else some [⟨iv, n, [(0, n)]⟩]
      match samples with
      | none => s.serveFails r .serveProgramInvalid 1032 pos 3
      | some l =>
        if x.prog.bufSize b < off + n ∨ samplesOk l n = false then s.serveFails r .serveProgramInvalid 1032 pos 3
        else
          let ok := s.keyAllows key (aesBytes scheme l)
          let s := s.reserveKey key (aesBytes scheme l)
          if !ok then s.serveFails r .keySlotSpent 1034 pos 3
          else
            let k := ((s.keySlot? key).map (·.key)).getD 0
            (s.setBuf r b (cipherAll k scheme (x.buf b) off l)).stepDone r
    | _ => s

def execCipher (ref : CmdRef) (s : State) : Host.Outcome State Fault Refusal := effect s fun s => s.cipherStep ref

/-- EMIT (R299). -/
def State.emitStep (s : State) (r : CmdRef) : State :=
  s.atStep r fun x _ step => match step with
    | .emit b off len data _ => (s.setBuf r b (put (x.buf b) off len data)).stepDone r
    | _ => s

def execEmit (ref : CmdRef) (s : State) : Host.Outcome State Fault Refusal := effect s fun s => s.emitStep ref

/-- SEND (R300): the message or messages, then the closing message, join the queue pair; the step ends when the last packet of the
last of them is transmitted. [DESIGN CHOICE, unsafe: log 220] -/
def State.sendStep (s : State) (r : CmdRef) : State :=
  s.atStep r fun x pos step => match step with
    | .send lp ap b off h kind len rkey remote imm =>
      let n := x.length lp len
      let a := x.address ap remote
      if n = 0 ∨ 67108864 < n ∨ x.prog.bufSize b < off + n then s.serveFails r .serveProgramInvalid 1032 pos 5
      else match s.readyQp h with
        | none => s.serveFails r .transientTransport 1034 pos 5
        | some (k, q) =>
          if x.sending.isSome then s
          else (s.queueMsgs k (sendMsgs r kind q.pmtu n rkey a (sub (x.buf b) off n) imm)).modRun r fun x =>
            { x with sending := some 0 }
    | _ => s

def execSend (ref : CmdRef) (s : State) : Host.Outcome State Fault Refusal := effect s fun s => s.sendStep ref

/-- Has every message that the program has sent been acknowledged (R301)? -/
def State.allAcked (s : State) (x : Run1) : Bool :=
  x.sent.all fun e => match s.readyQp e.1 with
    | some (_, q) => decide (e.2 ≤ q.acked)
    | none => false

/-- POST (R301): the completion, after the acknowledgements it waits for; a queue pair in the error state fails it. -/
def State.postStep (s : State) (r : CmdRef) : State :=
  s.atStep r fun x pos step => match step with
    | .post wait value =>
      if wait && x.sent.any (fun e => (s.readyQp e.1).isNone) then s.serveFails r .transientTransport 1034 pos 6
      else if wait && !s.allAcked x then s
      else ((s.bumpUnits Reg.SERVE_STAT_DONE 1024).finish r .success value).dropRun r
    | _ => s

def execPost (ref : CmdRef) (s : State) : Host.Outcome State Fault Refusal := effect s fun s => s.postStep ref

/-! ### Program slots (R304, R308) -/

/-- Is a slot's owner one that Table SRV-21 allows? [DESIGN CHOICE, unsafe: log 65] -/
def State.slotOwnerOk (s : State) (owner : Nat) : Bool :=
  isTenant owner || owner == systemOwner || (decide (0x1000 ≤ owner) && s.hasLink (owner - 0x1000))

/-- SERVE_SLOT_LOAD (R304): the staged program is checked and loaded, or refused with the slot as it was. [DESIGN CHOICE, unsafe:
log 65] -/
def execServeSlotLoad (slot owner : Nat) (s : State) : Host.Outcome State Fault Refusal :=
  effect s fun s =>
    let n := bytesAt [s.rd (Reg.SERVE_STAGE_DATA.at 0)] 1 1
    let w := (List.range (32 + 16 * min n 64)).map fun i => s.rd (Reg.SERVE_STAGE_DATA.at i)
    let s := s.wr Reg.SERVE_SLOT_STATUS_SLOT slot
    if s.slotOwnerOk owner = false then s.wr Reg.SERVE_SLOT_STATUS_RESULT 2
    else match parseProgram w with
      | none => s.wr Reg.SERVE_SLOT_STATUS_RESULT 1
      | some p =>
        if s.programOk p then
          ((s.updServe fun v => { v with slots := mapSet v.slots (slot % 65536) ⟨owner, w⟩ }).wr
            Reg.SERVE_SLOT_STATUS_RESULT 0).event 1036 [slot]
        else s.wr Reg.SERVE_SLOT_STATUS_RESULT 1

/-- SERVE_SLOT_CLEAR (R304). -/
def execServeSlotClear (slot : Nat) (s : State) : Host.Outcome State Fault Refusal :=
  effect s fun s =>
    ((((s.updServe fun v => { v with slots := mapErase v.slots (slot % 65536) }).wr Reg.SERVE_SLOT_STATUS_RESULT 0).wr
      Reg.SERVE_SLOT_STATUS_SLOT slot).event 1036 [slot])

end Sys2Proof.Machine
end

