-- ==== Sys2Proof/Machine/Tenants.lean ====
section
/-! DEFINITION. Tenants: activation, reset and the epoch, eclipse and restore, weights and reservations (spec/13). -/

namespace Sys2Proof.Machine

/-! ### The end of an epoch's work (R340 to R342, Table TEN-2) -/

/-- The name under which a command of an ended epoch is kept: no command fetched later can have it. [DESIGN CHOICE, safe: log 63] -/
def staleRef (n : Nat) (r : CmdRef) : CmdRef := { r with owner := r.owner + 65536 * (n + 1) }

/-- Rename the reads of commands. [DESIGN CHOICE, safe: log 63] -/
def renamePurpose (f : CmdRef → CmdRef) : Purpose → Purpose
  | .hostRead r lba n => .hostRead (f r) lba n
  | p => p

def isReadOf (l : List CmdRef) : Purpose → Bool
  | .hostRead r _ _ => l.contains r
  | _ => false

/-- Reads: those not issued are withdrawn at no charge with their jobs, those issued run to their end for nobody. -/
def State.endReads (s : State) (l : List CmdRef) (f : CmdRef → CmdRef) : State :=
  let decs := (s.md.dec.filter fun e => isReadOf l e.2.op.purpose).map (·.1)
  let jobs := s.jobsFor fun k => match k with
    | .occult o _ _ => isReadOf l o.purpose
    | .ladder e => decs.contains e
    | .outOfService r _ _ => l.contains r
    | _ => false
  let s := s.each jobs State.dropJob
  let s := s.updMd fun m => { m with
    reads := m.reads.filter fun e => !l.contains e.2.ref, dec := m.dec.filter fun e => !decs.contains e.1 }
  s.each (s.md.die.map (·.1)) fun s d =>
    let s := s.dropOps d fun o => isReadOf l o.purpose
    s.modDie d fun x => match x.busy with
      | .running o => if isReadOf l o.purpose then { x with busy := .running { o with purpose := renamePurpose f o.purpose } } else x
      | _ => x

/-- Writes: those whose data is wholly in the buffer are committed for nobody, the others are dropped. -/
def State.endWrites (s : State) (l : List CmdRef) (f : CmdRef → CmdRef) : State :=
  let s := s.dropWrite fun w => l.contains w.ref && decide (w.completed = none) && !w.got
  let n := s.q.seq
  s.updWp fun v => { v with
    wr := mapAll v.wr fun _ w =>
      if l.contains w.ref && decide (w.completed = none) then { w with ref := f w.ref, completed := some n } else w
    flushes := v.flushes.filter fun e => !(l.any fun r => cmdKey r == e.1) }

/-- Zone operations already accepted are applied; what waits for an opening is dropped. -/
def State.endZoneOps (s : State) (l : List CmdRef) (f : CmdRef → CmdRef) : State :=
  let mine := s.zone.resets.filter fun e => l.contains e.2.ref
  let rest := s.zone.resets.filter fun e => !l.contains e.2.ref
  s.updZone fun z => { z with
    resets := mine.foldl (fun m e => mapSet m (cmdKey (f e.2.ref)) { e.2 with ref := f e.2.ref }) rest
    openWaits := z.openWaits.filter fun e => !l.contains e.2
    secureWaits := z.secureWaits.map fun k => ((mine.find? fun e => decide (e.1 = k)).map fun e => cmdKey (f e.2.ref)).getD k }

/-- End the work of the commands of an owner for which `p` holds, as Table TEN-2 states; with the count of the completions that it
suppresses. [DEDUCED, unsafe: log 62] -/
def State.endWork (s : State) (owner : Nat) (p : Cmd → Bool) : Nat × State :=
  let l := (s.q.cmds.filter fun e => e.2.ref.owner == owner && p e.2).map (·.2.ref)
  let f := staleRef s.q.seq
  let aers := (s.ctrl owner).aers
  let s := s.each (s.serveRefs l.contains) State.serveStop
  let s := s.each l fun s r => s.unsend r false
  let s := ((s.endReads l f).endWrites l f).endZoneOps l f
  let s := s.updJr fun j => { j with waiting := j.waiting.filter fun e => !l.contains e.2 }
  let s := s.updPair fun x => { x with
    forwards := x.forwards.filter fun e => !l.contains e.2.1, nsOps := x.nsOps.filter fun r => !l.contains r
    opAcks := x.opAcks.filter fun e => !l.contains e.2.1, approved := x.approved.filter fun r => !l.contains r
    asks := x.asks.filter fun e => match e.2.ref with | some r => !l.contains r | none => true }
  let s := s.updPower fun x => { x with psWait := x.psWait.filter fun r => !l.contains r }
  let s := s.updKey fun x => { x with
    waits := x.waits.map fun w => match w.ref with
      | some r => if l.contains r then { w with ref := none } else w
      | none => w }
  let s := s.updBoot fun b => { b with
    commit := b.commit.map fun c => if l.contains c.ref then { c with ref := f c.ref } else c }
  let kept := (s.q.cmds.filter fun e => l.contains e.2.ref && s.readRuns (f e.2.ref)).map (·.2)
  let s := s.updQ fun q => { q with
    cmds := kept.foldl (fun m c => mapSet m (cmdKey (f c.ref)) { c with ref := f c.ref, phase := .accepted })
      (q.cmds.filter fun e => !l.contains e.2.ref) }
  let s := s.modCtrl owner fun c => { c with aers := c.aers.filter fun r => !l.contains r }
  ((l.filter fun r => !aers.contains r).length, s)

/-- The next epoch of a slot: it skips any that an outstanding operation still carries (R340). -/
def State.nextEpoch (s : State) (t : Nat) : Nat :=
  let used := (s.q.cmds.filter fun e => isStale e.2.ref && e.2.ref.owner % 65536 == t).map (·.2.epoch)
  let e := (s.tenant t).epoch
  (((List.range (used.length + 1)).map fun i => (e + 1 + i) % 65536).find? fun x => !used.contains x).getD ((e + 1) % 65536)

/-- EPOCH_INCREMENT of a tenant slot (R340, R342). -/
def State.increment (s : State) (t : Nat) : State :=
  (s.modTen t fun x => { x with epoch := s.nextEpoch t }).bump (Reg.TEN_RESET_STAT_RESETS.at t)

/-- The queues of a controller cease to exist, and its controller properties return to their reset values; its queue count and its
MSI-X state stay. [PRESUMED, unsafe: log 61] -/
def State.wipeController (s : State) (owner : Nat) : State :=
  let s := s.updQ fun q => { q with
    ctx := q.ctx.filter fun e => e.1 / 65536 ≠ owner
    cached := q.cached.filter fun k => k / 65536 ≠ owner
    fills := q.fills.filter fun k => k / 65536 ≠ owner
    waits := q.waits.filter fun e => e.1 / 65536 ≠ owner
    rings := q.rings.filter fun e => e.1 / 65536 ≠ owner
    rr := q.rr.filter fun e => e.1 / 8 ≠ owner
    wrr := q.wrr.filter fun e => e.1 / 8 ≠ owner
    deficit := q.deficit.filter fun e => e.1 ≠ owner }
  s.modCtrl owner fun c =>
    { queues := c.queues, ctxs := c.ctxs, unmasked := c.unmasked, fnMask := c.fnMask, pba := c.pba, errs := c.errs, flr := c.flr }

/-- An eclipse in progress ends with a reset, and a record becomes void (Table TEN-1). -/
def State.voidEclipse (s : State) (t : Nat) : State :=
  let s := if (s.tenant t).phase = .quiesce then
      ((s.wr (Reg.TEN_ECL_STATUS_RESULT.at t) 3).set (Reg.TEN_ECL_STATUS_BUSY.at t) false).event 36 [t]
    else if (s.tenant t).phase = .restoring then s.set (Reg.TEN_ECL_STATUS_BUSY.at t) false
    else s
  s.modTen t fun x => { x with
    force := false, forced := false, recorded := false, frozen := false, captured := [], owed := []
    resumeAtMeridian := false }

/-- Reset a controller under the epoch rules (R77, R335, R341): with the count of the suppressed completions. A PF controller has no
epoch; its work ends in the same way. [PRESUMED, unsafe: log 61; DEDUCED, unsafe: log 62] -/
def State.resetController (s : State) (owner : Nat) : Nat × State :=
  let s := if isTenant owner then s.voidEclipse owner else s
  let r := s.endWork owner fun _ => true
  let s := r.2
  let s := if isTenant owner then
      (s.increment owner).bump (Reg.TEN_RESET_STAT_SUPPRESSED.at owner) r.1
    else s
  (r.1, s.wipeController owner)

/-! ### Activation and deactivation (R94, R335) -/

/-- A slot becomes ACTIVE on a path, with its contexts; or with fewer than two left in its pool it does not, and its
controller reports CSTS.CFS = 1 (R94). -/
def State.activate (s : State) (t path : Nat) : State :=
  let free := s.poolFree (s.poolOf t)
  let n := min free s.chart.cur.ten.defQueues
  if free < 2 then (s.fatal t).event 162 [t]
  else
    let s := s.increment t
    let s := s.modTen t fun x => { x with phase := .active, path := path, released := false }
    ((s.holdContexts t n).modCtrl t fun c => { c with cfs := false }).event 32 [t]

/-- The serve queue pairs of an owner that are READY or in ERROR return to IDLE (Table SRV-11). -/
def State.returnSqps (s : State) (owner : Nat) : State :=
  let mine := s.net.sqps.filter fun e => e.2.owner == owner && decide (e.2.st ≠ .connecting)
  let s := s.emit (mine.map fun e => Out.net "disconnect" [e.2.qp])
  s.updNet fun n => { n with
    sqps := n.sqps.filter fun e => !(e.2.owner == owner && decide (e.2.st ≠ .connecting))
    qps := n.qps.filter fun q => !(mine.any fun e => e.2.qp == q.1) }

/-- A slot whose work has ended becomes INACTIVE: its contexts return, its key slots are cleared, EV0033. -/
def State.deactivate (s : State) (t : Nat) : State :=
  let s := s.modTen t fun x => { x with phase := .inactive }
  let s := s.modCtrl t fun c => { errs := c.errs }
  ((s.clearOwnerKeys t).returnSqps t).event 33 [t]

/-- Reset a slot and make it INACTIVE (Table TEN-1, last row). -/
def State.retireSlot (s : State) (t : Nat) : State :=
  if (s.tenant t).phase = .inactive then s else (s.resetController t).2.deactivate t

/-! ### Eclipse (R344 to R348) -/

/-- Is the command one whose completion only waits for room? -/
def Cmd.isDone (c : Cmd) : Bool :=
  match c.phase with
  | .done _ _ _ => true
  | _ => false

/-- The commands of a tenant's current epoch. -/
def State.tenantCmds (s : State) (t : Nat) : List Cmd := (s.q.cmds.filter fun e => e.2.ref.owner == t).map (·.2)

/-- A status field without the phase bit: the code in bits 7:0, the type in bits 10:8. [PRESUMED, unsafe: log 33] -/
def statusField (st : Status) : Nat := (statusCode st).2 + 256 * (statusCode st).1

/-- The status that a field of a record gives. -/
def statusOf (f : Nat) : Status := if f % 2048 = 0 then .success else .raw (f / 256 % 8) (f % 256)

/-- The events that wait, as PENDING_AEN: Error, SMART/Health, Notice, C0h, C1h, C2h. -/
def aenBits (l : List (Nat × Nat × Nat)) : Nat :=
  ((List.range 6).map fun i => if l.any fun e => aenKey e.1 e.2.1 == (if i < 3 then i else 0xBD + i) then 2 ^ i else 0).sum

/-- The events that PENDING_AEN marks; what it does not say of them is the model's. [DESIGN CHOICE, unsafe: log 169] -/
def aensOf (n : Nat) : List (Nat × Nat × Nat) :=
  ((List.range 6).filter (bit n)).map fun i => if i < 3 then (i, 0, [1, 2, 4].getD i 0) else (7, 0xBD + i, 0xBD + i)

/-- A completion as a record holds it. -/
def State.eclCompletion (s : State) (c : Cmd) (forced : Bool) : EclCompletion :=
  let q := (s.qctx c.ref.owner c.ref.sqid).sqCqid
  match c.phase with
  | .done st a b => ⟨c.ref.sqid, c.ref.cid, q, statusField st, a, b⟩
  | _ => ⟨c.ref.sqid, c.ref.cid, q, if forced then statusField .abortRequested else 0, 0, 0⟩

/-- A queue as a record holds it. -/
def eclQueue (qid : Nat) (c : QCtx) : EclQueue :=
  { qid := qid, sqValid := c.sqValid, cqValid := c.cqValid, prio := c.prio, phase := c.phase, sqBase := c.sqBase,
    cqBase := c.cqBase, sqSize := c.sqSize, cqSize := c.cqSize, sqHead := c.sqHead, sqTail := c.sqTail, cqHead := c.cqHead,
    cqTail := c.cqTail, sqCqid := c.sqCqid, vector := c.vector, ien := c.ien, dlDefault := c.dlDefault }

/-- CSI of a namespace: 0 NVM, 2 Zoned (the standard's values). -/
def Ns.csi (n : Ns) : Nat := if n.zoned then 2 else 0

/-- The eclipse record of a tenant (R348). [DESIGN CHOICE, unsafe: log 169] -/
def State.eclRecord (s : State) (t : Nat) : EclRecord :=
  let x := s.tenant t
  let c := s.ctrl t
  let done := (s.tenantCmds t).filter Cmd.isDone
  { serial := s.boot.otp.serial, saveTime := s.time.sid, saveLock := s.time.lock.code, forced := x.forced,
    slot := t, queueCountM1 := c.queues - 1, cc := 1 + 2048 * c.ams, weight := s.weight t, limit := s.limit t,
    aens := aenBits c.aenPending, arbitration := c.ab % 8 + 256 * c.lpw + 65536 * c.mpw + 16777216 * c.hpw,
    granted := (c.queues - 1) * 65537, coalescing := c.aggThr + 256 * c.aggTime, aenConfig := 0,
    aers := c.aers.map (·.cid)
    queues := ((s.queuesOf t).filter fun e => e.2.sqValid || e.2.cqValid).map fun e => eclQueue e.1 e.2
    attach := (s.attached t).filterMap fun nsid => (s.ns? nsid).map fun n =>
      ⟨nsid, s.unseen t nsid, n.csi, n.lbaf, n.nsze⟩
    keys := (s.key.slots.filter fun e => e.2.owner == t).map fun e => (e.1, e.2.kind.code)
    completions := done.map (fun c => s.eclCompletion c false) ++ x.captured }

/-- An operation of TEN_ECL_CTRL ends with a RESULT. -/
def State.eclResult (s : State) (t r : Nat) : State :=
  (s.wr (Reg.TEN_ECL_STATUS_RESULT.at t) r).set (Reg.TEN_ECL_STATUS_BUSY.at t) false

/-- Take the record and write it by DMA; one that does not fit is not written, and the slot is ECLIPSED all the same
(R346). -/
def State.writeRecord (s : State) (t : Nat) : State :=
  let s := s.writeBackAll
  let r := s.eclRecord t
  let s := s.modTen t fun x => { x with frozen := true }
  if s.rd (Reg.TEN_REC_MAX_BYTES.at t) < r.size then (s.modTen t fun x => { x with phase := .eclipsed }).eclResult t 4
  else
    let a := s.rd (Reg.TEN_REC_ADDR_LO_ADDR.at t) / 4096 * 4096 + s.rd (Reg.TEN_REC_ADDR_HI_ADDR.at t) * 2 ^ 32
    s.emit [Out.eclipse (s.tenant t).link a r.bytes]

/-- ECLIPSE (R344, R346). -/
def execEclipse (slot : Nat) (force : Bool) (link : Nat) (s : State) : Host.Outcome State Fault Refusal :=
  effect s fun s =>
    if 4096 ≤ slot ∨ s.on (Reg.TEN_ECL_STATUS_BUSY.at slot) = true then s
    else if s.isFabric slot then s.eclResult slot 8
    else if (s.tenant slot).phase = .active ∧ (s.ctrl slot).en = true ∧ (s.ctrl slot).rdy = true then
      (s.modTen slot fun x => { x with
        phase := .quiesce, force := force, forced := false, link := link, recorded := false, frozen := false
        captured := [] }).set (Reg.TEN_ECL_STATUS_BUSY.at slot) true
    else if (s.tenant slot).phase = .eclipsed then
      ((s.modTen slot fun x => { x with link := link }).set (Reg.TEN_ECL_STATUS_BUSY.at slot) true).writeRecord slot
    else s.eclResult slot 1

/-- Has a quiescing tenant drained (R345): only outstanding Asynchronous Event Requests, and completions that wait? -/
def State.drained (s : State) (t : Nat) : Bool :=
  (s.tenantCmds t).all fun c => c.isDone || (s.ctrl t).aers.contains c.ref

/-- ECLIPSE_DRAIN_DONE (R345, R346). -/
def execEclipseDrainDone (slot : Nat) (s : State) : Host.Outcome State Fault Refusal :=
  effect s fun s =>
    if (s.tenant slot).phase = .quiesce ∧ (s.tenant slot).frozen = false ∧ s.drained slot = true then s.writeRecord slot else s

/-- A forced eclipse (R345): what remains is entered in the record as aborted, and its epoch ends; the queues stay. -/
def State.forceEclipse (s : State) (t : Nat) : State :=
  let aers := (s.ctrl t).aers
  let l := ((s.tenantCmds t).filter fun c => !aers.contains c.ref).map fun c => s.eclCompletion c true
  let s := s.modTen t fun x => { x with captured := l, forced := true }
  let r := s.endWork t fun c => !aers.contains c.ref
  let s := (r.2.increment t).bump (Reg.TEN_RESET_STAT_SUPPRESSED.at t) r.1
  let e := (s.tenant t).epoch
  let s := s.updQ fun q => { q with
    ctx := mapAll q.ctx fun k c => if k / 65536 = t then
        { c with epoch := e % 256, inflight := if k % 65536 = 0 then aers.length else 0, fetching := 0 } else c
    cmds := mapAll q.cmds fun _ c => if c.ref.owner = t then { c with epoch := e } else c }
  s.writeRecord t

/-- TEN_ECL_TIMEOUT (R345): the eclipse is abandoned, or forced. -/
def execTenEclTimeout (slot : Nat) (s : State) : Host.Outcome State Fault Refusal :=
  effect s fun s =>
    if (s.tenant slot).phase = .quiesce ∧ (s.tenant slot).frozen = false then
      if (s.tenant slot).force then s.forceEclipse slot
      else ((s.modTen slot fun x => { x with phase := .active, resumeAtMeridian := true }).eclResult slot 2).event 36 [slot]
    else s

/-- ECLIPSE_RECORD_WRITTEN (R346). -/
def execEclipseRecordWritten (slot : Nat) (dmaOk : Bool) (s : State) : Host.Outcome State Fault Refusal :=
  effect s fun s =>
    let x := s.tenant slot
    if x.frozen && s.on (Reg.TEN_ECL_STATUS_BUSY.at slot) && (decide (x.phase = .quiesce) || decide (x.phase = .eclipsed)) then
      let n := (s.eclRecord slot).size
      let s := s.modTen slot fun x => { x with phase := .eclipsed, recorded := x.recorded || dmaOk }
      if dmaOk then ((s.wr (Reg.TEN_REC_LEN_BYTES.at slot) n).eclResult slot 0).event 35 [slot] else s.eclResult slot 9
    else s

/-- RESUME (R335): fetch resumes at the next meridian. -/
def execResume (slot : Nat) (s : State) : Host.Outcome State Fault Refusal :=
  effect s fun s =>
    if 4096 ≤ slot ∨ s.on (Reg.TEN_ECL_STATUS_BUSY.at slot) = true then s
    else if (s.tenant slot).phase = .eclipsed then
      (s.modTen slot fun x => { x with
        phase := .active, resumeAtMeridian := true, frozen := false, recorded := false, captured := [] }).eclResult slot 0
    else s.eclResult slot 1

/-- RELEASE (R335): the slot becomes INACTIVE, and its controller reports CSTS.CFS = 1. -/
def execRelease (slot : Nat) (s : State) : Host.Outcome State Fault Refusal :=
  effect s fun s =>
    if 4096 ≤ slot ∨ s.on (Reg.TEN_ECL_STATUS_BUSY.at slot) = true then s
    else if (s.tenant slot).phase = .eclipsed then
      let s := ((s.endWork slot fun _ => true).2.wipeController slot).deactivate slot
      let s := s.modTen slot fun x => { x with
        released := true, recorded := false, frozen := false, captured := [], force := false, forced := false }
      (s.fatal slot).eclResult slot 0
    else s.eclResult slot 1

/-! ### Restore (R349, R350) -/

/-- RESTORE (R349): the record is read into a VF slot that is ACTIVE with CC.EN = 0 and no I/O queue. -/
def execRestore (slot link : Nat) (s : State) : Host.Outcome State Fault Refusal :=
  effect s fun s =>
    if 4096 ≤ slot ∨ s.on (Reg.TEN_ECL_STATUS_BUSY.at slot) = true then s
    else if (s.tenant slot).phase = .active ∧ s.isFabric slot = false ∧ (s.ctrl slot).en = false ∧
        ((s.queuesOf slot).all fun e => e.1 == 0 || !(e.2.sqValid || e.2.cqValid)) = true then
      let a := s.rd (Reg.TEN_REC_ADDR_LO_ADDR.at slot) / 4096 * 4096 + s.rd (Reg.TEN_REC_ADDR_HI_ADDR.at slot) * 2 ^ 32
      ((s.modTen slot fun x => { x with phase := .restoring, link := link }).set (Reg.TEN_ECL_STATUS_BUSY.at slot) true).emit
        [Out.data "eclipse record read" [link, a, s.rd (Reg.TEN_REC_MAX_BYTES.at slot)]]
    else s.eclResult slot 1

/-- The ledgers of the device: pairs of an owner with a weight and a constellation on which it has an attachment (R176). -/
def State.ledgerCount (s : State) : Nat :=
  ((s.nv.attach.filterMap fun e =>
    if s.weight (e.1 / 4294967296) = 0 then none
    else (s.nsCons (e.1 % 4294967296)).map fun k => ledgerKey (e.1 / 4294967296) k).eraseDups).length

/-- The state with attachments added. -/
def State.withAttach (s : State) (owner : Nat) (l : List Nat) : State :=
  s.each l fun s nsid =>
    if s.isAttached owner nsid then s
    else s.modNv fun v => { v with attach := mapSet v.attach (attachKey owner nsid) 0 }

/-- The checks of R349 after the first, in order: the RESULT, 0 where none fails. -/
def State.restoreChecks (s : State) (t : Nat) (r : EclRecord) : Nat :=
  let n := r.queueCountM1 + 1
  let after := s.withAttach t (r.attach.map (·.nsid))
  if s.maxQueues < n ∨ s.poolFree (s.poolOf t) + (s.ctrl t).queues < n then 6
  else if (r.attach.all fun a => match s.ns? a.nsid with
      | some m => a.csi == m.csi && a.lbaf == m.lbaf && a.nsze == m.nsze
      | none => false) = false then 6
  else if 1024 < (after.attached t).length ∨ (65536 < after.ledgerCount ∧ s.ledgerCount < after.ledgerCount) then 6
  else if (r.keys.all fun k => match s.keySlot? k.1 with
      | some x => x.owner == t && x.kind.code == k.2
      | none => false) = false then 7
  else 0

/-- A restored queue, with the current epoch; every entry doorbelled before the save is lost at fetch (R183). -/
def State.restoredQueue (s : State) (t : Nat) (r : EclRecord) (q : EclQueue) : QCtx :=
  let n := (r.completions.filter fun c => c.sqid == q.qid).length + (if q.qid = 0 then r.aers.length else 0)
  { sqBase := q.sqBase, cqBase := q.cqBase, sqSize := q.sqSize, cqSize := q.cqSize, sqTail := q.sqTail, sqHead := q.sqHead,
    cqTail := q.cqTail, cqHead := q.cqHead, sqCqid := q.sqCqid, vector := q.vector, ien := q.ien, dlDefault := q.dlDefault,
    epoch := (s.tenant t).epoch % 256, sqValid := q.sqValid, cqValid := q.cqValid, prio := q.prio, phase := q.phase,
    inflight := n
    stampA := if q.sqHead = q.sqTail then none else some { tail := q.sqTail, time := s.stampNow, expired := true, lost := true } }

/-- A command context that a restore re-creates. -/
def State.restoredCmd (s : State) (t sqid cid : Nat) (p : Phase) : State :=
  let r : CmdRef := ⟨t, sqid, cid⟩
  let c : Cmd :=
    { ref := r, opcode := 0, units := 0, dl := 0, stamp := none, fetchedAt := s.time.sid, seq := s.q.seq, nsid := 0, reserve := false, epoch := (s.tenant t).epoch, urgent := false, deadline := .none, phase := p }
  s.updQ fun q => { q with cmds := mapSet q.cmds (cmdKey r) c, seq := q.seq + 1 }

/-- The record is applied in one step (R350). -/
def State.applyRecord (s : State) (t : Nat) (r : EclRecord) : State :=
  let s := s.wipeController t
  let s := s.updQ fun q => { q with
    ctx := r.queues.foldl (fun m e => mapSet m (qKey t e.qid) (s.restoredQueue t r e)) q.ctx
    pendingWeight := mapSet q.pendingWeight t r.weight
    limits := mapSet q.limits t r.limit }
  let s := r.queues.foldl (fun s e => s.cache (qKey t e.qid)) s
  let s := (s.holdContexts t (r.queueCountM1 + 1)).modCtrl t fun c => { c with
    en := true, rdy := true, ams := bits r.cc 13 11, ab := r.arbitration % 8, lpw := bits r.arbitration 15 8
    mpw := bits r.arbitration 23 16, hpw := bits r.arbitration 31 24, aggThr := r.coalescing % 256, aggTime := bits r.coalescing 15 8
    aenPending := aensOf r.aens
    aers := r.aers.map fun cid => ⟨t, 0, cid⟩ }
  let used := (s.ctxUsed false, s.ctxUsed true)
  let s := s.each r.aers fun s cid => s.restoredCmd t 0 cid .accepted
  let s := s.each r.completions fun s c => s.restoredCmd t c.sqid c.cid (.done (statusOf c.status) c.dw0 c.dw1)
  let s := s.poolMarks used
  let s := s.withAttach t (r.attach.map (·.nsid))
  let s := s.each r.attach fun s a =>
    let s := s.see t a.nsid
    if a.pending then s.updTen fun x => { x with pendingSeen := x.pendingSeen ++ [attachKey t a.nsid] } else s
  s.modTen t fun x => { x with
    phase := .active, resumeAtMeridian := true, owed := r.completions.map fun c => (c.sqid, c.cid) }

/-- RESTORE_RECORD_READ (R349, R350): the bytes that the DMA read, of which none is a DMA error. -/
def execRestoreRecordRead (slot : Nat) (rec : Option (List Nat)) (s : State) : Host.Outcome State Fault Refusal :=
  effect s fun s =>
    if (s.tenant slot).phase ≠ .restoring then s
    else
      let refuse := fun (n : Nat) =>
        ((s.modTen slot fun x => { x with phase := .active }).eclResult slot n).event 38 [slot, n]
      match rec with
      | none => refuse 9
      | some l =>
        let l := l.take (s.rd (Reg.TEN_REC_MAX_BYTES.at slot))
        let r := EclRecord.read l
        if eclHeaderOk l = false then refuse 5
        else if s.restoreChecks slot r ≠ 0 then refuse (s.restoreChecks slot r)
        else (((s.applyRecord slot r).wr (Reg.TEN_REC_LEN_BYTES.at slot) r.size).eclResult slot 0).event 37 [slot]

/-! ### Weights and reservations (R334, R336) -/

/-- TEN_WEIGHT_WRITE (R336): applied at the next meridian (R111). -/
def execTenWeightWrite (slot weight : Nat) (s : State) : Host.Outcome State Fault Refusal :=
  effect s fun s =>
    if 4096 ≤ slot then s else s.updQ fun q => { q with pendingWeight := mapSet q.pendingWeight slot (weight % 65536) }

/-- TEN_NQN_WRITE (R334): the reservation of a fabric slot that is INACTIVE, kept with the journal (R333). -/
def execTenNqnWrite (slot hash : Nat) (s : State) : Host.Outcome State Fault Refusal :=
  effect s fun s =>
    if 4096 ≤ slot ∨ s.isFabric slot = false ∨ (s.tenant slot).phase ≠ .inactive then s
    else s.modNv fun v => { v with nqn := mapPut v.nqn slot (hash % 2 ^ 64) 0 }

end Sys2Proof.Machine
end

