-- ==== Sys2Proof/Machine/Functions.lean ====
section
/-! DEFINITION. Links, functions and their resets, controller enable and reset, and errors of host requests
(spec/04 R65 to R79; spec/05 R93; spec/13 R335, R343). -/

namespace Sys2Proof.Machine

/-! ### Controllers (R93, R335, R464) -/

/-- Has the device reached ADMIN_READY (R464)? -/
def State.adminReady (s : State) : Bool := 6 ≤ s.rd Reg.BOOT_STATUS_STAGE && s.rd Reg.BOOT_STATUS_STAGE ≤ 8

/-- May a controller become ready: ADMIN_READY, and a chart sealed or safe (R40, R464)? -/
def State.hostOpen (s : State) : Bool :=
  s.adminReady && (decide (s.chart.phase = .sealed) || decide (s.chart.phase = .safe))

/-- The controllers whose CC.EN was set before they could become ready set CSTS.RDY (R464). -/
def State.openControllers (s : State) : State :=
  if s.hostOpen then
    s.each ((s.host.ctrls.filter fun e => e.2.enPending).map (·.1)) fun s o =>
      s.modCtrl o fun c => { c with enPending := false, rdy := true }
  else s

/-- CC_ENABLE (R93, R464): CC.EN goes from 0 to 1; an admin queue of one entry, or a CC.AMS that CAP.AMS does not report, makes the
controller fail. A fabric controller's admin queue is the one that its Connect created. [DEDUCED, unsafe: log 225] -/
def State.ccEnable (s : State) (owner asqs acqs ams asq acq : Nat) : State :=
  let c := s.ctrl owner
  if !s.present owner || c.flr || c.en then s
  else
    let s := s.modCtrl owner fun c => { c with en := true, ams := ams }
    if s.isFabric owner then
      if s.hostOpen then s.modCtrl owner fun c => { c with rdy := true }
      else s.modCtrl owner fun c => { c with enPending := true }
    else if asqs = 0 ∨ acqs = 0 ∨ (ams ≠ 0 ∧ bit capAms (ams - 1) = false) then s.fatal owner
    else
      let q : QCtx := { sqBase := asq, cqBase := acq, sqSize := asqs % 4096, cqSize := acqs % 4096, ien := true,
                        epoch := (s.tenant owner).epoch % 256, sqValid := true, cqValid := true }
      let s := (s.modCtx owner 0 fun _ => q).cache (qKey owner 0)
      if s.hostOpen then s.modCtrl owner fun c => { c with rdy := true }
      else s.modCtrl owner fun c => { c with enPending := true }

def execCcEnable (owner asqs acqs ams asq acq : Nat) (s : State) : Host.Outcome State Fault Refusal :=
  effect s fun s => s.ccEnable owner asqs acqs ams asq acq

/-- The association of a fabric controller ends (R287): its queue pairs close, EV1030, the controller is reset under the
epoch rules, and its slot becomes INACTIVE (Table TEN-1). -/
def State.endAssociation (s : State) (owner : Nat) : State :=
  match mapGet? s.net.assocs owner with
  | none => s
  | some a =>
    let s := s.emit (a.qps.map fun k => Out.net "disconnect" [k])
    let s := s.updNet fun n => { n with
      qps := n.qps.filter fun e => !a.qps.contains e.1, assocs := mapErase n.assocs owner }
    let s := s.event 1030 [owner]
    let r := s.resetController owner
    (r.2.event 34 [owner, r.1]).deactivate owner

/-- Capsules in a fabric controller's rings that are not yet fetched (R286). -/
def State.hasCapsules (s : State) (owner : Nat) : Bool := s.q.rings.any fun e => e.1 / 65536 == owner && !e.2.isEmpty

/-- CONTROLLER_RESET (R77, R335, R341): CC.EN goes from 1 to 0; the slot passes through RESETTING and is ACTIVE again with
CSTS.RDY = 0. EV0034 carries the suppressed completions. Where a capsule is discarded, the association ends (R286). -/
def State.controllerReset (s : State) (owner : Nat) : State :=
  let c := s.ctrl owner
  if !s.present owner || c.flr || !c.en then s
  else if s.isFabric owner && s.hasCapsules owner then s.endAssociation owner
  else
    let r := s.resetController owner
    if isTenant owner then
      (r.2.modTen owner fun x => { x with phase := .active }).event 34 [owner, r.1]
    else r.2

def execControllerReset (owner : Nat) (s : State) : Host.Outcome State Fault Refusal :=
  effect s fun s => s.controllerReset owner

/-! ### Function resets (R67, R77, R78) -/

/-- The enabled VFs of a link that the chart has. -/
def State.vfs (s : State) (l : Nat) : List Nat := (List.range (min (s.link l).enabled (s.totalVfs l))).map (· + 1)

/-- The enabled VFs of a link, those above the chart's count among them (R79). -/
def State.enabledVfs (s : State) (l : Nat) : List Nat := (List.range (s.link l).enabled).map (· + 1)

/-- A function's configuration space returns to its reset values (R77, R78); with the PF's go NumVFs and 10-bit Tag Requester
Enable. [PRESUMED, unsafe: log 226] -/
def State.resetCfg (s : State) (owner : Nat) : State :=
  let s := { s with host := { s.host with cfg := mapErase s.host.cfg (s.cfgKey owner) } }
  if isTenant owner || decide (0x4000 ≤ owner) then s
  else (s.modLink (s.linkOf owner) fun x => { x with numVfs := 0 }).set (Reg.HOST_LINK_STATUS_TAG10.at (s.linkOf owner)) false

/-- The controllers of the VFs are reset, and their slots become INACTIVE. -/
def State.retireVfs (s : State) (l : Nat) : State := s.each (s.vfs l) fun s v => s.retireSlot (s.fnOwner (.vf l v))

/-- VF Enable is clear: no VF reports a fatal status any more. -/
def State.closeVfs (s : State) (l : Nat) : State :=
  let s := s.each (s.enabledVfs l) fun s v =>
    let o := s.fnOwner (.vf l v)
    let s := (s.modCtrl o fun c => { c with cfs := false, flr := c.flr && isTenant o }).resetCfg o
    if isTenant o then s.modTen o fun x => { x with phase := .inactive, released := false } else s
  s.modLink l fun x => { x with vfEnable := false, enabled := 0 }

/-- Clearing VF Enable resets every VF and makes its slot INACTIVE (R335). -/
def State.vfDisable (s : State) (l : Nat) : State := (s.retireVfs l).closeVfs l

/-- Does a function exist? A VF above the chart's count stays enumerated (R79). -/
def State.hasFn (s : State) : Fn → Bool
  | .pf l => s.hasLink l
  | .vf l v => (s.enabledVfs l).contains v

/-- MSI-X state returns to its reset values with the function. [PRESUMED, unsafe: log 8] -/
def State.resetMsix (s : State) (owner : Nat) : State :=
  s.modCtrl owner fun c => { c with unmasked := [], fnMask := false, pba := [], flr := true }

/-- An FLR of a PF: its VFs, its controller and its configuration space are reset, and VF Enable is cleared; EV0132. -/
def State.flrPf (s : State) (l : Nat) : State :=
  let s := s.retireVfs l
  let s := ((((s.resetController (pfOwner l)).2).resetMsix (pfOwner l)).closeVfs l).resetCfg (pfOwner l)
  (s.bump (Reg.HOST_ERR_COUNT_FLR.at l)).event 132 [l]

/-- An FLR of a VF: its controller is reset under the epoch rules; EV0132. That of a VF above the chart's count goes on reporting a
fatal status (R79). [DEDUCED, unsafe: log 64] -/
def State.flrVf (s : State) (l v : Nat) : State :=
  let o := s.fnOwner (.vf l v)
  let s := s.resetCfg o
  let s := if !isTenant o then s.resetMsix o
    else if isTenant o && decide ((s.tenant o).phase = .inactive) then
      (s.modTen o fun x => { x with released := false }).modCtrl o fun c => { c with cfs := false }
    else
      let s := ((s.resetController o).2).resetMsix o
      if isTenant o then s.modTen o fun x => { x with phase := .resetting } else s
  (s.bump (Reg.HOST_ERR_COUNT_FLR.at l)).event 132 [l]

/-- Are configuration requests completed (R462): not between a cold reset and the start of firmware; the boot ROM completes them in
RECOVERY (R461). [DESIGN CHOICE, safe: log 192] -/
def State.cfgOpen (s : State) : Bool := s.boot.running || s.boot.recovery || s.boot.warm

/-- A configuration request on a link: answered with Configuration Request Retry Status while none is completed (R462). [DESIGN
CHOICE, safe: log 192] -/
def State.configured (s : State) (link : Nat) (f : State → State) : State :=
  if s.cfgOpen then f s else s.emit [Out.data "configuration request retry" [link]]

/-- The link of a function. -/
def fnLink : Fn → Nat
  | .pf l => l
  | .vf l _ => l

/-- An FLR begins (R77). [DEDUCED, unsafe: log 64] -/
def State.flr (s : State) (fn : Fn) : State :=
  if s.hasFn fn = false then s
  else match fn with
    | .pf l => s.flrPf l
    | .vf l v => s.flrVf l v

def execFunctionLevelReset (fn : Fn) (s : State) : Host.Outcome State Fault Refusal :=
  effect s fun s => s.configured (fnLink fn) fun s => s.flr fn

/-- FLR_COMPLETE (R77): the slot is ACTIVE again, with RDY at 0. -/
def State.flrComplete (s : State) (fn : Fn) : State :=
  let o := s.fnOwner fn
  if (s.ctrl o).flr then
    let s := s.modCtrl o fun c => { c with flr := false }
    if isTenant o && decide ((s.tenant o).phase = .resetting) then s.modTen o fun x => { x with phase := .active } else s
  else s

def execFlrComplete (fn : Fn) (s : State) : Host.Outcome State Fault Refusal := effect s fun s => s.flrComplete fn

/-- An FLR of every function of a link (R78). [DEDUCED, unsafe: log 64] -/
def State.resetLink (s : State) (l : Nat) : State := (s.each (s.enabledVfs l) fun s v => s.flrVf l v).flrPf l

/-- HOT_RESET (R78). -/
def execHotReset (link : Nat) (s : State) : Host.Outcome State Fault Refusal :=
  effect s fun s => if s.hasLink link then s.resetLink link else s

/-! ### Links (R65, R66, R78) -/

/-- The highest rate of a link: the chart's, or PCIe 6.0 before a chart from a slot is sealed (R65). -/
def State.genMax (s : State) (l : Nat) : Nat :=
  if s.charted then (if l < 4 then s.chart.cur.ports.h0Gen else s.chart.cur.ports.h1Gen) else 6

/-- Lanes of a link of a split (Table HST-1). -/
def State.linkLanes (s : State) (l : Nat) : Nat := 16 / 2 ^ s.split (l / 4)

/-- A link's status while it is down. -/
def State.linkZero (s : State) (l : Nat) : State :=
  let s := (s.set (Reg.HOST_LINK_STATUS_UP.at l) false).wr (Reg.HOST_LINK_STATUS_GEN.at l) 0
  let s := (s.wr (Reg.HOST_LINK_STATUS_WIDTH.at l) 0).set (Reg.HOST_LINK_STATUS_FLIT.at l) false
  (s.set (Reg.HOST_LINK_STATUS_TAG10.at l) false).set (Reg.HOST_LINK_STATUS_DEGRADED.at l) false

/-- The manager that STRAP_MGR names (R19); 11 stands for PF0 of H0. [DEDUCED, unsafe: log 115] -/
def strapManager (t : Straps) : Manager := if t.mgr = 1 then .pf 4 else if t.mgr = 2 then .mi else .pf 0

/-- RECOVERY_ENTRY (R461): the link carries the manager; EV1129 when the strap names another. [DEDUCED, unsafe: log 115] -/
def State.recoveryManager (s : State) (l : Nat) : State :=
  let s := s.updBoot fun b => { b with recoveryLink := some l, manager := .pf l }
  if strapManager s.boot.straps = .pf l then s else s.event 1129 [l]

/-- Does a link that trains in RECOVERY carry the manager (R461): H0.0; H1.0 where H0 is strapped disabled, or once H0.0 has not
trained for 1 s? [DEDUCED, unsafe: log 115] -/
def State.recoveryTakes (s : State) (l : Nat) : Bool :=
  s.boot.recovery && decide (s.rd Reg.BOOT_STATUS_STAGE = 9) && decide (s.boot.recoveryLink = none) && s.hasLink l &&
    (l == 0 || (l == 4 && (!s.hasLink 0 || s.boot.recoveryWaited)))

/-- Is the PERST input of a port asserted (R78, R494)? -/
def State.perst (s : State) (port : Nat) : Bool := if port = 0 then !s.boot.pins.perstH0N else !s.boot.pins.perstH1N

/-- LINK_UP (R65, R66, R494): a link whose PERST is released trains, degraded below its width or its rate; one that cannot reach 8
GT/s stays down. In RECOVERY the first candidate link that trains carries the manager (R461). [DEDUCED, unsafe: log 181] -/
def State.linkUp (s : State) (l gen width : Nat) (flit tag10 : Bool) : State :=
  if s.hasLink l = false ∨ s.perst (l / 4) = true then s
  else if gen < 3 then s.event 129 [l]
  else
    let g := min gen (s.genMax l)
    let degraded := decide (width < s.linkLanes l) || decide (g < s.genMax l)
    let again := s.on (Reg.HOST_LINK_STATUS_UP.at l)
    let s := (s.set (Reg.HOST_LINK_STATUS_UP.at l) true).wr (Reg.HOST_LINK_STATUS_GEN.at l) g
    let s := (s.wr (Reg.HOST_LINK_STATUS_WIDTH.at l) width).set (Reg.HOST_LINK_STATUS_FLIT.at l) (flit || g == 6)
    let s := (s.set (Reg.HOST_LINK_STATUS_TAG10.at l) tag10).set (Reg.HOST_LINK_STATUS_DEGRADED.at l) degraded
    let s := if again then s.bump (Reg.HOST_LINK_STATUS_RECOVERIES.at l) else s
    let s := if s.recoveryTakes l then s.recoveryManager l else s
    let s := s.event 128 [l]
    if degraded then s.event 130 [l, width, g] else s

/-- LINK_UP (R65, R66). [DEDUCED, unsafe: log 181] -/
def execLinkUp (link gen width : Nat) (flit tag10 : Bool) (s : State) : Host.Outcome State Fault Refusal :=
  effect s fun s => s.linkUp link gen width flit tag10

/-- LINK_DOWN (R78). -/
def execLinkDown (link : Nat) (s : State) : Host.Outcome State Fault Refusal :=
  effect s fun s =>
    if s.hasLink link && s.on (Reg.HOST_LINK_STATUS_UP.at link) then ((s.resetLink link).linkZero link).event 129 [link] else s

/-- The links of a port. -/
def State.portLinks (s : State) (port : Nat) : List Nat := ((List.range 4).map (4 * port + ·)).filter s.hasLink

/-- PERST_ASSERT (R78): every link of the port is reset, and its configuration space returns to reset values. [DEDUCED, unsafe: log
64] -/
def State.perstAssert (s : State) (port : Nat) : State :=
  let l := s.portLinks port
  let up := l.filter fun k => s.on (Reg.HOST_LINK_STATUS_UP.at k)
  let s := s.each l State.resetLink
  let s := s.each up fun s k => s.event 129 [k]
  let s := s.each l fun s k => (s.linkZero k).modLink k fun _ => {}
  s.updBoot fun b => { b with pins := if port = 0 then { b.pins with perstH0N := false } else { b.pins with perstH1N := false } }

def execPerstAssert (port : Nat) (s : State) : Host.Outcome State Fault Refusal :=
  effect s fun s => if 2 ≤ port then s else s.perstAssert port

/-- PERST_DEASSERT (R494): the port's links may train. -/
def execPerstDeassert (port : Nat) (s : State) : Host.Outcome State Fault Refusal :=
  effect s fun s =>
    if 2 ≤ port then s
    else s.updBoot fun b => { b with
      pins := if port = 0 then { b.pins with perstH0N := true } else { b.pins with perstH1N := true } }

/-! ### VF Enable (R67) -/

/-- VF_ENABLE (R67, R94): min(NumVFs, TotalVFs) VFs, each with its slot. -/
def execVfEnable (link : Nat) (s : State) : Host.Outcome State Fault Refusal :=
  effect s fun s => s.configured link fun s =>
    if s.hasLink link = false ∨ (s.link link).vfEnable = true then s
    else
      let n := min (s.link link).numVfs (s.totalVfs link)
      let s := s.modLink link fun x => { x with vfEnable := true, enabled := n }
      s.each (s.vfs link) fun s v => s.activate (s.fnOwner (.vf link v)) link

/-- VF_DISABLE (R335). -/
def execVfDisable (link : Nat) (s : State) : Host.Outcome State Fault Refusal :=
  effect s fun s => s.configured link fun s => if (s.link link).vfEnable then s.vfDisable link else s

/-- The identities of functions (R67): the vendor ID, the device ID of a PF and of a VF, and the class code. -/
def vendorId : Nat := 0x1FD7
def deviceId : Fn → Nat
  | .pf _ => 0x9128
  | .vf _ _ => 0x9129
def classCode : Nat := 0x010802

/-- The bytes of BAR `i` (0, 2 or 4) of a function, 0 where it is absent (Table HST-2, R70). -/
def State.barSize (s : State) (fn : Fn) (i : Nat) : Nat :=
  match fn with
  | .pf l => if i = 0 then 2 ^ 20 else if i = 2 then (if s.managerOwner = some (pfOwner l) then 2 ^ 26 else 0)
    else if i = 4 then 2 ^ 16 else 0
  | .vf _ _ => if i = 0 then 4096 + 8 * s.doorbellRange 0 else if i = 4 then 2 ^ 16 else 0

/-- What a read of a BAR's two registers returns: 0 where it is absent, else the base address with the low bits of a 64-bit,
non-prefetchable BAR (R69). [PRESUMED, unsafe: log 226] -/
def barValue (size base : Nat) : Nat := if size = 0 then 0 else base / size * size % 2 ^ 64 + 4

/-- The BAR of a PF, or of its VFs, as configuration space shows it. -/
def State.barRead (s : State) (link : Nat) (vf : Bool) (i : Nat) : Nat :=
  let c : FnCfg := mapGet s.host.cfg (65536 * link) {}
  let l := if vf then c.vfBars else c.bars
  barValue (s.barSize (if vf then .vf link 1 else .pf link) i) (((l.find? fun e => e.1 == i).map (·.2)).getD 0)

/-- Change a function's configuration space: `v` is 0 for the PF of the link. -/
def State.modCfg (s : State) (link v : Nat) (f : FnCfg → FnCfg) : State :=
  { s with host := { s.host with cfg := mapPut s.host.cfg (65536 * link + v) (f (mapGet s.host.cfg (65536 * link + v) {})) {} } }

/-- A base address is stored for a BAR that is present (R69). -/
def setBar (l : List (Nat × Nat)) (size i value : Nat) : List (Nat × Nat) :=
  if size = 0 then l else l.filter (fun e => e.1 != i) ++ [(i, value / size * size % 2 ^ 64)]

/-- A write of configuration space (R67, R69, R72, R75, R76): NumVFs takes any value, but not while VF Enable is 1. A write to a
function that does not exist, or whose FLR is in progress, has no effect. [DESIGN CHOICE, safe: log 192] -/
def State.cfgWrite (s : State) (link : Nat) (w : CfgWrite) : State :=
  let fn := fun v => if v = 0 then Fn.pf link else Fn.vf link v
  let live := fun v => s.hasFn (fn v) && !(s.ctrl (s.fnOwner (fn v))).flr
  match w with
  | .numVfs n => if live 0 && !(s.link link).vfEnable then s.modLink link fun x => { x with numVfs := n % 65536 } else s
  | .bar v vf i x =>
    if !live v then s
    else if vf then s.modCfg link 0 fun c => { c with vfBars := setBar c.vfBars (s.barSize (.vf link 1) i) i x }
    else if v = 0 then s.modCfg link 0 fun c => { c with bars := setBar c.bars (s.barSize (.pf link) i) i x }
    else s
  | .timeout v x off => if live v then s.modCfg link v fun c => { c with timeout := x % 16, timeoutOff := off } else s
  | .tag10 on => if live 0 then s.set (Reg.HOST_LINK_STATUS_TAG10.at link) on else s
  | .aerClear v a b =>
    if live v then s.modCfg link v fun c => { c with
      aerUncor := Nat.xor c.aerUncor (Nat.land c.aerUncor a), aerCor := Nat.xor c.aerCor (Nat.land c.aerCor b) } else s

/-- NUMVFS_WRITE (R67): the writes of configuration space. -/
def execNumvfsWrite (link : Nat) (w : CfgWrite) (s : State) : Host.Outcome State Fault Refusal :=
  effect s fun s => s.configured link fun s => s.cfgWrite link w

/-! ### Errors of requests (R75, R76) -/

/-- The data transfer of a command fails (R75, R76, R148). [DESIGN CHOICE, unsafe: log 160] -/
def State.dataFails (s : State) (r : CmdRef) (st : Status) : State :=
  if s.runs r then
    let s := s.dropWrite (ofCommand r)
    let s := s.updMd fun m => { m with reads := mapErase m.reads (cmdKey r) }
    (s.updZone fun z => { z with openWaits := z.openWaits.filter fun e => e.2 ≠ r }).finish r st |>.dropRun r
  else s

/-- The controller that issued a request. -/
def reqOwner : ReqKind → Nat
  | .data r => r.owner
  | .entryFetch o _ => o
  | .listFetch r => r.owner
  | .cqWrite o _ => o

/-- An uncorrectable error is logged in the AER status of a controller's function (R75, R76): bit 14 Completion Timeout, bit 12
Poisoned TLP, bit 20 Unsupported Request. [PRESUMED, unsafe: log 226] -/
def State.aerLog (s : State) (owner bit : Nat) : State :=
  let k := s.cfgKey owner
  s.modCfg (k / 65536) (k % 65536) fun c => { c with aerUncor := Nat.lor c.aerUncor (2 ^ bit) }

/-- The T9's timeout in ns by the field of Device Control 2 (R75): 40 ms at its default; the other values are ranges, of which the
standard's upper ends are taken. None with the timeout disabled. [PRESUMED, unsafe: log 226] -/
def FnCfg.timeoutNs (c : FnCfg) : Option Nat :=
  if c.timeoutOff then none
  else some (match c.timeout with
    | 1 => 100000 | 2 => 10000000 | 5 => 55000000 | 6 => 210000000
    | 9 => 900000000 | 10 => 3500000000 | 13 => 13000000000 | 14 => 64000000000
    | _ => 40000000)

/-- COMPLETION_TIMEOUT (R75): with the timeout disabled none passes. -/
def State.completionTimeout (s : State) (link : Nat) (what : ReqKind) : State :=
  if (s.cfgOf (reqOwner what)).timeoutNs = none then s else
  let s := s.aerLog (reqOwner what) 14
  let s := match what with
    | .data r => s.dataFails r .dataTransferError
    | .entryFetch o q => s.fetched o q none
    | .listFetch r => s.fatal r.owner
    | .cqWrite o _ => s.fatal o
  (s.bump (Reg.HOST_ERR_COUNT_CPL_TIMEOUT.at link)).event 131 [link]

def execCompletionTimeout (link : Nat) (what : ReqKind) (s : State) : Host.Outcome State Fault Refusal :=
  effect s fun s => s.completionTimeout link what

/-- An error under R76 that is not correctable: it is reported as non-fatal, counted, and recorded as EV0133. -/
def State.nonFatal (s : State) (link owner bit : Nat) : State :=
  ((s.aerLog owner bit).bump (Reg.HOST_ERR_COUNT_POISON_UR.at link)).event 133 [link]

/-- POISONED_TLP (R76): the command whose data it carried fails; a poisoned doorbell write is discarded; a correctable error is
logged and counted, with no effect on commands. [DESIGN CHOICE, unsafe: log 160] -/
def execPoisonedTlp (link : Nat) (what : TlpError) (s : State) : Host.Outcome State Fault Refusal :=
  effect s fun s =>
    match what with
    | .poisonedData r => (s.dataFails r .dataTransferError).nonFatal link r.owner 12
    | .unsupported r => (s.dataFails r .dataTransferError).nonFatal link r.owner 20
    | .poisonedDoorbell o => s.nonFatal link o 12
    | .correctable o b =>
      let k := s.cfgKey o
      (s.modCfg (k / 65536) (k % 65536) fun c => { c with aerCor := Nat.lor c.aerCor (2 ^ (b % 32)) }).bump
        (Reg.HOST_ERR_COUNT_CORRECTABLE.at link)

end Sys2Proof.Machine
end

