-- ==== Sys2Proof/Machine/Time.lean ====
section
/-! DEFINITION. The sidereal clock, its sources, its lock states and its meridians (spec/03_sidereal_time.md). -/

namespace Sys2Proof.Machine

/-! ### The clock (R46) -/

/-- One SYSCLK cycle (R46): 40 ns of local time; the count advances by 40 ns plus the correction in force, within ±250 ppm. A slew
ends when less than 50 ns remain (R54). [DESIGN CHOICE, unsafe: log 2] -/
def TimeState.tick (t : TimeState) : TimeState :=
  let c := clampInt (-42949672) 42949672 (t.corr + t.slewCorr)
  let total : Int := (t.frac : Int) + c
  let left := t.slewLeft.map (· - (c - t.corr))
  let ends := match left with
    | some l => decide (l.natAbs < 50 * 4294967296)
    | none => false
  { t with
    now := t.now + 40
    sid := ((t.sid : Int) + 40 + total / 4294967296).toNat % 2 ^ 64
    frac := (total % 4294967296).toNat
    slewLeft := if ends then none else left
    slewCorr := if ends then 0 else t.slewCorr }

/-- The least multiple of `i` that is at least `x`. -/
def ceilMul (x i : Nat) : Nat := (x + i - 1) / i * i

/-- Move a deadline instant with a step (R61). -/
def Deadline.shift (d : Deadline) (by_ : Int) : Deadline :=
  match d with
  | .none => .none
  | .live a => .live ((a : Int) + by_).toNat
  | .lost a => .lost ((a : Int) + by_).toNat

/-- An instant of the sidereal clock moves with a step. -/
def shiftInstant (t : Nat) (by_ : Int) : Nat := ((t : Int) + by_).toNat

/-- The instants of a die operation move: its deadline, the base of its tier 5 deadline (R181) and its arrival. [DEDUCED, unsafe:
log 190] -/
def DieOp.shift (o : DieOp) (by_ : Int) : DieOp :=
  { o with deadline := o.deadline.shift by_, base := shiftInstant o.base by_, arrival := shiftInstant o.arrival by_ }

/-- A recorded doorbell moves. [DEDUCED, unsafe: log 190] -/
def Stamp.shift (x : Stamp) (by_ : Int) : Stamp := { x with time := shiftInstant x.time by_ }

/-- A waiting access moves with a step. [DEDUCED, unsafe: log 190] -/
def CtxWait.shift (w : CtxWait) (by_ : Int) : CtxWait :=
  match w with
  | .tail v t => .tail v (shiftInstant t by_)
  | .head v => .head v

/-- The operation that a crucible job serves moves. -/
def JobKind.shift (k : JobKind) (by_ : Int) : JobKind :=
  match k with
  | .occult o ch die => .occult (o.shift by_) ch die
  | k => k

def DieBusy.shift (b : DieBusy) (by_ : Int) : DieBusy :=
  match b with
  | .running o => .running (o.shift by_)
  | .suspending o p => .suspending (o.shift by_) (p.shift by_)
  | .resuming o => .resuming (o.shift by_)
  | b => b

/-- A step moves every outstanding deadline instant by its amount (R61): those of the commands, of the die operations and of the
crucible jobs. The instants that a deadline is made from move with it: the stamps of recorded doorbells, and the stamp and the
fetch of a command. [DEDUCED, unsafe: log 190] -/
def State.shiftDeadlines (s : State) (by_ : Int) : State :=
  let s := s.updQ fun q => { q with
    cmds := mapAll q.cmds fun _ c => { c with
      deadline := c.deadline.shift by_, stamp := c.stamp.map fun t => shiftInstant t by_
      fetchedAt := shiftInstant c.fetchedAt by_ }
    ctx := mapAll q.ctx fun _ c => { c with
      stampA := c.stampA.map (·.shift by_), stampB := c.stampB.map (·.shift by_) }
    waits := q.waits.map fun w => (w.1, w.2.shift by_) }
  s.updMd fun m => { m with
    die := mapAll m.die fun _ d => { d with
      queue := d.queue.map (·.shift by_), held := d.held.map (·.shift by_), busy := d.busy.shift by_ }
    job := mapAll m.job fun _ j => { j with deadline := j.deadline.shift by_, kind := j.kind.shift by_ }
    dec := mapAll m.dec fun _ x => { x with op := x.op.shift by_ } }

/-- CLOCK_STEP (R46, R55, R58, R61): the step applied never takes the count below 0; it is counted, reported and recorded with the
values before and after, every deadline moves with it, and the meridians follow R58. The time elapsed in the period is measured
on the sidereal clock, without its steps. [DESIGN CHOICE, unsafe: log 155] -/
def State.stepClock (s : State) (want : Int) : State :=
  let t := s.time
  let applied : Int := if (t.sid : Int) + want < 0 then -(t.sid : Int) else want
  let after := ((t.sid : Int) + applied).toNat
  let s := { s with time := { t with
    sid := after, frac := 0, lastStep := applied, periodStart := t.periodStart + applied } }
  let s := (s.bump Reg.TIME_STEP_COUNT_COUNT).event 65 [applied, t.sid, after]
  let s := s.shiftDeadlines applied
  if !t.running then s
  else if 0 < applied then
    -- the step ends the period early and the next one lasts from I/2 to 3I/2
    let s := { s with time := { s.time with curStretched := true, nextStretched := true } }
    let s := s.meridian
    { s with time := { s.time with nextMeridian := ceilMul (after + t.interval / 2) t.interval } }
  else if applied < 0 then
    { s with time := { s.time with
        curStretched := true
        nextMeridian := ceilMul (after + (t.interval - ((t.sid : Int) - t.periodStart).toNat)) t.interval } }
  else s

/-- A step that takes away the whole measured offset ends a slew in progress (R54). -/
def State.stepOffset (s : State) (o : Int) : State :=
  let s := s.stepClock (-o)
  s.updTime fun t => { t with slewLeft := none, slewCorr := 0, stepNext := false }

/-! ### Lock states (R53, Table SID-3) -/

/-- HOLDOVER (R53, R54): the source is lost. From LOCKED the clock keeps the servo's correction without the slew term, starts the
timer and records EV0066. From ACQUIRING it returns to UNLOCKED, to HOLDOVER while the timer runs, or goes to FREERUN with
EV0067. [DEDUCED, unsafe: log 23] -/
def State.sourceLost (s : State) : State :=
  let s := s.updTime fun t => { t with stepNext := false }
  let t := s.time
  match t.lock with
  | .locked =>
    ({ s with time := { t with
        lock := .holdover, holdStart := some t.now, holdExpired := false, entryOffset := t.offset.natAbs,
        slewLeft := none, slewCorr := 0, stepNext := false, leftLocked := t.now } }).event 66
  | .acquiring =>
    if t.cameFrom = .unlocked then
      { s with time := { t with lock := .unlocked, pps := {lastEdge := t.pps.lastEdge}, ptp := { t.ptp with good := 0 } } }
    else if t.cameFrom = .holdover ∧ t.holdExpired = false then
      { s with time := { t with lock := .holdover, ptp := { t.ptp with good := 0 } } }
    else
      ({ s with time := { t with lock := .freerun, ptp := { t.ptp with good := 0 } } }).event 67
  | _ => s

/-- The port of a PTP source goes down (R47): the masters heard are gone, and the source is lost. [DEDUCED, unsafe: log 110] -/
def State.ptpDown (s : State) : State :=
  (s.updTime fun t => { t with ptp := { t.ptp with
    masters := [], selected := none, pendingSync := none, good := 0, run := none, delayPending := false } }).sourceLost

/-- The source is heard (R53): the clock enters ACQUIRING and remembers where it came from. [DEDUCED, unsafe: log 23] -/
def State.sourceHeard (s : State) : State :=
  let t := s.time
  match t.lock with
  | .acquiring => s
  | l => { s with time := { t with
      lock := .acquiring, cameFrom := l, leftLocked := if l = .locked then t.now else t.leftLocked
      slewLeft := none, slewCorr := 0, stepNext := false
      ptp := { t.ptp with good := 0 }, pps := { t.pps with qual := 0 } } }

/-- LOCK_ACQUIRED (R54): the clock qualifies with the offset `o` of its last sample. It steps to the source when it was
never locked or when the offset exceeds 10 µs, and slews otherwise, by at most 200 ppm until 50 ns remain. EV0064. -/
def State.qualify (s : State) (o : Int) : State :=
  let jump := !s.time.everLocked || decide (10000 < o.natAbs)
  let s := if jump then s.stepClock (-o) else s
  let t := s.time
  let slew := !jump && decide (50 ≤ o.natAbs)
  ({ s with time := { t with
      lock := .locked, everLocked := true, holdStart := none, holdExpired := false, offset := o, stepNext := false
      slewLeft := if slew then some (-o * 4294967296) else none
      slewCorr := if slew then (if o < 0 then 34359738 else -34359738) else 0
      pps := { t.pps with qual := 0, anchor := false, missed := 0 }
      ptp := { t.ptp with good := 0, run := none } } }).event 64

/-- The servo takes a sample (R53): the new correction stays within ±250 ppm (R46). [DESIGN CHOICE, safe: log 28] -/
def State.discipline (s : State) (o : Int) : State :=
  let t := s.time
  let c := clampInt (-42949672) 42949672 (Config.servo t.corr o s.freeCtr)
  let done := decide (o.natAbs < 50)
  { s with
    freeCtr := s.freeCtr + 1
    time := { t with
      corr := c, offset := o
      slewLeft := if done then none else t.slewLeft, slewCorr := if done then 0 else t.slewCorr } }

/-- An offset continues a run (R51 rule 3) when it has the sign of the first and lies within `w` of it. [DESIGN CHOICE, unsafe: log
21] -/
def Run.next (r : Option Run) (o : Int) (w : Nat) : Run :=
  match r with
  | some r =>
    if decide (0 < r.first) = decide (0 < o) ∧ (o - r.first).natAbs ≤ w then { r with len := r.len + 1 }
    else ⟨o, 1⟩
  | none => ⟨o, 1⟩

/-! ### PTP (R48, R49) -/

/-- Does the chart take its time from a PTP port? -/
def TimeState.isPtp (t : TimeState) : Bool := 1 ≤ t.source && t.source ≤ 4

/-- The number by which the standard compares two identities: byte 0 is the most significant. [PRESUMED, unsafe: log 172] -/
def identityRank (id : Nat) : Nat := beNat (leBytes 8 id)

/-- The master order of the standard's dataset comparison: the lower tuple is the better master (R48). [PRESUMED, unsafe: log 172]
-/
def masterRank (m : PtpMaster) : List Nat :=
  [m.prio1, m.clockClass, m.accuracy, m.variance, m.prio2, identityRank m.gm, m.stepsRemoved, identityRank m.id]

/-- `a` is better than `b` in the dataset comparison. [PRESUMED, unsafe: log 172] -/
def betterRank : List Nat → List Nat → Bool
  | x :: xs, y :: ys => if x < y then true else if y < x then false else betterRank xs ys
  | _, _ => false

/-- Table SID-1: a master with clockClass 255, or a Sync interval outside −7 to 0, is never selected. -/
def masterQualified (m : PtpMaster) : Bool :=
  m.clockClass != 255 && decide (-7 ≤ m.logSync) && decide (m.logSync ≤ 0)

/-- The best qualified master heard. [PRESUMED, unsafe: log 172] -/
def bestMaster (l : List PtpMaster) : Option PtpMaster :=
  (l.filter masterQualified).foldl (fun b m => match b with
    | none => some m
    | some c => if betterRank (masterRank m) (masterRank c) then some m else b) none

/-- Select among the masters heard (R48, R49): a change of master records EV0071 and re-enters ACQUIRING; with no qualified master
the source is lost. A master selected while none was is no change of master. [DEDUCED, unsafe: log 191] -/
def State.selectMaster (s : State) (l : List PtpMaster) : State :=
  let p := s.time.ptp
  let s := { s with time := { s.time with ptp := { p with masters := l } } }
  match bestMaster l, p.selected with
  | some m, none =>
    ({ s with time := { s.time with ptp := { s.time.ptp with selected := some m.id, pendingSync := none, good := 0 } } }).sourceHeard
  | some m, some old =>
    if m.id = old then s
    else
      let s := { s with time := { s.time with ptp :=
        { s.time.ptp with selected := some m.id, pendingSync := none, good := 0, run := none, delayPending := false } } }
      (s.event 71).sourceHeard
  | none, some _ =>
    ({ s with time := { s.time with ptp := { s.time.ptp with selected := none, pendingSync := none, good := 0 } } }).sourceLost
  | none, none => s

/-- PTP_ANNOUNCE (R48, R49). -/
def execPtpAnnounce (m : PtpMaster) (s : State) : Host.Outcome State Fault Refusal :=
  effect s fun s =>
    if s.time.isPtp = false ∨ m.domain ≠ s.rd Reg.TIME_PTP_STAT_DOMAIN then s
    else s.selectMaster (s.time.ptp.masters.filter (·.id ≠ m.id) ++ [m])

/-- One sample of the PTP source (R53, R54): in ACQUIRING the fourth consecutive Sync qualifies the clock; in LOCKED a sample out of
bound (10 µs) is discarded, and the third of a consistent run steps the clock. [DESIGN CHOICE, unsafe: log 21] -/
def State.ptpSample (s : State) (o : Int) : State :=
  let s := { s with time := { s.time with offset := o } }
  match s.time.lock with
  | .acquiring =>
    if 3 ≤ s.time.ptp.good then s.qualify o
    else
      let s := s.discipline o
      { s with time := { s.time with ptp := { s.time.ptp with good := s.time.ptp.good + 1 } } }
  | .locked =>
    if s.time.stepNext then
      let s := s.stepClock (-o)
      { s with time := { s.time with stepNext := false } }
    else if o.natAbs ≤ 10000 then
      let s := s.discipline o
      { s with time := { s.time with ptp := { s.time.ptp with run := none } } }
    else
      let r := Run.next s.time.ptp.run o 10000
      if 3 ≤ r.len then
        let s := s.stepOffset o
        { s with time := { s.time with ptp := { s.time.ptp with run := none } } }
      else { s with time := { s.time with ptp := { s.time.ptp with run := some r } } }
  | _ => s

/-- PTP_SYNC (R48): a Sync of the selected master; a two-step master's sample waits for its Follow_Up. Messages of another domain
are discarded. [DESIGN CHOICE, unsafe: log 21] -/
def execPtpSync (m domain : Nat) (offset : Int) (twoStep : Bool) (s : State) : Host.Outcome State Fault Refusal :=
  effect s fun s =>
    if s.time.isPtp = false ∨ domain ≠ s.rd Reg.TIME_PTP_STAT_DOMAIN ∨ s.time.ptp.selected ≠ some m then s
    else if twoStep then { s with time := { s.time with ptp := { s.time.ptp with pendingSync := some offset } } }
    else s.ptpSample offset

/-- PTP_FOLLOW_UP (R48): completes the Sync sample of a two-step master. [DESIGN CHOICE, unsafe: log 21] -/
def execPtpFollowUp (m domain : Nat) (offset : Int) (s : State) : Host.Outcome State Fault Refusal :=
  effect s fun s =>
    if s.time.isPtp = false ∨ domain ≠ s.rd Reg.TIME_PTP_STAT_DOMAIN ∨ s.time.ptp.selected ≠ some m
        ∨ s.time.ptp.pendingSync = none then s
    else ({ s with time := { s.time with ptp := { s.time.ptp with pendingSync := none } } }).ptpSample offset

/-- PTP_DELAY_REQ (R48, R288): the source port sends a Delay_Req at PTP_PRIO. -/
def execPtpDelayReq (s : State) : Host.Outcome State Fault Refusal :=
  effect s fun s =>
    if s.time.isPtp = false ∨ s.time.ptp.selected = none then s
    else ({ s with time := { s.time with ptp := { s.time.ptp with delayPending := true } } }).emit
      [Out.net "Delay_Req" [s.time.source - 1, s.rd Reg.NET_PRIO_CFG_PTP_PRIO]]

/-- PTP_DELAY_RESP (R48): completes an end-to-end delay measurement. -/
def execPtpDelayResp (m domain delay : Nat) (s : State) : Host.Outcome State Fault Refusal :=
  effect s fun s =>
    if s.time.isPtp = false ∨ domain ≠ s.rd Reg.TIME_PTP_STAT_DOMAIN ∨ s.time.ptp.selected ≠ some m
        ∨ s.time.ptp.delayPending = false then s
    else { s with time := { s.time with ptp := { s.time.ptp with delay := delay, delayPending := false } } }

/-- The selected master falls silent (R49): EV0072; another qualified master is selected, or the source is lost. -/
def State.masterSilent (s : State) : State :=
  match s.time.ptp.selected with
  | none => s
  | some id => (s.event 72).selectMaster (s.time.ptp.masters.filter (·.id ≠ id))

/-- PTP_SYNC_TIMEOUT (R49): no Sync for 3 sync intervals. -/
def execPtpSyncTimeout (s : State) : Host.Outcome State Fault Refusal :=
  effect s fun s => if s.time.isPtp then s.masterSilent else s

/-- ANNOUNCE_RECEIPT_TIMEOUT (R49): no Announce within the announce receipt timeout. -/
def execAnnounceReceiptTimeout (s : State) : Host.Outcome State Fault Refusal :=
  effect s fun s => if s.time.isPtp then s.masterSilent else s

/-! ### PPS and time of day (R50 to R52) -/

/-- Change the PPS source. -/
def State.modPps (s : State) (f : Pps → Pps) : State := { s with time := { s.time with pps := f s.time.pps } }

/-- R52: the anchor is dropped, and acquisition starts again with no predicted edge. -/
def State.dropAnchor (s : State) : State :=
  s.modPps fun p => { p with
    pred := none, anchor := false, qual := 0, pendingLabel := none, tod := .none
    todNext := .none, judged := .none, bridged := false, missed := 0, run := none, todRun := none }

/-- An edge is rejected: counted and recorded as EV0069 (R51). -/
def State.edgeRejected (s : State) (o : Int) : State := (s.bump Reg.TIME_PPS_COUNT_REJECTED).event 69 [o]

/-- A judged edge inside the window (R51, R52). -/
def State.edgeAccepted (s : State) (p : Prediction) (o : Int) : State :=
  let s := s.modPps fun q => { q with judged := .accepted, run := none, missed := 0 }
  let good := decide (s.time.pps.tod = .agrees)
  match s.time.lock with
  | .locked =>
    if s.time.stepNext then
      let s := s.stepClock (-o)
      { s with time := { s.time with stepNext := false, offset := o } }
    else s.discipline o
  | .acquiring =>
    if good then
      if 1 ≤ s.time.pps.qual then
        -- the label of the edge is the source's time (R52 point 4); the prediction moves to it
        let s := s.qualify (o + (p.edge : Int) - (p.label : Int) * 1000000000)
        s.modPps fun q => { q with pred := some ⟨p.label * 1000000000, p.label⟩ }
      else (s.discipline o).modPps fun q => { q with qual := 1 }
    else
      let s := (s.discipline o).modPps fun q => { q with qual := 0 }
      if s.time.pps.anchor then s.dropAnchor else s
  | .holdover | .freerun =>
    ((s.sourceHeard).discipline o).modPps fun q => { q with qual := if good then 1 else 0 }
  | .unlocked => s

/-- A judged edge outside the window (R51 rules 2 to 4): at the third edge of a consistent run the clock steps by the
negated offset of that edge; in HOLDOVER and FREERUN that step means the source is heard (R52). -/
def State.edgeOutside (s : State) (o : Int) (w : Nat) : State :=
  let r := Run.next s.time.pps.run o w
  let s := { s with time := { s.time with offset := o } }
  let s := (s.modPps fun q => { q with judged := .rejected, run := some r, missed := 0, qual := 0 }).edgeRejected o
  if s.time.pps.anchor then s.dropAnchor
  else if 3 ≤ r.len then
    let s := (s.stepOffset o).modPps fun q => { q with run := none }
    match s.time.lock with
    | .holdover | .freerun => s.sourceHeard
    | _ => s
  else s

/-- PPS_EDGE (R51, R52): a rising edge `ns` nanoseconds into the SYSCLK cycle. -/
def State.ppsEdge (s : State) (ns : Nat) : State :=
  let t := s.time
  if t.source ≠ 5 then s
  else
    let s := s.modPps fun p => { p with lastEdge := some (t.now + ns) }
    let at_ := t.sid + ns
    match t.pps.pred with
    | none =>
      match t.pps.pendingLabel with
      | none => s
      | some l =>
        -- the anchor (R52 point 2)
        (s.sourceHeard).modPps fun p => { p with
          pred := some ⟨at_, l⟩, judged := .accepted, anchor := true, qual := 1, pendingLabel := none, missed := 0,
          tod := .agrees, todNext := .none, run := none, todRun := none }
    | some p =>
      let o : Int := (at_ : Int) - (p.edge : Int)
      if t.pps.judged ≠ .none then s.edgeRejected o
      else if o.natAbs ≤ s.rd Reg.TIME_PPS_WINDOW_NS then s.edgeAccepted p o
      else s.edgeOutside o (s.rd Reg.TIME_PPS_WINDOW_NS)

def execPpsEdge (ns : Nat) (s : State) : Host.Outcome State Fault Refusal := effect s fun s => s.ppsEdge ns

/-- PPS_WINDOW_CLOSE (R51 rule 1): no edge has arrived, so the second is bridged by prediction. -/
def execPpsWindowClose (s : State) : Host.Outcome State Fault Refusal :=
  effect s fun s =>
    if s.time.source = 5 ∧ s.time.pps.pred ≠ none ∧ s.time.pps.judged = .none then
      s.modPps fun p => { p with bridged := true }
    else s

/-- JUDGING_INTERVAL_END (R51): an interval that ends without an edge is a missed second in LOCKED and ACQUIRING, and
three of them in a row lose the source; the prediction then moves on to the next edge. -/
def State.judgingEnd (s : State) : State :=
  if s.time.source ≠ 5 ∨ s.time.pps.pred = none then s
  else
    let heard := s.time.lock = .locked ∨ s.time.lock = .acquiring
    let s :=
      if s.time.pps.judged ≠ .none ∨ ¬ heard then s
      else
        let s := (s.bump Reg.TIME_PPS_COUNT_MISSED).event 68
        let s := s.modPps fun p => { p with missed := p.missed + 1, qual := 0 }
        if s.time.pps.anchor then s.dropAnchor
        else if 3 ≤ s.time.pps.missed then (s.modPps fun p => { p with missed := 0 }).sourceLost
        else s
    s.modPps fun p => { p with
      pred := p.pred.map fun e => ⟨e.edge + 1000000000, e.label + 1⟩, judged := .none, bridged := false,
      tod := p.todNext, todNext := .none }

def execJudgingIntervalEnd (s : State) : Host.Outcome State Fault Refusal := effect s fun s => s.judgingEnd

/-- R50: a message ends between 100 ms after one edge and 100 ms before the next. [DEDUCED, unsafe: log 20] -/
def inSpan (d : Nat) : Bool := decide (100000000 ≤ d) && decide (d ≤ 900000000)

/-- Is the message inside its span? Without a prediction the span runs from the last edge received (R52 point 1). [DEDUCED, unsafe:
log 20] -/
def TimeState.todInSpan (t : TimeState) : Bool :=
  match t.pps.pred with
  | some p => if p.edge ≤ t.sid then inSpan (t.sid - p.edge) else inSpan (p.edge - t.sid)
  | none => match t.pps.lastEdge with
    | some e => inSpan (t.now - e)
    | none => false

/-- The verdict on the message of the edge that comes next. -/
def State.todJudge (s : State) (next : Bool) (v : TodVerdict) : State :=
  s.modPps fun p => if next then { p with todNext := v } else { p with tod := v }

/-- TOD_MESSAGE (R50 to R52): discarded (EV0070), rejected (EV0069), or accepted; the third message of a consistent run
of disagreeing messages steps the seconds by their difference. -/
def State.todMessage (s : State) (m : Tod) : State :=
  let t := s.time
  let next := match t.pps.pred with
    | some p => decide (t.pps.judged ≠ .none) || decide (p.edge ≤ t.sid)
    | none => false
  if t.source ≠ 5 then s
  else if !(m.wellFormed && t.todInSpan) then
    (s.bump Reg.TIME_TOD_COUNT_DISCARDED).event 70
  else if !m.valid then
    ((s.bump Reg.TIME_TOD_COUNT_REJECTED).event 69).todJudge next .bad
  else
    let s := s.modPps fun p => { p with lastTod := some t.now }
    match t.pps.pred with
    | none => s.modPps fun p => { p with pendingLabel := some m.seconds }
    | some p =>
      let want := if next then p.label + 1 else p.label
      let diff : Int := (m.seconds : Int) - (want : Int)
      if diff = 0 then (s.todJudge next .agrees).modPps fun p => { p with todRun := none }
      else
        let r : Run := match t.pps.todRun with
          | some r => if r.first = diff then { r with len := r.len + 1 } else ⟨diff, 1⟩
          | none => ⟨diff, 1⟩
        let s := ((s.bump Reg.TIME_TOD_COUNT_REJECTED).event 69 [diff]).todJudge next .bad
        if 3 ≤ r.len then
          let s := s.stepClock (diff * 1000000000)
          s.modPps fun p => { p with
            todRun := none
            pred := p.pred.map fun e => ⟨((e.edge : Int) + diff * 1000000000).toNat, ((e.label : Int) + diff).toNat⟩ }
        else s.modPps fun p => { p with todRun := some r }

def execTodMessage (t : Tod) (s : State) : Host.Outcome State Fault Refusal := effect s fun s => s.todMessage t

/-- ACQUIRE_TIMEOUT (R52): in ACQUIRING with no predicted edge, 3 s without an edge or a valid message lose the source
before qualification. -/
def execAcquireTimeout (s : State) : Host.Outcome State Fault Refusal :=
  effect s fun s =>
    if s.time.source = 5 ∧ s.time.lock = .acquiring ∧ s.time.pps.pred = none then s.sourceLost else s

/-- HOLDOVER_TIMEOUT (R53): HOLDOVER enters FREERUN with EV0067; in ACQUIRING only TRACEABLE clears. [DESIGN CHOICE, safe: log 4] -/
def execHoldoverTimeout (s : State) : Host.Outcome State Fault Refusal :=
  effect s fun s =>
    if s.time.holdStart = none ∨ s.time.holdExpired = true then s
    else
      let s := { s with time := { s.time with holdExpired := true } }
      if s.time.lock = .holdover then ({ s with time := { s.time with lock := .freerun } }).event 67 else s

/-- SLEW_TIMEOUT (R54, Table SID-5): a slew has not completed within 10 s: EV0073, and a step follows at the next
sample. -/
def execSlewTimeout (s : State) : Host.Outcome State Fault Refusal :=
  effect s fun s =>
    if s.time.slewLeft = none then s
    else ({ s with time := { s.time with slewLeft := none, slewCorr := 0, stepNext := true } }).event 73

/-- MERIDIAN (R57): a meridian fires when the count has reached the instant at which it is due, one for each multiple of the
interval (R17); none fires before the first chart is sealed (R507). [DESIGN CHOICE, unsafe: log 155] -/
def execMeridian (s : State) : Host.Outcome State Fault Refusal :=
  effect s fun s => if s.time.running ∧ s.time.nextMeridian ≤ s.time.sid then s.meridian else s

end Sys2Proof.Machine
end

