-- ==== Sys2Proof/Machine/Net.lean ====
section
/-! DEFINITION. The network ports: links, pause, received packets, congestion control, the transport, NVMe over RDMA, serve
queue pairs and addresses (spec/11 R277 to R289, R305, R307; spec/13 R334). -/

namespace Sys2Proof.Machine

/-! ### Logical ports (R277, R278) -/

/-- The logical ports of network port `n` in the sealed chart: 0 off, 1, 2 or 4. -/
def State.netMode (s : State) (n : Nat) : Nat := if s.charted then s.chart.cur.ports.nMode.getD n 0 else 0

/-- Does logical port `p` exist (Table SRV-1)? -/
def State.hasPort (s : State) (p : Nat) : Bool := p < 16 && decide (p % 4 < s.netMode (p / 4))

/-- The line rate in kb/s and the receive buffer in bytes of a logical port (Table SRV-1). [DESIGN CHOICE, unsafe: log 51] -/
def State.lineRate (s : State) (p : Nat) : Nat := 400000000 / max (s.netMode (p / 4)) 1
/-- The receive buffer of a logical port (R281). [DESIGN CHOICE, unsafe: log 60] -/
def State.portBuffer (s : State) (p : Nat) : Nat := 8388608 / max (s.netMode (p / 4)) 1

def State.netPort (s : State) (p : Nat) : NetPort := mapGet s.net.ports p {}

def State.modPort (s : State) (p : Nat) (f : NetPort → NetPort) : State :=
  s.updNet fun n => { n with ports := mapPut n.ports p (f (mapGet n.ports p {})) {} }

/-- Does logical port `p` carry the PTP source (R288)? -/
def State.ptpPort (s : State) (p : Nat) : Bool := 1 ≤ s.time.source && s.time.source ≤ 4 && p == 4 * (s.time.source - 1)

/-- Is the domain of a network port ON (Table PWR-1: PD11 holds N0 and N1, PD12 N2 and N3)? -/
def State.portPowered (s : State) (p : Nat) : Bool := decide ((s.domain (11 + p / 8)).state = .on)

/-- NET_LINK_UP (R277): EV1024. A port whose domain is not ON trains no link (Table SIG-8). -/
def execNetLinkUp (p : Nat) (s : State) : Host.Outcome State Fault Refusal :=
  effect s fun s =>
    if s.hasPort p = false ∨ (s.netPort p).up = true ∨ s.portPowered p = false then s
    else (s.modPort p fun x => { x with up := true }).event 1024 [p]

/-- A port's link goes down (R277, R288): EV1025; a PTP source on the port is lost. -/
def State.netDown (s : State) (p : Nat) : State :=
  if (s.netPort p).up = false then s
  else
    let s := ((s.modPort p fun _ => {}).bump (Reg.NET_PORT_STATUS_LINK_DOWNS.at p)).event 1025 [p]
    if s.ptpPort p then s.ptpDown else s

/-- NET_LINK_DOWN (R277, R288). -/
def execNetLinkDown (p : Nat) (s : State) : Host.Outcome State Fault Refusal := effect s fun s => s.netDown p

/-! ### Priority flow control (R280, R281) -/

/-- Is PFC enabled on a priority of a port? -/
def State.pfcOn (s : State) (p prio : Nat) : Bool := bit (s.rd (Reg.NET_PFC_CFG_ENABLE.at p)) prio

/-- A mask of eight priorities with bit `i` set or cleared. -/
def withBit (m i : Nat) (b : Bool) : Nat := if bit m i = b then m else if b then m + 2 ^ i else m - 2 ^ i

/-- The partner's pause of a priority ends. -/
def State.resumePrio (s : State) (p prio : Nat) : State :=
  s.modPort p fun x => { x with paused := withBit x.paused prio false, noted := withBit x.noted prio false }

/-- PFC_FRAME (R280). -/
def execPfcFrame (p prio quanta : Nat) (s : State) : Host.Outcome State Fault Refusal :=
  effect s fun s =>
    if (s.netPort p).up = false ∨ 8 ≤ prio then s
    else
      let s := s.bump (Reg.NET_STAT_PAUSE_RX_PAUSE.at p)
      if s.pfcOn p prio = false then s
      else if quanta = 0 then s.resumePrio p prio
      else s.modPort p fun x => { x with paused := withBit x.paused prio true }

/-- PAUSE_QUANTA_EXPIRY (R280): the quanta have passed. -/
def execPauseQuantaExpiry (p prio : Nat) (s : State) : Host.Outcome State Fault Refusal :=
  effect s fun s => if 8 ≤ prio then s else s.resumePrio p prio

/-- PFC_PAUSE_TIMEOUT (R281): paused for more than 100 ms: EV1026 once; the pause is still honoured. -/
def execPfcPauseTimeout (p prio : Nat) (s : State) : Host.Outcome State Fault Refusal :=
  effect s fun s =>
    let x := s.netPort p
    if bit x.paused prio && !bit x.noted prio then
      (s.modPort p fun x => { x with noted := withBit x.noted prio true }).event 1026 [p, prio]
    else s

/-! ### Congestion control (R282) -/

/-- A queue pair's rate after a change: at least RATE_MIN_MBPS, at most line rate; EV1031 at the minimum. [DESIGN CHOICE, unsafe:
log 51] -/
def State.setRate (s : State) (k rate : Nat) : State :=
  match mapGet? s.net.qps k with
  | none => s
  | some q =>
    let low := s.rd Reg.NET_CC_CFG2_RATE_MIN_MBPS * 1000
    let r := min (max rate low) (s.lineRate q.port)
    let s := s.modQp k fun q => { q with rate := r }
    if r ≤ low then s.eventPer 1031 k 1000000000 [k] else s

/-- CNP (R282). [DESIGN CHOICE, unsafe: log 51] -/
def execCnp (qp : Nat) (s : State) : Host.Outcome State Fault Refusal :=
  effect s fun s => match mapGet? s.net.qps qp with
    | none => s
    | some q =>
      let s := s.bumpUnits (Reg.NET_STAT_RDMA_CNP_RX.at q.port) 1024
      if s.on Reg.NET_CC_CFG_ENABLE = false then s
      else
        let g := s.rd Reg.NET_CC_CFG_G_LOG2
        let s := s.modQp qp fun q => { q with
          target := q.rate, steps := 0, alpha := q.alpha - q.alpha / 2 ^ g + 1048576 / 2 ^ g }
        s.setRate qp (q.rate - q.rate * q.alpha / 2097152)

/-- RATE_INCREASE_TIMER (R282): T_INC_US without a CNP. [DESIGN CHOICE, unsafe: log 51] -/
def execRateIncreaseTimer (qp : Nat) (s : State) : Host.Outcome State Fault Refusal :=
  effect s fun s => match mapGet? s.net.qps qp with
    | none => s
    | some q =>
      if s.on Reg.NET_CC_CFG_ENABLE = false then s
      else
        let g := s.rd Reg.NET_CC_CFG_G_LOG2
        let target := if q.steps < 5 then q.target
          else min (q.target + s.rd Reg.NET_CC_CFG2_RAI_MBPS * 1000) (s.lineRate q.port)
        let s := s.modQp qp fun q => { q with
          alpha := q.alpha - q.alpha / 2 ^ g, target := target, steps := q.steps + 1 }
        s.setRate qp ((q.rate + target) / 2)

/-- A packet that arrives marked CE is answered with a CNP, one per queue pair in CNP_GAP_US (R282). -/
def State.notifyCe (s : State) (k : Nat) : State :=
  match mapGet? s.net.qps k with
  | none => s
  | some q =>
    let wait := match q.lastCnp with
      | some t => decide (s.time.now - t < s.rd Reg.NET_CC_CFG_CNP_GAP_US * 1000)
      | none => false
    if s.on Reg.NET_CC_CFG_ENABLE = false ∨ wait = true then s
    else
      let s := s.modQp k fun q => { q with lastCnp := some s.time.now }
      (s.bumpUnits (Reg.NET_STAT_RDMA_CNP_TX.at q.port) 1024).emit
        [.net "cnp" [k, s.rd Reg.NET_PRIO_CFG_CNP_PRIO, s.rd Reg.NET_PRIO_CFG_CNP_DSCP]]

/-! ### Receiving (R278, R279, R281, R283, R288) -/

/-- The priority of a received frame (R279). -/
def State.framePrio (s : State) (k : RocePacket) : Nat :=
  match k.pcp with
  | some x => x
  | none => if s.on Reg.NET_PRIO_CFG_TRUST then k.dscp / 8 else 0

/-- Pause and resume toward the partner (R281). [DESIGN CHOICE, unsafe: log 59] -/
def State.flowControl (s : State) (p prio occupancy : Nat) : State :=
  if s.pfcOn p prio = false then s
  else
    let on := bit (s.netPort p).pausing prio
    if !on && decide (s.rd (Reg.NET_PFC_CFG_XOFF.at p) * 16384 ≤ occupancy) then
      ((s.modPort p fun x => { x with pausing := withBit x.pausing prio true }).bump
        (Reg.NET_STAT_PAUSE_TX_PAUSE.at p)).emit [.net "pfc pause" [p, prio]]
    else if on && decide (occupancy < s.rd (Reg.NET_PFC_CFG_XON.at p) * 16384) then
      ((s.modPort p fun x => { x with pausing := withBit x.pausing prio false }).bump
        (Reg.NET_STAT_PAUSE_TX_PAUSE.at p)).emit [.net "pfc resume" [p, prio]]
    else s

/-- An ACK for everything received in order (R284). -/
def State.sendAck (s : State) (k : Nat) : State :=
  match mapGet? s.net.qps k with
  | none => s
  | some q =>
    if q.unacked = 0 then s
    else (s.modQp k fun q => { q with unacked := 0 }).emit [.net "ack" ([k, (q.expect + 16777215) % 16777216] ++ s.roceTag)]

/-- A packet of a SEND: in order, it counts toward the next ACK; out of order, it is answered with a NAK. [PRESUMED, unsafe: log 53]
-/
def State.receiveSend (s : State) (k psn : Nat) : State :=
  match mapGet? s.net.qps k with
  | none => s
  | some q =>
    if q.error then s
    else if psn ≠ q.expect then s.emit [.net "nak sequence error" ([k, q.expect] ++ s.roceTag)]
    else
      let s := s.modQp k fun q => { q with expect := (q.expect + 1) % 16777216, unacked := q.unacked + 1 }
      if 16 ≤ q.unacked + 1 then s.sendAck k else s

/-- The queue pair that a packet is for. -/
def RoceKind.qp : RoceKind → Option Nat
  | .send k _ _ => some k
  | .rdmaRead k _ => some k
  | .rdmaWrite k _ => some k
  | _ => none

/-- ROCE_PACKET (R278, R279, R281 to R284, R288). [DESIGN CHOICE, unsafe: log 59] -/
def State.rocePacket (s : State) (k : RocePacket) : State :=
  if (s.netPort k.port).up = false ∨ s.chart.cur.ports.mtu < k.bytes then s
  else if k.kind = .ptp ∧ s.ptpPort k.port = false then s.bump Reg.NET_DROP_PTP
  else
    let prio := s.framePrio k
    if s.portBuffer k.port < k.occupancy then (s.bump (Reg.NET_STAT_RDMA_DROPS.at k.port)).event 1027 [k.port, prio]
    else
      let s := s.flowControl k.port prio k.occupancy
      let s := match RoceKind.qp k.kind with
        | some q => if k.ce then s.notifyCe q else s
        | none => s
      match k.kind with
      | .send q psn _ => s.receiveSend q psn
      | .rdmaRead q psn => if mapHas s.net.qps q then s.emit [.net "nak remote access error" ([q, psn] ++ s.roceTag)] else s
      | .rdmaWrite q psn => if mapHas s.net.qps q then s.emit [.net "nak remote access error" ([q, psn] ++ s.roceTag)] else s
      | _ => s

def execRocePacket (k : RocePacket) (s : State) : Host.Outcome State Fault Refusal := effect s fun s => s.rocePacket k

/-- ACK_SEND (R284). -/
def execAckSend (qp : Nat) (s : State) : Host.Outcome State Fault Refusal := effect s fun s => s.sendAck qp

/-! ### The transport (R284) -/

/-- The serve queue pair of a handle enters ERROR: the programs that wait in POST for its acknowledgements fail (Table
SRV-11); one that comes to SEND on it fails there. -/
def State.sqpError (s : State) (handle : Nat) : State :=
  let s := s.updNet fun n => { n with sqps := mapMod n.sqps handle fun x => { x with st := .error } }
  s.each s.serve.runs fun s e =>
    let x := e.2
    match x.next with
    | (pos, .post true _) =>
      if x.ready && x.sent.any fun y => y.1 == handle then s.serveFails x.ref .transientTransport 1034 pos 6 else s
    | (pos, .send _ _ _ _ h _ _ _ _ _) =>
      if x.ready && h == handle then s.serveFails x.ref .transientTransport 1034 pos 5 else s
    | _ => s

/-- A queue pair enters the error state (R284, R287): EV1028. -/
def State.qpError (s : State) (k : Nat) : State :=
  match mapGet? s.net.qps k with
  | none => s
  | some q =>
    let s := (s.modQp k fun q => { q with error := true, sendq := [] }).event 1028 [k]
    match q.use with
    | .nvme owner _ => s.endAssociation owner
    | .serve h => s.sqpError h
    | .fresh => s.updNet fun n => { n with qps := mapErase n.qps k }

/-- Go-back-N from the oldest unacknowledged PSN, or the error state after RETRY_CNT without progress. -/
def State.retransmit (s : State) (k : Nat) : State :=
  match mapGet? s.net.qps k with
  | none => s
  | some q =>
    if q.error ∨ q.next ≤ q.acked then s
    else if q.retryCnt ≤ q.retries then s.qpError k
    else
      ((s.modQp k fun q => { q with retries := q.retries + 1 }).bump (Reg.NET_STAT_RDMA_RETRANS.at q.port)).emit
        [.net "retransmit" ([k, q.acked % 16777216, (q.next - q.acked)] ++ s.roceTag)]

/-- Everything before `d` packets past the oldest unacknowledged one is acknowledged. -/
def State.advance (s : State) (k d : Nat) : State :=
  s.modQp k fun q => if d = 0 then q else { q with acked := q.acked + d, retries := 0, rnr := 0 }

/-- Packets from the oldest unacknowledged one to PSN `psn`. -/
def Qp.ahead (q : Qp) (psn : Nat) : Nat := (psn + 16777216 - q.acked % 16777216) % 16777216

/-- ACK (R284). -/
def execAck (qp psn : Nat) (s : State) : Host.Outcome State Fault Refusal :=
  effect s fun s => match mapGet? s.net.qps qp with
    | none => s
    | some q => if q.ahead psn < q.next - q.acked then s.advance qp (q.ahead psn + 1) else s

/-- NAK_SEQUENCE_ERROR (R284): the packets before the PSN have arrived; the rest is sent again. -/
def execNakSequenceError (qp psn : Nat) (s : State) : Host.Outcome State Fault Refusal :=
  effect s fun s => match mapGet? s.net.qps qp with
    | none => s
    | some q => (if q.ahead psn < q.next - q.acked then s.advance qp (q.ahead psn) else s).retransmit qp

/-- RNR_NAK (R284): retried after the peer's timer, at most RNR_RETRY times, 7 standing for no limit. [DEDUCED, unsafe: log 54] -/
def execRnrNak (qp timer : Nat) (s : State) : Host.Outcome State Fault Refusal :=
  effect s fun s => match mapGet? s.net.qps qp with
    | none => s
    | some q =>
      if q.error ∨ q.next ≤ q.acked then s
      else if q.rnrRetry ≠ 7 ∧ q.rnrRetry ≤ q.rnr then s.qpError qp
      else (s.modQp qp fun q => { q with rnr := q.rnr + 1, rnrWait := true }).emit [.net "rnr wait" [qp, timer]]

/-- RNR_RETRY_TIMER_EXPIRY (R284). [DEDUCED, unsafe: log 54] -/
def execRnrRetryTimerExpiry (qp : Nat) (s : State) : Host.Outcome State Fault Refusal :=
  effect s fun s => match mapGet? s.net.qps qp with
    | none => s
    | some q =>
      if q.rnrWait then
        (s.modQp qp fun q => { q with rnrWait := false }).emit
          [.net "retry" ([qp, q.acked % 16777216, (q.next - q.acked)] ++ s.roceTag)]
      else s

/-- ACK_TIMEOUT (R284): 4.096 µs × 2^ACK_TIMEOUT without an acknowledgement. -/
def execAckTimeout (qp : Nat) (s : State) : Host.Outcome State Fault Refusal :=
  effect s fun s => match mapGet? s.net.qps qp with
    | none => s
    | some q => if q.rnrWait then s else s.retransmit qp

/-! ### Addresses (R278, R307) -/

/-- The key of an address entry. -/
def addrKey (p : Nat) (v6 : Bool) (i : Nat) : Nat := 8 * p + (if v6 then 4 else 0) + i

/-- Does a logical port hold a valid address? -/
def State.hasAddress (s : State) (p : Nat) : Bool := s.net.addrs.any fun e => e.1 / 8 == p && e.2.valid

/-- A write of NET_ADDR_ATTR: its fields are held for the next COMMIT; a PREFIX out of range leaves the one held (R9). -/
def State.addrAttr (s : State) (attr : Nat) : State :=
  let s := (s.wr Reg.NET_ADDR_ATTR_VALID (bits attr 31 31)).wr Reg.NET_ADDR_ATTR_VLAN_ID (bits attr 11 0)
  if bits attr 27 20 ≤ (if s.on Reg.NET_ADDR_SEL_IPV6 then 128 else 32) then s.wr Reg.NET_ADDR_ATTR_PREFIX (bits attr 27 20) else s

/-- NET_ADDR_COMMIT (R307): DATA0–3 and the attributes are written to the selected entry. -/
def State.addrCommit (s : State) (attr : Nat) : State :=
  let s := s.addrAttr attr
  let v6 := s.on Reg.NET_ADDR_SEL_IPV6
  let k := addrKey (s.rd Reg.NET_ADDR_SEL_PORT) v6 (s.rd Reg.NET_ADDR_SEL_INDEX)
  let d (i : Nat) : Nat := s.rd (Reg.NET_ADDR_DATA_ADDR.at i)
  let a := if v6 then ((d 0 * 2 ^ 32 + d 1) * 2 ^ 32 + d 2) * 2 ^ 32 + d 3 else d 0
  let x : NetAddr := ⟨bit attr 31, a, s.rd Reg.NET_ADDR_ATTR_PREFIX, bits attr 11 0⟩
  s.updNet fun n => { n with addrs := mapSet n.addrs k x }

def execNetAddrCommit (attr : Nat) (s : State) : Host.Outcome State Fault Refusal := effect s fun s => s.addrCommit attr

/-- Does a port answer for an address? -/
def State.answersFor (s : State) (p : Nat) (v6 : Bool) (a : Nat) : Bool :=
  (s.netPort p).up && s.net.addrs.any fun e => e.1 / 8 == p && (e.1 / 4 % 2 == 1) == v6 && e.2.valid && e.2.addr == a

/-- A port's MAC address. -/
def State.mac (s : State) (p : Nat) : Nat :=
  s.rd (Reg.NET_MAC_HI_BYTES_0_1.at p) * 2 ^ 32 + s.rd (Reg.NET_MAC_LO_BYTES_2_5.at p)

/-- ARP_REQUEST and NEIGHBOR_SOLICITATION (R278). -/
def execArpRequest (p addr : Nat) (s : State) : Host.Outcome State Fault Refusal :=
  effect s fun s => if s.answersFor p false addr then s.emit [.net "arp reply" [p, addr, s.mac p]] else s

def execNeighborSolicitation (p addr : Nat) (s : State) : Host.Outcome State Fault Refusal :=
  effect s fun s => if s.answersFor p true addr then s.emit [.net "neighbor advertisement" [p, addr, s.mac p]] else s

/-! ### Queue pairs and associations (R283, R285 to R287, R334) -/

/-- Is a queue pair left (R283)? -/
def State.qpLeft (s : State) : Bool := s.net.qps.length < s.chart.cur.ten.maxQp

/-- A new queue pair with the settings of NET_QP_CFG (R284), at line rate. [PRESUMED, unsafe: log 52] -/
def State.newQp (s : State) (p pmtu : Nat) (use : QpUse) : State :=
  let q : Qp := {
    port := p, use := use, error := false, rate := s.lineRate p, target := s.lineRate p, alpha := 1048576, steps := 0
    lastCnp := none, next := 0, acked := 0, expect := 0, unacked := 0, retries := 0, rnr := 0, rnrWait := false
    pmtu := pmtu, ackTimeout := s.rd Reg.NET_QP_CFG_ACK_TIMEOUT, retryCnt := s.rd Reg.NET_QP_CFG_RETRY_CNT
    rnrRetry := s.rd Reg.NET_QP_CFG_RNR_RETRY }
  s.updNet fun n => { n with qps := mapSet n.qps n.nextQp q, nextQp := n.nextQp + 1 }

/-- The largest path MTU of Table SRV-2 that fits N_MTU. [DEDUCED, unsafe: log 55] -/
def State.pathMtu (s : State) : Nat :=
  if 4096 ≤ s.chart.cur.ports.mtu then 4096 else if 2048 ≤ s.chart.cur.ports.mtu then 2048 else 1024

/-- CONNECTION_REQUEST (R278, R283): a port with no valid address accepts no connection. -/
def execConnectionRequest (p hostNqn qid : Nat) (s : State) : Host.Outcome State Fault Refusal :=
  effect s fun s =>
    if (s.netPort p).up && s.hasAddress p && s.qpLeft then
      (s.newQp p s.pathMtu .fresh).emit [.net "connection accepted" [p, hostNqn, qid, s.net.nextQp]]
    else s.emit [.net "connection rejected" [p, hostNqn, qid]]

/-- The answer to a Connect: its status, and the controller ID. -/
def State.answer (s : State) (qp : Nat) (st : Status) (cntlid : Nat) : State :=
  s.emit [.net "connect response" [qp, (statusCode st).1, (statusCode st).2, cntlid]]

/-- The fabric slots that are reserved for a host (R334). -/
def State.reservedFor (s : State) (hash : Nat) : List Nat :=
  (s.nv.nqn.filter fun e => e.2 == hash && s.isFabric e.1).map (·.1)

/-- A ring of `m1` + 1 entries for a queue of a fabric controller, and the queue pair bound to it. -/
def State.fabricQueue (s : State) (owner qid m1 qp : Nat) : State :=
  let q : QCtx := { sqSize := m1, cqSize := m1, sqCqid := qid, epoch := (s.tenant owner).epoch % 256,
                    sqValid := true, cqValid := true }
  let s := (s.modCtx owner qid fun _ => q).cache (qKey owner qid)
  s.modQp qp fun x => { x with use := .nvme owner qid }

/-- A Connect on an admin queue (R285, R334). [DEDUCED, unsafe: log 56; DESIGN CHOICE, unsafe: log 58] -/
def State.connectAdmin (s : State) (c : ConnectReq) (p : Nat) : State :=
  let mine := s.reservedFor c.hash
  if c.discovery then s.answer c.qp .success 0
  else if c.cntlid ≠ 0xFFFF then s.answer c.qp .connectInvalidParameters 0
  else if mine.isEmpty then s.answer c.qp .connectInvalidHost 0
  else match mine.find? fun t => decide ((s.tenant t).phase = .inactive) with
    | none => s.answer c.qp .connectControllerBusy 0
    | some t =>
      let s := s.activate t p
      if (s.tenant t).phase ≠ .active then s.answer c.qp .connectControllerBusy 0
      else
        let a : Assoc := ⟨p, c.hash, [c.qp], (c.kato + 99) / 100 * 100, s.time.now⟩
        let s := s.updNet fun n => { n with assocs := mapSet n.assocs t a }
        (s.fabricQueue t 0 (c.sqsize % 4096) c.qp).answer c.qp .success (t + 1)

/-- A Connect that creates an I/O queue of an association. [PRESUMED, unsafe: log 57] -/
def State.connectIo (s : State) (c : ConnectReq) : State :=
  let o := ctrlIdOwner c.cntlid
  match mapGet? s.net.assocs o with
  | none => s.answer c.qp .connectInvalidParameters 0
  | some a =>
    if a.hash ≠ c.hash then s.answer c.qp .connectInvalidHost 0
    else if (s.ctrl o).rdy = false then s.answer c.qp .commandSequenceError 0
    else if (s.ctrl o).queues ≤ c.qid ∨ s.hasSq o c.qid = true ∨ c.sqsize = 0 then s.answer c.qp .connectInvalidParameters 0
    else
      let s := s.updNet fun n => { n with assocs := mapSet n.assocs o { a with qps := a.qps ++ [c.qp] } }
      (s.fabricQueue o c.qid (c.sqsize % 65536) c.qp).answer c.qp .success c.cntlid

/-- CONNECT (R285, R334), also an exit from PS3 and PS4 (R424). -/
def execConnect (c : ConnectReq) (s : State) : Host.Outcome State Fault Refusal :=
  effect s fun s => match mapGet? s.net.qps c.qp with
    | none => s
    | some q =>
      if q.use ≠ .fresh then s
      else if c.qid = 0 then (s.powerExit 2).connectAdmin c q.port
      else (s.powerExit 2).connectIo c

/-- CAPSULE (R98, R286): a capsule takes the next ring entry and acts as the doorbell, which waits for a context that is not cached
(R92), or a full ring answers it with an RNR NAK. [DEDUCED, unsafe: log 54, 178] -/
def State.capsule (s : State) (owner qid : Nat) (e : Sqe) : State :=
  match s.qpOf owner qid with
  | none => s
  | some k =>
    let c := s.qctx owner qid
    if s.isFabric owner = false ∨ s.hasSq owner qid = false then s
    else if c.sqSize ≤ (mapGet s.q.rings (qKey owner qid) []).length then
      let s := s.modQp k fun q => { q with expect := (q.expect + 16777215) % 16777216, unacked := q.unacked - 1 }
      let s := s.emit [.net "rnr nak" ([k, s.rd Reg.NET_QP_CFG_RNR_TIMER] ++ s.roceTag)]
      (s.bump Reg.NET_DROP_RNR_NAK).eventPer 1029 k 1000000000 [owner, qid]
    else
      let s := s.powerExit 2
      let key := qKey owner qid
      let ring := mapGet s.q.rings key [] ++ [e]
      let s := s.updQ fun q => { q with rings := mapSet q.rings key ring }
      let w := CtxWait.tail ((c.sqHead + ring.length) % (c.sqSize + 1)) s.stampNow
      if s.q.cached.contains key then (s.lookup key).doorbell owner qid w
      else (s.lookup key).updQ fun q => { q with waits := q.waits ++ [(key, w)] }

def execCapsule (owner qid : Nat) (e : Sqe) (s : State) : Host.Outcome State Fault Refusal :=
  effect s fun s => s.capsule owner qid e

/-- KEEP_ALIVE (R285): the association's timer starts again; only fabric controllers have the command (R80). [DEDUCED, unsafe: log
47] -/
def execKeepAlive (ref : CmdRef) (s : State) : Host.Outcome State Fault Refusal :=
  effect s fun s => s.starting ref fun s =>
    match mapGet? s.net.assocs ref.owner with
    | none => s.finish ref .invalidOpcode
    | some a =>
      (s.updNet fun n => { n with assocs := mapSet n.assocs ref.owner { a with since := s.time.now } }).finish ref .success

/-- KEEP_ALIVE_EXPIRY (R287): a weight of 0 suspends the timer (R111), and a KATO of 0 has none. -/
def execKeepAliveExpiry (owner : Nat) (s : State) : Host.Outcome State Fault Refusal :=
  effect s fun s => match mapGet? s.net.assocs owner with
    | none => s
    | some a => if s.weightNow owner = 0 ∨ a.kato = 0 then s else s.endAssociation owner

/-! ### Serve queue pairs (R305, Table SRV-11) -/

/-- A serve queue pair; one that nothing connected is IDLE. -/
def State.sqp (s : State) (h : Nat) : Sqp := mapGet s.net.sqps h {}

/-- Is the owner of a serve queue pair active? -/
def State.sqpOwnerActive (s : State) (owner : Nat) : Bool :=
  if isTenant owner then decide ((s.tenant owner).phase = .active) else s.present owner

/-- A serve queue pair returns to IDLE, and its queue pair to the pool. -/
def State.sqpIdle (s : State) (h : Nat) : State :=
  let k := (s.sqp h).qp
  s.updNet fun n => { n with sqps := mapErase n.sqps h, qps := mapErase n.qps k }

/-- The end of a request of NET_SQP_CTRL. -/
def State.sqpResult (s : State) (r : Nat) : State := (s.wr Reg.NET_SQP_STATUS_RESULT r).set Reg.NET_SQP_STATUS_BUSY false

/-- SQP_CONNECT (R305), with a path MTU whose frames fit N_MTU (R278). [DEDUCED, unsafe: log 55] -/
def State.sqpConnect (s : State) (owner : Nat) : State :=
  let h := s.rd Reg.NET_SQP_SEL_HANDLE
  let p := s.rd Reg.NET_SQP_ATTR_PORT
  let x := s.sqp h
  if s.on Reg.NET_SQP_STATUS_BUSY then s
  else if x.st = .connecting ∨ x.st = .ready then s.sqpResult 3
  else if s.sqpOwnerActive owner = false then s.sqpResult 5
  else if (s.netPort p).up = false ∨ s.hasAddress p = false then s.sqpResult 4
  else
    let s := if x.st = .error then s.sqpIdle h else s
    if s.qpLeft = false then s.sqpResult 1
    else
      let k := s.net.nextQp
      let s := s.newQp p (min (512 * 2 ^ s.rd Reg.NET_SQP_ATTR_PMTU) s.pathMtu) (.serve h)
      let s := s.updNet fun n => { n with sqps := mapSet n.sqps h ⟨.connecting, owner, k⟩ }
      (s.set Reg.NET_SQP_STATUS_BUSY true).emit
        [.net "connection request" ([p, k, s.rd Reg.NET_SQP_ATTR_SERVICE] ++
          (List.range 4).map fun i => s.rd (Reg.NET_SQP_ADDR_ADDR.at i))]

def execSqpConnect (owner : Nat) (s : State) : Host.Outcome State Fault Refusal := effect s fun s => s.sqpConnect owner

/-- SQP_DESTROY (R305): the SEND and POST steps that run on the queue pair fail as they do when it enters the error state. [DEDUCED,
unsafe: log 222] -/
def State.sqpDestroy (s : State) : State :=
  let h := s.rd Reg.NET_SQP_SEL_HANDLE
  let x := s.sqp h
  if s.on Reg.NET_SQP_STATUS_BUSY then s
  else if x.st = .ready ∨ x.st = .error then (((s.emit [.net "disconnect" [x.qp]]).sqpError h).sqpIdle h).sqpResult 0
  else s.sqpResult 0

def execSqpDestroy (s : State) : Host.Outcome State Fault Refusal := effect s fun s => s.sqpDestroy

/-- SQP_PEER_ACCEPT (R305): READY, EV1037; an owner that is no longer active loses the connection at once. -/
def execSqpPeerAccept (handle : Nat) (s : State) : Host.Outcome State Fault Refusal :=
  effect s fun s =>
    let x := s.sqp handle
    if x.st ≠ .connecting then s
    else if s.sqpOwnerActive x.owner then
      ((s.updNet fun n => { n with sqps := mapSet n.sqps handle { x with st := .ready } }).sqpResult 0).event 1037 [handle]
    else ((s.emit [.net "disconnect" [x.qp]]).sqpIdle handle).sqpResult 5

/-- The peer refuses, or does not answer within 2 s (R305): RESULT 2. -/
def State.sqpRefused (s : State) (h : Nat) : State :=
  if (s.sqp h).st = .connecting then (s.sqpIdle h).sqpResult 2 else s

def execSqpPeerReject (handle : Nat) (s : State) : Host.Outcome State Fault Refusal := effect s fun s => s.sqpRefused handle

def execSqpConnectTimeout (handle : Nat) (s : State) : Host.Outcome State Fault Refusal := effect s fun s => s.sqpRefused handle

end Sys2Proof.Machine
end

