-- ==== Sys2Proof/Machine/Memory.lean ====
section
/-! DEFINITION. Requests to DRAM and their outcomes, scrub, and the chains of buffer cells whose descriptor fails
(spec/14 R361 to R365; spec/15 R374 to R387). -/

namespace Sys2Proof.Machine

/-! ### Cell chains (R361, R365) -/

/-- Buffered data of a write, at a logical block, that cannot be read on its way to the media (Tables CEL-10, DRM-4): the
buffer-to-media row of Table RED-3. [DEDUCED, unsafe: log 237] -/
def State.toMediaFails (s : State) (w lba : Nat) : State :=
  match mapGet? s.wp.wr w with
  | none => s
  | some x => match x.zone, s.stripeOf x.nsid lba with
    | some _, some (set, row, pos) => s.badToMedia (.unit set row pos) lba
    | _, _ => s.badToMedia (.patch w false) lba

/-- The bytes that the first `n` cells of a chain hold. -/
def State.chainBytes (s : State) : Nat → Nat → Nat
  | 0, _ => 0
  | n + 1, h => match mapGet? s.cell.cells h with
    | none => 0
    | some c => c.fill + s.chainBytes n c.next

/-- The first logical blocks of the 4 KiB of a write whose bytes lie at or beyond byte `off` of its data. [DEDUCED, unsafe: log 237]
-/
def Wr.blocksBeyond (w : Wr) (per4k off : Nat) : List Nat :=
  ((List.range ((w.nlb + per4k - 1) / per4k)).filter (off / 4096 ≤ ·)).map fun i => w.slba + i * per4k

/-- What becomes of the holder's operation when a descriptor of its chain is uncorrectable (Table CEL-10): its data from byte `off`
on cannot be reached. A read is passed on poisoned, a write that still arrives fails, and buffered data bound for the media
takes the buffer-to-media row of Table RED-3. [DEDUCED, unsafe: log 237] -/
def State.holderFails (s : State) (requester off : Nat) (holder : Option CmdRef) : State :=
  match holder with
  | none => s
  | some r =>
    let per4k := fun (nsid : Nat) => ((s.ns? nsid).map (·.per4k)).getD 1
    if 2 ≤ requester ∧ requester ≤ 4 ∧ (mapGet? s.md.reads (cmdKey r)).isNone ∨ requester = 9 then
      s.each (s.wp.wr.filter fun e => decide (e.2.ref = r)) fun s e =>
        s.each (e.2.blocksBeyond (per4k e.2.nsid) off) fun s lba => s.toMediaFails e.1 lba
    else if s.runs r = false then s
    else if requester = 7 then
      match s.program r with
      | some x => s.serveFails r .internalError 1034 x.next.1 x.next.2.op
      | none => s
    else if requester = 8 then s.finish r .internalError
    else match mapGet? s.md.reads (cmdKey r) with
      | some j => s.updDram fun d => { d with poisoned := d.poisoned ++ [(cmdKey r, j.slba + off / 4096 * per4k j.nsid)] }
      | none =>
        if requester ≤ 1 && s.wp.wr.any fun e => ofCommand r e.2 then (s.dropWrite (ofCommand r)).finish r .internalError
        else s

/-- Words of the cell store corrected on the fly (R378, R379): counted, and EV0914 at most once per second. -/
def State.sramCorrected (s : State) (n : Nat) : State :=
  if n = 0 then s else (s.bump Reg.ECC_SRAM_STAT_CORRECTED n).eventPer 914 0 1000000000 [n]

/-- SHARE and RELEASE of a chain (R361, R362, R365, R379); `bad` is how many cells lie before one whose descriptor is
uncorrectable, and `corrected` how many words of descriptors were corrected. -/
def State.chainOp (s : State) (release : Bool) (requester h : Nat) (bad : Option Nat) (corrected : Nat) (holder : Option CmdRef) :
    State :=
  let s := s.sramCorrected corrected
  let off := s.chainBytes (bad.getD 0) h
  let r := s.walk release requester bad (s.cell.cells.length + 1) h
  let s := if release then r.1.cellsFreed else r.1
  if r.2 = .uncorrectable then s.holderFails requester off holder else s

def execShare (requester handle : Nat) (uncorrectable : Option Nat) (corrected : Nat) (holder : Option CmdRef) (s : State) :
    Host.Outcome State Fault Refusal :=
  effect s fun s => s.chainOp false requester handle uncorrectable corrected holder

def execReleaseChain (requester handle : Nat) (uncorrectable : Option Nat) (corrected : Nat) (holder : Option CmdRef) (s : State) :
    Host.Outcome State Fault Refusal :=
  effect s fun s => s.chainOp true requester handle uncorrectable corrected holder

/-! ### Corrections (R379) -/

/-- The halves of a per-channel count. -/
def ecField (a b : Field) (sub : Nat) : Field := if sub % 2 = 0 then a.at (sub / 2) else b.at (sub / 2)

/-- The key of a device position: channel, subchannel, symbol position. -/
def posKey (sub position : Nat) : Nat := sub * 16 + position % 16

/-- A correctable error is corrected on the fly and counted; a position that reaches the threshold is recorded once until
its counter is read (R379). -/
def State.corrected (s : State) (sub position : Nat) : State :=
  let s := s.bump (ecField Reg.ECC_DRAM_CE_SUBCH_A Reg.ECC_DRAM_CE_SUBCH_B sub)
  let k := posKey sub position
  let n := min (mapGet s.dram.devCount k 0 + 1) 65535
  let s := s.updDram fun d => { d with devCount := mapSet d.devCount k n }
  if s.rd Reg.ECC_CE_THRESH_COUNT ≤ n ∧ s.dram.devNoted.contains k = false then
    (s.updDram fun d => { d with devNoted := d.devNoted ++ [k] }).event 912 [sub / 2, sub % 2, position]
  else s

/-! ### Uncorrectable reads (R386, R387, Table DRM-4) -/

/-- R387: counted, recorded in ECC_ERR and as EV0913. -/
def State.uncorrectable (s : State) (addr requester : Nat) (poison : Bool) : State :=
  let sub := s.dramSub (addr / 64)
  let s := s.bump (ecField Reg.ECC_DRAM_UE_SUBCH_A Reg.ECC_DRAM_UE_SUBCH_B sub)
  let s := s.firstError Reg.ECC_ERR_VALID
    [(Reg.ECC_ERR_SPACE, 0), (Reg.ECC_ERR_REQUESTER, requester), (Reg.ECC_ERR_POISON, poison.toNat),
     (Reg.ECC_ERR_CHANNEL, sub / 2), (Reg.ECC_ERR_SUBCH, sub % 2),
     (Reg.ECC_ERR_ADDR_LO_ADDR, addr), (Reg.ECC_ERR_ADDR_HI_ADDR, addr / 4294967296)]
  s.eventPer 913 requester 1000000 [addr, requester]

/-- A zone whose entry and every persisted copy of it are unrecoverable (Table ZON-3): EV0040 and the notice of R121. -/
def State.zoneLost (s : State) (nsid z : Nat) : State :=
  if (s.zoneAt nsid z).st = .offline then s
  else
    let s := (s.modZone nsid z fun x => { x with st := .offline }).event 40 [nsid, z]
    s.each (s.attachees nsid) fun s o => s.aen o 2 0xEF 0xBF

/-- A set whose block states or row exceptions are unrecoverable (Table DRM-4): its zone goes OFFLINE; of a reclaim unit,
reads of the granules in it fail. -/
def State.setLost (s : State) (set : Nat) : State :=
  if set < 2 ^ 60 then s.zoneLost (set / 4294967296) (set % 4294967296)
  else
    let cons := (set - 2 ^ 60) / 4294967296
    let gone := fun (k slot : Nat) =>
      if s.nsCons (k / 2 ^ 40) = some cons ∧ ruKey (s.unitOf cons slot) = set then lostSlot else slot
    s.modNv fun v => { v with map := mapAll v.map gone }

/-- The outcome of an uncorrectable read (Table DRM-4). [DESIGN CHOICE, unsafe: log 160] -/
def State.dramOutcome (s : State) : DramContent → State
  | .coreFetch c => (s.event 920 [c]).emit [.data "instruction access fault" [c, 1]]
  | .coreLoad c => s.emit [.data "load access fault" [c, 5]]
  | .coreStore c => s.emit [.data "store access fault" [c, 7]]
  | .mover n => (s.updDram fun d => { d with halted := if d.halted.contains n then d.halted else d.halted ++ [n] }).event 919 [n]
  | .bufferToHost r lba => s.updDram fun d => { d with poisoned := d.poisoned ++ [(cmdKey r, lba)] }
  | .bufferToMedia w lba => s.toMediaFails w lba
  | .hot nsid blk => s.updZone fun z => { z with hot := z.hot.filter fun h => !(h.nsid == nsid && h.blk == blk) }
  | .ingot => s
  | .queueContext o => s.fatal o
  | .zoneEntry nsid z survives => if survives then s else s.zoneLost nsid z
  | .mapEntry nsid g survives =>
    if survives then s else s.modNv fun v => { v with map := mapSet v.map (mapKey nsid g) lostSlot }
  | .tableEntry set survives => if survives then s else s.setLost set
  | .bookEntry k => s.updMd fun m => { m with book := mapErase m.book k }
  | .fabricRing o => s.endAssociation o
  | .programSlot n => s.updServe fun v => { v with slots := mapErase v.slots n }
  | .other => s

/-! ### Requests (R374 to R376, R379, R383, R385) -/

/-- What the decoder reports of a line: the errors of the devices, or what the stored line itself carries (R386). -/
def State.lineVerdict (s : State) (l : Nat) (found : DramVerdict) : DramVerdict :=
  match (s.line l).decode Config.dramCheck Config.dramDecode with
  | (0, _, _) => found
  | (1, p, _) => if found = .clean then .correctable p else found
  | (2, _, _) => .uncorrectable
  | _ => .poisoned

/-- The bytes of a masked write merged into the line (R385). [DEDUCED, unsafe: log 166] -/
def merge (old new mask : Nat) : Nat :=
  (List.range 64).foldr (fun i a => a * 256 + (if mask / 2 ^ i % 2 = 1 then new / 256 ^ i % 256 else old / 256 ^ i % 256)) 0

/-- Every byte of a line. -/
def fullMask : Nat := 2 ^ 64 - 1

/-- The corrected line is written back, unless a write to it is queued (R379). -/
def State.writeBack (s : State) (sub l : Nat) : State :=
  if (s.queuedWrite sub l).isSome then s
  else match (s.line l).decode Config.dramCheck Config.dramDecode with
    | (1, _, v) => s.setLine l ⟨v, none, false⟩
    | _ => s

/-- The read of a line from DRAM: correction, or the outcome of an uncorrectable one; with the truth of whether it was
usable. -/
def State.readLine (s : State) (r : DramReq) : Bool × State :=
  let l := r.addr / 64
  let sub := s.dramSub l
  let s := if r.act then s.openRow sub (s.dramBank l) (s.dramRow l) else s
  match s.lineVerdict l r.found with
  | .clean => (true, s)
  | .correctable p => (true, (s.corrected sub p).writeBack sub l)
  | .uncorrectable => (false, (s.uncorrectable r.addr r.requester false).dramOutcome r.content)
  | .poisoned => (false, (s.uncorrectable r.addr r.requester true).dramOutcome r.content)

/-- The outcome of reading a queued write's data: poison goes with it (R386). -/
def State.readQueued (s : State) (r : DramReq) (w : DramWrite) : State :=
  if w.poison then (s.uncorrectable r.addr r.requester true).dramOutcome r.content else s

/-- A read of a filled line: of the data-buffer class, the newest queued write to the line answers it (R374); of the metadata class,
it issues after the earlier requests to its row (R375). [DEDUCED, unsafe: log 166] -/
def State.serveRead (s : State) (r : DramReq) : State :=
  let l := r.addr / 64
  let sub := s.dramSub l
  let md := metadataClass (partitionOf s.chart.cur r.addr)
  match if md then none else s.queuedWrite sub l with
  | some w =>
    let s := (s.bumpUnits (Reg.DRAM_CH_STAT_FORWARDS.at (sub / 2)) 1024).readQueued r w
    if w.poison then s else s.emit [.data "dram" [w.data]]
  | none =>
    let x := (if md then s.rowOrder sub l else s).readLine r
    if x.1 then x.2.emit [.data "dram" [(x.2.line l).data]] else x.2

/-- A write of a filled line: whole, poisoned where it copies data that could not be corrected (R386), or merged with what the line
holds or is to hold (R385). [DEDUCED, unsafe: log 166] -/
def State.serveWrite (s : State) (r : DramReq) (v : Nat) : State :=
  let l := r.addr / 64
  let sub := s.dramSub l
  let md := metadataClass (partitionOf s.chart.cur r.addr)
  if r.mask = fullMask then
    let s := if r.act then s.openRow sub (s.dramBank l) (s.dramRow l) else s
    s.queueWrite sub ⟨l, md, v, r.found == .uncorrectable || r.found == .poisoned⟩
  else match if md then none else s.queuedWrite sub l with
    | some w => (s.readQueued r w).queueWrite sub ⟨l, md, merge w.data v r.mask, w.poison⟩
    | none =>
      let x := (if md then s.rowOrder sub l else s).readLine r
      x.2.queueWrite sub ⟨l, md, merge (x.2.line l).data v r.mask, !x.1⟩

/-- A request to a filled granule, in order of its class. [DEDUCED, unsafe: log 161] -/
def State.serveRequest (s : State) (r : DramReq) : State :=
  match r.write with
  | none => s.serveRead r
  | some v => s.serveWrite r v

/-- DRAM_REQUEST (R374 to R376, R383, R385). [DEDUCED, unsafe: log 161] -/
def State.dramRequest (s : State) (r : DramReq) : State :=
  let g := r.addr / 1048576
  if s.granuleFilling g then s.updDram fun d => { d with waiting := d.waiting ++ [r] }
  else if s.granuleFilled g then s.serveRequest r
  else match r.write with
    | none => (s.uncorrectable r.addr r.requester false).dramOutcome r.content
    | some _ => s.event 916 [r.addr, r.requester]

/-- DRAM_REQUEST (R374 to R387). [DEDUCED, unsafe: log 161] -/
def execDramRequest (r : DramReq) (s : State) : Host.Outcome State Fault Refusal := effect s fun s => s.dramRequest r

/-- DRAM_SCRUB (R380): the requester of scrub is 10, and an uncorrectable line is left as it is; the pass has come to this
address. -/
def execDramScrub (addr : Nat) (verdict : DramVerdict) (s : State) : Host.Outcome State Fault Refusal :=
  effect s fun s =>
    if s.pausedPs then s else
    let s := s.wr Reg.DRAM_SCRUB_CFG_PROGRESS (addr * 100 / (max (dramMiB s.dramCfg) 1 * 1048576))
    if s.granuleFilled (addr / 1048576) = false then s
    else match s.lineVerdict (addr / 64) verdict with
      | .clean => s
      | .correctable p => (s.corrected (s.dramSub (addr / 64)) p).writeBack (s.dramSub (addr / 64)) (addr / 64)
      | .uncorrectable => s.uncorrectable addr 10 false
      | .poisoned => s.uncorrectable addr 10 true

end Sys2Proof.Machine
end

