-- ==== Sys2Proof/Machine/Complete.lean ====
section
/-! DEFINITION. The writing of completion entries, with what a completion carries: the egress check (R263), acknowledgement
records (R150), deadline counts (R185), queue deletion (R508), and the completions owed after a restore (R350). -/

namespace Sys2Proof.Machine

/-! ### What a write's completion leaves (R150, R151) -/

/-- Does an acknowledgement record of the same period overlap a range, or touch it? -/
def Ack.meets (a x : Ack) : Bool :=
  x.nsid == a.nsid && x.batch == a.batch && decide (x.slba ≤ a.slba + a.nlb) && decide (a.slba ≤ x.slba + x.nlb)

/-- Add a completed range to the acknowledgement records; contiguous ranges of one period share one (R150). -/
def addAck (a : Ack) (l : List Ack) : List Ack :=
  let near := l.filter a.meets
  let first := (near.map (·.slba)).foldl min a.slba
  let last := (near.map fun x => x.slba + x.nlb).foldl max (a.slba + a.nlb)
  (l.filter fun x => !a.meets x) ++ [{ a with slba := first, nlb := last - first }]

/-- The ranges of a write that completes: they are marked with the number of the newest fetched command, and recorded while
they are not durable; the blocks count as written. -/
def State.writeCompleted (s : State) (r : CmdRef) : State :=
  s.each (s.wp.wr.filter fun e => ofCommand r e.2) fun s e =>
    let w := e.2
    let s := s.updWp fun x => { x with wr := mapMod x.wr e.1 fun w => { w with completed := some s.q.seq } }
    let per := ((s.ns? w.nsid).map (·.per4k)).getD 1
    let s := s.modNv fun v => { v with written4k := v.written4k + (w.nlb + per - 1) / per }
    if s.durable w then s else s.modNv fun v => { v with acks := addAck ⟨w.nsid, w.slba, w.nlb, s.jr.openNo⟩ v.acks }

/-! ### Egress (R263) -/

/-- The status of a read as its data leaves the block. -/
def State.egress (s : State) (c : Cmd) (st : Status) (found : Option (Nat × Nat)) : Status × State :=
  if c.opcode = 2 ∧ st = .success then
    match s.egressFailure c.ref found with
    | none => (st, s)
    | some (field, lba) =>
      let x := s.egressFails c.nsid field lba
      (x.1, (x.2.updDram fun d => { d with poisoned := d.poisoned.filter fun e => e.1 != cmdKey c.ref }).errLog c.ref x.1)
  else (st, s)

/-! ### Posting (R109) -/

/-- Does a completion have to wait: no room in its completion queue (R109; a fabric controller's go to the host as capsules and take
none), an eclipse record that holds it (R346), older restored completions (R350), data that its queue pair has still to send
(R289), or a stop of completions? [DESIGN CHOICE, unsafe: log 220] -/
def State.postHeld (s : State) (r : CmdRef) : Bool :=
  let t := s.tenant r.owner
  let c := s.qctx r.owner r.sqid
  let cq := s.qctx r.owner c.sqCqid
  s.q.stopped || (isTenant r.owner && (t.frozen || (!t.owed.isEmpty && !t.owed.contains (r.sqid, r.cid)))) ||
    !s.hasSq r.owner r.sqid || !cq.cqValid || (!s.isFabric r.owner && cq.room == 0) ||
    s.sendsFor r

/-- Is the context of a command's completion queue not in the cache? The completion then waits for it (R92). -/
def State.ctxAbsent (s : State) (r : CmdRef) : Bool := !s.q.cached.contains (qKey r.owner (s.qctx r.owner r.sqid).sqCqid)

/-- The context of a command's completion queue is asked for from DRAM, once. -/
def State.fillFor (s : State) (r : CmdRef) : State :=
  let k := qKey r.owner (s.qctx r.owner r.sqid).sqCqid
  if s.q.fills.contains k then s else s.lookup k

/-- A submission queue that is being deleted has posted its last completion: it ceases to exist, and the Delete completes
(R508). -/
def State.deletionDone (s : State) (owner sqid : Nat) : State :=
  match (s.qctx owner sqid).deleting with
  | none => s
  | some cid =>
    if s.q.cmds.any fun e => e.2.ref.owner == owner && e.2.ref.sqid == sqid then s
    else
      (s.modCtx owner sqid fun c => { c with
        sqValid := false, deleting := none, sqTail := 0, sqHead := 0, stampA := none, stampB := none, inflight := 0
        dlDefault := 0 }).finish ⟨owner, 0, cid⟩ .success

/-- The entry is written, the command context is free, and the interrupt follows (R109, R110). [DEDUCED, unsafe: log 171] -/
def State.postEntry (s : State) (c : Cmd) (st : Status) (dw0 dw1 : Nat) : State :=
  let r := c.ref
  let q := s.qctx r.owner r.sqid
  let cq := s.qctx r.owner q.sqCqid
  let e : Cqe := ⟨r.owner, q.sqCqid, cq.cqTail, cq.phase, r.sqid, q.sqHead, r.cid, st, dw0, dw1⟩
  let s := (s.lookup (qKey r.owner q.sqCqid)).emit [.cqe e]
  let wrap := cq.cqTail == cq.cqSize
  let s := if s.isFabric r.owner then s else s.modCtx r.owner q.sqCqid fun x => { x with
    cqTail := if wrap then 0 else x.cqTail + 1, phase := if wrap then !x.phase else x.phase }
  let s := s.modCtx r.owner r.sqid fun x => { x with inflight := x.inflight - 1 }
  let s := s.updQ fun q => { q with cmds := mapErase q.cmds (cmdKey r) }
  let s := s.modTen r.owner fun x => { x with owed := x.owed.filter fun y => y != (r.sqid, r.cid) }
  let s := if s.waitingOn r.owner q.sqCqid = 0 then s.modCtx r.owner q.sqCqid fun x => { x with fullNoted := false } else s
  let s := if cq.ien then s.completionInterrupt r.owner q.sqCqid cq.vector (decide (st = .success)) else s
  s.deletionDone r.owner r.sqid

/-- COMPLETION_POST (R109): a command that has ended posts its entry, unless it is held; a command of an ended epoch posts nothing
and gives its context back once its last operation has ended (R341, R342). [DESIGN CHOICE, safe: log 86] -/
def State.post (s : State) (r : CmdRef) (found : Option (Nat × Nat)) : State :=
  match s.cmd? r with
  | none => s
  | some c =>
    match c.phase with
    | .done st dw0 dw1 =>
      if r.owner = companionOwner then
        -- the response of a forwarded command (R398)
        if s.q.stopped then s
        else
          let s := if st = .success then s.writeCompleted r else s
          (s.updQ fun q => { q with cmds := mapErase q.cmds (cmdKey r) }).emit
            [Out.bulum "response" [r.cid, (statusCode st).1, (statusCode st).2, dw0, dw1]]
      else if isStale r then (if s.readRuns r then s else s.updQ fun q => { q with cmds := mapErase q.cmds (cmdKey r) })
      else if s.postHeld r then s
      else if s.ctxAbsent r then s.fillFor r
      else
        let x := s.egress c st found
        let s := if c.opcode = serveOpcode then x.2 else x.2.measure r
        let s := if x.1 = .success then s.writeCompleted r else s
        s.postEntry c x.1 dw0 dw1
    | _ => s

def execCompletionPost (ref : CmdRef) (egress : Option (Nat × Nat)) (s : State) : Host.Outcome State Fault Refusal :=
  effect s fun s => s.post ref egress

end Sys2Proof.Machine
end

