-- ==== Sys2Proof/Machine/Admin.lean ====
section
/-! DEFINITION. Admin commands of a controller: queues, features, asynchronous events, abort, Identify and the log pages
(spec/04 R80 to R85; spec/05 R93, R96, R106, R110, R508; spec/07 R153, R164, R166; spec/09 R241 to R243; spec/10 R274;
spec/17 R421; spec/18 R453). -/

namespace Sys2Proof.Machine

/-- An admin command starts: its queue is the admin queue. -/
def State.admin (s : State) (r : CmdRef) (f : State → State) : State := s.starting r f

/-! ### Queues (R91, R93, R96, R508) -/

/-- A controller's queue count (R94, R95); the PF controllers of the ROM safe chart have 2. -/
def State.queueCount (s : State) (owner : Nat) : Nat :=
  if isTenant owner then (s.ctrl owner).queues else if s.charted then s.pfQueues else 2

/-- CREATE_IO_COMPLETION_QUEUE (R71, R93, R96). `size` is 0's based. [PRESUMED, unsafe: log 42] -/
def execCreateIoCompletionQueue (ref : CmdRef) (qid size base vector : Nat) (ien pc : Bool) (s : State) :
    Host.Outcome State Fault Refusal :=
  effect s fun s => s.admin ref fun s =>
    let o := ref.owner
    if s.isFabric o then s.finish ref .invalidOpcode
    else if capCqr && !pc then s.finish ref .invalidField
    else if qid = 0 ∨ s.queueCount o ≤ qid ∨ s.hasCq o qid = true then s.finish ref .invalidQueueId
    else if size = 0 ∨ 65535 < size then s.finish ref .invalidQueueSize
    else if base % 4096 ≠ 0 then s.finish ref .invalidField
    else if 2048 ≤ vector then s.finish ref .invalidInterruptVector
    else
      let c := s.qctx o qid
      let keep : QCtx := if s.epochOk o c then c else {}
      let q : QCtx := { keep with
        cqBase := base, cqSize := size, cqTail := 0, cqHead := 0, vector := vector, ien := ien, phase := true
        cqValid := true, epoch := (s.tenant o).epoch % 256, fullNoted := false }
      ((s.modCtx o qid fun _ => q).cache (qKey o qid)).finish ref .success

/-- CREATE_IO_SUBMISSION_QUEUE (R93, R96). [PRESUMED, unsafe: log 42] -/
def execCreateIoSubmissionQueue (ref : CmdRef) (qid size base cqid prio : Nat) (pc : Bool) (s : State) :
    Host.Outcome State Fault Refusal :=
  effect s fun s => s.admin ref fun s =>
    let o := ref.owner
    if s.isFabric o then s.finish ref .invalidOpcode
    else if capCqr && !pc then s.finish ref .invalidField
    else if qid = 0 ∨ s.queueCount o ≤ qid ∨ s.hasSq o qid = true then s.finish ref .invalidQueueId
    else if size = 0 ∨ 65535 < size then s.finish ref .invalidQueueSize
    else if base % 4096 ≠ 0 then s.finish ref .invalidField
    else if cqid = 0 ∨ s.queueCount o ≤ cqid then s.finish ref .invalidQueueId
    else if s.hasCq o cqid = false then s.finish ref .completionQueueInvalid
    else
      let c := s.qctx o qid
      let keep : QCtx := if s.epochOk o c then c else {}
      let q : QCtx := { keep with
        sqBase := base, sqSize := size, sqTail := 0, sqHead := 0, sqCqid := cqid, prio := prio % 4, dlDefault := 0
        sqValid := true, epoch := (s.tenant o).epoch % 256, inflight := 0, stampA := none, stampB := none, fetching := 0
        deleting := none }
      ((s.modCtx o qid fun _ => q).cache (qKey o qid)).finish ref .success

/-- Has a command not yet been accepted by its executing stage (R508)? One that waits for space, credit, a reset, an
opening or a home change has not. -/
def Phase.unaccepted : Phase → Bool
  | .fetched => true
  | .waiting w => w == 1 || w == 3 || w == 4 || w == 5
  | _ => false

/-- DELETE_IO_SUBMISSION_QUEUE (R508). -/
def State.deleteSq (s : State) (r : CmdRef) (qid : Nat) : State :=
  let o := r.owner
  if s.isFabric o then s.finish r .invalidOpcode
  else if qid = 0 ∨ s.hasSq o qid = false ∨ (s.qctx o qid).deleting ≠ none then s.finish r .invalidQueueId
  else
    let s := (s.accept r).modCtx o qid fun c => { c with deleting := some r.cid, fetching := 0 }
    let l := (s.q.cmds.filter fun e => e.2.ref.owner == o && e.2.ref.sqid == qid && e.2.phase.unaccepted).map (·.2.ref)
    let s := s.updZone fun z => { z with openWaits := z.openWaits.filter fun e => !l.contains e.2 }
    (s.each l fun s x => s.finish x .abortedSqDeletion).deletionDone o qid

def execDeleteIoSubmissionQueue (ref : CmdRef) (qid : Nat) (s : State) : Host.Outcome State Fault Refusal :=
  effect s fun s => s.admin ref fun s => s.deleteSq ref qid

/-- DELETE_IO_COMPLETION_QUEUE (R96): a queue that a submission queue still names stays. -/
def execDeleteIoCompletionQueue (ref : CmdRef) (qid : Nat) (s : State) : Host.Outcome State Fault Refusal :=
  effect s fun s => s.admin ref fun s =>
    let o := ref.owner
    if s.isFabric o then s.finish ref .invalidOpcode
    else if qid = 0 ∨ s.hasCq o qid = false then s.finish ref .invalidQueueId
    else if (s.queuesOf o).any fun e => e.2.sqValid && e.2.sqCqid == qid then s.finish ref .invalidQueueDeletion
    else (s.modCtx o qid fun c => { c with
      cqValid := false, cqTail := 0, cqHead := 0, ien := false, vector := 0 }).finish ref .success

/-! ### Features (R83, R96, R106, R110, R153, R421) -/

/-- SET_FEATURES_DEADLINE_DEFAULT (R83): FFFFh names every I/O queue of the controller. [PRESUMED, unsafe: log 76] -/
def execSetFeaturesDeadlineDefault (ref : CmdRef) (qid dl : Nat) (sv : Bool) (s : State) :
    Host.Outcome State Fault Refusal :=
  effect s fun s => s.admin ref fun s =>
    if sv then s.finish ref .featureNotSaveable
    else if qid = 0xFFFF then
      let l := ((s.queuesOf ref.owner).filter fun e => e.1 != 0 && s.hasSq ref.owner e.1).map (·.1)
      (s.each l fun s q => s.modCtx ref.owner q fun c => { c with dlDefault := dl % 65536 }).finish ref .success
    else if s.hasSq ref.owner qid = false then s.finish ref .invalidField
    else (s.modCtx ref.owner qid fun c => { c with dlDefault := dl % 65536 }).finish ref .success

/-- GET_FEATURES_DEADLINE_DEFAULT (R83): dword 0 has the layout of CDW11. [DESIGN CHOICE, safe: log 46] -/
def execGetFeaturesDeadlineDefault (ref : CmdRef) (qid : Nat) (s : State) : Host.Outcome State Fault Refusal :=
  effect s fun s => s.admin ref fun s =>
    let q := if qid = 0xFFFF then 1 else qid
    if s.hasSq ref.owner q = false then s.finish ref .invalidField
    else s.finish ref .success ((s.qctx ref.owner q).dlDefault * 65536 + qid)

/-- The granted numbers of queues in the layout of Feature 07h: completion queues above submission queues. [DEDUCED, unsafe: log
183] -/
def queuesDw (nsq ncq : Nat) : Nat := ncq * 65536 + nsq

/-- SET_FEATURES_NUMBER_OF_QUEUES (R96). [DEDUCED, unsafe: log 183] -/
def execSetFeaturesNumberOfQueues (ref : CmdRef) (nsq ncq : Nat) (s : State) : Host.Outcome State Fault Refusal :=
  effect s fun s => s.admin ref fun s =>
    let n := s.queueCount ref.owner - 1
    s.finish ref .success (queuesDw (min nsq n) (min ncq n))

/-- GET_FEATURES_NUMBER_OF_QUEUES (R96). [DEDUCED, unsafe: log 183] -/
def execGetFeaturesNumberOfQueues (ref : CmdRef) (s : State) : Host.Outcome State Fault Refusal :=
  effect s fun s => s.admin ref fun s =>
    let n := s.queueCount ref.owner - 1
    s.finish ref .success (queuesDw n n)

/-- SET_FEATURES_VOLATILE_WRITE_CACHE (R153): Feature 06h; `none` is Get Features, which returns WCE = 1. -/
def execSetFeaturesVolatileWriteCache (ref : CmdRef) (wce : Option Bool) (s : State) : Host.Outcome State Fault Refusal :=
  effect s fun s => s.admin ref fun s =>
    match wce with
    | none => s.finish ref .success 1
    | some on => if on then s.finish ref .success else s.finish ref .invalidField

/-- NPSS (Table HST-4). -/
def State.npss (s : State) : Nat := if s.isPair then 3 else 4

/-- A controller requests a power state; an operational one is also its last operational state (R421, R424). -/
def State.requestPs (s : State) (owner ps : Nat) : State :=
  s.modCtrl owner fun c => { c with ps := ps, psLastOp := if ps < 3 then ps else c.psLastOp }

/-- SET_FEATURES_POWER_MANAGEMENT (R421, Table PWR-5): the command completes when the state that it leads to is in force;
a non-operational state is entered later (R422). -/
def execSetFeaturesPowerManagement (ref : CmdRef) (ps : Nat) (s : State) : Host.Outcome State Fault Refusal :=
  effect s fun s => s.admin ref fun s =>
    if s.npss < ps then s.finish ref .invalidField
    else
      let s := s.requestPs ref.owner ps
      if 3 ≤ s.psWanted ∨ (s.psWanted = s.rd Reg.PWR_STATUS_PS ∧ s.power.psMoving = false) then s.finish ref .success
      else { s.accept ref with power := { s.power with psWait := s.power.psWait ++ [ref] } }

/-- GET_FEATURES_POWER_MANAGEMENT (R421). -/
def execGetFeaturesPowerManagement (ref : CmdRef) (s : State) : Host.Outcome State Fault Refusal :=
  effect s fun s => s.admin ref fun s => s.finish ref .success (s.ctrl ref.owner).ps

/-- SET_FEATURES_INTERRUPT_COALESCING (R110): Features 08h and 09h. Feature 09h of a vector that no completion queue uses, or of the
admin queue's, is an invalid field. The operand is dword 11: threshold and time, or the vector and in bit 16 whether coalescing
is disabled. [PRESUMED, unsafe: log 76] -/
def execSetFeaturesInterruptCoalescing (ref : CmdRef) (vectorConfig : Bool) (dw11 : Nat) (s : State) : Host.Outcome State Fault Refusal :=
  effect s fun s => s.admin ref fun s =>
    let o := ref.owner
    let v := bits dw11 15 0
    if !vectorConfig then
      (s.modCtrl o fun c => { c with aggThr := bits dw11 7 0, aggTime := bits dw11 15 8 }).finish ref .success
    else
      if ((s.queuesOf o).any fun e => e.1 != 0 && e.2.cqValid && e.2.ien && e.2.vector == v) = false then s.finish ref .invalidField
      else (s.modCtrl o fun c => { c with
        coalNoneVectors := c.coalNoneVectors.filter (· ≠ v) ++ if bit dw11 16 then [v] else [] }).finish ref .success

/-- SET_FEATURES_ARBITRATION (R106). [PRESUMED, unsafe: log 76] -/
def execSetFeaturesArbitration (ref : CmdRef) (ab lpw mpw hpw : Nat) (s : State) : Host.Outcome State Fault Refusal :=
  effect s fun s => s.admin ref fun s =>
    (s.modCtrl ref.owner fun c => { c with
      ab := ab % 8, lpw := lpw % 256, mpw := mpw % 256, hpw := hpw % 256 }).finish ref .success

/-! ### Asynchronous events and Abort (R166, R303, Table TEN-4) -/

/-- ASYNCHRONOUS_EVENT_REQUEST (R166): held outstanding, at most 16 (Table TEN-4), until an event that waits or comes. [DEDUCED,
unsafe: log 44; DESIGN CHOICE, unsafe: log 156] -/
def execAsynchronousEventRequest (ref : CmdRef) (s : State) : Host.Outcome State Fault Refusal :=
  effect s fun s => s.admin ref fun s =>
    let o := ref.owner
    if 16 ≤ (s.ctrl o).aers.length then s.finish ref .aerLimitExceeded
    else
      let s := (s.accept ref).modCtrl o fun c => { c with aers := c.aers ++ [ref] }
      match (s.ctrl o).aenPending.find? fun e => !(s.ctrl o).aenMasked.contains (aenKey e.1 e.2.1) with
      | none => s
      | some e =>
        (s.modCtrl o fun c => { c with aenPending := c.aenPending.filter (· ≠ e) }).aen o e.1 e.2.1 e.2.2

/-- ABORT (R303): a Serve command's program stops after its current step, and the command completes with Command Abort Requested;
another command is not aborted (bit 0 of dword 0). [DEDUCED, unsafe: log 45] -/
def execAbort (ref : CmdRef) (sqid cid : Nat) (s : State) : Host.Outcome State Fault Refusal :=
  effect s fun s => s.admin ref fun s =>
    let r : CmdRef := ⟨ref.owner, sqid, cid⟩
    if s.runs r && decide (((s.cmd? r).map (·.opcode)) = some serveOpcode) then
      ((s.serveStop r).finish r .abortRequested).finish ref .success 0
    else s.finish ref .success 1

/-! ### Identify (R81, R82, R115 to R118, R121, R126) -/

/-- AWUN and AWUPF: 256 KiB in logical blocks, 0's based; 511 where the controller's namespaces have 512 B blocks. [DEDUCED, unsafe:
log 196] -/
def State.awun (s : State) (owner : Nat) : Nat :=
  let l := (s.attached owner).filterMap s.ns?
  if !l.isEmpty && l.all fun n => n.per4k == 8 then 511 else 63

/-- The filtered temperature in K, rounded (R432). -/
def State.kelvin (s : State) : Nat := ((s.power.filtered * 20 + 5473 * 16384) / 327680).toNat

/-- A temperature in °C, in K (R432). -/
def kelvinOf (t : Int) : Nat := (t + 273).toNat

/-- The power state descriptors (R420, Table PWR-4): the MP of each state in the chart, whether it is non-operational, and its ENLAT
and EXLAT in µs. [DESIGN CHOICE, safe: log 46] -/
def State.psDescriptors (s : State) : List Nat :=
  ((List.range (s.npss + 1)).map fun i =>
    [s.chart.cur.power.psMax.getD i 0, (decide (3 ≤ i)).toNat, [0, 50, 100, 1000, 5000].getD i 0, [0, 50, 100, 2000, 45000].getD i 0]).flatten

/-- The fields of Identify Controller that the spec gives (Table HST-4): VER, MDTS, CNTLID, VWC, AWUN, AWUPF, NN, MNAN, FRMW,
NPSS, APSTA, SANICAP, ANAGRPMAX, ELPE, whether OACS reports Namespace Management and Attachment (R116), HMPRE, the command sets
(Table HST-3), WCTEMP, CCTEMP and HCTMA (R432), and the power state descriptors (R420). -/
def State.identifyCtrl (s : State) (owner : Nat) : List Nat :=
  let nn := s.chart.cur.ten.maxNs
  [0x20000, 8, owner + 1, 7, s.awun owner, s.awun owner, nn, nn, 4, s.npss, 1, 3, 256, 255, (decide (s.managerOwner = some owner)).toNat, 0, 5,
    kelvinOf (s.rd Reg.THERM_THRESH0_WARN), kelvinOf (s.rd Reg.THERM_THRESH0_T3), 0] ++ s.psDescriptors

/-- Identify Namespace: NSZE, LBA format, ANAGRPID, ENDGID, DLFEAT, CSI, the protection type and guard, NAWUN and NAWUPF (256 KiB in
logical blocks, 0's based), and NABSN, NABO and NABSPF (R155). [DEDUCED, unsafe: log 196] -/
def State.identifyNs (s : State) (nsid : Nat) : List Nat :=
  match s.ns? nsid with
  | none => List.replicate 13 0
  | some n =>
    let unit := 64 * n.per4k - 1
    [n.nsze, n.lbaf, n.cons + 1, if (s.consOf n.cons).conv then n.cons + 1 else 0, 0x19, n.csi, n.pi, n.guard, unit, unit, 0, 0, 0]

/-- Identify Namespace for the Zoned command set: ZSZE, ZCAP, MAR, MOR, OZCS, and the two limits. -/
def State.identifyZns (s : State) (n : Ns) : List Nat := [s.zoneLbas n, s.zcap n, n.activeM1, n.openM1, 1, 0, 0]

/-- What Identify returns to a controller: a status, and the data where it is Success (R81, R116). [DESIGN CHOICE, safe: log 46] -/
def State.identifyData (s : State) (owner cns nsid csi : Nat) : Status × List Nat :=
  let mine := s.attached owner
  let admin := decide (s.managerOwner = some owner)
  if cns = 1 then (.success, s.identifyCtrl owner)
  else if cns = 0 then
    if nsid = 0 ∨ s.chart.cur.ten.maxNs < nsid then (.invalidNamespace, [])
    else (.success, if mine.contains nsid then s.identifyNs nsid else List.replicate 13 0)
  else if cns = 2 then (.success, mine.filter (nsid < ·))
  else if cns = 5 then
    match s.ns? nsid with
    | none => (.invalidNamespace, [])
    | some n =>
      if mine.contains nsid = false then (.success, [0, 0, 0, 0, 0, 0, 0])
      else if csi ≠ n.csi then (.invalidField, [])
      else (.success, if n.zoned then s.identifyZns n else [])
  else if cns = 6 then (if csi = 2 then (.success, [6]) else if csi = 0 then (.success, []) else (.invalidField, []))
  else if cns = 0x10 ∧ admin = true then (.success, (s.nv.ns.map (·.1)).filter (nsid < ·))
  else if cns = 0x11 ∧ admin = true then (.success, s.identifyNs nsid)
  else (.invalidField, [])

/-- IDENTIFY (R81, R116). [DEDUCED, unsafe: log 43] -/
def State.identify (s : State) (r : CmdRef) (cns nsid csi : Nat) : State :=
  let x := s.identifyData r.owner cns nsid csi
  if x.1 = .success then (s.emit [.data "identify" x.2]).finish r .success else s.finish r x.1

def execIdentify (ref : CmdRef) (cns nsid csi : Nat) (s : State) : Host.Outcome State Fault Refusal :=
  effect s fun s => s.admin ref fun s => s.identify ref cns nsid csi

/-! ### SMART / Health (R241, Table MED-11) and endurance groups (R242) -/

/-- The Critical Warning bits (Table MED-11). -/
def State.criticalWarning (s : State) : Nat :=
  let low := s.spareWarn
  let red := (s.nv.members.any fun e => decide (e.2.st ≠ .inService)) || (s.nv.ns.any fun e => !e.2.lost.entries.isEmpty)
  low.toNat + 2 * s.rd Reg.THERM_STATUS_WARN + 4 * red.toNat + 8 * s.nv.readOnly.toNat +
    16 * (s.boot.straps.holdup && !s.boot.pins.holdupOk).toNat

/-- A constellation's critical warnings in log 09h (R242). -/
def State.groupWarning (s : State) (k : Nat) : Nat :=
  let low := ((s.consDies k).filter s.dieUp).any fun d => decide (s.spares d ≤ s.chart.cur.media.spareMin)
  low.toNat + 8 * (s.nv.readOnly || s.md.consWp.contains k).toNat

/-- The constellations that are endurance groups (R115). -/
def State.groups (s : State) : List Nat := (List.range s.chart.cur.cons.length).filter fun k => (s.consOf k).conv

/-- The hottest flash package in K (R432), 0 where none has a reading. [DESIGN CHOICE, unsafe: log 22] -/
def State.hottestFlash (s : State) : Nat := s.power.flashHot.foldl (fun a e => max a (kelvinOf e.2)) 0

/-- The fields of log 02h: critical warning, composite temperature in K, the three of `spareFields`, the endurance group
summary, data units read and written, and media errors (Table MED-11); the minutes at or above THERM_WARN and at or above THERM_T3, and
Temperature Sensors 1 and 2 (R432). -/
def State.smart (s : State) : List Nat :=
  let f := s.spareFields s.diesUp
  [s.criticalWarning, s.kelvin, f.1, f.2.1, f.2.2,
   s.groups.foldl (fun a k => Nat.lor a (s.groupWarning k)) 0, s.nv.read4k, s.nv.written4k, s.nv.mediaErrors,
   s.power.warnNs / 60000000000, s.power.critNs / 60000000000, s.kelvin, s.hottestFlash]

/-- The fields of log 09h for a group. -/
def State.groupLog (s : State) (k : Nat) : List Nat :=
  let f := s.spareFields ((s.consDies k).filter s.dieUp)
  [s.groupWarning k, f.1, f.2.1, f.2.2]

/-! ### Log pages -/

/-- What a standard or FDP log holds: none for a log the T9 does not have. Log 09h and the FDP logs name their group in `nsid`; log
70h lists one discovery entry per valid address (Table SRV-3). [DESIGN CHOICE, safe: log 46; DESIGN CHOICE, unsafe: log 58, 173]
-/
def State.stdLog (s : State) (owner lid nsid : Nat) : Option (List Nat) :=
  let c := s.ctrl owner
  let group := decide (1 ≤ nsid) && s.groups.contains (nsid - 1)
  if lid = 1 then some ((c.errs.map fun e => [e.1.sqid, e.1.cid, (statusCode e.2).1, (statusCode e.2).2]).flatten)
  else if lid = 2 then some s.smart
  else if lid = 3 then some [s.rd Reg.BOOT_STATUS_FW_SLOT + 16 * s.rd Reg.BOOT_STATUS_NEXT_SLOT, s.boot.nor.fw1.revision, s.boot.nor.fw2.revision]
  else if lid = 4 then some c.nsChanged
  else if lid = 9 then (if group then some (s.groupLog (nsid - 1)) else none)
  else if lid = 0x0C then some ((List.range s.chart.cur.cons.length).map fun k => s.ana k)
  else if lid = 0x20 then (if group then some ([1, 64, s.zcap4k] ++ List.replicate 64 1) else none)
  else if lid = 0x21 then
    (if group then some ((s.nv.ns.filter fun e => e.2.cons + 1 == nsid && !e.2.zoned).map fun e => e.2.handles).flatten else none)
  else if lid = 0x22 then (if group then some [s.nv.written4k] else none)
  else if lid = 0x23 then (if group then some (((s.zone.fdp.filter fun e => e.2.1 + 1 == nsid).map fun e => [e.1, e.2.2]).flatten) else none)
  else if lid = 0x70 then
    (if s.isFabric owner then some ((s.net.addrs.filter fun e => e.2.valid).map fun e => [1, e.1 / 8, e.1 / 4 % 2, e.2.addr, 4420]).flatten
      else none)
  else if lid = 0xBF then
    some ((s.nv.zones.filter fun e => decide (e.2.st = .offline) && e.1 / 4294967296 == nsid).map fun e => e.1 % 4294967296)
  else none

/-- The type of asynchronous event that reading a log clears (NVMe). -/
def logEvent (lid : Nat) : Option Nat :=
  if lid = 1 then some 0 else if lid = 2 then some 1 else if lid = 4 ∨ lid = 0x0C ∨ lid = 0xBF then some 2 else none

/-- GET_LOG_PAGE: the standard and FDP logs; the vendor logs have rows of their own. [DEDUCED, unsafe: log 43] -/
def State.getLog (s : State) (r : CmdRef) (lid nsid off : Nat) (rae : Bool) : State :=
  match s.stdLog r.owner lid nsid with
  | none => s.finish r .invalidField
  | some l =>
    let s := (s.emit [.data "log page" (lid :: off :: l)]).finish r .success
    if rae then s
    else
      let s := if lid = 4 then s.modCtrl r.owner fun c => { c with nsChanged := [] } else s
      match logEvent lid with
      | some k => s.aenClear r.owner k
      | none => s

/-- GET_LOG_PAGE (R80, R81). [DESIGN CHOICE, unsafe: log 173] -/
def execGetLogPage (ref : CmdRef) (lid nsid off : Nat) (rae : Bool) (s : State) : Host.Outcome State Fault Refusal :=
  effect s fun s => s.admin ref fun s => s.getLog ref lid nsid off rae

/-! ### Log C0h (R243) -/

/-- The header of log C0h (Table MED-12). -/
def State.c0Header (s : State) : List Nat :=
  let f := s.spareFields s.diesUp
  let flags := s.nv.readOnly.toNat + 2 * s.spareWarn.toNat + 4 * s.rd Reg.MEDIA_STATUS_SCRUB_BEHIND +
    8 * s.rd Reg.MEDIA_STATUS_BOOK_RESTORED
  layout [(2, 1), (2, s.memberCount), (1, f.1), (1, f.2.2), (2, flags), (4, s.nv.cycles), (4, 0), (8, s.time.sid),
    (1, s.time.lock.code), (39, 0)]

/-- A member entry of log C0h (Table MED-13). -/
def State.c0Entry (s : State) (m : Nat) : List Nat :=
  if s.members.contains m = false then layout [(1, m), (1, 0xFF), (510, 0)]
  else
    let l := s.diesUp.filter fun d => dieMember d == m
    let f := s.spareFields l
    let h : Health := mapGet s.nv.health m {}
    let erases := (l.map fun d => ((s.blocksOf d).map fun e => e.2.eraseCount).foldl max 0).foldl max 0
    let wear := l.foldl (fun a d => (a.1 + (s.dieWear d).1, a.2 + (s.dieWear d).2)) (0, 0)
    let spares := l.map s.spares
    layout ([(1, m), (1, (s.member m).st.code), (2, l.length), (1, f.1), (1, f.2.2), (2, 0), (4, spares.sum),
      (4, (l.map s.retired).sum), (4, match spares with | [] => 0 | x :: xs => xs.foldl min x), (4, erases),
      (4, wear.1 / max wear.2 1), (4, 0), (8, h.programFails), (8, h.eraseFails), (8, h.retries), (8, h.soft), (8, h.stripe),
      (8, h.unrecovered), (8, h.scrubPages), (8, h.assayFails), (1, (h.tempNow % 256).toNat), (1, (h.tempMax % 256).toNat), (6, 0),
      (8, h.tempMaxTime), (16, 0)] ++
      ((List.range 16).map fun i => (8, mapGet h.errHist i 0)) ++ (List.range 64).map fun i => (4, mapGet h.tempHist i 0))

/-- The bytes of log C0h (R6, R243). -/
def State.logC0 (s : State) : List Nat := s.c0Header ++ ((List.range 16).map s.c0Entry).flatten

/-- GET_LOG_C0 (R243), from an offset. -/
def execGetLogC0 (ref : CmdRef) (off : Nat) (s : State) : Host.Outcome State Fault Refusal :=
  effect s fun s => s.admin ref fun s => (s.emit [.data "log C0h" (s.logC0.drop off)]).finish ref .success

/-! ### Logs C1h and C2h (R164, R274) -/

/-- The namespaces of a log command: those attached, or the one named. -/
def State.logNs (s : State) (r : CmdRef) (nsid : Nat) : Option (List Nat) :=
  if nsid = 0xFFFFFFFF then some (s.attached r.owner)
  else if s.isAttached r.owner nsid then some [nsid] else none

/-- Entries with their namespace, in time order. -/
def insertByTime (x : Nat × LogEntry) : List (Nat × LogEntry) → List (Nat × LogEntry)
  | [] => [x]
  | y :: l => if x.2.time < y.2.time then x :: y :: l else y :: insertByTime x l

/-- An entry of log C1h (Table WRT-4), or with `lost` of log C2h (Table RED-6). -/
def State.logEntryBytes (s : State) (lost : Bool) (nsid : Nat) (e : LogEntry) : List Nat :=
  layout ([(8, e.seq), (8, e.slba), (4, nsid), (4, e.nlb), (1, e.kind)] ++
    (if lost then [(1, e.zoned.toNat + 2 * e.acked.toNat), (1, (s.nsCons nsid).getD 0), (1, e.column), (2, e.members), (2, 0)]
      else [(1, e.zoned.toNat), (6, 0)]) ++
    [(8, e.time), (8, e.almSeq), (1, e.lock.code), (15, 0)])

/-- The bytes of log C1h or C2h over namespaces (Tables WRT-4, RED-6): the entries of one in the order in which they were logged, of
several in time order (R164). -/
def State.nsLogData (s : State) (l : List Nat) (lost : Bool) : List Nat :=
  let logs := l.filterMap fun n => (s.ns? n).map fun x => (n, if lost then x.lost else x.deferred)
  let all := (logs.map fun e => e.2.entries.map fun x => (e.1, x)).flatten
  let entries := if logs.length ≤ 1 then all else all.foldl (fun a x => insertByTime x a) []
  layout [(8, (logs.map fun e => e.2.total).sum), (4, entries.length), (4, min (logs.map fun e => e.2.dropped).sum 0xFFFFFFFF), (48, 0)] ++
    (entries.map fun e => s.logEntryBytes lost e.1 e.2).flatten

/-- GET_LOG_C1 and GET_LOG_C2: with RAE = 0 the event of the log is cleared for the controller. -/
def State.vendorLog (s : State) (r : CmdRef) (nsid : Nat) (rae lost : Bool) (name : String) : State :=
  match s.logNs r nsid with
  | none => s.finish r .invalidNamespace
  | some l =>
    let s := (s.emit [.data name (s.nsLogData l lost)]).finish r .success
    if rae then s else s.aenClear r.owner (if lost then 0xC2 else 0xC1)

def execGetLogC1 (ref : CmdRef) (nsid : Nat) (rae : Bool) (s : State) : Host.Outcome State Fault Refusal :=
  effect s fun s => s.admin ref fun s => s.vendorLog ref nsid rae false "log C1h"

def execGetLogC2 (ref : CmdRef) (nsid : Nat) (rae : Bool) (s : State) : Host.Outcome State Fault Refusal :=
  effect s fun s => s.admin ref fun s => s.vendorLog ref nsid rae true "log C2h"

/-! ### Log C3h (R453) -/

/-- The retained records, oldest first. -/
def State.retained (s : State) : List AlmRec := (s.alm.ring ++ s.alm.flash).reverse

/-- The bytes of log C3h from an offset (R453); none for an offset that is neither 0 nor that of a record. -/
def State.logC3 (s : State) (full : Bool) (off : Nat) : Option (List Nat) :=
  if off ≠ 0 ∧ (off < 64 ∨ (off - 64) % 128 ≠ 0) then none
  else
    let l := s.retained
    let dropped := s.rd Reg.ALM_DROPPED_DROPPED * 65536 + s.rd Reg.ALM_DROPPED_OVERWRITTEN
    let head := layout [(8, (l.head?.map (·.seq)).getD 0), (8, (l.getLast?.map (·.seq)).getD 0), (4, if full then l.length else 0),
      (4, dropped), (40, 0)]
    let records := if full then (if off = 0 then l else l.drop ((off - 64) / 128)) else []
    some ((if off = 0 then head else []) ++ (records.map fun x => ((List.range 32).map fun i => leBytes 4 (x.word i)).flatten).flatten)

/-- GET_LOG_C3 (R453): the manager's controller receives the full log, every other the header alone. -/
def execGetLogC3 (ref : CmdRef) (off : Nat) (s : State) : Host.Outcome State Fault Refusal :=
  effect s fun s => s.admin ref fun s =>
    match s.logC3 (decide (s.managerOwner = some ref.owner)) off with
    | none => s.finish ref .invalidField
    | some l => (s.emit [.data "log C3h" l]).finish ref .success

end Sys2Proof.Machine
end

