-- ==== Sys2Proof/Machine/Namespace.lean ====
section
/-! DEFINITION. Namespace Management, Namespace Attachment, Format NVM and Sanitize (spec/06 R116, R117, R127, R129;
spec/09 R239; spec/12 R319, R323; spec/13 R338; spec/16 R392). -/

namespace Sys2Proof.Machine

/-! ### The pair's part (R392) -/

/-- An operation on the namespaces: outside PAIRED a pair refuses it; in PAIRED the companion executes it too, and it completes when
both sides have (R392). `l` says to the companion what it is. [DEDUCED, unsafe: log 81] -/
def State.nsOp (s : State) (r : CmdRef) (l : List Nat) (f : State → State) : State :=
  if s.isPair && decide (s.nv.pairSt ≠ .paired) then s.finish r .commandSequenceError
  else if !s.isPair || r.owner == companionOwner then f (s.accept r)
  else
    let s := f ((s.accept r).updPair fun p => { p with nsOps := p.nsOps ++ [r] })
    if s.runs r then s.emit [.bulum "namespace operation" (cmdKey r :: l)]
    else s.updPair fun p => { p with nsOps := p.nsOps.filter (· ≠ r) }

/-! ### Create (R116, R117, R127, R129, R319) -/

/-- The block-set slots that a namespace commits (R117). -/
def State.slotsFor (s : State) (zoned : Bool) (nsze lbaf : Nat) : Nat :=
  let per := lbas4k lbaf
  if zoned then nsze / max (s.chart.cur.zone.zone4k * per) 1
  else
    let unit := 8 * max (s.zcap4k * per) 1
    (9 * nsze + unit - 1) / unit

/-- A size in logical blocks of a format, in units of 512 bytes. -/
def sectors (nsze lbaf : Nat) : Nat := nsze * (8 / lbas4k lbaf)

/-- The NSZE of all conventional namespaces in units of 512 bytes. -/
def State.convSectors (s : State) : Nat := ((s.nv.ns.filter fun e => !e.2.zoned).map fun e => sectors e.2.nsze e.2.lbaf).sum

/-- The conventional commitments of a constellation. -/
def State.convSlots (s : State) (k : Nat) : Nat :=
  ((s.nv.ns.filter fun e => !e.2.zoned && e.2.cons == k).map fun e => e.2.slots).sum

/-- Does a create pass a capacity limit of R117? -/
def State.overCapacity (s : State) (k : Nat) (zoned : Bool) (nsze lbaf : Nat) : Bool :=
  let slots := s.slotsFor zoned nsze lbaf
  decide (s.consSlots k < s.consCommit k + slots) ||
  (zoned && decide (s.chart.cur.zone.maxZones < (s.nv.ns.map fun e => e.2.zoneCount).sum + slots)) ||
  (!zoned && decide (s.chart.cur.dram.fdpGiB * 2097152 < s.convSectors + sectors nsze lbaf)) ||
  (!zoned && decide (4294967295 / max s.ruGranules 1 < s.convSlots k + slots))

/-- The lowest NSID that no namespace has. -/
def State.freeNsid (s : State) : Option Nat :=
  ((List.range s.chart.cur.ten.maxNs).map (· + 1)).find? fun i => !mapHas s.nv.ns i

/-- The first place in the zone table with room for `n` zones. [DESIGN CHOICE, unsafe: log 80] -/
def State.zoneRoom (s : State) (n : Nat) : Nat :=
  let l := (s.nv.ns.filter fun e => e.2.zoned).map fun e => (e.2.zoneBase, e.2.zoneCount)
  let free := fun (b : Nat) => l.all fun e => decide (b + n ≤ e.1) || decide (e.1 + e.2 ≤ b)
  ((l.map fun e => e.1 + e.2).filter free).foldl min (if free 0 then 0 else (l.map fun e => e.1 + e.2).foldl max 0)

/-- A new namespace under an NSID, bound to a generated key in a slot (R319). [DESIGN CHOICE, unsafe: log 80] -/
def State.addNs (s : State) (nsid k : Nat) (zoned : Bool) (nsze : Nat) (fmt : NsFormat) (handles : List Nat) (slot : Nat) : State :=
  let z := s.chart.cur.zone
  let slots := s.slotsFor zoned nsze fmt.lbaf
  let n : Ns := { cons := k, zoned := zoned, nsze := nsze, lbaf := fmt.lbaf, pi := fmt.pi, guard := fmt.guard,
                  handles := if zoned then [] else if handles.isEmpty then [0] else handles,
                  slots := slots, zoneBase := if zoned then s.zoneRoom slots else 0, zoneCount := if zoned then slots else 0,
                  openM1 := z.nsOpen - 1, activeM1 := z.nsActive - 1, secure := false, rmw := false, keySlot := none
                  deferred := {}, lost := {} }
  let s := s.modNv fun v => { v with ns := mapSet v.ns nsid n }
  let g := s.drbgKey
  let s := (g.2.putKey slot .xts systemOwner g.1).bindNs nsid slot
  s.updKey fun x => { x with keyReady := x.keyReady.filter (· ≠ nsid) ++ [nsid], notRestored := x.notRestored.filter (· ≠ nsid) }

/-- Is a protection setting one that an LBA format has (Table HST-5): `pi` is the type, 0 none; `guard` 0 is 16b, 1 32b, 2 64b? -/
def formatOk (f : NsFormat) : Bool :=
  decide (f.pi ≤ 3) && match f.lbaf with
    | 0 => f.pi == 0
    | 1 => f.pi != 0 && f.guard == 0
    | 2 => f.pi != 0 && (f.guard == 1 || f.guard == 2)
    | 3 => f.pi == 0 || decide (f.guard ≤ 2)
    | 4 => f.pi == 0
    | 5 => f.pi != 0 && f.guard == 0
    | _ => false

/-- The fields of a create are checked (R116, R127, Table HST-5): the status of the first that fails. [DESIGN CHOICE, unsafe: log
77; PRESUMED, unsafe: log 78] -/
def State.createCheck (s : State) (cons csi nsze : Nat) (fmt : NsFormat) (handles : List Nat) : Option Status :=
  let k := cons - 1
  if cons = 0 ∨ s.chart.cur.cons.length ≤ k ∨ s.charted = false then some .invalidField
  else if csi ≠ 0 ∧ csi ≠ 2 then some .invalidField
  else if (csi = 2 ∧ (s.consOf k).zoned = false) ∨ (csi = 0 ∧ (s.consOf k).conv = false) then some .invalidField
  else if csi = 0 ∧ (16 < handles.length ∨ (handles.any (64 ≤ ·)) = true) then some .invalidField
  else if formatOk fmt = false ∨ (csi = 2 ∧ 3 < fmt.lbaf) then some .invalidFormat
  else if nsze = 0 ∨ (csi = 2 ∧ nsze % max (s.chart.cur.zone.zone4k * lbas4k fmt.lbaf) 1 ≠ 0) then some .invalidField
  else none

/-- NAMESPACE_CREATE (R116, R117, R212, R239, R316, R319): in the manager's controller only; refused without a KEK; complete with the
batch that holds the wrapped key and the binding. `cons` is ANAGRPID. -/
def State.create (s : State) (r : CmdRef) (cons csi nsze : Nat) (fmt : NsFormat) (handles : List Nat) : State :=
  let k := cons - 1
  match s.createCheck cons csi nsze fmt handles with
  | some st => s.finish r st
  | none =>
    if (s.key.kek.isNone && !s.key.wiped) ∨ s.rd Reg.MEDIA_STATUS_RAW = 1 then s.finish r .commandSequenceError
    else if s.nv.readOnly then s.finish r .namespaceInsufficientCapacity
    else if s.overCapacity k (csi == 2) nsze fmt.lbaf then
      (s.event 45 [k, nsze]).finish r .namespaceInsufficientCapacity
    else match s.freeNsid, s.emptySystemSlot with
      | none, _ => s.finish r .namespaceIdUnavailable
      | _, none => s.finish r .namespaceInsufficientCapacity
      | some nsid, some slot =>
        let s := s.addNs nsid k (csi == 2) nsze fmt handles slot
        (s.modCmd r fun c => { c with nsid := nsid }).afterBatch r

/-- Is the sender the manager's controller, or the companion executing what its manager asked for (R116, R392)? -/
def State.mayManage (s : State) (r : CmdRef) : Bool :=
  decide (s.managerOwner = some r.owner) || r.owner == companionOwner

/-- Run a command of the manager's controller only. -/
def State.manage (s : State) (r : CmdRef) (f : State → State) : State :=
  s.admin r fun s => if s.mayManage r then f s else s.finish r .invalidOpcode

def execNamespaceCreate (ref : CmdRef) (cons csi nsze : Nat) (fmt : NsFormat) (handles : List Nat) (s : State) :
    Host.Outcome State Fault Refusal :=
  effect s fun s => s.manage ref fun s =>
    s.nsOp ref (0 :: cons :: csi :: nsze :: fmt.lbaf :: fmt.pi :: fmt.guard :: handles) fun s =>
      s.create ref cons csi nsze fmt handles

/-! ### Notices (R338) -/

/-- Namespace Attribute Changed to an active controller: the Changed Attached Namespace list, and the event. -/
def State.nsNotice (s : State) (nsid owner : Nat) : State :=
  if (s.ctrl owner).en then
    (s.modCtrl owner fun c => { c with
      nsChanged := if c.nsChanged.contains nsid then c.nsChanged else c.nsChanged ++ [nsid] }).aen owner 2 0 4
  else s

/-! ### Delete (R116, R164, R238, R274) -/

/-- A namespace is gone: its data, logs, attachments and binding. A slot that loses its last binding keeps its key (R320), which is
no longer persisted (R322). [DEDUCED, unsafe: log 79] -/
def State.removeNs (s : State) (nsid : Nat) : State :=
  let who := s.attachees nsid
  let slot := (s.ns? nsid).bind (·.keySlot)
  let s := (s.endCommands nsid .invalidNamespace).discardNs nsid
  let s := s.updJr fun j => { j with seen := j.seen.filter fun e => e.1 % 4294967296 != nsid }
  let s := s.modNv fun v => { v with
    ns := mapErase v.ns nsid
    zones := v.zones.filter fun e => e.1 / 4294967296 != nsid
    attach := v.attach.filter fun e => e.1 % 4294967296 != nsid
    acks := v.acks.filter fun a => a.nsid != nsid
    diverge := v.diverge.filter fun e => e.1 != nsid }
  let s := match slot with
    | some k => if (s.boundTo k).isEmpty then s.modNv fun v => { v with keys := mapErase v.keys k } else s
    | none => s
  let s := s.updKey fun x => { x with keyReady := x.keyReady.filter (· ≠ nsid), notRestored := x.notRestored.filter (· ≠ nsid) }
  let s := s.updTen fun t => { t with
    detached := t.detached.filter fun e => e.1 % 4294967296 != nsid
    pendingSeen := t.pendingSeen.filter fun e => e % 4294967296 != nsid }
  s.each who fun s o => s.nsNotice nsid o

/-- NAMESPACE_DELETE; NSID FFFFFFFFh deletes every namespace. [DEDUCED, unsafe: log 79] -/
def State.deleteCmd (s : State) (r : CmdRef) (nsid : Nat) : State :=
  if nsid = 0xFFFFFFFF then ((s.each (s.nv.ns.map (·.1)) State.removeNs).consUpdate).opDone r
  else if (s.ns? nsid).isNone then s.finish r .invalidNamespace
  else ((s.removeNs nsid).consUpdate).opDone r

def execNamespaceDelete (ref : CmdRef) (nsid : Nat) (s : State) : Host.Outcome State Fault Refusal :=
  effect s fun s => s.manage ref fun s => s.nsOp ref [1, nsid] fun s => s.deleteCmd ref nsid

/-! ### Attach and detach (R165, R176, R338) -/

/-- Does a controller ID name a controller: a tenant slot of the chart, or the PF of a link? -/
def State.validCtrl (s : State) (id : Nat) : Bool :=
  (decide (1 ≤ id) && decide (id ≤ s.vfSlots + s.chart.cur.ten.fabricSlots)) ||
    (decide (0x1001 ≤ id) && s.hasLink (id - 0x1001))

/-- Is the attachment of an owner refused (R338)? -/
def State.attachRefused (s : State) (nsid owner : Nat) : Bool :=
  let after := s.withAttach owner [nsid]
  (isTenant owner && decide (1024 < (after.attached owner).length)) ||
  (isTenant owner && (match (s.tenant owner).phase with
    | .quiesce => true
    | .eclipsed => true
    | .restoring => true
    | _ => false))

/-- Would the attachments of some owners create a ledger beyond the 65,536 (R338)? -/
def State.ledgersOver (s : State) (nsid : Nat) (l : List Nat) : Bool :=
  let after := s.each l fun s o => s.withAttach o [nsid]
  decide (65536 < after.ledgerCount) && decide (s.ledgerCount < after.ledgerCount)

/-- NAMESPACE_ATTACH: nothing is attached when one controller of the list cannot be. SEEN starts at TOTAL (R165). [DESIGN CHOICE,
unsafe: log 77] -/
def State.attachCmd (s : State) (r : CmdRef) (nsid : Nat) (ids : List Nat) : State :=
  if (s.ns? nsid).isNone then s.finish r .invalidNamespace
  else if ids.isEmpty ∨ (ids.all s.validCtrl) = false then s.finish r .controllerListInvalid
  else
    let l := ids.map ctrlIdOwner
    if l.any fun o => s.isAttached o nsid then s.finish r .namespaceAlreadyAttached
    else if l.any (s.attachRefused nsid) || s.ledgersOver nsid l then (s.event 39 [nsid]).finish r .controllerListInvalid
    else
      let s := s.each l fun s o =>
        let s := ((s.withAttach o [nsid]).see o nsid).updTen fun t => { t with detached := mapErase t.detached (attachKey o nsid) }
        s.nsNotice nsid o
      s.finish r .success

def execNamespaceAttach (ref : CmdRef) (nsid : Nat) (ctrls : List Nat) (s : State) : Host.Outcome State Fault Refusal :=
  effect s fun s => s.manage ref fun s => s.attachCmd ref nsid ctrls

/-- NAMESPACE_DETACH: commands already fetched complete normally. [DESIGN CHOICE, unsafe: log 77] -/
def State.detachCmd (s : State) (r : CmdRef) (nsid : Nat) (ids : List Nat) : State :=
  if (s.ns? nsid).isNone then s.finish r .invalidNamespace
  else if ids.isEmpty ∨ (ids.all s.validCtrl) = false then s.finish r .controllerListInvalid
  else
    let l := ids.map ctrlIdOwner
    if (l.all fun o => s.isAttached o nsid) = false then s.finish r .namespaceNotAttached
    else
      let s := s.each l fun s o =>
        let s := s.modNv fun v => { v with attach := mapErase v.attach (attachKey o nsid) }
        let s := s.updTen fun t => { t with
          detached := mapSet t.detached (attachKey o nsid) s.q.seq
          pendingSeen := t.pendingSeen.filter (· ≠ attachKey o nsid) }
        s.nsNotice nsid o
      s.finish r .success

def execNamespaceDetach (ref : CmdRef) (nsid : Nat) (ctrls : List Nat) (s : State) : Host.Outcome State Fault Refusal :=
  effect s fun s => s.manage ref fun s => s.detachCmd ref nsid ctrls

/-! ### Format and Sanitize (R164, R239, R274, R323) -/

/-- The logs of a namespace are removed. -/
def State.dropLogs (s : State) (nsid : Nat) : State :=
  (s.modNs nsid fun n => { n with deferred := {}, lost := {} }).modNv fun v =>
    { v with attach := v.attach.map fun e => if e.1 % 4294967296 = nsid then (e.1, 0) else e }

/-- The offline zones of a namespace become EMPTY again (Table ZON-3). -/
def State.reviveZones (s : State) (nsid : Nat) : State :=
  s.modNv fun v => { v with zones := v.zones.filter fun e => !(e.1 / 4294967296 == nsid && decide (e.2.st = .offline)) }

/-- A namespace takes a new format: its size in bytes stays. [PRESUMED, unsafe: log 78] -/
def Ns.reformat (n : Ns) (fmt : NsFormat) : Ns := { n with
  lbaf := fmt.lbaf, pi := fmt.pi, guard := fmt.guard, nsze := n.nsze * lbas4k fmt.lbaf / lbas4k n.lbaf }

/-- A new key in a slot, with the forced change of R321 that `r` waits for. -/
def State.rekey (s : State) (r : CmdRef) (k : Nat) : State :=
  let g := s.drbgKey
  (g.2.putKey k .xts systemOwner g.1).forcedChange k (some r)

/-- FORMAT_NVM (R321, R323): user data is destroyed; Secure Erase Settings 2h also gives the namespace a new key. [DESIGN CHOICE,
unsafe: log 77] -/
def State.format (s : State) (r : CmdRef) (nsid : Nat) (fmt : NsFormat) (ses : Nat) : State :=
  match s.ns? nsid with
  | none => s.finish r .invalidNamespace
  | some n =>
    if formatOk fmt = false ∨ (n.zoned = true ∧ 3 < fmt.lbaf) then s.finish r .invalidFormat
    else if 2 < ses then s.finish r .invalidField
    else if s.writeProtected n then s.finish r .namespaceWriteProtected
    else
      let alone := match n.keySlot with
        | some k => (s.boundTo k).length == 1
        | none => false
      if ses = 2 ∧ alone = true ∧ s.key.wiped = true then s.finish r .internalError else
      let target := if alone then n.keySlot else s.emptySystemSlot
      if ses = 2 ∧ target.isNone = true then s.finish r .namespaceInsufficientCapacity
      else
        let s := ((s.discardNs nsid).reviveZones nsid).dropLogs nsid
        let s := s.modNs nsid fun n => n.reformat fmt
        let s := s.each (s.attachees nsid) fun s o => s.nsNotice nsid o
        if ses = 2 then
          let k := target.getD 0
          if alone then s.rekey r k else (s.bindNs nsid k).rekey r k
        else s.afterBatch r

def execFormatNvm (ref : CmdRef) (nsid : Nat) (fmt : NsFormat) (ses : Nat) (s : State) : Host.Outcome State Fault Refusal :=
  effect s fun s => s.admin ref fun s =>
    if (s.mayManage ref || s.isAttached ref.owner nsid) = false then s.finish ref .invalidNamespace
    else s.nsOp ref [2, nsid, fmt.lbaf, ses, fmt.pi, fmt.guard] fun s => s.format ref nsid fmt ses

/-- The system slots that are bound to a namespace. -/
def State.boundSlots (s : State) : List Nat := (s.nv.ns.filterMap fun e => e.2.keySlot).eraseDups

/-- SANITIZE_CRYPTO_ERASE (R323): a new key in every bound system slot; it completes with the batch that holds them. [DESIGN CHOICE,
unsafe: log 77] -/
def State.cryptoErase (s : State) (r : CmdRef) : State :=
  if s.key.wiped then s.finish r .sanitizeFailed
  else
    let l := s.boundSlots
    let s := s.each l fun s k => s.rekey r k
    let s := s.each (s.nv.ns.map (·.1)) fun s nsid => (s.reviveZones nsid).dropLogs nsid
    if l.isEmpty then s.afterBatch r else s

def execSanitizeCryptoErase (ref : CmdRef) (s : State) : Host.Outcome State Fault Refusal :=
  effect s fun s => s.admin ref fun s => s.nsOp ref [3] fun s => s.cryptoErase ref

/-- SANITIZE_BLOCK_ERASE (R239): Invalid Field while read-only; otherwise all data is destroyed and its block sets go to erase.
[DESIGN CHOICE, unsafe: log 77] -/
def State.blockErase (s : State) (r : CmdRef) : State :=
  if s.nv.readOnly then s.finish r .invalidField
  else
    let s := s.each (s.nv.ns.map (·.1)) fun s nsid => ((s.discardNs nsid).reviveZones nsid).dropLogs nsid
    s.afterBatch r

def execSanitizeBlockErase (ref : CmdRef) (s : State) : Host.Outcome State Fault Refusal :=
  effect s fun s => s.admin ref fun s => s.nsOp ref [4] fun s => s.blockErase ref

end Sys2Proof.Machine
end

