-- ==== Sys2Proof/Machine/Mailbox.lean ====
section
/-! DEFINITION. Mailboxes, event pending bits, snapshot lists and the almanac read port
(spec/18_mailboxes_events_almanac.md). -/

namespace Sys2Proof.Machine

/-! ### Agents and permissions -/

/-- The agent's ID (R436). -/
def agentId : Agent → Nat
  | .core id => id
  | .manager => 64
  | .companion => 96

/-- The permitted senders of mailbox `m` (Table MBX-1). -/
def maySend (m : Nat) : Agent → Bool
  | .core _ => m < 32 || m == 48 || m == 49
  | .manager => m < 50
  | .companion => m == 50 || m == 51

/-- The receiver of mailbox `m` (Table MBX-1). -/
def isReceiver (m : Nat) : Agent → Bool
  | .core id => (m < 32 && id == m + 1) || (32 ≤ m && m < 48 && 1 ≤ id && id ≤ 8) || m == 50 || m == 51
  | .manager => false
  | .companion => m == 48 || m == 49

/-- A mailbox's queue holds 8 words (R436). -/
def mbxDepth : Nat := 8

/-- Change mailbox `m`. -/
def State.modMbx (s : State) (m : Nat) (f : Mailbox → Mailbox) : State :=
  { s with mbx := mapPut s.mbx m (f (s.mailbox m)) {} }

/-- A refused access (R437, R439): counted, and recorded as EV1114 at most once per mailbox per millisecond. -/
def State.mbxRefuse (s : State) (m : Nat) : State :=
  (s.bump (Reg.MBX_STAT_REFUSED.at m)).eventPer 1114 m 1000000 [m]

/-- The value that a read of a register returned. -/
def State.returns (s : State) (v : Nat) : State := s.emit [Out.regValue (BitVec.ofNat 32 v)]

/-- Interrupt the receiver of mailbox `m` (R440); a companion's doorbell goes over the link. -/
def State.mbxInterrupt (s : State) (m : Nat) : State :=
  if m < 32 then s.emit [Out.coreInterrupt (m + 1)]
  else if m = 48 ∨ m = 49 then s.emit [Out.bulum "mailbox ring" [m + 2]]
  else s.emit [Out.clusterInterrupt 0]

/-- A word leaves the forward queue of mailbox `m`: RX_PENDING clears with the last (R440), and the words that a
timer covers become fewer (R441). -/
def popFwd (b : Mailbox) : Mailbox :=
  { b with
    fwd := b.fwd.tail
    rx := if b.fwd.tail.isEmpty then false else b.rx
    timed := match b.timed with
      | some n => if n ≤ 1 then none else some (n - 1)
      | none => none }

/-! ### Locks (R437, R442) -/

/-- MBX_LOCK_READ (R437, R438): a permitted sender acquires a free lock and reads 0; any other read returns the
owner. An acquired companion mailbox shows its pair owner 96 (R441). -/
def State.mbxLockRead (s : State) (m : Nat) (a : Agent) : State :=
  let b := s.mailbox m
  if 52 ≤ m then s.returns 0
  else if b.owner = 0 ∧ maySend m a = true then
    let s := (s.modMbx m fun b => { b with owner := agentId a }).returns 0
    if m = 48 ∨ m = 49 then s.emit [Out.bulum "mailbox owned" [m + 2]] else s
  else s.returns (s.mbxOwner m)

def execMbxLockRead (m : Nat) (a : Agent) (s : State) : Host.Outcome State Fault Refusal :=
  effect s fun s => s.mbxLockRead m a

/-- MBX_RELEASE (R437): only the owner, naming itself, frees the lock. -/
def State.mbxRelease (s : State) (m : Nat) (a : Agent) (id : Nat) : State :=
  let b := s.mailbox m
  if 52 ≤ m then s
  else if b.owner = agentId a ∧ id = b.owner then
    let s := s.modMbx m fun b => { b with owner := 0 }
    if m = 48 ∨ m = 49 then s.emit [Out.bulum "mailbox freed" [m + 2]] else s
  else s.mbxRefuse m

def execMbxRelease (m : Nat) (a : Agent) (id : Nat) (s : State) : Host.Outcome State Fault Refusal :=
  effect s fun s => s.mbxRelease m a id

/-- MBX_BREAK (R442): the manager frees the lock, empties both queues, clears both pending bits and sets BROKEN;
EV1113. From any other agent the write is ignored. -/
def State.mbxBreak (s : State) (m : Nat) (a : Agent) (unlock : Nat) : State :=
  if 52 ≤ m ∨ a ≠ .manager then s
  else s.unlocked unlock 0x4D42 fun s =>
    let s := (s.modMbx m fun b => { b with
      owner := 0, fwd := [], rep := [], rx := false, tx := false, broken := true, timed := none, wire := 0 }).event 1113 [m]
    if m = 48 ∨ m = 49 then s.emit [Out.bulum "mailbox freed" [m + 2]] else s

def execMbxBreak (m : Nat) (a : Agent) (unlock : Nat) (s : State) : Host.Outcome State Fault Refusal :=
  effect s fun s => s.mbxBreak m a unlock

/-! ### Queues (R439) -/

/-- MBX_SEND: the owner pushes a word; a full queue discards it, sets OVERFLOW and records EV1115. -/
def State.mbxSend (s : State) (m : Nat) (a : Agent) (w : Word) : State :=
  let b := s.mailbox m
  if 52 ≤ m then s
  else if b.owner ≠ agentId a then s.mbxRefuse m
  else if mbxDepth ≤ b.fwd.length then (s.modMbx m fun b => { b with overflow := true }).event 1115 [m]
  else
    let s := s.modMbx m fun b => { b with
      fwd := b.fwd ++ [w], wire := if m = 48 ∨ m = 49 then b.wire + 1 else b.wire }
    if m = 48 ∨ m = 49 then s.emit [Out.bulum "mailbox word" [m + 2, w.toNat]] else s

def execMbxSend (m : Nat) (a : Agent) (w : Word) (s : State) : Host.Outcome State Fault Refusal :=
  effect s fun s => s.mbxSend m a w

/-- MBX_RECV: the receiver pops a word; a pop of an empty queue returns 0 and is counted in UNDERFLOW. -/
def State.mbxRecv (s : State) (m : Nat) (a : Agent) : State :=
  let b := s.mailbox m
  if 52 ≤ m then s.returns 0
  else if isReceiver m a = false then (s.mbxRefuse m).returns 0
  else match b.fwd with
    | [] => (s.bump (Reg.MBX_STAT_UNDERFLOW.at m)).returns 0
    | w :: _ =>
      let s := (s.modMbx m popFwd).returns w.toNat
      if m = 50 ∨ m = 51 then s.emit [Out.bulum "mailbox popped" [m - 2]] else s

def execMbxRecv (m : Nat) (a : Agent) (s : State) : Host.Outcome State Fault Refusal :=
  effect s fun s => s.mbxRecv m a

/-- MBX_REPLY_SEND: the receiver pushes a reply word. -/
def State.mbxReplySend (s : State) (m : Nat) (a : Agent) (w : Word) : State :=
  let b := s.mailbox m
  if 52 ≤ m then s
  else if isReceiver m a = false then s.mbxRefuse m
  else if mbxDepth ≤ b.rep.length then (s.modMbx m fun b => { b with overflow := true }).event 1115 [m]
  else
    let s := s.modMbx m fun b => { b with rep := b.rep ++ [w] }
    if m = 50 ∨ m = 51 then s.emit [Out.bulum "mailbox reply word" [m - 2, w.toNat]] else s

def execMbxReplySend (m : Nat) (a : Agent) (w : Word) (s : State) : Host.Outcome State Fault Refusal :=
  effect s fun s => s.mbxReplySend m a w

/-- MBX_REPLY_RECV: the owner pops a reply word; TX_PENDING clears with the last (R440). -/
def State.mbxReplyRecv (s : State) (m : Nat) (a : Agent) : State :=
  let b := s.mailbox m
  if 52 ≤ m then s.returns 0
  else if b.owner ≠ agentId a then (s.mbxRefuse m).returns 0
  else match b.rep with
    | [] => (s.bump (Reg.MBX_STAT_UNDERFLOW.at m)).returns 0
    | w :: l =>
      let s := (s.modMbx m fun b => { b with rep := l, tx := if l.isEmpty then false else b.tx }).returns w.toNat
      if m = 48 ∨ m = 49 then s.emit [Out.bulum "mailbox popped" [m + 2]] else s

def execMbxReplyRecv (m : Nat) (a : Agent) (s : State) : Host.Outcome State Fault Refusal :=
  effect s fun s => s.mbxReplyRecv m a

/-! ### Doorbells (R440, R441) -/

/-- RING: sets RX_PENDING, interrupts the receiver and starts the timer over the words queued so far. -/
def State.mbxRing (s : State) (m : Nat) (a : Agent) : State :=
  if 52 ≤ m then s
  else if (s.mailbox m).owner ≠ agentId a then s.mbxRefuse m
  else (s.modMbx m fun b => { b with
      rx := true, timed := if b.fwd.isEmpty then none else some b.fwd.length }).mbxInterrupt m

def execRing (m : Nat) (a : Agent) (s : State) : Host.Outcome State Fault Refusal :=
  effect s fun s => s.mbxRing m a

/-- REPLY: sets TX_PENDING and interrupts the owner; for the manager the doorbell is EV1116. -/
def State.mbxReply (s : State) (m : Nat) (a : Agent) : State :=
  if 52 ≤ m then s
  else if isReceiver m a = false then s.mbxRefuse m
  else
    let o := (s.mailbox m).owner
    let s := s.modMbx m fun b => { b with tx := true }
    if o = 64 then s.event 1116 [m]
    else if o = 96 then s.emit [Out.bulum "mailbox reply" [m - 2]]
    else if o = 0 then s
    else s.emit [Out.coreInterrupt o]

def execReply (m : Nat) (a : Agent) (s : State) : Host.Outcome State Fault Refusal :=
  effect s fun s => s.mbxReply m a

/-- FLUSH: the owner empties the forward queue and clears RX_PENDING. -/
def State.mbxFlush (s : State) (m : Nat) (a : Agent) : State :=
  if 52 ≤ m then s
  else if (s.mailbox m).owner ≠ agentId a then s.mbxRefuse m
  else s.modMbx m fun b => { b with fwd := [], rx := false, timed := none, wire := 0 }

def execFlushMailbox (m : Nat) (a : Agent) (s : State) : Host.Outcome State Fault Refusal :=
  effect s fun s => s.mbxFlush m a

/-- MBX_TIMEOUT (R441): words queued before a ring are still queued: TIMEOUT and EV1112; the words stay. -/
def execMbxTimeout (m : Nat) (s : State) : Host.Outcome State Fault Refusal :=
  effect s fun s =>
    if (s.mailbox m).timed = none then s
    else (s.modMbx m fun b => { b with timeout := true, timed := none }).event 1112 [m]

/-- COMPANION_MAILBOX_FRAME (R441): a word or a doorbell of the companion's mailbox m − 2 on mailboxes 50 and 51, the
companion's replies and pops on mailboxes 48 and 49, and the ownership of the paired mailbox. -/
def State.mbxFrame (s : State) (m : Nat) (f : MbxFrame) : State :=
  let b := s.mailbox m
  if m = 50 ∨ m = 51 then
    match f with
    | .word w =>
      if mbxDepth ≤ b.fwd.length then (s.modMbx m fun b => { b with overflow := true }).event 1115 [m]
      else s.modMbx m fun b => { b with fwd := b.fwd ++ [w] }
    | .ring => (s.modMbx m fun b => { b with rx := true }).mbxInterrupt m
    | .owned => s.modMbx m fun b => { b with owner := 96 }
    | .freed => s.modMbx m fun b => { b with owner := 0 }
    | .popped => s.modMbx m fun b => { b with rep := b.rep.tail, tx := if b.rep.tail.isEmpty then false else b.tx }
    | _ => s
  else if m = 48 ∨ m = 49 then
    match f with
    | .replyWord w =>
      if mbxDepth ≤ b.rep.length then (s.modMbx m fun b => { b with overflow := true }).event 1115 [m]
      else s.modMbx m fun b => { b with rep := b.rep ++ [w] }
    | .reply => s.mbxReply m .companion
    | .carried => s.modMbx m fun b => { b with wire := b.wire - 1 }
    | .popped => s.modMbx m popFwd
    | _ => s
  else s

def execCompanionMailboxFrame (m : Nat) (f : MbxFrame) (s : State) : Host.Outcome State Fault Refusal :=
  effect s fun s => s.mbxFrame m f

/-- R441: the words of a companion mailbox that the link has not yet carried are discarded when it loses block lock,
and TIMEOUT is set at once. -/
def State.mbxLinkLost (s : State) : State :=
  s.each [48, 49] fun s m =>
    if (s.mailbox m).wire = 0 then s
    else (s.modMbx m fun b => { b with
        fwd := b.fwd.take (b.fwd.length - b.wire), wire := 0, timeout := true, timed := none }).event 1112 [m]

/-! ### Event pending bits (R445) -/

/-- EVT_PENDING_CLEAR: a W1C write of word `w` clears the bits of `mask`; an occurrence of a source in the same cycle
(`same`) keeps its bit set and sends the vector again (R7, R445). -/
def State.evtPendingClear (s : State) (w mask : Nat) (same : List Nat) : State :=
  if 36 ≤ w then s
  else
    let f := Reg.EVT_PENDING_BITS.at w
    let s := s.wr f ((s.rd f) &&& (0xFFFFFFFF ^^^ (mask % 2 ^ 32)))
    s.each (same.filter fun n => n < 1152) fun s n => s.event n

def execEvtPendingClear (w mask : Nat) (same : List Nat) (s : State) : Host.Outcome State Fault Refusal :=
  effect s fun s => s.evtPendingClear w mask same

/-! ### The almanac's lists and read port (R450, R453, R455) -/

/-- ALM_LIST_WRITE (R450): the manager writes one entry of lists 128 to 255, and EV1124 is recorded; an OFFSET out of range leaves
the entry's (R9, R455); firmware's lists 0 to 127 keep their entries. [DESIGN CHOICE, unsafe: log 91] -/
def State.almListWrite (s : State) (list entry : Nat) (valid : Bool) (off : Nat) : State :=
  if list < 128 ∨ 256 ≤ list ∨ 12 ≤ entry then s
  else
    let k := 16 * list + entry
    let off := if off % 4 = 0 ∧ off < 0x4000000 then off else (mapGet s.alm.lists k {}).off
    let lists := mapPut s.alm.lists k ⟨valid, off⟩ {}
    ({ s with alm := { s.alm with lists := lists } }).event 1124 [list, entry]

def execAlmListWrite (list entry : Nat) (valid : Bool) (off : Nat) (s : State) :
    Host.Outcome State Fault Refusal :=
  effect s fun s => s.almListWrite list entry valid off

/-- The retained record with a sequence number, in the ring or in the flash area. -/
def AlmState.find (a : AlmState) (seq : Nat) : Option AlmRec :=
  (a.ring.find? (·.seq = seq)).orElse fun _ => a.flash.find? (·.seq = seq)

/-- ALM_READ (R455): a write to ALM_READ_SEQ_HI starts a read of the record whose number the pair now holds. -/
def State.almRead (s : State) (hi : Nat) : State :=
  if s.on Reg.ALM_READ_STATUS_BUSY then s
  else
    let lo := mapGet s.loWrite Reg.ALM_READ_SEQ_LO_SEQ.addr (s.rd Reg.ALM_READ_SEQ_LO_SEQ)
    let s := { s with loWrite := mapErase s.loWrite Reg.ALM_READ_SEQ_LO_SEQ.addr }
    let s := (s.wr Reg.ALM_READ_SEQ_LO_SEQ lo).wr Reg.ALM_READ_SEQ_HI_SEQ hi
    let s := s.set Reg.ALM_READ_STATUS_BUSY true
    { s with alm := { s.alm with readSeq := some (hi % 2 ^ 32 * 2 ^ 32 + lo % 2 ^ 32) } }

def execAlmRead (hi : Nat) (s : State) : Host.Outcome State Fault Refusal :=
  effect s fun s => s.almRead hi

/-- ALM_READ_DONE (R455): the read ends with the record's data, RESULT 1 when the record is not retained, or RESULT 2
when the flash read failed. -/
def execAlmReadDone (ok : Bool) (s : State) : Host.Outcome State Fault Refusal :=
  effect s fun s =>
    match s.alm.readSeq with
    | none => s
    | some q =>
      let s := s.set Reg.ALM_READ_STATUS_BUSY false
      let s := { s with alm := { s.alm with readSeq := none } }
      match s.alm.find q with
      | none => s.wr Reg.ALM_READ_STATUS_RESULT 1
      | some r =>
        if !ok && !(s.alm.ring.any (·.seq = q)) then s.wr Reg.ALM_READ_STATUS_RESULT 2
        else
          let s := s.wr Reg.ALM_READ_STATUS_RESULT 0
          { s with alm := { s.alm with readRec := some r } }

end Sys2Proof.Machine
end

