-- ==== Sys2Proof/Machine/Pair.lean ====
section
/-! DEFINITION. The binary pair: the Bulum link, identities, heartbeats and the fence, mirroring and forwarding, homes and
the resync (spec/16). -/

namespace Sys2Proof.Machine

/-! ### The link (R395, R396) -/

/-- The link is down: mirror frames, acknowledgements and heartbeats stop (R396), and mailbox words on their way are lost (R441). -/
def State.bulumDown (s : State) : State :=
  ((s.updPair fun p => { p with linkUp := false, heartbeats := false, lanes := [] }).wr Reg.PAIR_STATUS_LANES 0).mbxLinkLost

/-- This side's identity (R394): serial, side, fingerprint, state and epoch. [DEDUCED, unsafe: log 90] -/
def State.identity (s : State) : List Nat :=
  [s.boot.otp.serial, s.boot.straps.pair, s.chart.fingerprint, s.nv.pairSt.code, s.nv.pairEpoch]

/-- Is the journal restored, and with it the pair state (R405, R463 step 5)? [DEDUCED, unsafe: log 164] -/
def State.journalBack (s : State) : Bool := s.boot.stepsDone.contains 5

/-- The identity goes to the companion (R394), once the journal has given this side's state. [DEDUCED, unsafe: log 164] -/
def State.sendIdentity (s : State) : State :=
  if s.pair.linkUp && s.journalBack then s.emit [Out.bulum "identity" s.identity] else s

/-- BULUM_LINK_TRAINED (R394, R395): on 8 lanes, or on lanes 0 to 3; fewer leave the link down. A device without a pair's
chart has no pair link to train. -/
def State.bulumTrained (s : State) (lanes : Nat) : State :=
  if !s.isPair ∨ lanes < 4 then s
  else
    let n := if 8 ≤ lanes ∧ s.chart.cur.pair.lanes = 8 then 8 else 4
    let s := (s.updPair fun p => { p with linkUp := true, lanes := [] }).wr Reg.PAIR_STATUS_LANES n
    (s.event 1088 [n]).sendIdentity

/-- BULUM_TRAINING_RETRY (R395): a link that is down trains again. -/
def execBulumTrainingRetry (s : State) : Host.Outcome State Fault Refusal :=
  effect s fun s => if s.isPair && !s.pair.linkUp then s.emit [.bulum "train" []] else s

/-- A lane loses block lock: the link drops to training, EV1089 (R396). -/
def State.lockLost (s : State) (lane : Nat) : State := if s.pair.linkUp then (s.event 1089 [lane]).bulumDown else s

def execBlockLockLost (lane : Nat) (s : State) : Host.Outcome State Fault Refusal := effect s fun s => s.lockLost lane

/-- ALIGNMENT_MARK (R51, R396): `offset` in bit times from the predicted position, none for a missed mark. The third mark of
a consistent rejected run re-aligns the lane; more than 64 bad marks in a row lose block lock. -/
def State.mark (s : State) (lane : Nat) (offset : Option Int) : State :=
  if !s.pair.linkUp ∨ 8 ≤ lane then s
  else
    let x := mapGet s.pair.lanes lane {}
    let put := fun (s : State) (y : Lane) => s.updPair fun p => { p with lanes := mapPut p.lanes lane y {} }
    let bad := fun (s : State) (y : Lane) =>
      let s := (put s y).eventPer 1100 lane 1000000000 [lane]
      if 64 < y.bad then s.lockLost lane else s
    match offset with
    | none => bad (s.bump Reg.PAIR_LOCK_STAT_MISSED) { x with bad := x.bad + 1 }
    | some o =>
      if o.natAbs ≤ 2 then put s {}
      else
        let r := Run.next x.run o 2
        if 3 ≤ r.len then (put (s.bump Reg.PAIR_LOCK_STAT_REJECTED) {}).eventPer 1100 lane 1000000000 [lane]
        else bad (s.bump Reg.PAIR_LOCK_STAT_REJECTED) { x with bad := x.bad + 1, run := some r }

def execAlignmentMark (lane : Nat) (offset : Option Int) (s : State) : Host.Outcome State Fault Refusal :=
  effect s fun s => s.mark lane offset

/-! ### States (R402, R405, R406) -/

/-- Enter a pair state. -/
def State.toPair (s : State) (st : PairSt) : State := s.modNv fun v => { v with pairSt := st }

/-- The pair epoch advances. -/
def State.nextPairEpoch (s : State) : State := s.modNv fun v => { v with pairEpoch := (v.pairEpoch + 1) % 2 ^ 32 }

/-- The writes that await an acknowledgement. -/
def State.awaiting (s : State) : List (Nat × Wr) :=
  s.wp.wr.filter fun e => e.2.needAck && !e.2.acked

/-- Run a command that the home side has ordered, or that came over the link, as its kind says. -/
def State.runKind (s : State) (r : CmdRef) (f : Forwarded) : State :=
  match f.kind with
  | .write fua dtype dspec => s.writeCmd r f.nsid f.slba f.nlb fua .write dtype dspec
  | .append => s.writeCmd r f.nsid f.slba f.nlb false .append 0 0
  | .zeroes deac => s.zeroesCmd r f.nsid f.slba f.nlb deac
  | .zoneSend a all =>
    if a = 1 then s.closeCmd r f.nsid f.slba all
    else if a = 2 then s.finishCmd r f.nsid f.slba all
    else if a = 3 then s.openCmd r f.nsid f.slba all
    else if a = 4 then s.zoneResetCmd r f.nsid f.slba all
    else s.secureResetCmd r f.nsid f.slba all
  | .deallocate l => s.deallocCmd r f.nsid l
  | .namespaces l => s.manage r fun s => match l with
    | 0 :: cons :: csi :: nsze :: lbaf :: pi :: guard :: handles => s.nsOp r l fun s =>
      s.create r cons csi nsze ⟨lbaf, pi, guard⟩ handles
    | [1, nsid] => s.nsOp r l fun s => s.deleteCmd r nsid
    | [2, nsid, lbaf, ses, pi, guard] => s.nsOp r l fun s => s.format r nsid ⟨lbaf, pi, guard⟩ ses
    | [3] => s.nsOp r l fun s => s.cryptoErase r
    | [4] => s.nsOp r l fun s => s.blockErase r
    | _ => s.finish r .invalidField

/-- A forwarded command runs on this side with the data that came for it (R398). -/
def State.runApproved (s : State) (r : CmdRef) (f : Forwarded) : State :=
  let s := s.updPair fun p => { p with approved := p.approved.filter (· ≠ r) ++ [r] }
  let s := s.runKind r f
  let s := if f.data.isEmpty then s else s.dataReceived r (.data f.data)
  match s.cmd? r with
  | some c => (match c.phase with
    | .waiting _ => s
    | _ => s.updPair fun p => { p with approved := p.approved.filter (· ≠ r) })
  | none => s.updPair fun p => { p with approved := p.approved.filter (· ≠ r) }

/-- Operations on the namespaces that await the companion end when this side leaves PAIRED (R392). [DEDUCED, unsafe: log 81] -/
def State.endNsOps (s : State) : State :=
  let l := s.pair.nsOps
  (s.updPair fun p => { p with nsOps := [] }).each l fun s r => s.finish r .commandSequenceError

/-- A codeword that the companion does not have is lost (R271, R272). -/
def State.askFails (s : State) (a : Ask) : State :=
  match a.dec, a.ref with
  | some x, _ => s.wordLost x true a.others
  | none, some r => s.outLost r a.nsid a.lba a.n a.set a.row a.pos a.others
  | none, none => s

/-- The questions to the companion for codewords (R272) that it can no longer answer: the codewords are lost. -/
def State.endAsks (s : State) : State :=
  let asks := s.pair.asks
  (s.updPair fun p => { p with asks := [] }).each asks fun s e => s.askFails e.2

/-- The ranges that commands without data changed, which the companion has not acknowledged, are divergent (R402). -/
def State.divergeOps (s : State) : State :=
  let l := s.pair.opRanges.filter fun e => mapHas s.pair.opAcks e.1
  s.each l fun s e => s.each e.2.2 fun s x => s.diverge e.2.1 x.1 x.2

/-- Nothing of the companion's is awaited or held for it any more. [DEDUCED, unsafe: log 163] -/
def PairState.parted (p : PairState) : PairState :=
  { p with sent := [], opAcks := [], opRanges := [], forwards := [], deferring := false, credit := 0, granted := 0, given := 0 }

/-- This side grants the companion half of its admission limit for mirror copies (R397). [DESIGN CHOICE, unsafe: log 85] -/
def State.grantMirror (s : State) : State :=
  let n := s.wbufLimit.1 * 256 / 2
  (s.updPair fun p => { p with given := n }).emit [Out.bulum "credit" [n]]

/-- Entry to SURVIVOR (R402): the epoch advances, what awaits the companion completes and is marked divergent, and durability is
local. [DEDUCED, unsafe: log 82] -/
def State.toSurvivor (s : State) : State :=
  s.withAna fun s =>
    let l := s.awaiting
    let ops := s.pair.opAcks
    let fwd := s.pair.forwards
    let s := ((s.divergeOps.toPair .survivor).nextPairEpoch.event 1093).set Reg.PAIR_STATUS_RESYNC_TARGET false
    let s := s.updWp fun w => { w with wr := mapAll w.wr fun _ x => if x.needAck then { x with acked := true } else x }
    let s := s.updPair PairState.parted
    let s := s.each l fun s e => (s.diverge e.2.nsid e.2.slba e.2.nlb).tryComplete e.2.ref
    let s := s.each ops fun s e => s.finish e.2.1 .success e.2.2.1 e.2.2.2
    let s := s.each fwd fun s e => s.runApproved e.2.1 e.2.2
    let s := s.endAsks.endNsOps
    let s := s.each (s.zone.resets.map (·.1)) State.secureDone
    s.flushAlone

/-- Entry to FENCED (R402): the epoch advances; what awaits the companion fails, its ranges are voided or keep their old data, and
its regions are marked divergent. [DEDUCED, unsafe: log 82] -/
def State.toFenced (s : State) : State :=
  s.withAna fun s =>
    let l := s.awaiting
    let refs := (l.map (·.2.ref) ++ s.pair.opAcks.map (·.2.1) ++ s.pair.forwards.map (·.2.1)).eraseDups
    let fwd := s.pair.forwards
    let s := ((s.divergeOps.toPair .fenced).nextPairEpoch.event 1094).set Reg.PAIR_STATUS_RESYNC_TARGET false
    let s := s.each l fun s e => s.diverge e.2.nsid e.2.slba e.2.nlb
    let s := s.each fwd fun s e => s.diverge e.2.2.nsid e.2.2.slba (max e.2.2.nlb 1)
    let s := s.updPair fun p => { p.parted with resolved := false }
    let s := s.each refs fun s r => (s.dropWrite (ofCommand r)).finish r .anaInaccessible
    let s := s.dropWrite fun w => w.needAck && !w.acked
    s.endAsks.endNsOps.flushAlone

/-- The source of a resync (R407): the side that was SURVIVOR; otherwise the higher epoch; on a tie, side A. -/
def State.isSource (s : State) (was : PairSt) (c : CompanionId) : Bool :=
  if was = .survivor then true
  else if c.state = 3 then false
  else if c.epoch ≠ s.nv.pairEpoch then decide (c.epoch < s.nv.pairEpoch)
  else !s.sideB

/-- The key of a region in what the companion sends. -/
def regionKey (nsid region : Nat) : Nat := nsid * 2 ^ 32 + region

/-- Every divergent region is level (R405): PAIRED, the fence deasserted, bitmaps cleared, EV1098; what neither side holds is
logged (R408). -/
def State.resyncDone (s : State) : State :=
  s.withAna fun s =>
    let lost := s.pair.lostRanges
    let s := ((s.toPair .paired).modNv fun v => { v with diverge := [] }).set Reg.PAIR_STATUS_RESYNC_TARGET false
    let s := (s.updPair fun p => { p with
      asserted := false, resolved := false, left := [], lostRanges := [], secureZones := [] }).event 1098
    s.each lost fun s e => s.deferredError e.1 e.2.1 e.2.2.1 e.2.2.2

/-- Enter RESYNC over the union of both bitmaps (R405, R407). -/
def State.toResync (s : State) (was : PairSt) (c : CompanionId) : State :=
  let src := s.isSource was c
  let theirs := (c.diverged.map fun k => (k / 2 ^ 32, k % 2 ^ 32)).filter fun e => !s.nv.diverge.contains e
  let l := if s.pair.left.isEmpty then s.nv.diverge ++ theirs else s.pair.left ++ (s.nv.diverge ++ theirs).filter fun e => !s.pair.left.contains e
  let s := s.withAna fun s =>
    (((s.toPair .resync).set Reg.PAIR_STATUS_RESYNC_TARGET (!src)).updPair fun p => { p with left := l, heartbeats := true }).event 1097
  let s := s.grantMirror
  if l.isEmpty then s.resyncDone else s

/-- IDENTITY_EXCHANGE (R394, R405): the companion's identity is checked in order; MISMATCH at the first failure. [DEDUCED, unsafe:
log 90] -/
def State.exchange (s : State) (c : CompanionId) : State :=
  if !s.isPair || !s.pair.linkUp then s
  else if !s.journalBack then s.updPair fun p => { p with early := some c }
  else
    let was := if s.nv.pairSt = .joining then s.pair.cameFrom else s.nv.pairSt
    let want := s.chart.cur.pair.companion
    let good := (want == 0 || c.serial == want) && (c.side == 1 || c.side == 2) && c.side != s.boot.straps.pair &&
      c.fingerprint == s.chart.fingerprint && !(decide (was = .survivor) && c.state == 3)
    let s := (s.wr Reg.PAIR_COMPANION_LO_SERIAL c.serial).wr Reg.PAIR_COMPANION_HI_SERIAL (c.serial / 4294967296)
    if !good then (s.withAna fun s => s.toPair .mismatch).event 1091
    else match s.nv.pairSt with
      | .joining =>
        if s.nv.diverge.isEmpty && c.diverged.isEmpty then
          ((s.withAna fun s => s.toPair .paired).event 1090).grantMirror |>.updPair fun p => { p with heartbeats := true }
        else s.toResync was c
      | .survivor => s.toResync was c
      | .fenced => s.toResync was c
      | .mismatch => s
      | _ => s.updPair fun p => { p with heartbeats := true }

/-- IDENTITY_EXCHANGE (R405). [DEDUCED, unsafe: log 164] -/
def execIdentityExchange (c : CompanionId) (s : State) : Host.Outcome State Fault Refusal := effect s fun s => s.exchange c

/-! ### Heartbeats and the fence (R401 to R404) -/

/-- A side enters JOINING with the journal (R405); FENCED where FENCE_IN is asserted (Table PAI-2). Identities that waited are
exchanged. -/
def State.pairJoins (s : State) : State :=
  if !s.isPair then s
  else
    let s := (if s.boot.pins.fenceIn then s.toFenced else s).sendIdentity
    match s.pair.early with
    | some c => (s.updPair fun p => { p with early := none }).exchange c
    | none => s

/-- HEARTBEAT (R401): the longest gap is kept. -/
def execHeartbeat (h : HeartbeatFrame) (s : State) : Host.Outcome State Fault Refusal :=
  effect s fun s =>
    if s.isPair && s.pair.linkUp then s.wr Reg.PAIR_HB_STAT_MAX_GAP_US (min (max (s.rd Reg.PAIR_HB_STAT_MAX_GAP_US) h.gapUs) 0xFFFF)
    else s

/-- HEARTBEAT_SEND (R401): state, epoch, newest batch number and sidereal time. -/
def execHeartbeatSend (s : State) : Host.Outcome State Fault Refusal :=
  effect s fun s =>
    if s.isPair && s.pair.linkUp && s.pair.heartbeats then
      s.emit [.bulum "heartbeat" [s.nv.pairSt.code, s.nv.pairEpoch, s.jr.onFlash, s.time.sid]]
    else s

/-- Assert FENCE_OUT, unless FENCE_IN is already asserted: then this side is FENCED, and the fence is mutual where it had
asserted its own (Tables PAI-1, PAI-2). -/
def State.assertFence (s : State) : State :=
  if s.boot.pins.fenceIn then (if s.pair.asserted then s.toFenced.event 1095 else s.toFenced) else s.updPair fun p => { p with asserted := true, deferring := false }

/-- HEARTBEAT_TIMEOUT (R401, Tables PAI-1 and PAI-2): the companion is suspect, EV1092. Side A asserts FENCE_OUT at
once; a side that sees FENCE_IN asserted without its own is FENCED. -/
def State.suspect (s : State) : State :=
  if s.nv.pairSt ≠ .paired ∧ s.nv.pairSt ≠ .resync then s
  else
    let s := (((s.withAna fun s => s.toPair .suspect).bump Reg.PAIR_HB_STAT_SUSPECTS).event 1092).flushAlone
    if s.sideB && !(s.boot.pins.fenceIn && !s.pair.asserted) then s.updPair fun p => { p with deferring := true }
    else s.assertFence

def execHeartbeatTimeout (s : State) : Host.Outcome State Fault Refusal := effect s fun s => if s.isPair then s.suspect else s

/-- FENCE_DEFERRAL_EXPIRY (Table PAI-1). -/
def execFenceDeferralExpiry (s : State) : Host.Outcome State Fault Refusal :=
  effect s fun s => if s.isPair && decide (s.nv.pairSt = .suspect) && s.pair.deferring then s.assertFence else s

/-- FENCE_SETTLE_EXPIRY (R402, Table PAI-1): 10 µs after its own assertion. -/
def execFenceSettleExpiry (s : State) : Host.Outcome State Fault Refusal :=
  effect s fun s =>
    if s.isPair && decide (s.nv.pairSt = .suspect) && s.pair.asserted then
      if s.boot.pins.fenceIn then s.toFenced.event 1095 else s.toSurvivor
    else s

/-- FENCE_IN_ASSERT (R402, R403, Tables PAI-1 and PAI-2). -/
def State.fenceIn (s : State) : State :=
  let s := (s.updBoot fun b => { b with pins := { b.pins with fenceIn := true } }).updPair fun p => { p with fenceLowSince := none }
  if !s.isPair then s
  else match s.nv.pairSt with
    | .joining => if s.journalBack then s.toFenced else s
    | .paired => s.toFenced
    | .suspect => if s.pair.asserted then s else s.toFenced
    | _ => s

def execFenceInAssert (s : State) : Host.Outcome State Fault Refusal := effect s fun s => s.fenceIn

/-- FENCE_IN_DEASSERT (R403, R404). -/
def execFenceInDeassert (s : State) : Host.Outcome State Fault Refusal :=
  effect s fun s =>
    (s.updBoot fun b => { b with pins := { b.pins with fenceIn := false } }).updPair fun p =>
      { p with fenceLowSince := some s.time.now }

/-- PAIR_CTRL's RESULT. -/
def State.pairResult (s : State) (r : Nat) : State := s.wr Reg.PAIR_STATUS_RESULT r

/-- YIELD (R404): FENCE_OUT is deasserted; a MISMATCH side becomes FENCED. -/
def State.yield (s : State) : State :=
  if !s.isPair then s.pairResult 1
  else match s.nv.pairSt with
    | .fenced => ((s.updPair fun p => { p with asserted := false }).pairResult 0).event 1096 [1]
    | .mismatch => ((s.updPair fun p => { p with asserted := false }).toFenced.pairResult 0).event 1096 [1]
    | _ => s.pairResult 1

def execYield (unlock : Nat) (s : State) : Host.Outcome State Fault Refusal :=
  effect s fun s => s.unlocked unlock 0x5052 State.yield

/-- Has FENCE_IN been low for 1 ms? -/
def State.fenceLow (s : State) : Bool :=
  !s.boot.pins.fenceIn && (match s.pair.fenceLowSince with
    | some t => decide (t + 1000000 ≤ s.time.now)
    | none => false)

/-- SURVIVE (R404): a FENCED or JOINING side becomes SURVIVOR and asserts FENCE_OUT. -/
def State.survive (s : State) : State :=
  if !s.isPair || (decide (s.nv.pairSt ≠ .fenced) && !(decide (s.nv.pairSt = .joining) && s.journalBack)) then s.pairResult 1
  else if !s.fenceLow then s.pairResult 2
  else
    let s := s.toSurvivor.updPair fun p => { p with asserted := true, resolved := true }
    (s.pairResult 0).event 1096 [2]

def execSurvive (unlock : Nat) (s : State) : Host.Outcome State Fault Refusal :=
  effect s fun s => s.unlocked unlock 0x5052 State.survive

/-! ### Mirroring (R145, R146, R397, R399) -/

/-- The context of a command that came over the link: forwarded (0) or mirrored (1). [DESIGN CHOICE, safe: log 86] -/
def State.linkCmd (s : State) (sqid seq nsid opcode : Nat) : State :=
  let r : CmdRef := ⟨companionOwner, sqid, seq⟩
  let c : Cmd :=
    { ref := r, opcode := opcode, units := 0, dl := 0, stamp := none, fetchedAt := s.time.sid, seq := s.q.seq, nsid := nsid
      reserve := false, epoch := 0, urgent := false, deadline := .none, phase := .fetched }
  s.updQ fun q => { q with cmds := mapSet q.cmds (cmdKey r) c, seq := q.seq + 1 }

/-- The opcode of a forwarded command. -/
def kindOpcode : ForwardKind → Nat
  | .write _ _ _ => 0x01
  | .append => 0x7D
  | .zeroes _ => 0x08
  | .zoneSend _ _ => 0x79
  | .deallocate _ => 0x09
  | .namespaces _ => 0x0D

/-- The ranges of a mirror copy are complete on this side: the companion acknowledged them to its host. -/
def State.mirrorComplete (s : State) (r : CmdRef) : State :=
  s.each (s.wp.wr.filter fun e => ofCommand r e.2) fun s e =>
    let s := s.updWp fun x => { x with wr := mapMod x.wr e.1 fun w => { w with completed := some s.q.seq } }
    s.modNv fun v => { v with acks := addAck ⟨e.2.nsid, e.2.slba, e.2.nlb, s.jr.openNo⟩ v.acks }

/-- Place ranges of plaintext in this side's buffer under its own key (R397): the same reservation as on the home side. None
where this side has no block sets for it now. -/
def State.placeCopy (s : State) (r : CmdRef) (nsid slba nlb : Nat) (data : List Nat) : Option State :=
  match s.ns? nsid with
  | none => none
  | some n =>
    let s := s.reserveKey (n.keySlot.getD 0) (units4k n slba nlb)
    let put := fun (s : State) (w : Wr) =>
      let k := s.wp.next
      (s.addWr w).dataIn k w ((data.drop (w.slba - slba)).take w.nlb)
    if n.zoned then
      let zl := s.zoneLbas n
      let z := slba / zl
      let x := s.zoneAt nsid z
      let go := fun (s : State) =>
        let s := s.modZone nsid z fun x => { x with reserved := max x.reserved (slba % zl + nlb), lastWrite := s.time.sid }
        some ((put s (newWr r nsid slba nlb (some z) (slba % zl) 0 false false false)).mirrorComplete r)
      if x.st = .empty ∨ x.st = .closed then
        match s.openZone nsid z n false with
        | .ok s => go s
        | _ => none
      else go s
    else
      let l := (cut256 n slba nlb).map fun c => newWr r nsid c.1 c.2 none 0 0 false false false
      some ((s.each l put).mirrorComplete r)

/-- MIRROR_FRAME (R263, R397, R399): the frames of one command of the companion. Data is checked, placed and acknowledged; a
command without data runs, and its completion is the acknowledgement; frames that come again are only acknowledged. -/
def State.mirrorFrame (s : State) (f : MirrorData) : State :=
  let r : CmdRef := ⟨companionOwner, 1, f.seq⟩
  let ack := fun (s : State) (ok : Nat) => s.emit [Out.bulum "acknowledge" [f.seq, ok]]
  if !s.isPair || !s.pair.linkUp then s
  else if s.pair.placed.contains f.seq then ack s 1
  else if !f.hallmarkOk then
    let s := (s.bump Reg.CRU_HALL_STAT_INGRESS).firstError Reg.CRU_HALL_ERR_VALID [(Reg.CRU_HALL_ERR_POINT, 0),
      (Reg.CRU_HALL_ERR_FIELD, 0), (Reg.CRU_HALL_ERR_NSID, f.nsid), (Reg.CRU_HALL_LBA_LO_LBA, f.slba),
      (Reg.CRU_HALL_LBA_HI_LBA, f.slba / 4294967296)]
    ack (s.eventPer 844 companionOwner 1000000000 [f.nsid, f.slba]) 0
  else
    let note := fun (s : State) => s.updPair fun p => { p with placed := p.placed ++ [f.seq] }
    if kindRanges f.kind then
      match s.placeCopy r f.nsid f.slba f.nlb (if f.data.isEmpty then List.replicate f.nlb 0 else f.data) with
      | some s =>
        let u := ((s.ns? f.nsid).map fun n => units4k n f.slba f.nlb).getD 0
        ack ((note s).updPair fun p => { p with given := p.given - u }) 1
      | none => s
    else (note (s.linkCmd 1 f.seq f.nsid (kindOpcode f.kind))).runKind r ⟨f.seq, f.kind, f.nsid, f.slba, f.nlb, []⟩

def execMirrorFrame (f : MirrorData) (s : State) : Host.Outcome State Fault Refusal := effect s fun s => s.mirrorFrame f

/-- MIRROR_ACK (R145, R146, R397): the pair write may complete; a hallmark failure on the link fails it as at ingress. [DEDUCED,
unsafe: log 83] -/
def State.mirrorAck (s : State) (seq : Nat) (ok : Bool) : State :=
  match mapGet? s.pair.opAcks seq with
  | some (r, dw0, dw1) =>
    let s := s.updPair fun p => { p with opAcks := mapErase p.opAcks seq, opRanges := mapErase p.opRanges seq }
    if ok then s.finish r .success dw0 dw1 else s.finish r .internalError
  | none =>
    if !s.pair.sent.contains seq then s
    else
      let s := s.updPair fun p => { p with sent := p.sent.filter (· ≠ seq) }
      match mapGet? s.wp.wr seq with
      | none => s
      | some w =>
        if ok then
          let s := s.updWp fun x => { x with wr := mapMod x.wr seq fun w => { w with acked := true } }
          (s.tryComplete w.ref).commitAll.patchChecks
        else s.ingressFails w.ref w.nsid 0 w.slba

def execMirrorAck (seq : Nat) (ok : Bool) (s : State) : Host.Outcome State Fault Refusal :=
  effect s fun s => s.mirrorAck seq ok

/-- ACK_REPLAY_TIMEOUT (R399): the frames are replayed, counted, EV1099 at most once per millisecond. -/
def execAckReplayTimeout (seq : Nat) (s : State) : Host.Outcome State Fault Refusal :=
  effect s fun s =>
    if s.pair.sent.contains seq || mapHas s.pair.opAcks seq then
      let s := ((s.bump Reg.PAIR_STAT_LATE_ACK).bump Reg.PAIR_STAT_REPLAYS).eventPer 1099 0 1000000 [seq]
      s.emit [Out.bulum "replay" (seq :: ((mapGet? s.wp.wr seq).map fun w => s.decryptAll w.nsid w.slba w.data).getD [])]
    else s

/-- MIRROR_CREDIT (R397): the companion's reserved space frees. [DESIGN CHOICE, unsafe: log 85; DEDUCED, unsafe: log 163] -/
def execMirrorCredit (mib : Nat) (s : State) : Host.Outcome State Fault Refusal :=
  effect s fun s =>
    if s.isPair then s.updPair fun p => { p with credit := p.credit + mib * 256, granted := p.granted - mib * 256 } else s

/-! ### Forwarding (R392, R398) -/

/-- FORWARDED_COMMAND (R392, R398): the home side checks, reserves and buffers a command of the other side; its completion
is the response. Operations on the namespaces run on both sides. -/
def State.forwarded (s : State) (f : Forwarded) : State :=
  let r : CmdRef := ⟨companionOwner, 0, f.seq⟩
  if !s.isPair || !s.pair.linkUp then s
  else
    let s := (s.linkCmd 0 f.seq f.nsid (kindOpcode f.kind)).runKind r f
    if f.data.isEmpty then s else s.dataReceived r (.data f.data)

def execForwardedCommand (f : Forwarded) (s : State) : Host.Outcome State Fault Refusal := effect s fun s => s.forwarded f

/-- Does a command wait for a batch? -/
def State.waitsBatch (s : State) (r : CmdRef) : Bool :=
  (s.jr.waiting.any fun e => decide (e.2 = r)) || s.key.waits.any fun w => decide (w.ref = some r)

/-- FORWARD_RESPONSE (R392, R398): a failure status ends the command; otherwise this side applies the same reservation from `lba`
and completes. An operation on the namespaces completes when both sides have. [DEDUCED, unsafe: log 81; DESIGN CHOICE, safe: log
159] -/
def State.response (s : State) (r : CmdRef) (st : Status) (lba : Nat) : State :=
  if s.pair.nsOps.contains r then
    let s := s.updPair fun p => { p with nsOps := p.nsOps.filter (· ≠ r) }
    if st ≠ .success then s.finish r st
    else if s.waitsBatch r then s else s.opDone r
  else match s.pair.forwards.find? fun e => decide (e.2.1 = r) with
    | none => s
    | some (k, _, f) =>
      let s := s.updPair fun p => { p with forwards := mapErase p.forwards k }
      if st ≠ .success then s.finish r st
      else
        let s := match s.ns? f.nsid with
          | some n =>
            if n.zoned && kindRanges f.kind then
              let zl := s.zoneLbas n
              s.modZone f.nsid (lba / zl) fun x => { x with reserved := if x.st == ZoneSt.empty then x.reserved else max x.reserved (lba % zl) }
            else s
          | none => s
        s.runApproved r f

def execForwardResponse (ref : CmdRef) (st : Status) (lba : Nat) (s : State) : Host.Outcome State Fault Refusal :=
  effect s fun s => s.response ref st lba

/-! ### Batches, codewords, homes, secure resets (R272, R393, R400) -/

/-- COMPANION_BATCH (R400): the four latest are kept. -/
def execCompanionBatch (seq epoch : Nat) (s : State) : Host.Outcome State Fault Refusal :=
  effect s fun s =>
    if s.isPair then s.updPair fun p => { p with batches := (p.batches ++ [(seq, epoch)]).drop ((p.batches.length + 1) - 4) } else s

/-- CODEWORD_REQUEST (R400): blocks that the buffer holds go back at once; others are read from this side's own copy as
reserve traffic. -/
def State.codewordRequest (s : State) (nsid lba n : Nat) : State :=
  if !s.isPair then s
  else
    let got := (List.range n).map fun i => s.buffered nsid (lba + i)
    if got.all Option.isSome then s.emit [Out.bulum "codeword" (nsid :: lba :: s.decryptAll nsid lba (got.filterMap id))]
    else match s.stripeOf nsid lba with
      | none => s.emit [Out.bulum "codeword" (nsid :: lba :: List.replicate n 0)]
      | some (set, row, pos) =>
        let col := ((s.setPlace set).map (·.1)).getD 0
        let mask := s.maskOf nsid lba n
        let out := s.unitOut set row col pos
        if s.hasRowx set row pos mask isLostKind || (out && !s.canRebuild set row pos mask) then s.emit [Out.bulum "no codeword" [nsid, lba]]
        else s.startJob
          { kind := .companion nsid lba, set := set, row := row, pos := pos
            left := if out then s.sources set row pos mask else [pos]
            bad := [], snap := s.atIssue nsid lba n, cls := 8, owner := systemOwner, cons := s.setCons set, deadline := .none, mask := mask }

def execCodewordRequest (nsid lba n : Nat) (s : State) : Host.Outcome State Fault Refusal :=
  effect s fun s => s.codewordRequest nsid lba n

/-- CODEWORD_RESPONSE (R253, R272): the codeword is written as a patch and nothing is logged; its ladder ends as one that step 4
recovered. One that the companion does not have is declared lost. [DEDUCED, unsafe: log 214] -/
def State.codewordAnswer (s : State) (k : Nat) (ok : Bool) : State :=
  match mapGet? s.pair.asks k with
  | none => s
  | some a =>
    let s := s.updPair fun p => { p with asks := mapErase p.asks k }
    if !ok then s.askFails a
    else match a.dec, a.ref with
      | some x, _ =>
        let d := dieKey x.ch x.die
        let mask := ((s.codewordAt d x.op x.cw).map (·.2.2.2)).getD 0
        (((s.patchWords a.set a.row a.pos mask).histogram d 14).chanEvent d 1 (s.wordBlock d x.op x.cw) x.op.page 4 [4]).wordRead d x 4 0
      | none, some r => (s.patchWords a.set a.row a.pos (s.maskOf a.nsid a.lba a.n)).fillRead r a.lba (s.onMedia a.nsid a.lba a.n)
      | none, none => s

def execCodewordResponse (ask : Nat) (ok : Bool) (s : State) : Host.Outcome State Fault Refusal :=
  effect s fun s => s.codewordAnswer ask ok

/-- PAIR_HOME_WRITE (R393, R410): sent to the companion; ignored unless this side is PAIRED. [DESIGN CHOICE, unsafe: log 84] -/
def State.homeWrite (s : State) (j value : Nat) : State :=
  if !s.isPair || decide (s.nv.pairSt ≠ .paired) || decide (8 ≤ j) then s
  else
    let v := value % 4294967296
    (s.updPair fun p => { p with
      homeWant := if v = s.rd (Reg.PAIR_HOME_SIDE_B.at j) then mapErase p.homeWant j else mapSet p.homeWant j v
      homeOk := p.homeOk.filter fun k => k / 32 != j }).emit [Out.bulum "home" [j, v]]

def execPairHomeWrite (j value : Nat) (s : State) : Host.Outcome State Fault Refusal := effect s fun s => s.homeWrite j value

/-- HOME_CONFIRM (R393): the companion confirms a home change of this side, or brings its own, which this side confirms. It applies
at the next meridian. [DESIGN CHOICE, unsafe: log 84] -/
def State.homeConfirm (s : State) (cons : Nat) (toB : Bool) : State :=
  if !s.isPair || decide (s.nv.pairSt ≠ .paired) then s
  else
    let j := cons / 32
    let b := cons % 32
    let v := mapGet s.pair.homeWant j (s.rd (Reg.PAIR_HOME_SIDE_B.at j))
    let mine := s.homeMoving cons
    let v' := if bit v b = toB then v else if toB then v + 2 ^ b else v - 2 ^ b
    let s := s.updPair fun p => { p with
      homeWant := if v' = s.rd (Reg.PAIR_HOME_SIDE_B.at j) then mapErase p.homeWant j else mapSet p.homeWant j v'
      homeOk := if p.homeOk.contains cons then p.homeOk else p.homeOk ++ [cons] }
    if mine then s else s.emit [Out.bulum "home confirmed" [cons, toB.toNat]]

def execHomeConfirm (cons : Nat) (toB : Bool) (s : State) : Host.Outcome State Fault Refusal :=
  effect s fun s => s.homeConfirm cons toB

/-- SECURE_RESET_CONFIRM (R133, R400). -/
def execSecureResetConfirm (ref : CmdRef) (s : State) : Host.Outcome State Fault Refusal :=
  effect s fun s =>
    (s.updZone fun z => { z with resets := mapMod z.resets (cmdKey ref) fun w => { w with companion := true } }).secureDone (cmdKey ref)

/-! ### Resync (R408) -/

/-- The blocks between the void ranges of a zone up to its WP: offset and length. -/
def gaps (voids : List (Nat × Nat)) (wp : Nat) : List (Nat × Nat) :=
  let cut := fun (l : List (Nat × Nat)) (v : Nat × Nat) =>
    (l.map fun g =>
      let a := if g.1 < min v.1 (g.1 + g.2) then [(g.1, min v.1 (g.1 + g.2) - g.1)] else []
      let b := if max (v.1 + v.2) g.1 < g.1 + g.2 then [(max (v.1 + v.2) g.1, g.1 + g.2 - max (v.1 + v.2) g.1)] else []
      a ++ b).flatten
  voids.foldl cut (if wp = 0 then [] else [(0, wp)])

/-- A zone takes the content that the source sends (R408): it is reset and rewritten up to the source's WP, void blocks included.
[DESIGN CHOICE, safe: log 89] -/
def State.copyZone (s : State) (r : CmdRef) (nsid z : Nat) (n : Ns) (g : CopyImage) : State :=
  let s := match (s.zoneAt nsid z).column with
    | some c => s.releaseSets c (s.zoneAt nsid z).sets
    | none => s
  let s := s.clearZone nsid z n
  if g.wp = 0 ∧ g.full = false then s
  else if g.wp = 0 ∨ g.blocks.isEmpty then
    s.modZone nsid z fun x => { x with st := if g.full then .full else x.st, unwrittenFull := g.full, wp := s.zcap n, reserved := s.zcap n }
  else match s.openZone nsid z n false with
    | .ok s =>
      let s := s.modZone nsid z fun x => { x with voids := g.voids, reserved := g.wp }
      let l := gaps g.voids g.wp
      let s := s.each l fun s e =>
        let k := s.wp.next
        let w := newWr r nsid (z * s.zoneLbas n + e.1) e.2 (some z) e.1 0 false false false
        (s.addWr w).dataIn k w (((g.blocks.drop e.1).take e.2).map (·.getD 0))
      let s := (s.mirrorComplete r).advanceWp nsid z
      if g.full then s.modZone nsid z fun x => { x with st := .full } else s
    | _ => s

/-- A conventional region takes the content that the source sends, granule by granule. [DESIGN CHOICE, safe: log 89] -/
def State.copyRegion (s : State) (r : CmdRef) (nsid region : Nat) (n : Ns) (g : CopyImage) : State :=
  let size := 16384 * n.per4k
  let a := region * size
  let per := s.granule4k * n.per4k
  (s.each (List.range ((g.blocks.length + per - 1) / per)) fun s i =>
    let l := (g.blocks.drop (i * per)).take per
    let lba := a + i * per
    if l.all Option.isNone then s.unmap n nsid [lba / per]
    else
      let k := s.wp.next
      let w := newWr r nsid lba l.length none 0 0 false false false
      (s.addWr w).dataIn k w (l.map (·.getD 0))).mirrorComplete r

/-- The zone of a divergent region of a zoned namespace. -/
def State.regionZone (s : State) (n : Ns) (region : Nat) : Nat := region * (16384 * n.per4k) / max (s.zoneLbas n) 1

/-- A region is level: it leaves the list, and with the last one the resync is complete. -/
def State.regionDone (s : State) (l : List (Nat × Nat)) : State :=
  let s := s.updPair fun p => { p with left := p.left.filter fun e => !l.contains e }
  if s.pair.left.isEmpty then s.resyncDone else s

/-- What the source sends for a block (R408): nothing where it is unmapped or void, else its plaintext. -/
def State.copyBlock (s : State) (n : Ns) (nsid lba : Nat) : Option Nat :=
  if s.readsZero n nsid lba then none
  else some (match s.readBlock n nsid lba with
    | some v => v
    | none => s.decrypt nsid lba ((s.onMedia nsid lba 1).getD 0 0))

/-- What the source sends for a region (R408): of a zone its WP, its void ranges and its blocks up to WP, void ones included; of a
conventional region its blocks. -/
def State.copyImage (s : State) (n : Ns) (nsid region : Nat) : CopyImage :=
  if n.zoned then
    let z := s.regionZone n region
    let x := s.zoneAt nsid z
    ⟨x.wp, x.voids, decide (x.st = .full), s.pair.secureZones.contains (zoneKey nsid z),
      (List.range x.wp).map fun i => s.copyBlock n nsid (z * s.zoneLbas n + i)⟩
  else
    let size := 16384 * n.per4k
    ⟨0, [], false, false, (List.range (min size (n.nsze - region * size))).map fun i => s.copyBlock n nsid (region * size + i)⟩

/-- The words of a copy on the link: the region, the zone's state, its void ranges, and each block, 0 for none or one more than its
data. [DESIGN CHOICE, safe: log 89] -/
def copyWords (g : CopyImage) (nsid region : Nat) : List Nat :=
  [nsid, region, g.secure.toNat, g.full.toNat, g.wp, g.voids.length] ++ (g.voids.map fun v => [v.1, v.2]).flatten ++
    g.blocks.map fun b => match b with
      | some v => v + 1
      | none => 0

/-- RESYNC_COPY (R400, R408): the source sends a region, and takes back what it lost under R162 and the target holds; the target
applies it: a zone that was reset securely is first detached and erased. A zone is copied whole, with all its regions. [DESIGN
CHOICE, unsafe: log 87; DESIGN CHOICE, safe: log 89] -/
def State.resyncCopy (s : State) (nsid region : Nat) (g : CopyImage) : State :=
  if !s.isPair || decide (s.nv.pairSt ≠ .resync) || !s.pair.left.contains (nsid, region) then s
  else match s.ns? nsid with
    | none => s.regionDone [(nsid, region)]
    | some n =>
      let z := s.regionZone n region
      let mine := if n.zoned then s.pair.left.filter fun e => e.1 == nsid && s.regionZone n e.2 == z else [(nsid, region)]
      let r : CmdRef := ⟨companionOwner, 2, regionKey nsid region % 65536⟩
      if s.on Reg.PAIR_STATUS_RESYNC_TARGET then
        let k := cmdKey r
        if n.zoned && g.secure && decide ((s.zoneAt nsid z).column ≠ none) then
          ((s.updZone fun y => { y with resets := mapSet y.resets k ⟨r, nsid, [z], true, [], false, true, [], 0⟩ }).tryReset k).secureDone k
        else if mapHas s.zone.resets k then s
        else (if n.zoned then s.copyZone r nsid z n g else s.copyRegion r nsid region n g).regionDone mine
      else
        let size := 16384 * n.per4k
        let inside := fun (e : Nat × Nat × Nat × Nat) =>
          e.1 == nsid && (mine.any fun m => decide (e.2.1 < (m.2 + 1) * size) && decide (m.2 * size < e.2.1 + e.2.2.1))
        let first := if n.zoned then z * s.zoneLbas n else region * size
        let held := fun (e : Nat × Nat × Nat × Nat) => (List.range e.2.2.1).all fun i => ((g.blocks.getD (e.2.1 + i - first) none)).isSome
        let back := s.pair.lostRanges.filter fun e => inside e && held e
        let s := s.each back fun s e =>
          let blocks := (List.range e.2.2.1).map fun i => ((g.blocks.getD (e.2.1 + i - first) none)).getD 0
          let w := newWr r nsid e.2.1 e.2.2.1 (if n.zoned then some z else none) (e.2.1 - first) 0 false false false
          ((s.addWr w).dataIn s.wp.next w blocks).mirrorComplete r
        let s := s.updPair fun p => { p with lostRanges := p.lostRanges.filter fun e => !back.contains e }
        (s.emit [Out.bulum "copy" (copyWords (s.copyImage n nsid region) nsid region)]).regionDone mine

def execResyncCopy (nsid region : Nat) (image : CopyImage) (s : State) : Host.Outcome State Fault Refusal :=
  effect s fun s => s.resyncCopy nsid region image

end Sys2Proof.Machine
end

