-- ==== Sys2Proof/Machine/Chart.lean ====
section
/-! DEFINITION. The chart: the checks of a candidate, the order of the candidates, topology and format, the seal, and what a
warm or structural reset leaves of each block (spec/02; spec/09 R202, R203, R236; spec/20 Table REG-4). -/

namespace Sys2Proof.Machine

/-! ### Checks of a container (R26 to R33, Table CHT-7) -/

/-- A check: whether it passes, the code of Table CHT-7 and the section type that it reports. [DEDUCED, unsafe: log 93] -/
abbrev ChartCheck := Bool × Nat × Nat

/-- The first check that fails (R35). -/
def firstFailure (l : List ChartCheck) : Option (Nat × Nat) := (l.find? fun c => !c.1).map (·.2)

/-- Does the firmware edition know a section's type and version (Tables CHT-3, CHT-5)? -/
def sectionKnown (e : SectionEntry) : Bool := 1 ≤ e.type && e.type ≤ 12 && e.version == 1

/-- The section types that a chart must carry (Table CHT-5, R31). [DEDUCED, unsafe: log 93] -/
def sectionsRequired (magnitude : Nat) : List Nat := (List.range (if magnitude = 0 then 12 else 11)).map (· + 1)

/-- A section's place (R27): on a 64-byte boundary after the section table, ending at or before the signature. -/
def sectionPlaced (k : Container) (e : SectionEntry) : Bool :=
  e.offset % 64 == 0 && 128 + 16 * k.sectionCount ≤ e.offset && e.offset + e.length ≤ k.signatureOffset

/-- Two sections overlap. -/
def sectionsOverlap (a b : SectionEntry) : Bool :=
  decide (a.offset < b.offset + b.length) && decide (b.offset < a.offset + a.length)

/-- No two entries overlap or have one type (R27). -/
def sectionsApart : List SectionEntry → Bool
  | [] => true
  | e :: l => l.all (fun x => !sectionsOverlap e x && x.type != e.type) && sectionsApart l

/-- The type of the first section for which `p` fails, else 0. -/
def sectionOf (l : List SectionEntry) (p : SectionEntry → Bool) : Nat := ((l.find? fun e => !p e).map (·.type)).getD 0

/-- A section is present: one that the edition skips (R28) is not. [DEDUCED, unsafe: log 93] -/
def sectionHas (k : Container) (t : Nat) : Bool :=
  k.sections.any fun e => e.type == t && (e.version == 1 || e.flags % 2 == 1)

/-- The header is as Table CHT-2 gives it (R26): its CRC, FORMAT_VERSION, HEADER_SIZE, TOTAL_LENGTH, SECTION_COUNT, the offsets, the
reserved fields and MIN_FW_EDITION's range. [DEDUCED, unsafe: log 93] -/
def headerOk (k : Container) : Bool :=
  crc32 (slice 255 k.bytes 0 0x7C) == k.field 0x7C 4 && k.formatVersion == 3 && k.field 0x06 2 == 128 && 1024 ≤ k.totalLength &&
    k.totalLength ≤ 2097152 && k.totalLength % 64 == 0 && 11 ≤ k.sectionCount && k.sectionCount ≤ 24 && k.flags < 2 &&
    1 ≤ k.minEdition && zerosAt 255 k.bytes 0x1A 2 && zerosAt 255 k.bytes 0x64 24 && k.field 0x1C 4 == 128 &&
    k.signatureOffset + 256 == k.totalLength

/-- The checks of codes 0x02 to 0x08, which need no device (R26 to R31, R468). -/
def containerChecks (o : Otp) (k : Container) : List ChartCheck :=
  let missing := ((sectionsRequired k.magnitude).find? fun t => !sectionHas k t).getD 0
  let pairWrong := k.magnitude != 0 && sectionHas k 12
  [(k.field 0 4 == 0x4E594C4C, 0x02, 0),
   (headerOk k && k.topologyHash == k.fingerprint, 0x03, 0),
   (k.sections.all k.crcMatches, 0x04, sectionOf k.sections k.crcMatches),
   (k.sections.all (fun e => sectionPlaced k e && decide (e.flags < 2)) && sectionsApart k.sections, 0x05,
      sectionOf k.sections fun e => sectionPlaced k e && decide (e.flags < 2)),
   (missing == 0, 0x05, missing),
   (!pairWrong, 0x05, 12),
   (k.sections.all (fun e => sectionKnown e || e.flags % 2 == 0), 0x06,
      sectionOf k.sections fun e => sectionKnown e || e.flags % 2 == 0),
   (o.rootHash != 0 && sigKeyHash k.bytes k.signatureOffset == o.rootHash, 0x07, 0),
   (sigVerifies k.bytes k.signatureOffset, 0x08, 0)]

/-- The set bits of a number below 2³². -/
def popCount (n : Nat) : Nat := ((List.range 32).filter (bit n)).length

/-- The dies of a chart. -/
def chartDies (c : Chart) : Nat := (c.dies.chans.map fun p => popCount p.2.ceMask * p.2.luns).sum

/-- The dies and members that a magnitude allows (Table SCP-1). -/
def magnitudeDies (m : Nat) : Nat := if m = 3 then 512 else if m = 2 then 2048 else 4096
def magnitudeMembers (m : Nat) : Nat := if m = 3 then 4 else if m = 2 then 8 else 16

/-- R2 and R4: the magnitude holds the population and agrees with STRAP_PAIR. The strap code 11 has no meaning in the spec, and R4
refuses nothing under it. DESIGN CHOICE (log entry 95). [DESIGN CHOICE, unsafe: log 95] -/
def magnitudeOk (t : Straps) (c : Chart) : Bool :=
  c.magnitude ≤ 3 && chartDies c ≤ magnitudeDies c.magnitude && (chartMembers c).length ≤ magnitudeMembers c.magnitude &&
    (if t.pair = 0 then c.magnitude != 0 else if t.pair ≤ 2 then c.magnitude == 0 else true)

/-- The DIES rules of Table CHT-6. -/
def diesOk (c : Chart) : Bool :=
  let d := c.dies
  let ms := chartMembers c
  let at_ := fun (r : Nat) => d.chans.filter fun p => p.1 % 8 = r
  let same := (List.range 8).all fun r => match at_ r with
    | p :: l => l.all fun q => decide (q.2 = p.2)
    | [] => true
  3 ≤ ms.length && d.chans.all (fun p => p.1 < 128) &&
    ms.all (fun m => (List.range 8).all fun r => d.chans.any fun p => p.1 == 8 * m + r) &&
    d.chans.all (fun p => p.2.ceMask != 0 && p.2.ceMask < 256 && (p.2.luns == 1 || p.2.luns == 2 || p.2.luns == 4) &&
      decide (p.2.kind < d.kinds.length)) && same &&
    1 ≤ d.kinds.length && d.kinds.length ≤ 8 &&
    d.kinds.all (fun k => (k.pageKiB == 4 || k.pageKiB == 8 || k.pageKiB == 16) &&
      (k.planes == 1 || k.planes == 2 || k.planes == 4)) &&
    800 ≤ d.rate && d.rate ≤ 3600 && (d.rate - 800) % 400 == 0

/-- The kinds of the columns that belong to a constellation. -/
def consKinds (c : Chart) : List DieKind := ((c.cons.map (·.columns)).flatten.map (chartKind c)).eraseDups

/-- The bytes of a block set of a kind (R118). -/
def kindSetBytes (c : Chart) (k : DieKind) : Nat := c.zone.planesPerSet * k.pagesPerBlock * k.pageKiB * 1024

def portsOk (c : Chart) : Bool :=
  let p := c.ports
  3 ≤ p.h0Gen && p.h0Gen ≤ 6 && 3 ≤ p.h1Gen && p.h1Gen ≤ 6 && p.vfCount.all (· ≤ 1023) &&
    (p.vfCount.take 4).sum ≤ 1023 && ((p.vfCount.drop 4).take 4).sum ≤ 1023 &&
    p.nMode.all (fun m => m == 0 || m == 1 || m == 2 || m == 4) && 1500 ≤ p.mtu && p.mtu ≤ 9216

def tenancyOk (c : Chart) : Bool :=
  let t := c.ten
  t.vfSlots + t.fabricSlots ≤ 4096 && c.ports.vfCount.sum ≤ t.vfSlots &&
    t.qpoolPf + t.qpoolVf + t.qpoolFabric + t.qpoolSystem ≤ 1048576 && 4096 ≤ t.qpoolSystem &&
    2 ≤ t.maxQueues && t.maxQueues ≤ 65536 && 2 ≤ t.defQueues && t.defQueues ≤ t.maxQueues &&
    1 ≤ t.maxInflight && t.maxInflight ≤ 262144 && 1 ≤ t.maxNs && t.maxNs ≤ 65536 && t.maxQp ≤ 262144 &&
    (c.ports.nMode.any (· != 0) || t.maxQp == 0)

/-- A column is populated: its die is in every member (R114). -/
def columnPopulated (c : Chart) (col : Nat) : Bool :=
  col < 256 && !(chartMembers c).isEmpty && (chartMembers c).all fun m => chartPopulated c (8 * m + col / 32) (col % 32)

/-- The conditions of Table CHT-6 on a constellation. [DEDUCED, unsafe: log 168] -/
def consOk (c : Chart) : Bool :=
  1 ≤ c.cons.length && c.cons.length ≤ 256 &&
    c.cons.all (fun k => !k.columns.isEmpty && k.columns.all (columnPopulated c) &&
      (k.codeRate == 90 || k.codeRate == 88 || k.codeRate == 86 || k.codeRate == 84) && (k.zoned || k.conv) &&
      k.openLimit ≤ k.activeLimit && k.activeLimit ≤ c.zone.devActive && k.openLimit ≤ c.zone.devOpen) &&
    decide (((c.cons.map (·.columns)).flatten.eraseDups).length = ((c.cons.map (·.columns)).flatten).length)

/-- The conditions of Table CHT-6 on ZONE. [DEDUCED, unsafe: log 168] -/
def zoneOk (c : Chart) : Bool :=
  let z := c.zone
  let b := ((consKinds c).map (kindSetBytes c)).eraseDups
  (z.planesPerSet == 1 || z.planesPerSet == 2 || z.planesPerSet == 4) &&
    (consKinds c).all (fun k => z.planesPerSet ≤ k.planes) && b.length ≤ 1 &&
    2 ^ Nat.log2 z.zone4k == z.zone4k && (chartMembers c).length * b.getD 0 0 ≤ z.zone4k * 4096 &&
    z.maxZones ≤ 4194304 && z.devOpen ≤ z.devActive && z.devActive ≤ 65536 && z.devOpen ≤ 32768 &&
    z.nsActive ≤ z.devActive && z.nsOpen ≤ z.devOpen && (z.granuleKiB == 4 || z.granuleKiB == 8 || z.granuleKiB == 16)

def budgetOk (c : Chart) : Bool :=
  let b := c.budget
  100 ≤ b.meridianUs && b.meridianUs ≤ 4000 && 1000000 % b.meridianUs == 0 && b.shares.length == 8 &&
    10 ≤ b.shares.getD 7 0 && b.shares.sum + b.reserve == 1000 && 20 ≤ b.reserve && b.reserve ≤ 200 &&
    (List.range 8).all (fun i => !bit b.lend (9 * i)) && 1 ≤ b.defWeight && b.defWeight ≤ 65535

/-- The least INGOT_COUNT of Table CHT-6. -/
def ingotsLeast (c : Chart) : Nat :=
  let u := (c.dies.kinds.map (·.unitKiB)).foldl max 0
  2048 + (u + 63) / 64 * (c.zone.devOpen + 64 * (c.cons.filter (·.conv)).length)

/-- The sum of R33 in bytes. -/
def partitionBytes (c : Chart) : Nat :=
  let d := c.dram
  d.wbufMiB * 1048576 + d.hotMaxGiB * 1073741824 + d.fdpGiB * 1048576 / max c.zone.granuleKiB 1 * 4 + c.zone.maxZones * 64 +
    (c.ten.qpoolPf + c.ten.qpoolVf + c.ten.qpoolFabric + c.ten.qpoolSystem) * 64 + d.ingots * 65536 + d.systemMiB * 1048576

def dramOk (c : Chart) : Bool :=
  let d := c.dram
  (d.channels == 4 || d.channels == 8) && (d.gibPerChannel == 8 || d.gibPerChannel == 16 || d.gibPerChannel == 32) &&
    4800 ≤ d.rate && d.rate ≤ 8000 && (d.rate - 4800) % 400 == 0 && 1024 ≤ d.wbufMiB && d.wbufMiB ≤ 65536 &&
    d.hotMinGiB ≤ d.hotMaxGiB && d.hotMaxGiB ≤ 192 && d.fdpGiB ≤ 32768 && 2048 ≤ d.ingots && d.ingots ≤ 131072 &&
    ingotsLeast c ≤ d.ingots && 2048 ≤ d.systemMiB && partitionBytes c ≤ dramMiB d * 1048576

/-- The thresholds fall into a rising list of at most the defaults and at least 70 °C. -/
def thermOk (p : ChartPower) : Bool :=
  70 ≤ p.warn && p.warn < p.t1 && p.t1 < p.t2 && p.t2 < p.t3 && p.t3 < p.trip &&
    p.warn ≤ 95 && p.t1 ≤ 98 && p.t2 ≤ 103 && p.t3 ≤ 108 && p.trip ≤ 115

/-- The maximum powers of Table PWR-4, in mW. -/
def psDefaults : List Nat := [92000, 70000, 48000, 11000, 2400]

def powerOk (t : Straps) (c : Chart) : Bool :=
  let p := c.power
  (List.range 5).all (fun i => p.psMax.getD i 0 ≤ psDefaults.getD i 0) && p.idleMs.all (· ≤ 60000) && p.duskMiB ≤ 65536 &&
    (!t.holdup || p.duskMiB != 0) && thermOk p

def keysOk (c : Chart) : Bool :=
  let k := c.keys
  k.tenantSlots + k.systemSlots == 8192 && 64 ≤ k.systemSlots && 1 ≤ k.gcm && k.gcm ≤ 2 ^ 32 && 2 ^ 20 ≤ k.xts &&
    k.xts ≤ 2 ^ 40 && 2 ^ 30 ≤ k.ctr && k.ctr ≤ 2 ^ 50

def timeOk (c : Chart) : Bool :=
  let t := c.time
  t.source ≤ 5 && (!(1 ≤ t.source && t.source ≤ 4) || c.ports.nMode.getD (t.source - 1) 0 != 0) && t.ptpDomain ≤ 127 &&
    500 ≤ t.ppsWindow && t.ppsWindow ≤ 20000 && 1 ≤ t.holdoverS && t.holdoverS ≤ 3600

def mediaOk (c : Chart) : Bool :=
  let m := c.media
  24 ≤ m.scrubH && m.scrubH ≤ 2160 && 4 ≤ m.assayLog2 && m.assayLog2 ≤ 16 && 2 ≤ m.finalReserve && m.finalReserve ≤ 64 &&
    m.finalReserve < m.spareMin

def pairOk (c : Chart) : Bool :=
  c.magnitude != 0 || ((c.pair.lanes == 8 || c.pair.lanes == 4) && 100 ≤ c.pair.resyncShare && c.pair.resyncShare ≤ 1000)

/-- The range checks of Table CHT-6, each under its section (R32, R33). [DEDUCED, unsafe: log 168] -/
def rangeChecks (t : Straps) (c : Chart) : List ChartCheck :=
  [(diesOk c, 0x0D, 1), (portsOk c, 0x0D, 2), (tenancyOk c, 0x0D, 3), (consOk c, 0x0D, 4), (zoneOk c, 0x0D, 5),
   (budgetOk c, 0x0D, 6), (dramOk c, 0x0D, 7), (powerOk t c, 0x0D, 8), (keysOk c, 0x0D, 9), (timeOk c, 0x0D, 10),
   (mediaOk c, 0x0D, 11), (pairOk c, 0x0D, 12)]

/-- The length of a codeword in bytes at a code rate in per cent (Table MED-4). -/
def codewordBytes (rate : Nat) : Nat := if rate = 90 then 4624 else if rate = 88 then 4728 else if rate = 86 then 4840 else 4952

/-- The spare bytes per page that a die of a kind needs (R208): for its constellation's code rate, and for the 0.84 of its dusk blocks,
flush records and metadata areas. -/
def spareNeeded (c : Chart) (k : DieKind) (col : Nat) : Nat :=
  let own := ((c.cons.filter fun x => x.columns.contains col).map fun x => codewordBytes x.codeRate).foldl max (codewordBytes 84)
  k.pageKiB / 4 * (own - 4096)

/-- Every populated die trains, and has the spare bytes of R208 (R202, R203, R208). -/
def trainingOk (c : Chart) (tr : Training) : Bool :=
  !(tr.failedChannels.any fun ch => c.dies.chans.any fun p => p.1 == ch) &&
    !(tr.badDies.any fun d => chartPopulated c d.1 d.2) &&
    tr.spareBytes.all fun e =>
      let col := columnOf (dieKey e.1.1 e.1.2)
      !chartPopulated c e.1.1 e.1.2 || decide (spareNeeded c (chartKind c col) col ≤ e.2)

/-! ### Topology (R42, R43, Table CHT-9) -/

/-- What a load does to the flash. -/
inductive Topology where
  | keep | blank | reformat | refuse
  deriving DecidableEq, Repr

/-- The decision of Table CHT-9; a REFORMATTING mark comes first (R42). Only the records of members that the candidate populates
take part, since only their channels are trained (Table CHT-8 step 7). [DESIGN CHOICE, unsafe: log 108] -/
def topology (l : List FormatRecord) (k : Container) (armed : Bool) : Topology :=
  let l := l.filter fun r => (chartMembers k.chart).contains r.member
  match l.find? fun r => r.reformatting.isSome with
  | some r => if r.reformatting = some k.fingerprint then .reformat else .refuse
  | none =>
    if l.isEmpty then .blank
    else if l.all fun r => r.fingerprint == k.fingerprint then .keep
    else if k.flags % 2 == 1 && armed then .reformat
    else .refuse

/-- Every check of Table CHT-7 on the container of a slot, and what the load does to the flash when all pass (R35). [DEDUCED,
unsafe: log 93] -/
def State.candidate (s : State) (slot : Nat) (k : Container) (tr : Training) (armed : Bool) : (Nat × Nat) ⊕ Topology :=
  let dev := slot / 2
  let up := k.readable && !tr.sfdpBad.contains dev && !(if dev = 0 then s.boot.nor0Failed else s.boot.nor1Failed)
  let c := k.chart
  let checks := [(up, 0x01, 0)] ++ containerChecks s.boot.otp k ++
    [(k.bindSerial == 0 || k.bindSerial == s.boot.otp.serial % 2 ^ 32, 0x09, 0),
     (decide (k.minEdition ≤ s.boot.edition), 0x0A, 0),
     (magnitudeOk s.boot.straps c, 0x0B, 0),
     (c.ports.h0Split == s.boot.straps.h0w && c.ports.h1Split == s.boot.straps.h1w, 0x0C, 2)] ++
    rangeChecks s.boot.straps c ++ [(trainingOk c tr, 0x0E, 0)]
  match firstFailure checks with
  | some e => .inl e
  | none =>
    match topology s.chart.records k armed with
    | .refuse => .inl (0x0F, 0)
    | t => .inr t

/-- A chart slot of the NOR devices (Table CHT-1). -/
def norChart (n : Nor) (slot : Nat) : Container :=
  if slot = 0 then n.chart0 else if slot = 1 then n.chart1 else if slot = 2 then n.chart2 else n.chart3

/-- The mirror slot (Table CHT-1). -/
def mirrorSlot (slot : Nat) : Nat := (slot + 2) % 4

/-- The slots tried, in order, before the ROM safe chart (R24, R40). -/
def State.chartSlots (s : State) : LoadKind → List Nat
  | .structural slot _ => [slot, mirrorSlot slot]
  | .structuralSafe _ => []
  | _ =>
    if s.boot.straps.safe || s.boot.straps.boot || s.boot.recovery then []
    else [s.boot.straps.chart, mirrorSlot s.boot.straps.chart]

/-- The two slots whose results EV0009 holds (R35): the slot asked for and its mirror, whether they were tried or not; where the
load names none, those of STRAP_CHART. [DEDUCED, safe: log 215] -/
def State.namedSlots (s : State) : List Nat :=
  let a := match s.chart.kind with
    | .structural slot _ => slot
    | _ => s.boot.straps.chart
  [a, mirrorSlot a]

/-! ### The flash of a new chart (R236) -/

/-- The REFORMATTING mark in the format record of every member (R42): it precedes what a reformat does. [DESIGN CHOICE, unsafe: log
108] -/
def State.markReformat (s : State) (k : Container) : State :=
  let marked := fun (r : FormatRecord) => { r with reformatting := some k.fingerprint }
  s.updChart fun x =>
    let own := (chartMembers k.chart).map fun m => marked ((x.records.find? fun r => decide (r.member = m)).getD ⟨m, k.fingerprint, none⟩)
    { x with records := own ++ x.records.filter fun r => !(chartMembers k.chart).contains r.member }

/-- The format record of every member of a chart (R43); those on the flash of other members stay as they are. [DESIGN CHOICE,
unsafe: log 108] -/
def State.writeRecords (s : State) (k : Container) : State :=
  let own := (chartMembers k.chart).map fun m => (⟨m, k.fingerprint, none⟩ : FormatRecord)
  s.updChart fun x => { x with
    records := own ++ x.records.filter fun r => !(chartMembers k.chart).contains r.member, formatted := some k.chart.dies }

/-- Format the flash for a chart (R42, R43, R44, R236): every member gets a format record, behind a REFORMATTING mark on a reformat;
then the namespaces, zones and maps are gone with the bindings of their keys, every block is to be erased, and the wear and the
retired blocks stay of a die of the same kind at the same address. EV0011 at a reformat. [DESIGN CHOICE, unsafe: log 108;
DEDUCED, unsafe: log 154] -/
def State.formatFlash (s : State) (k : Container) (tr : Training) (re : Bool) : State :=
  let c := k.chart
  let s := if re then s.markReformat k else s
  let old := s.jr.disk
  let phys := s.jr.blocks.foldl (fun m e => mapSet m e.1 e.2) old.blocks
  let dies := diesOf c
  let fresh := fun d => !re || decide ((s.chart.formatted.bind (diesKind · d)) ≠ diesKind c.dies d)
  let s := { s with nv := { cycles := old.cycles } }
  let s := s.each dies fun s d => s.divideDie c tr.badBlocks phys (fresh d) (!re) d
  let s := s.updJr fun j => { j with
    disk := s.nv, prev := s.nv, closed := [], blocks := [], rows := [], flushed := [], part := [], lost := [], unclean := false, copies := []
    book := j.book.filter fun e => !fresh (e.1 / 65536) }
  let s := { s with wp := { duskLast := s.wp.duskLast } }
  let s := s.writeRecords k
  if re then (s.set Reg.CHART_STATUS_REFORMATTED true).event 11 [k.fingerprint] else s.set Reg.CHART_STATUS_FORMATTED_BLANK true

/-! ### The state that no reset but a cold one clears -/

/-- What a controller keeps over a warm or structural reset: its MSI-X state, and after a warm reset CC.EN with CSTS.CFS
until it is reset (R40, R79, R470). -/
def ctrlAfter (warm : Bool) (c : Ctrl) : Ctrl :=
  { en := warm && c.en, cfs := warm && c.en, unmasked := c.unmasked, fnMask := c.fnMask, flr := c.flr }

/-- Restore the fields of KEY that follow the alarm and the KEK (R316, R328, R329), which only a cold reset clears. -/
def State.keyFlags (s : State) (old : State) : State :=
  let l := [Reg.KEY_STATUS_ALARM, Reg.KEY_ALARM_VALID, Reg.KEY_ALARM_TAMPER, Reg.KEY_ALARM_DEBUG, Reg.KEY_ALARM_TEMP,
    Reg.KEY_ALARM_CLOCK, Reg.KEY_ALARM_VOLTAGE, Reg.KEY_STATUS_KEK_READY]
  s.each l fun s f => s.wr f (old.rd f)

/-- PWR_DUSK_LAST and PWR_DUSK_BYTES from the last dusk record (R168). -/
def State.duskRegs (s : State) : State :=
  match s.wp.duskLast with
  | none => s
  | some (mib, tenUs, fell) =>
    let s := (s.set Reg.PWR_DUSK_LAST_VALID true).set Reg.PWR_DUSK_LAST_COMPLETE true
    ((s.set Reg.PWR_DUSK_LAST_HOLDUP_FELL fell).wr Reg.PWR_DUSK_LAST_DURATION (min tenUs 0xFFFF)).wr Reg.PWR_DUSK_BYTES_MIB mib

/-- Table REG-4: the register blocks that a warm and a structural reset return to their reset values. [DEDUCED, unsafe: log 236] -/
def resetRanges (warm : Bool) : List (Nat × Nat) :=
  [(0x30000, 0x40000), (0x50000, 0x70000), (0x100000, 0x700000), (0x800000, 0xB00000), (0xC00000, 0xD00000)] ++
    (if warm then [(0x700034, 0x780000), (0x780100, 0x800000)] else [(0x700000, 0x800000)])

/-- The state of each block after a warm or structural reset (Table REG-4, R443, R315, R363, R384). What is in DRAM goes with a
structural reset; a warm reset keeps the write buffer and the DRAM content. The network ports retrain, so a PTP source is lost (R47). -/
def State.blockReset (s : State) (warm : Bool) : State :=
  let old := s
  let s := s.each (resetRanges warm) fun s r => s.resetBlock r.1 r.2
  let s := s.keyFlags old
  let s := if s.time.isPtp then s.ptpDown else s
  let s := { s with
    evt := {}, mbx := [], units := []
    alm := { s.alm with lists := s.alm.lists.filter fun e => decide (e.1 / 16 < 128) }
    q := {}, ten := {}, zone := {}, md := {}, net := {}, serve := {}, cell := {}
    host := { s.host with ctrls := mapKeep (mapAll s.host.ctrls fun _ c => ctrlAfter warm c) fun _ c => decide (c ≠ ({ } : Ctrl)) }
    pair := { cameFrom := s.pair.cameFrom }
    key := { wiped := s.key.wiped, kek := s.key.kek, cause := s.key.cause, sinceReseed := s.key.sinceReseed }
    power := { s.power with
      dom := [], vpAsked := none, clkAsked := none, clocksStopped := false, psMoving := false, psWait := [] }
    wp := { duskRecord := s.wp.duskRecord, duskLast := s.wp.duskLast, wr := if warm then s.wp.wr else [], next := s.wp.next }
    boot := { s.boot with stepsDone := s.boot.stepsDone.filter (· == 1), found := none, bulumWait := false } }
  (if warm then { s with dram := { s.dram with waiting := [], filling := none, writes := [], lfsr := [], refresh := [] } }
    else { s with dram := { } }).duskRegs

/-! ### The seal (R37, R507) -/

/-- The ROM safe chart (R36). It uses the populated DRAM for firmware and staging only: partition 0 has the least size of Table
CHT-6. DESIGN CHOICE (log entry 96). [DESIGN CHOICE, unsafe: log 96] -/
def safeChart (t : Straps) (tr : Training) : Chart :=
  { (default : Chart) with
    magnitude := 3
    ports := { h0Split := t.h0w, h1Split := t.h1w, h0Gen := 6, h1Gen := 6, vfCount := [], nMode := [], mtu := 1500 }
    ten := { (default : ChartTen) with
      qpoolPf := 2 * (splitLinks t.h0w + splitLinks t.h1w), qpoolSystem := 4096, maxQueues := 2, defQueues := 2,
      maxInflight := 262144 }
    budget := { meridianUs := 250, shares := [100, 420, 120, 80, 60, 20, 60, 20], reserve := 120, lend := 0, defWeight := 1 }
    dram := { (default : ChartDram) with
      channels := tr.dramChannels, gibPerChannel := tr.dramGib, rate := 4800, systemMiB := 2048 }
    power := { (default : ChartPower) with psMax := psDefaults, warn := 95, t1 := 98, t2 := 103, t3 := 108, trip := 115 }
    time := { source := 0, ptpDomain := 0, ppsWindow := 2000, holdoverS := 30 } }

/-- Write the fields of the registers whose reset value is the chart's (R482). [DEDUCED, unsafe: log 109] -/
def State.chartRegs (s : State) (c : Chart) : State :=
  let s := s.each (List.range 4) fun s i => s.wr (Reg.PWR_IDLE_TIMER_MS.at i) (c.power.idleMs.getD i 0)
  let s := ((s.wr Reg.THERM_THRESH0_T1 c.power.t1).wr Reg.THERM_THRESH0_T2 c.power.t2).wr Reg.THERM_THRESH0_T3 c.power.t3
  let s := (s.wr Reg.THERM_THRESH0_WARN c.power.warn).wr Reg.THERM_THRESH1_TRIP c.power.trip
  let s := s.each (List.range 8) fun s l => s.wr (Reg.QENG_PF_WEIGHT_WEIGHT.at l) c.budget.defWeight
  let s := (s.wr Reg.ZONE_HOT_SIZE_CURRENT c.dram.hotMaxGiB).wr Reg.ZONE_HOT_SIZE_REQUEST c.dram.hotMaxGiB
  let s := (s.putShares c.budget.shares).wr Reg.DSCH_BUDGET_INFO_RESERVE c.budget.reserve
  let s := (s.wr Reg.DSCH_BUDGET_INFO_MERIDIAN_US c.budget.meridianUs).wr Reg.DSCH_LEND_LO_ROWS_0_3 c.budget.lend
  let s := s.wr Reg.DSCH_LEND_HI_ROWS_4_7 (c.budget.lend / 2 ^ 32)
  let s := s.each (List.range c.cons.length) fun s k =>
    s.wr (Reg.DSCH_CONS_MODE_MODE.at k) ((c.cons.map fun x => x.stagger.toNat).getD k 0)
  let s := (s.wr Reg.MEDIA_SCRUB_CFG_PERIOD_H c.media.scrubH).wr Reg.MEDIA_ASSAY_CFG_SAMPLE_LOG2 c.media.assayLog2
  let s := s.each c.dies.chans fun s p => s.set (Reg.MEDIA_CH_STATUS_INTERFACE.at p.1) c.dies.toggle
  let s := (s.wr Reg.DRAM_STATUS_RATE (if c.dram.rate = 0 then 4800 else c.dram.rate))
  let s := s.each (List.range 8) fun s j => s.wr (Reg.DRAM_PART_BASE_MIB.at j) (partitionBase c j)
  let s := s.each (List.range 8) fun s n =>
    (s.set (Reg.DRAM_CH_STATUS_POPULATED.at n) (decide (n < c.dram.channels))).wr (Reg.DRAM_CH_STATUS_ORG.at n)
      (if c.dram.gibPerChannel = 8 then 0 else if c.dram.gibPerChannel = 16 then 1 else 2)
  let s := (s.wr Reg.KEY_LIMIT_GCM_GCM_M1 (c.keys.gcm - 1)).wr Reg.KEY_LIMIT_XTS_LO_DU c.keys.xts
  let s := (s.wr Reg.KEY_LIMIT_XTS_HI_DU (c.keys.xts / 2 ^ 32)).wr Reg.KEY_LIMIT_CTR_LO_BYTES c.keys.ctr
  s.wr Reg.KEY_LIMIT_CTR_HI_BYTES (c.keys.ctr / 2 ^ 32)

/-- The channels' rates, and the interface event of each that fell back (R203). -/
def State.chartRates (s : State) (c : Chart) (tr : Training) : State :=
  s.each c.dies.chans fun s p => s.channelTrained c p.1 tr.rates

/-- MERIDIAN start (R507): the interval, the first multiple of it after the seal, and a full grant from zero balances. -/
def State.startMeridians (s : State) (us : Nat) : State :=
  let i := us * 1000
  let s := s.updTime fun t => { t with
    running := true, interval := i, nextMeridian := (t.sid / i + 1) * i, periodStart := t.sid, curStretched := false
    nextStretched := false }
  s.fullGrants

/-- The slots of the VFs are assigned anew (R68, R79): those of enabled VFs become ACTIVE; a VF above the new count stays enumerated,
and its controller reports CSTS.CFS = 1, EV0136 for its link. -/
def State.assignSlots (s : State) : State :=
  s.each s.linkList fun s l =>
    let x := s.link l
    if !x.vfEnable then s
    else
      let s := s.each (s.vfs l) fun s v => s.activate (s.fnOwner (.vf l v)) l
      let above := (s.enabledVfs l).filter (s.totalVfs l < ·)
      let s := s.each above fun s v => s.fatal (s.fnOwner (.vf l v))
      if above.isEmpty then s else s.event 136 [l]

/-- The domains that a chart leaves unused (R413). [DESIGN CHOICE, unsafe: log 97] -/
def State.chartDomains (s : State) : State :=
  let s := s.each (List.range 36) fun s d => if s.forcedOff d then s.toOff d else s
  let s := if s.chart.cur.dram.channels ≤ 4 && s.charted then s.toRetain 32 else s
  if s.boot.dbgUnlocked then s else s.toRetain 35

/-- The network ports follow the chart's modes (R277); the reset MAC addresses (R278). -/
def State.macs (s : State) : State :=
  s.each (List.range 16) fun s p =>
    let n := s.boot.otp.serial % 2 ^ 32
    (s.wr (Reg.NET_MAC_HI_BYTES_0_1.at p) (0x0A00 + n / 2 ^ 24)).wr (Reg.NET_MAC_LO_BYTES_2_5.at p) (n % 2 ^ 24 * 256 + p)

/-- With no source the clock is UNLOCKED, at zero correction (R47). [DEDUCED, unsafe: log 98] -/
def TimeState.sourceless (t : TimeState) : TimeState :=
  if t.source ≠ 0 then t
  else { t with lock := .unlocked, corr := 0, slewCorr := 0, slewLeft := none, holdStart := none, holdExpired := false }

/-- The sealed chart's time source (R47, Table CHT-6); another source than before counts as a lost one. [DEDUCED, unsafe: log 98] -/
def State.chartTime (s : State) (c : Chart) : State :=
  let s := if s.time.source ≠ c.time.source then s.sourceLost else s
  let s := s.updTime fun t => TimeState.sourceless { t with
    source := c.time.source, holdoverS := c.time.holdoverS
    ptp := if t.source = c.time.source then t.ptp else {}
    pps := if t.source = c.time.source then t.pps else {} }
  let s := (s.wr Reg.TIME_PPS_WINDOW_NS c.time.ppsWindow).wr Reg.TIME_MERIDIAN_US c.budget.meridianUs
  s.wr Reg.TIME_PTP_STAT_DOMAIN c.time.ptpDomain

/-- The fills that firmware runs after a cold or structural reset (R463 step 3, R465): partitions 0 to 4, then 6, then the hot
cache's, each as base and length in MiB. [DESIGN CHOICE, unsafe: log 99] -/
def firmwareFills (c : Chart) : List (Nat × Nat) :=
  let z := partitionSizes c
  ([(0, partitionBase c 5), (partitionBase c 6, z.getD 6 0), (partitionBase c 5, z.getD 5 0)]).filter fun e => e.2 != 0

/-- Start the next of the firmware's fills. [DESIGN CHOICE, unsafe: log 99] -/
def State.nextFill (s : State) : State :=
  match s.boot.fillQueue with
  | (b, n) :: l =>
    if s.boot.fillHeld || s.on Reg.DRAM_FILL_STATUS_BUSY then s
    else ((s.updBoot fun x => { x with fillQueue := l }).wr Reg.DRAM_FILL_BASE_MIB b).wr Reg.DRAM_FILL_LEN_MIB n |>.fillStart
  | [] => s

/-- The ranges that are in a batch on flash by their flush records, and not yet in complete rows (R152). -/
def State.flushRecords (s : State) : Map Wr := mapKeep s.wp.wr fun _ w => w.flushed && s.durable w && !w.rowsDone

/-- The completed ranges that are not durable (Table WRT-3). -/
def State.notDurable (s : State) : List (Nat × Nat × Nat) :=
  (s.wp.wr.filter fun e => decide (e.2.completed ≠ none) && !s.durable e.2).map fun e => (e.2.nsid, e.2.slba, e.2.nlb)

/-- The write buffer's content is lost: recovery is as after an unclean power loss (R162), with the flush records (R152). [DESIGN
CHOICE, unsafe: log 187] -/
def State.bufferLost (s : State) : State :=
  (s.updJr fun j => { j with flushed := s.flushRecords, lost := s.notDurable, unclean := true }).updWp fun p => { p with wr := [] }

/-- A chart comes into force: CHART_SEAL (R37), or the ROM safe chart (R36). After a warm reset whose chart has another DRAM
section, DRAM is as after a cold reset (R373). [DESIGN CHOICE, unsafe: log 187] -/
def State.seal (s : State) (source : Option Nat) (k : Container) (c : Chart) (fallback : Bool) (tr : Training) : State :=
  let warm := decide (s.chart.kind = .warm)
  let dramChanged := decide (s.chart.cur.dram ≠ c.dram)
  let v := fun (n : Nat) => if source.isSome then n else 0
  let s := s.updChart fun x => { x with
    phase := if source.isSome then .sealed else .safe, cur := c, safeInForce := source.isNone
    formatVersion := v k.formatVersion, serial := v k.serial, generation := v k.generation, fingerprint := v k.fingerprint
    timedOut := false }
  let s := (s.wr Reg.CHART_STATUS_SOURCE (source.getD 15)).set Reg.CHART_STATUS_FALLBACK fallback
  let s := if !warm then s.loadMasks else if dramChanged then s.loadMasks.clearGranules.bufferLost else s
  let s := (s.chartRegs c).chartRates c tr
  let s := s.chartTime c
  let s := { s with md := { mode := mapOfList 0 (c.cons.map fun (k : ChartCons) => k.stagger), shares := c.budget.shares } }
  let s := s.cellsReset.macs.chartDomains.assignSlots
  let s := s.updPair fun p => { p with fenceLowSince := if s.boot.pins.fenceIn then none else some s.time.now }
  let s := (s.startMeridians c.budget.meridianUs).wbufStart
  let s := if warm && !dramChanged then s else
    (s.updBoot fun b => { b with fillQueue := firmwareFills c, fillHeld := s.on Reg.BOOT_CFG_HOLD_FILL }).nextFill
  let s := s.updBoot fun b => { b with stepsDone := b.stepsDone ++ [2] }
  if source.isSome then s.event 12 [k.serial, k.generation] else s

/-! ### The load (R24, R35) -/

/-- Record a failed candidate (R35, R45): the slot's result, RESULT and SECTION; EV0008 for the slot first chosen, EV0010 for a
refused topology. -/
def slotResult (slot : Nat) : Field :=
  if slot = 0 then Reg.CHART_SLOT_RESULT_SLOT0 else if slot = 1 then Reg.CHART_SLOT_RESULT_SLOT1
  else if slot = 2 then Reg.CHART_SLOT_RESULT_SLOT2 else Reg.CHART_SLOT_RESULT_SLOT3

def State.candidateFails (s : State) (slot : Nat) (first : Bool) (k : Container) (code section_ : Nat) : State :=
  let s := ((s.wr (slotResult slot) code).wr Reg.CHART_STATUS_RESULT code).wr Reg.CHART_STATUS_SECTION section_
  let s := if code = 0x0F then s.event 10 [k.fingerprint, s.chart.flashFprint] else s
  if first then s.event 8 [slot, code] else s

/-- Try the candidates in order, and take the first that passes, else the ROM safe chart with EV0009. -/
def State.tryCharts (s : State) (tr : Training) (armed : Bool) (all : List Nat) : List Nat → State
  | [] =>
    let c := safeChart s.boot.straps tr
    let s := s.event 9 (s.namedSlots.map fun x => (s.rd (slotResult x) : Int))
    s.seal none default c (!all.isEmpty) tr
  | slot :: l =>
    let k := norChart s.boot.nor slot
    let first := decide (all.head? = some slot)
    match s.candidate slot k tr armed with
    | .inl e => (s.candidateFails slot first k e.1 e.2).tryCharts tr armed all l
    | .inr t =>
      let s := s.wr (slotResult slot) 0
      let s := match t with
        | .blank => s.formatFlash k tr false
        | .reformat => s.formatFlash k tr true
        | _ => s
      s.seal (some slot) k k.chart (!first) tr

/-- The fingerprint in the first format record found (Table CHT-10), after modules were exchanged, if any. [DESIGN CHOICE, safe: log
105] -/
def State.readRecords (s : State) (tr : Training) : State :=
  s.updChart fun c =>
    let l := tr.exchanged.getD c.records
    { c with records := l, flashFprint := (l.head?.map (·.fingerprint)).getD 0 }

/-- A chart load (R24, R35, R45). [DEDUCED, unsafe: log 154] -/
def State.loadChart (s : State) (tr : Training) (kind : LoadKind) : State :=
  let s := s.updChart fun c => { c with phase := .loading, kind := kind }
  let s := (s.wr Reg.CHART_STATUS_RESULT 0).wr Reg.CHART_STATUS_SECTION 0
  let s := ((s.set Reg.CHART_STATUS_REFORMATTED false).set Reg.CHART_STATUS_FORMATTED_BLANK false).set Reg.CHART_STATUS_FALLBACK false
  let armed := match kind with
    | .structural _ a => a
    | _ => false
  let slots := s.chartSlots kind
  let s := (s.readRecords tr).tryCharts tr armed slots slots
  let first := s.readRecords { tr with exchanged := none }
  first.wr Reg.BOOT_STATUS_STAGE 4

/-- CHART_LOAD (R35): the load of a cold or warm reset, once firmware runs. [DESIGN CHOICE, safe: log 105] -/
def execChartLoad (tr : Training) (s : State) : Host.Outcome State Fault Refusal :=
  effect s fun s =>
    if s.boot.running && decide (s.rd Reg.BOOT_STATUS_STAGE = 3) then s.loadChart tr (if s.boot.warm then .warm else .cold) else s

/-! ### Structural reset (R40, R41) -/

/-- CHART_CTRL (R40, R41, R303): refused with a wrong UNLOCK, or while a drain or a load runs; otherwise the drain starts, every
serve program stops, its command staying in flight, and a clock that is LOCKED goes to HOLDOVER (Table SID-3). [DEDUCED, unsafe:
log 110, 230] -/
def State.chartCtrl (s : State) (unlock : Nat) (kind : LoadKind) : State :=
  if unlock ≠ 0x4C59 then (s.bump Reg.CHART_REFUSED_COUNT).event 14
  else
    match s.chart.phase with
    | .draining => s.bump Reg.CHART_REFUSED_COUNT
    | .loading => s.bump Reg.CHART_REFUSED_COUNT
    | _ =>
      let s := if s.time.lock ≠ .locked then s else if s.time.isPtp then s.ptpDown else s.sourceLost
      let s := s.updChart fun c => { c with phase := .draining, kind := kind, timedOut := false }
      s.each (s.serveRefs fun _ => true) State.serveStop

def execChartCtrlLoad (unlock slot : Nat) (arm : Bool) (s : State) : Host.Outcome State Fault Refusal :=
  effect s fun s => s.chartCtrl unlock (.structural (slot % 4) arm)

def execChartCtrlSafe (unlock : Nat) (arm : Bool) (s : State) : Host.Outcome State Fault Refusal :=
  effect s fun s => s.chartCtrl unlock (.structuralSafe arm)

/-- The commands in flight end with a status: their buffered data that is not complete is dropped (R40, R148, R158). -/
def State.endInFlight (s : State) (p : CmdRef → Bool) (st : Status) : State :=
  let l := (s.q.cmds.filter fun e => p e.2.ref && s.runs e.2.ref).map fun e => e.2.ref
  let s := s.dropWrite fun w => l.contains w.ref && decide (w.completed = none)
  let s := s.endReads l id
  let s := s.endZoneOps l id
  s.each l fun s r => (s.serveStop r).finish r st

/-- CHART_DRAIN_TIMEOUT (R40 step 2): what is still in flight completes with Command Abort Requested. -/
def execChartDrainTimeout (s : State) : Host.Outcome State Fault Refusal :=
  effect s fun s =>
    if s.chart.phase ≠ .draining ∨ s.chart.timedOut = true then s
    else
      let s := s.endInFlight s.busyCommand .abortRequested
      s.updChart fun c => { c with timedOut := true }

/-- What the drain leaves on the flash (R40 step 3, R158): the last batch with the bitmap and the map, the almanac, and the buffered
data that no complete row has taken. [DEDUCED, unsafe: log 102] -/
def State.drainToFlash (s : State) : State :=
  let keep := s.wp.wr.filter fun e => e.2.got && !(e.2.rowsDone && s.durable e.2)
  let v := { s.nv with acks := [] }
  let s := s.updJr fun j => { j with
    closed := [], onFlash := j.openNo, openNo := j.openNo + 1, prev := j.disk, disk := v, waiting := [], late := false
    book := s.md.book, flushed := [], part := [], lost := [], unclean := false
    blocks := s.nv.blocks, rows := s.nv.rows }
  let s := s.updWp fun w => { w with duskRecord := some ⟨v, keep, w.duskMiB⟩ }
  s.flushAlmanac true

/-- STRUCTURAL_DRAIN_DONE (R40 steps 3 and 4): the buffer and the journal are on flash; connections close, controllers are reset,
the contexts are written back (R92), the blocks return to their reset values, and the chart is loaded. [DEDUCED, unsafe: log
110] -/
def State.structuralReset (s : State) (tr : Training) : State :=
  let s := (if s.charted then s.drainToFlash else s).writeBackAll
  let s := s.emit (s.net.qps.map fun e => Out.net "disconnect" [e.1])
  let kind := s.chart.kind
  let s := (s.blockReset false).wr Reg.BOOT_STATUS_LAST_RESET 6
  let s := { s with nv := {} }
  (s.loadChart tr kind).updBoot fun b => { b with warm := false, edition := s.boot.edition }

/-- The drain ends only once the commands in flight have completed, or have been aborted at the timeout (R40 step 2). -/
def execStructuralDrainDone (tr : Training) (s : State) : Host.Outcome State Fault Refusal :=
  effect s fun s =>
    if s.chart.phase = .draining ∧ (s.chart.timedOut = true ∨ s.unfinished true = false) then s.structuralReset tr else s

end Sys2Proof.Machine
end

