-- ==== Sys2Proof/Machine/Boot.lean ====
section
/-! DEFINITION. Cold reset, boot ROM and RECOVERY, the restore order, and the warm reset (spec/19 R456 to R471; spec/20
R482, R486; spec/21 R495, R500). -/

namespace Sys2Proof.Machine

/-- The boot stage. -/
def State.stage (s : State) : Nat := s.rd Reg.BOOT_STATUS_STAGE
/-- BOOT_STATUS.STAGE moves on. [DEDUCED, unsafe: log 104] -/
def State.toStage (s : State) (n : Nat) : State := s.wr Reg.BOOT_STATUS_STAGE n

/-- Milliseconds since the last cold or warm reset, saturating at 16 bits (Table STU-10). -/
def State.bootMs (s : State) : Nat := min ((s.time.now - s.boot.resetAt) / 1000000) 0xFFFF

/-! ### What a loss of power or a warm reset leaves (R149, R152, R156, R160) -/

/-- The rows as the dies hold them, for the sets that the newest batch on flash places where they are; the journalled rows of the
others. [DESIGN CHOICE, unsafe: log 101] -/
def State.rowsOnDies (s : State) : Map Row :=
  let t := { s with nv := s.jr.disk }
  let same := fun (k : Nat) => decide (s.setPlace (k / 4294967296) = t.setPlace (k / 4294967296))
  (mapKeep s.jr.disk.rows fun k _ => !same k).foldl (fun m e => mapSet m e.1 e.2) (mapKeep s.nv.rows fun k _ => same k)

/-- Has the journal been restored, so that the live tables stand for the dies? -/
def State.live (s : State) : Bool := s.charted && s.boot.stepsDone.contains 5

/-- The journal with what the dies physically hold. [DESIGN CHOICE, unsafe: log 101] -/
def State.dieImage (s : State) : Journal :=
  { s.jr with
    closed := [], waiting := [], late := false, openNo := s.jr.onFlash + 1
    blocks := if s.live then s.nv.blocks else s.jr.blocks
    rows := if s.live then s.rowsOnDies else s.jr.rows }

/-- What a loss of power leaves: after a completed drain the dusk record; otherwise the flush records, the ranges that an incomplete
drain may have programmed, and the completed ranges that are lost. [DESIGN CHOICE, unsafe: log 101] -/
def State.afterLoss (s : State) : Journal :=
  let j := s.dieImage
  if s.wp.duskRecord.isSome then j
  else
    let drained := decide (s.wp.dusk ≠ .idle)
    { j with
      flushed := s.flushRecords.foldl (fun m e => mapSet m e.1 e.2) (if s.live then [] else j.flushed)
      part := (mapKeep s.wp.wr fun _ w => w.got && drained).foldl (fun m e => mapSet m e.1 e.2) (if s.live then [] else j.part)
      lost := (if s.live then [] else j.lost) ++ s.notDurable
      unclean := j.unclean || s.live || !s.wp.wr.isEmpty }

/-- Is a purge owed at the next start-up (R329)? -/
def State.purgeOwed (s : State) : Bool := s.jr.purge || (s.key.wiped && s.on Reg.KEY_CFG_ALARM_PURGE)

/-- The state in cold reset (R482, R495): every field at its reset value, but for what the flash, the NOR devices, OTP and the
almanac's shadow in PD00 keep. SEQ resumes at the last persisted mark, and the operating seconds at those of the last flush
(R447). [DEDUCED, unsafe: log 106] -/
def State.coldReset (s : State) : State :=
  { pending := s.pending, freeCtr := s.freeCtr
    boot := { porN := false, nor := s.boot.nor, otp := s.boot.otp, editionsSeen := s.boot.editionsSeen }
    jr := { s.afterLoss with bookAt := 0, purge := s.purgeOwed }
    wp := { duskRecord := s.wp.duskRecord, duskLast := s.wp.duskLast, next := s.wp.next }
    chart := { records := s.chart.records, formatted := s.chart.formatted }
    alm := { seq := s.alm.mark, mark := s.alm.mark, flash := s.alm.flash, opSeconds := s.alm.opFlash, opFlash := s.alm.opFlash,
             powerCycles := s.alm.powerCycles, wrapped := s.alm.wrapped, shadow := s.alm.shadow, shadowLost := s.alm.shadowLost } }

/-- POR_N_ASSERT (R495). -/
def execPorNAssert (s : State) : Host.Outcome State Fault Refusal :=
  .next (if s.boot.porN then s.coldReset else { s with out := [] })

/-! ### The start of a cold reset (R462, R498) -/

/-- MANAGER_SELECT (R19): the manager that the straps give, and whether it is a substitution. -/
def selectManager (t : Straps) : Manager × Bool :=
  match strapManager t with
  | .mi => (.mi, false)
  | .pf l =>
    let w := if l = 0 then t.h0w else t.h1w
    let other := if l = 0 then t.h1w else t.h0w
    if w = 3 then (if other = 3 then (.mi, true) else (.pf (4 - l), true)) else (.pf l, t.mgr == 3)

/-- The debug policy (R486): 2 to 6 act as 7. -/
def policyOf (o : Otp) : Nat := if o.policy = 0 then 0 else if o.policy = 1 then 1 else 7

/-- POR_N_DEASSERT (R19, R316, R462, R486, R498, R500): the straps are latched, the manager is chosen, the boot watchdog and the
SRAM fill start; PD08 derives the KEK, the debug policy takes effect, and TAMPER_N low starts the alarm. [DESIGN CHOICE, unsafe:
log 10, 97] -/
def State.coldStart (s : State) (straps : Straps) (pins : Pins) (nor : Option Nor) : State :=
  let m := selectManager straps
  let o := s.boot.otp
  let s := { s with
    alm := { s.alm with powerCycles := s.alm.powerCycles + 1 }
    boot := { s.boot with
      porN := true, straps := straps, pins := pins, manager := m.1, nor := nor.getD s.boot.nor, policyInForce := policyOf o
      dbgUnlocked := decide (policyOf o = 0), jtagOpen := decide (policyOf o = 0), challenge := s.fresh } }
  let s := if s.boot.dbgUnlocked then s.nextFree else s.nextFree.toRetain 35
  let s := if o.kekSeed = 0 then s
    else (s.updKey fun k => { k with kek := some o.kek }).set Reg.KEY_STATUS_KEK_READY true
  let s := if m.2 then s.event 1129 [straps.mgr, straps.h0w, straps.h1w] else s
  if pins.tamperN then s else s.alarm Reg.KEY_ALARM_TAMPER 962

def execPorNDeassert (straps : Straps) (pins : Pins) (nor : Option Nor) (s : State) : Host.Outcome State Fault Refusal :=
  .next (if s.power.tripped || (s.boot.porN && s.boot.sramFilled) then { s with out := [] }
    else { s with out := [] }.coldStart straps pins nor)

/-- SRAM_FILL_DONE (R381): the control cores leave reset, and the boot ROM runs. -/
def execSramFillDone (s : State) : Host.Outcome State Fault Refusal :=
  effect s fun s => if s.boot.sramFilled then s else (s.updBoot fun b => { b with sramFilled := true }).toStage 1

/-- NOR_BUSY_WAIT_DONE (R459): EV1142; a device still busy after 10 s counts as unreadable. -/
def execNorBusyWaitDone (dev : Nat) (finished : Bool) (s : State) : Host.Outcome State Fault Refusal :=
  effect s fun s =>
    if !s.boot.sramFilled || s.boot.running || s.boot.recovery || decide (2 ≤ dev) then s
    else
      let s := (s.set Reg.BOOT_STATUS_NOR_WAITED true).event 1142 [dev]
      if finished then s
      else s.updBoot fun b => if dev = 0 then { b with nor0Failed := true } else { b with nor1Failed := true }

/-! ### The boot ROM (R457 to R461) -/

/-- The result of an activation pointer copy (R457): 0 valid, 1 wrong, 2 unreadable. -/
def ptrResult (failed : Bool) (p : PtrCopy) : Nat :=
  if failed || !p.readable then 2
  else if p.good then 0 else 1

/-- The result of the image of a firmware slot (R458, Table STU-4), against the IMAGE_HASH of the valid copies that name the slot,
where there is one. [DEDUCED, unsafe: log 111] -/
def imageResult (failed : Bool) (hashes : List Nat) (i : FwImage) : Nat :=
  if failed || !i.readable then 1
  else if i.field 0 4 != 0x57463954 then 2
  else if !i.formatOk then 3
  else if !i.bodyHashOk || (!hashes.isEmpty && !hashes.contains i.hash) then 4
  else if !i.sigOk then 5
  else 0

/-- The valid copies of the activation pointer. -/
def State.validPtrs (s : State) : List PtrCopy :=
  let n := s.boot.nor
  (if ptrResult s.boot.nor0Failed n.ptr0 = 0 then [n.ptr0] else []) ++
    if ptrResult s.boot.nor1Failed n.ptr1 = 0 then [n.ptr1] else []

/-- The copy that the boot ROM uses (R457): the higher SEQ, copy 0 on a tie. [DEDUCED, unsafe: log 112] -/
def State.ptrUsed (s : State) : Option PtrCopy :=
  match s.validPtrs with
  | [a, b] => some (if a.seq < b.seq then b else a)
  | l => l.head?

/-- The image of firmware slot `n`. -/
def norImage (x : Nor) (n : Nat) : FwImage := if n = 2 then x.fw2 else x.fw1

/-- Check a firmware slot (R458, R460, R471). [DEDUCED, unsafe: log 111] -/
def State.slotResult (s : State) (n : Nat) : Nat :=
  if bit (s.rd Reg.WDT_STATUS_BOOT_MARKS) (n - 1) then 6
  else imageResult (if n = 1 then s.boot.nor0Failed else s.boot.nor1Failed)
    ((s.validPtrs.filter fun p => p.slot == n).map (·.imageHash)) (norImage s.boot.nor n)

/-- Firmware starts (R460, R462, Table REG-6): from a slot, or slot 0 for a recovery image. EV1140 at an edition's first boot. -/
def State.startFirmware (s : State) (slot : Nat) (i : FwImage) : State :=
  let s := ((s.wr Reg.BOOT_STATUS_FW_SLOT slot).wr Reg.BOOT_STATUS_EDITION i.edition).toStage 3
  let s := (s.wr Reg.DEV_FW_EDITION i.edition).wr Reg.DEV_FW_SLOT slot
  let s := (s.wr Reg.DEV_FW_REV_LO_REVISION i.revision).wr Reg.DEV_FW_REV_HI_REVISION (i.revision / 4294967296)
  let new := !s.boot.editionsSeen.contains i.edition
  let s := s.updBoot fun b => { b with
    running := true, edition := i.edition, image := some i, booting := slot, detectorsArmed := true
    editionsSeen := if new then b.editionsSeen ++ [i.edition] else b.editionsSeen }
  if new then s.event 1140 [i.edition] else s

/-- RECOVERY_ENTRY (R461): EV1137. The first candidate is PF0 of H0.0; of H1.0 where H0 is strapped disabled. RECOVERY has no
timeout, so the boot watchdog stops. [DEDUCED, unsafe: log 113] -/
def State.enterRecovery (s : State) : State :=
  let s := s.updBoot fun b => { b with recovery := true, recoveryLink := none, recoveryWaited := false, detectorsArmed := true }
  let s := ((s.toStage 9).wr Reg.BOOT_STATUS_FW_SLOT 0).set Reg.WDT_STATUS_BOOT_RUNNING false
  let s := s.updBoot fun b => { b with manager := .pf (if s.hasLink 0 then 0 else 4) }
  let s := s.event 1137
  match [0, 4].find? fun l => s.recoveryTakes l && s.on (Reg.HOST_LINK_STATUS_UP.at l) with
  | some l => s.recoveryManager l
  | none => s

/-- FIRMWARE_BOOT (R457, R460, R461, R471). [DEDUCED, unsafe: log 112; DESIGN CHOICE, unsafe: log 114] -/
def State.firmwareBoot (s : State) : State :=
  let n := s.boot.nor
  let r0 := ptrResult s.boot.nor0Failed n.ptr0
  let r1 := ptrResult s.boot.nor1Failed n.ptr1
  let s := (s.wr Reg.BOOT_FW_RESULT_PTR0 r0).wr Reg.BOOT_FW_RESULT_PTR1 r1
  let s := (s.wr Reg.BOOT_PTR_SEQ0_SEQ (if r0 = 0 then n.ptr0.seq else 0)).wr Reg.BOOT_PTR_SEQ1_SEQ (if r1 = 0 then n.ptr1.seq else 0)
  let s := (s.wr Reg.BOOT_FW_RESULT_SLOT1 15).wr Reg.BOOT_FW_RESULT_SLOT2 15
  let s := (s.set Reg.BOOT_STATUS_FW_FALLBACK false).toStage 2
  let s := if r0 = 0 then s else s.event 1131 [0, r0]
  let s := if r1 = 0 then s else s.event 1131 [1, r1]
  let a := (s.ptrUsed.map (·.slot)).getD 1
  let b := 3 - a
  let put := fun (s : State) (n r : Nat) => s.wr (if n = 1 then Reg.BOOT_FW_RESULT_SLOT1 else Reg.BOOT_FW_RESULT_SLOT2) r
  let s := s.wr Reg.BOOT_STATUS_NEXT_SLOT a
  if s.boot.straps.boot then s.enterRecovery
  else
    let ra := s.slotResult a
    let s := put s a ra
    if ra = 0 then s.startFirmware a (norImage n a)
    else
      let rb := s.slotResult b
      let s := (put s b rb).event 1130 [a, ra]
      if rb = 0 then (s.set Reg.BOOT_STATUS_FW_FALLBACK true).startFirmware b (norImage n b) else s.enterRecovery

def execFirmwareBoot (s : State) : Host.Outcome State Fault Refusal :=
  effect s fun s => if s.boot.sramFilled && !s.boot.running && !s.boot.recovery then s.firmwareBoot else s

/-- RECOVERY_LINK_RETRY (R461): 1 s has passed and neither candidate link has carried the manager; the boot ROM retrains both and
takes the first that trains, H0.0 if both do. -/
def execRecoveryLinkRetry (h0 h1 : Bool) (s : State) : Host.Outcome State Fault Refusal :=
  effect s fun s =>
    if !s.boot.recovery || decide (s.stage ≠ 9) || decide (s.boot.recoveryLink ≠ none) then s
    else
      let s := s.updBoot fun b => { b with recoveryWaited := true }
      if h0 && s.recoveryTakes 0 then s.recoveryManager 0
      else if (h1 || s.on (Reg.HOST_LINK_STATUS_UP.at 4)) && s.recoveryTakes 4 then s.recoveryManager 4
      else s

/-- BOOT_REC_LOAD (R461): an image read by DMA is checked under R458 but for the pointer match; a valid one runs on the ROM safe
chart, EV1138. A DMA error gives RESULT 1. -/
def State.recLoad (s : State) (unlock : Nat) (image : Option FwImage) : State :=
  s.unlocked unlock 0x4252 fun s =>
    if s.stage ≠ 9 then s
    else match image with
      | none => s.wr Reg.BOOT_REC_STATUS_RESULT 1
      | some i =>
        let r := imageResult false [] i
        let s := s.wr Reg.BOOT_REC_STATUS_RESULT r
        if r = 0 then (s.event 1138 [i.edition]).startFirmware 0 i else s

def execBootRecLoad (unlock : Nat) (image : Option FwImage) (s : State) : Host.Outcome State Fault Refusal :=
  effect s fun s => s.recLoad unlock image

/-! ### Restore: almanac, DRAM, block table (R214, R447, R449, R463) -/

def State.restoreDone (s : State) (n : Nat) : State :=
  s.updBoot fun b => { b with stepsDone := if b.stepsDone.contains n then b.stepsDone else b.stepsDone ++ [n] }

/-- Step 1 (R447, R449): the counters are resumed, EV1121 where a gap is left; the shadow moves into the ring with SHADOW = 1, and
EV1120 counts what found it full. [DEDUCED, unsafe: log 25, 106, 107] -/
def State.restoreAlmanac (s : State) : State :=
  if s.alm.resumed then s
  else
    let last := (s.alm.flash.head?.map (·.seq)).getD 0
    let old := s.alm.shadow.reverse
    let lost := s.alm.shadowLost
    let s := s.updAlm fun a => { a with resumed := true, shadow := [], shadowLost := 0 }
    let s := if last = s.alm.seq then s else s.event 1121 [last]
    let s := s.updAlm fun a => old.foldl AlmState.push a
    if lost = 0 then s else s.event 1120 [lost]

/-- Are the granules of a range filled? -/
def State.covered (s : State) (b n : Nat) : Bool := n == 0 || s.dram.filled.any fun r => decide (r.1 ≤ b) && decide (b + n ≤ r.1 + r.2)

/-- Step 3 (R463): partitions 0 to 4 and 6 are filled, or keep their content over a warm reset. -/
def State.dramRestored (s : State) : Bool :=
  let c := s.chart.cur
  (decide (s.chart.phase = .sealed) || decide (s.chart.phase = .safe)) &&
    s.covered 0 (partitionBase c 5) && s.covered (partitionBase c 6) ((partitionSizes c).getD 6 0)

/-- A block's entry as the restore corrects it (R214): `p` is what its die holds. -/
def correctBlock (unclean : Bool) (x p : Block) : Block :=
  if x.st = .erasing then { x with st := .suspect }
  else if x.st = .erased ∨ x.st = .open_ then
    { x with
      nextPage := p.nextPage, st := if p.nextPage = 0 then x.st else .open_
      lwAssay := x.lwAssay || (unclean && decide (p.nextPage ≠ 0)) }
  else x

/-- Step 4 (R214): the block state table and the wear counts; erases stay held on the dies whose entries are still to come. -/
def State.restoreBlocks (s : State) (f : Found) : State :=
  let d := s.jr.disk
  let s := s.modNv fun v => { v with
    blocks := mapAll d.blocks fun k x => correctBlock s.jr.unclean x (mapGet s.jr.blocks k x)
    sets := d.sets, spare0 := d.spare0, cycles := d.cycles }
  let ready := s.allDies.filter fun x => !f.diesLeft.contains x
  let all := decide (ready.length = s.allDies.length)
  (s.updMd fun m => { m with restoredDies := ready, wearRestored := all }).set Reg.MEDIA_STATUS_WEAR_RESTORED all

/-- The block sets that nothing holds and that are not wholly erased wait for their erase. A block that the newest batch has as written
was released by a batch, and becomes SUSPECT; one that was programmed since stays OPEN (R214). -/
def State.releaseUnheld (s : State) : State :=
  s.each s.allDies fun s d => s.each (s.setsOf d) fun s b =>
    let l := s.setBlocks d b
    if s.setHeld d b || (l.all fun k => decide ((s.block d k).st = .erased)) then s
    else
      let released := fun (k : Nat) => let r := (mapGet s.jr.disk.blocks (blockKey d k) {}).st; decide (r = .open_ ∨ r = .full)
      let s := s.each (l.filter released) fun s k => if (s.block d k).st = .retired then s else s.modBlock d k fun x => { x with st := .suspect }
      s.updZone fun z => { z with released := (z.released.filter fun e => e.1 != blockKey d b) ++ [(blockKey d b, 0)] }

/-- The blocks and the maps are back: what nothing holds waits for its erase, and a die at FINAL_RESERVE makes the device read-only at once
(R239, R241); a die that had come to SPARE_MIN before records EV0024 no more (R237). -/
def State.blocksBack (s : State) : State :=
  let s := s.releaseUnheld.updMd fun m => { m with
    spareWarned := s.allDies.filter fun d => s.dieUp d && decide (s.spares d ≤ s.chart.cur.media.spareMin) }
  s.each s.allDies State.spareUpdate

/-! ### Restore: after an unclean power loss (R156, R160, R162) -/

/-- Is the data unit of a 4 KiB offset of a set programmed? -/
def State.programmedAt (s : State) (set col o : Nat) : Bool :=
  let p := s.rowOf col o
  let x := s.row set p.1
  x.passed.contains p.2 || (x.out.contains p.2 && s.rowComplete set p.1)

/-- The first 4 KiB offset of a set, from `a` on, whose page is unprogrammed. -/
def State.firstBlank (s : State) (set col a : Nat) : Nat :=
  (((List.range (s.zcap4k - a)).map (a + ·)).find? fun o => !s.programmedAt set col o).getD s.zcap4k

/-- The dusk ranges of a zone that the dusk blocks prove durable, by offset and length. [DEDUCED, unsafe: log 118] -/
def provedOf (part : Map Wr) (proved : List Nat) (nsid z : Nat) : List (Nat × Nat) :=
  (part.filter fun e => proved.contains e.1 && e.2.nsid == nsid && decide (e.2.zone = some z)).map fun e => (e.2.offset, e.2.nlb)

/-- R156: a zone's WP is its last committed pointer, and passes what the dusk blocks prove; the blocks up to the first unprogrammed
one are voided under R124, EV0042, with EV0055 and Zone Descriptor Changed; a void of a range above that pointer has left
nothing there. [DEDUCED, unsafe: log 117, 118] -/
def State.recoverZone (s : State) (nsid z : Nat) (ready : List (Nat × Nat)) : State :=
  match s.ns? nsid with
  | none => s
  | some n =>
    let x := s.zoneAt nsid z
    match x.column with
    | none => s
    | some col =>
      let a := passWp x.voids ready (x.voids.length + ready.length + 1) x.committed
      let b := max a (s.firstBlank (zoneKey nsid z) col (a / n.per4k) * n.per4k)
      let below := x.voids.filterMap fun v => if v.1 < b then some (v.1, min v.2 (b - v.1)) else none
      let s := s.modZone nsid z fun x => { x with
        wp := b, reserved := b, voids := if a < b then below ++ [(a, b - a)] else below
        st := if x.st = .full ∧ b < s.zcap n then .closed else if b = s.zcap n ∧ x.st.active = true then .full else x.st }
      if a < b then
        let s := (s.event 42 [nsid, z, a, b - a]).event 55 [nsid, z, a, b]
        s.each (s.attachees nsid) fun s o => s.aen o 2 0xEF 0xBF
      else s

/-- Did the dusk blocks bring a range back: proved, and in a zone below its WP? [DEDUCED, unsafe: log 118] -/
def State.broughtBack (s : State) (proved : List Nat) (k : Nat) (w : Wr) : Bool :=
  proved.contains k && match w.zone with
    | some z => decide (w.offset + w.nlb ≤ (s.zoneAt w.nsid z).wp)
    | none => true

/-- A range as it comes back to the buffer: its command is long gone. -/
def Wr.returned (w : Wr) : Wr := { w with completed := some 0, acked := true, needAck := false, patchData := false, patchParity := false }

/-- A conventional range takes new slots. [DEDUCED, unsafe: log 119] -/
def State.newSlots (s : State) (k : Nat) (w : Wr) : State :=
  match w.zone, s.ns? w.nsid with
  | none, some n =>
    match s.takeSlots w.nsid w.handle n (s.granulesOf n w.slba w.nlb) with
    | some (l, s) => s.updWp fun p => { p with wr := mapMod p.wr k fun x => { x with ru := l } }
    | none => s
  | _, _ => s

/-- Put a range into the buffer that is in no batch: it is programmed and committed anew. -/
def State.reenter (s : State) (k : Nat) (w : Wr) : State :=
  let w := { w.returned with rowsDone := false, committed := none, flushed := w.inDusk, rmw := false, ru := [], dealloc := [] }
  (s.updWp fun p => { p with wr := mapSet p.wr k w }).newSlots k w

/-- The granules of a held reclaim unit whose rows are programmed are taken. -/
def State.takenOnDies (s : State) : State :=
  s.each s.nv.rus fun s e =>
    let set := ruKey e.1
    let used := ((s.nv.rows.filter fun r => r.1 / 4294967296 == set && !r.2.passed.isEmpty).map fun r => r.1 % 4294967296 + 1).foldl max 0
    let g := s.granule4k
    let t := ((List.range (s.ruGranules + 1)).find? fun t =>
      decide (e.2.taken ≤ t) && decide (used ≤ (s.rowOf e.2.column (t * g)).1)).getD s.ruGranules
    s.modNv fun v => { v with rus := mapMod v.rus e.1 fun r => { r with taken := t } }

/-- A completed range is lost (Table WRT-3, R163, R407): logged where an acknowledgement record names it, as POWER_LOSS or
DUSK_INCOMPLETE; in M0 the companion may still return it. -/
def State.rangeLost (s : State) (kind : Nat) (l : Nat × Nat × Nat) : State :=
  let named := s.jr.disk.acks.any fun a => a.nsid == l.1 && decide (a.slba < l.2.1 + l.2.2) && decide (l.2.1 < a.slba + a.nlb)
  if s.isPair then
    let s := s.diverge l.1 l.2.1 l.2.2
    if named then s.updPair fun p => { p with lostRanges := p.lostRanges ++ [(l.1, l.2.1, l.2.2, kind)] } else s
  else if named then s.deferredError l.1 l.2.1 l.2.2 kind
  else s

/-- Recovery after an unclean power loss (R156, R160, R162). -/
def State.recover (s : State) (proved : List Nat) : State :=
  let j := s.jr
  let s := s.each s.nv.zones fun s e =>
    s.recoverZone (e.1 / 4294967296) (e.1 % 4294967296) (provedOf j.part proved (e.1 / 4294967296) (e.1 % 4294967296))
  let s := s.takenOnDies
  let back := j.part.filter fun e => s.broughtBack proved e.1 e.2 && !mapHas j.flushed e.1
  let s := s.each back fun s e => s.reenter e.1 { e.2 with inDusk := true }
  let kept := back.map fun e => (e.2.nsid, e.2.slba, e.2.nlb)
  let s := s.each (j.lost.filter fun l => !kept.contains l) fun s l => s.rangeLost (if j.part.isEmpty then 3 else 4) l
  s.commitAll.updJr fun j => { j with part := [], lost := [], unclean := false }

/-! ### Restore: journal and keys (R259, R264, R322, R326, R329) -/

/-- The wrapped key of a bound system slot is unwrapped, with COUNT at its mark; where no copy survives or it does not unwrap, its
namespaces stay not ready, EV0970. [DEDUCED, unsafe: log 120, 157] -/
def State.restoreKey (s : State) (bad : List Nat) (k : Nat) : State :=
  match mapGet? s.nv.keys k with
  | some (key, mark) =>
    if bad.contains k ∨ s.key.kek = none then
      s.each (s.boundTo k) fun s n => (s.updKey fun x => { x with notRestored := x.notRestored ++ [n] }).event 970 [n, k]
    else s.updKey fun x => { x with slots := mapSet x.slots k ⟨decide (s.keyLimit .xts ≤ mark), .xts, systemOwner, key, mark⟩ }
  | none =>
    s.each (s.boundTo k) fun s n => (s.updKey fun x => { x with notRestored := x.notRestored ++ [n] }).event 970 [n, k]

/-- The key store is restored (R322, R326). [DEDUCED, unsafe: log 116] -/
def State.restoreKeys (s : State) (bad : List Nat) : State :=
  if s.key.wiped then s
  else s.each ((s.nv.ns.filterMap fun e => e.2.keySlot).eraseDups) fun s k => s.restoreKey bad k

/-- R329: the data of every namespace is discarded as under R323, with new keys in the bound slots. [DEDUCED, unsafe: log 116] -/
def State.purge (s : State) : State :=
  let s := s.each (s.nv.ns.map (·.1)) State.discardNs
  let s := if s.key.wiped then s
    else s.each ((s.nv.ns.filterMap fun e => e.2.keySlot).eraseDups) fun s k =>
      let g := s.drbgKey
      let s := g.2.putKey k .xts systemOwner g.1
      s.updKey fun x => { x with notRestored := x.notRestored.filter fun n => !(s.boundTo k).contains n }
  s.updJr fun j => { j with purge := false }

/-- A member as a start finds it (R264): ISOLATING becomes FAILED; a FAILED one's domain is off. -/
def memberAtStart (m : Member) : Member := if m.st = .isolating then { m with st := .failed } else m

/-- The ranges of flush records come back to the buffer (R152). [DEDUCED, unsafe: log 102] -/
def State.flushedBack (s : State) : State :=
  let l := s.jr.flushed
  let s := s.updWp fun p => { p with
    wr := l.foldl (fun m e => mapSet m e.1 e.2.returned) p.wr, next := (l.map (·.1)).foldl max p.next + 1 }
  s.updJr fun j => { j with flushed := [] }

/-- ADMIN_READY (R464): EV1128 with the stage times, the boot watchdog stops, and the waiting controllers become ready. -/
def State.toAdminReady (s : State) : State :=
  let s := (s.toStage 6).wr Reg.BOOT_TIME_ADMIN_MS s.bootMs
  let s := (s.set Reg.WDT_STATUS_BOOT_RUNNING false).event 1128 [s.bootMs]
  s.openControllers

/-- The regions in which a block has pages. -/
def State.regionsOf (s : State) (d b : Nat) : List Nat :=
  let a := s.regionOf d b 0
  (List.range (s.regionOf d b ((s.kindOf d).pagesPerBlock - 1) - a + 1)).map (a + ·)

/-- Step 5 (R259, R264, R322, R405): the newest batch that has an intact copy, the members, the keys; then recovery where the last
end was unclean. [DEDUCED, unsafe: log 92] -/
def State.restoreJournal (s : State) (f : Found) : State :=
  let n := f.copies + f.companion.toNat
  let j := s.jr
  let base := if n = 0 then j.prev else j.disk
  let four := s.boot.stepsDone.contains 4
  let s := s.modNv fun v => { base with
    rows := if s.charted then j.rows else []
    blocks := if four then v.blocks else base.blocks
    sets := if four then v.sets else base.sets
    members := mapAll base.members fun _ m => memberAtStart m
    pairSt := if s.isPair then .joining else .notM0 }
  let s := s.updPair fun p => { p with cameFrom := base.pairSt }
  let total := fun (k : Nat) => ((mapGet? base.ns (k % 4294967296)).map (·.deferred.total)).getD 0
  let s := s.modNv fun v => { v with attach := mapAll v.attach fun k x => max x (min (mapGet j.seen k 0) (total k)) }
  let s := s.updZone fun z => { z with openSeq := (base.zones.map (·.2.openSeq)).foldl max z.openSeq }
  let s := if !s.charted then s
    else if n = 1 then s.event 841
    else if n = 0 then
      let opened := (s.nv.blocks.filter fun e => decide (e.2.st = .open_)).map fun e => s.regionsOf (e.1 / 65536) (e.1 % 65536)
      (s.updMd fun m => { m with resyncFull := true, resyncLeft := (base.dirty ++ opened.flatten).eraseDups }).event 842
    else s
  let s := s.each (s.nv.members.filter fun e => decide (e.2.st = .failed)) fun s e => s.toOff (15 + e.1)
  let s := s.each (s.nv.members.filter fun e => decide (e.2.st = .rebuilding)) fun s e =>
    let first := decide (0 < e.2.total) || !e.2.rebuilt.isEmpty
    let s := s.updMd fun m => { m with rebuildQueue := if first then e.1 :: m.rebuildQueue else m.rebuildQueue ++ [e.1] }
    if !first then s else (s.updMd fun m => { m with rebuiltUnits := e.2.rebuilt.length }).wr Reg.CRU_REBUILD_TOTAL_UNITS (e.2.total / 1024)
      |>.wr Reg.CRU_REBUILD_DONE_UNITS (e.2.rebuilt.length / 1024)
  let s := s.restoreKeys f.keysBad
  let s := if j.purge then s.purge else s
  let s := s.flushedBack
  let s := if j.unclean then s.recover f.proved else s
  let s := s.modNv fun v => { v with acks := [] }
  let s := s.duskRegs.consUpdate.wbufUpdate
  (s.restoreDone 5).toAdminReady

/-! ### Restore: the write buffer (R159, R471) -/

/-- Step 7 after a drain (R159): the dusk record's data is back; EV1143. The ranges count as flushed until their rows are
programmed, and the dusk blocks are erased then. [DEDUCED, unsafe: log 102] -/
def State.duskReplay (s : State) (r : DuskRecord) : State :=
  let s := s.updWp fun p => { p with
    wr := r.wrs.foldl (fun m e => mapSet m e.1 { e.2.returned with flushed := true, inDusk := true }) p.wr
    next := (r.wrs.map (·.1)).foldl max p.next + 1, duskRecord := none }
  let s := s.commitAll
  let s := s.updJr fun j => { j with onFlash := j.openNo, openNo := j.openNo + 1, prev := j.disk, disk := s.nv }
  s.event 1143 [r.mib]

/-- The ranges of a zone after a warm reset, in order (R471): the data that was wholly in the buffer re-enters, the rest is voided,
and the zone's WP passes over both. [DEDUCED, unsafe: log 117, 119] -/
def State.rejoinZone (s : State) (nsid z : Nat) (l : Map Wr) : State :=
  match s.ns? nsid with
  | none => s
  | some n =>
    let s := s.modZone nsid z fun x => { x with wp := passWp x.voids [] (x.voids.length + 1) x.committed }
    let s := if (s.zoneAt nsid z).column.isSome then s
      else match s.openZone nsid z n false with
        | .ok s => s
        | _ => s
    if (s.zoneAt nsid z).column.isNone then s
    else
      let s := s.each l fun s e =>
        let at_ := (s.zoneAt nsid z).wp
        let s := if at_ < e.2.offset then s.voidRange nsid z at_ (e.2.offset - at_) else s
        if e.2.offset < (s.zoneAt nsid z).wp then s
        else if e.2.got then (s.reenter e.1 e.2).advanceWp nsid z
        else s.voidRange nsid z e.2.offset e.2.nlb
      s.modZone nsid z fun x => { x with reserved := x.wp }

/-- Step 7 after a warm reset (R471): every range whose data was wholly in the buffer is programmed; the rest is dropped. With
invalid headers EV1144, and recovery as after an unclean power loss. [DEDUCED, unsafe: log 119; DESIGN CHOICE, unsafe: log 187]
-/
def State.warmReplay (s : State) (f : Found) : State :=
  let old := s.wp.wr
  if old.isEmpty then s
  else if !f.headersOk then
    (s.bufferLost.event 1144).flushedBack.recover []
  else
    let stay := mapKeep old fun _ w => s.durable w && !w.rowsDone
    let back := mapKeep old fun _ w => !s.durable w
    let s := s.updWp fun p => { p with wr := mapAll stay fun _ w => w.returned }
    let s := s.takenOnDies
    let zones := ((back.filterMap fun e => e.2.zone.map fun z => (e.2.nsid, z))).eraseDups
    let s := s.each zones fun s e => s.rejoinZone e.1 e.2 (mapKeep back fun _ w => w.nsid == e.1 && decide (w.zone = some e.2))
    (s.each (back.filter fun e => e.2.zone.isNone && e.2.got) fun s e => s.reenter e.1 e.2).commitAll

/-- The assays of step 7 (Table MED-9): the last programmed wordline of each block with LW_ASSAY = 1. -/
def State.wordlineAssays (s : State) : State :=
  s.each (s.nv.blocks.filter fun e => e.2.lwAssay && decide (e.2.nextPage ≠ 0)) fun s e =>
    let d := e.1 / 65536
    let n := s.setPages d [e.1 % 65536]
    s.each (List.range n) fun s p => s.sendOp d (s.makeOp d .read [e.1 % 65536] (e.2.nextPage - n + p) (.assay 0))

/-- Step 7 (R159, R222, R261, R471): the dusk replay or the write buffer, the resync of the journalled and the open rows, the last
wordlines. [DEDUCED, unsafe: log 104] -/
def State.replay (s : State) (f : Found) : State :=
  let s := match s.wp.duskRecord with
    | some r => s.duskReplay r
    | none => s.warmReplay f
  let s := s.each f.rows fun s r => s.resyncRow r.1 r.2.1 r.2.2.1 r.2.2.2
  (s.wordlineAssays.wbufUpdate.restoreDone 7).duskErase

/-! ### Restore: readiness (R463, R464) -/

/-- NAMESPACE_READY (R464): a namespace becomes ready when the steps that gate it are done, unless it is held under R322; when every
one is ready or held, the stage is READY, EV1132. [DEDUCED, unsafe: log 104] -/
def State.readiness (s : State) : State :=
  let done := fun n => s.boot.stepsDone.contains n
  let ok := fun (e : Nat × Ns) => done 5 && done 7 && (e.2.zoned || done 6) && !s.key.notRestored.contains e.1
  let new := (s.nv.ns.filter fun e => ok e && !s.key.keyReady.contains e.1).map (·.1)
  let s := s.updKey fun k => { k with keyReady := k.keyReady ++ new }
  if s.stage ≠ 6 ∧ s.stage ≠ 7 then s
  else if s.nv.ns.all fun e => s.key.keyReady.contains e.1 || s.key.notRestored.contains e.1 then
    ((s.toStage 8).wr Reg.BOOT_TIME_READY_MS s.bootMs).event 1132
  else if s.boot.stepsDone.contains 6 then s.toStage 7
  else s

/-- Does a step wait for another: its gates in Table STU-5? [DEDUCED, unsafe: log 103] -/
def State.stepOpen (s : State) (n : Nat) : Bool :=
  let done := fun n => s.boot.stepsDone.contains n
  if n = 1 then true
  else if n = 3 then done 2
  else if n ≤ 6 then done 3
  else if n = 7 then done 5
  else n == 8 && done 5

/-- A step of the restore on the ROM safe chart (R36): there is no member, no namespace and no tenant, and the flash is left alone. -/
def State.safeStep (s : State) (n : Nat) : State :=
  let s := s.restoreDone n
  (if n = 5 then (s.modNv fun v => { v with pairSt := .notM0 }).toAdminReady else s).readiness

/-- RESTORE_STEP (R463, Table STU-5). Step 2 is the chart load, a command of its own. In M0, step 5 waits for the Bulum link (R466).
[DEDUCED, unsafe: log 103] -/
def State.restoreStep (s : State) (n : Nat) (f : Found) : State :=
  let again := s.boot.stepsDone.contains n && !(n == 4 && !s.md.wearRestored)
  if !s.boot.running || again || !s.stepOpen n then s
  else if n = 1 then s.restoreAlmanac.restoreDone 1
  else if n = 3 then (if s.dramRestored then (s.restoreDone 3).toStage 5 else s)
  else if !s.charted && 4 ≤ n && n ≤ 8 then s.safeStep n
  else if n = 4 then
    let s := if s.boot.stepsDone.contains 4 then
        let ready := s.allDies.filter fun x => !f.diesLeft.contains x
        let all := decide (ready.length = s.allDies.length)
        (s.updMd fun m => { m with restoredDies := ready, wearRestored := all }).set Reg.MEDIA_STATUS_WEAR_RESTORED all
      else (s.restoreBlocks f).restoreDone 4
    if s.boot.stepsDone.contains 5 then s.blocksBack else s
  else if n = 5 then
    if s.isPair && !s.pair.linkUp then s.updBoot fun b => { b with bulumWait := true, found := some f }
    else
      let s := ((s.restoreJournal f).updBoot fun b => { b with bulumWait := false, found := none }).pairJoins
      (if s.boot.stepsDone.contains 4 then s.blocksBack else s).readiness
  else if n = 6 then (s.restoreDone 6).readiness
  else if n = 7 then (s.replay f).readiness
  else if n = 8 then
    ((s.updMd fun m => { m with book := s.jr.book }).set Reg.MEDIA_STATUS_BOOK_RESTORED true).event 29 |>.restoreDone 8
  else s

def execRestoreStep (n : Nat) (found : Found) (s : State) : Host.Outcome State Fault Refusal :=
  effect s fun s => s.restoreStep n found

/-- Step 5 proceeds after its wait for the Bulum link (R466). -/
def State.endBulumWait (s : State) (companion : Bool) : State :=
  match s.boot.found with
  | some f =>
    if !s.boot.bulumWait then s
    else
      let s := ((s.restoreJournal { f with companion := f.companion && companion }).updBoot fun b =>
        { b with bulumWait := false, found := none }).pairJoins
      (if s.boot.stepsDone.contains 4 then s.blocksBack else s).readiness
  | none => s

/-- PAIR_JOURNAL_WAIT_EXPIRY (R466): the local copies alone. -/
def execPairJournalWaitExpiry (s : State) : Host.Outcome State Fault Refusal := effect s fun s => s.endBulumWait false

/-- BULUM_LINK_TRAINED (R394, R395, R466). -/
def execBulumLinkTrained (lanes : Nat) (s : State) : Host.Outcome State Fault Refusal :=
  effect s fun s =>
    let s := s.bulumTrained lanes
    if s.pair.linkUp then s.endBulumWait true else s

/-! ### The held fill (R465) -/

/-- The hold of the fill ends. -/
def State.releaseFill (s : State) : State := (s.updBoot fun b => { b with fillHeld := false }).nextFill

def execFillHoldTimeout (s : State) : Host.Outcome State Fault Refusal :=
  effect s fun s => if s.boot.fillHeld then s.releaseFill else s

/-- FILL_GO (R465, R481). -/
def State.fillGo (s : State) : State := if s.boot.fillHeld then s.releaseFill else s

def execFillGo (unlock : Nat) (s : State) : Host.Outcome State Fault Refusal :=
  effect s fun s => s.unlocked unlock 0x4257 State.fillGo

/-- DRAM_FILL_DONE (R382, R383, R463): the requests that waited for the range proceed, in order, and firmware's next fill
starts. -/
def execDramFillDone (s : State) : Host.Outcome State Fault Refusal :=
  effect s fun s =>
    let w := s.dram.waiting
    let s := (s.updDram fun d => { d with waiting := [] }).fillEnds
    (s.each w fun s r => s.dramRequest r).nextFill

/-! ### Warm reset (R470) -/

/-- A warm reset is asked for: EV1141 with the cause; fetch and completions stop, associations end, heartbeats stop. [DESIGN CHOICE,
unsafe: log 11] -/
def State.askWarm (s : State) (cause : Nat) : State :=
  if s.boot.resetAsked.isSome then s
  else
    let s := (s.event 1141 [cause]).updBoot fun b => { b with resetAsked := some cause }
    let s := s.updQ fun q => { q with stopped := true }
    let s := s.each (s.net.assocs.map (·.1)) State.endAssociation
    s.updPair fun p => { p with heartbeats := false }

/-- WARM (R470, R481): a BOOT_CTRL write. -/
def execWarm (unlock : Nat) (s : State) : Host.Outcome State Fault Refusal :=
  effect s fun s => s.unlocked unlock 0x4257 fun s => s.askWarm 2

/-- WARM_RESET (R470, Table REG-4): the programs have run to their end, the dies are reset, DRAM is in self-refresh, and the boot
ROM runs from step 3 of Table STU-6. [DESIGN CHOICE, unsafe: log 11] -/
def State.warmReset (s : State) (cause : Nat) : State :=
  let j := s.dieImage
  let s := s.blockReset true
  let s := { s with nv := {}, jr := j }
  let s := s.updWp fun p => { p with wr := if p.duskRecord.isSome then [] else p.wr }
  let s := s.updBoot fun b => { b with
    warm := true, running := false, recovery := false, recoveryLink := none, recoveryWaited := false, nor0Failed := false
    nor1Failed := false, staged := none, commit := none, booting := 0, coreExpiries := [], resetAsked := none
    fillHeld := false, fillQueue := [], resetAt := s.time.now, manager := (selectManager b.straps).1 }
  let s := ((s.wr Reg.BOOT_STATUS_LAST_RESET cause).set Reg.BOOT_STATUS_NOR_WAITED false).toStage 1
  (s.set Reg.WDT_STATUS_BOOT_RUNNING true).wr Reg.WDT_DEV_REMAIN_MS (s.rd Reg.WDT_CFG_DEV_MS)

/-- WARM_RESET (R470, R471). [DESIGN CHOICE, unsafe: log 11] -/
def execWarmReset (cause : Nat) (s : State) : Host.Outcome State Fault Refusal :=
  effect s fun s => if s.boot.resetAsked = some cause then s.warmReset cause else s

end Sys2Proof.Machine
end

