-- ==== Sys2Proof/Machine/Debug.lean ====
section
/-! DEFINITION. Debug access and the OTP identity row (spec/20 R486 to R489; spec/12 R330). -/

namespace Sys2Proof.Machine

/-! ### Debug access (R486, R487) -/

/-- The token as written to DBG_TOKEN0–127. -/
def State.tokenWords (s : State) : List Nat := (List.range 128).map fun i => s.rd (Reg.DBG_TOKEN_DATA.at i)

/-- The checks of R487 on a token but for its signature (Table REG-7). -/
def State.tokenOk (s : State) (w : List Nat) : Bool :=
  let at_ := fun (i : Nat) => w.getD i 0
  at_ 0 == 0x54474244 && at_ 1 == 1 && decide (at_ 2 = wordOf s.boot.otp.serial 0) && decide (at_ 3 = wordOf s.boot.otp.serial 1) &&
    decide (at_ 4 = wordOf s.boot.challenge 0) && decide (at_ 5 = wordOf s.boot.challenge 1) && decide (at_ 6 < 4) &&
    ((w.drop 7).take 57).all (· == 0)

/-- The token's signature passes under R29 and R30, over the bytes of its 128 dwords. -/
def State.tokenSigned (s : State) : Bool :=
  let l := (s.tokenWords.map (leBytes 4)).flatten
  s.boot.otp.rootHash != 0 && sigKeyHash l 256 == s.boot.otp.rootHash && sigVerifies l 256

/-- DBG_TOKEN0–127 are zeroed, and the challenge takes a new value from the DRBG (R487). [DESIGN CHOICE, safe: log 5] -/
def State.newChallenge (s : State) : State :=
  let s := s.each (List.range 128) fun s i => s.wr (Reg.DBG_TOKEN_DATA.at i) 0
  (s.updBoot fun b => { b with challenge := s.fresh }).nextFree

/-- What a token that passes unlocks: DBG with SCOPE bit 0, whose domain then wakes, and the JTAG instruction with bit 1. [DEDUCED,
unsafe: log 134] -/
def State.unlockScope (s : State) (scope : Nat) : State :=
  let s := s.updBoot fun b => { b with dbgUnlocked := b.dbgUnlocked || bit scope 0, jtagPermitted := b.jtagPermitted || bit scope 1 }
  if bit scope 0 then s.wake 35 0 0 else s

/-- A GO write (R486, R487): counted; a token that passes unlocks; under CLOSED, or where a check fails, the alarm of R328 with
EV0961. After an alarm it is ignored. [DEDUCED, unsafe: log 133] -/
def State.debugGo (s : State) : State :=
  if s.key.wiped then s
  else
    let w := s.tokenWords
    let good := decide (s.boot.policyInForce ≠ 7) && s.tokenOk w && s.tokenSigned
    let s := (s.bump Reg.DBG_STATUS_GOS).newChallenge
    if good then s.unlockScope (w.getD 6 0) else s.alarm Reg.KEY_ALARM_DEBUG 961

/-- A write with LOCK = 1 locks DBG and JTAG (R486). [DEDUCED, unsafe: log 133, 134] -/
def State.debugLock (s : State) : State :=
  (s.updBoot fun b => { b with dbgUnlocked := false, jtagOpen := false, jtagPermitted := false }).toRetain 35

/-- DBG_UNLOCK_GO (R486, R487): LOCK in the same write takes precedence. -/
def execDbgUnlockGo (unlock : Nat) (lock : Bool) (s : State) : Host.Outcome State Fault Refusal :=
  effect s fun s => s.unlocked unlock 0x4447 fun s => if lock then s.debugLock else s.debugGo

/-- DBG_UNLOCK_LOCK (R486). -/
def execDbgUnlockLock (unlock : Nat) (s : State) : Host.Outcome State Fault Refusal :=
  effect s fun s => s.unlocked unlock 0x4447 State.debugLock

/-- JTAG_UNLOCK (R486): opens JTAG where a token has permitted it; where none has, it raises the alarm with EV0961. [DEDUCED,
unsafe: log 133] -/
def execJtagUnlock (s : State) : Host.Outcome State Fault Refusal :=
  effect s fun s =>
    if s.boot.jtagOpen then s
    else if s.boot.jtagPermitted then s.updBoot fun b => { b with jtagOpen := true }
    else s.alarm Reg.KEY_ALARM_DEBUG 961

/-! ### The OTP identity row (R330, R488) -/

/-- The row that the supplied bytes give (Table KEY-3): ROW_LOCKED is set whatever they say, and CRC is computed. [DEDUCED, safe:
log 135] -/
def State.otpRow (s : State) : Otp :=
  otpRowOf (((List.range 25).map fun i => leBytes 4 (s.rd (Reg.DBG_OTP_DATA_DATA.at i))).flatten)

/-- A row that does not read back as it was programmed: ROW_LOCKED is set, and the rest is open (log entry 5). [DESIGN CHOICE, safe:
log 5; DEDUCED, safe: log 135] -/
def State.otpTorn (s : State) : Otp :=
  let v := fun (i : Nat) => Config.freeValue (s.freeCtr + i)
  { bytes := leBytes 96 (v 0) ++ [v 1 % 128 * 2 + 1] ++ leBytes 7 (v 2) }

/-- DBG_OTP_DATA0–24 are zeroed. -/
def State.zeroOtpData (s : State) : State := s.each (List.range 25) fun s i => s.wr (Reg.DBG_OTP_DATA_DATA.at i) 0

/-- A PROGRAM of the row (R488): RESULT 1 where it is locked, 2 while DBG is locked, 3 where it does not read back. [DEDUCED, safe:
log 135] -/
def State.otpProgram (s : State) (readbackOk : Bool) : State :=
  let row := s.otpRow
  let torn := s.otpTorn
  let s := s.zeroOtpData
  if s.boot.otp.locked then s.wr Reg.DBG_OTP_STATUS_RESULT 1
  else if s.boot.dbgUnlocked = false then s.wr Reg.DBG_OTP_STATUS_RESULT 2
  else if readbackOk then (s.updBoot fun b => { b with otp := row }).wr Reg.DBG_OTP_STATUS_RESULT 0
  else ({ s with freeCtr := s.freeCtr + 3 }.updBoot fun b => { b with otp := torn }).wr Reg.DBG_OTP_STATUS_RESULT 3

/-- OTP_PROGRAM (R488). -/
def execOtpProgram (unlock : Nat) (readbackOk : Bool) (s : State) : Host.Outcome State Fault Refusal :=
  effect s fun s => s.unlocked unlock 0x4F54 fun s => s.otpProgram readbackOk

end Sys2Proof.Machine
end

