-- ==== Sys2Proof/Machine/Firmware.lean ====
section
/-! DEFINITION. Firmware Download and Firmware Commit: the firmware and chart slots and the activation pointer
(spec/19 R467 to R469). -/

namespace Sys2Proof.Machine

/-- A command of the firmware slots: the manager's controller only, and not while a Commit runs (R467). -/
def State.firmwareCmd (s : State) (r : CmdRef) (f : State → State) : State :=
  s.admin r fun s =>
    if s.managerOwner ≠ some r.owner then s.finish r .invalidOpcode
    else if s.boot.commit.isSome then s.finish r .commandSequenceError
    else f s

/-- The staging area after a piece of `len` bytes at `off`; what no piece has written reads 0. -/
def stagePiece (old : Option Staged) (off len : Nat) (x : Staged) : Staged :=
  let l := (old.getD {}).bytes
  { x with bytes := slice 0 l 0 off ++ slice 0 x.bytes 0 len ++ l.drop (off + len) }

/-- FIRMWARE_DOWNLOAD (R467): up to 3 MiB is staged in DRAM, in units of 4 KiB. [PRESUMED, unsafe: log 123] -/
def State.download (s : State) (r : CmdRef) (off len : Nat) (content : Staged) : State :=
  s.firmwareCmd r fun s =>
    if off % 4096 ≠ 0 ∨ len % 4096 ≠ 0 ∨ len = 0 ∨ 3145728 < off + len then s.finish r .invalidField
    else (s.updBoot fun b => { b with staged := some (stagePiece b.staged off len content) }).finish r .success

def execFirmwareDownload (ref : CmdRef) (off len : Nat) (content : Staged) (s : State) : Host.Outcome State Fault Refusal :=
  effect s fun s => s.download ref off len content

/-- The firmware slot that FS names (R467): 0 the one that is not running; none for the running one or for no slot. [DEDUCED,
unsafe: log 122] -/
def State.fsSlot (s : State) (fs : Nat) : Option Nat :=
  let run := s.rd Reg.BOOT_STATUS_FW_SLOT
  if fs = 0 then some (if run = 1 then 2 else 1)
  else if (fs = 1 ∨ fs = 2) ∧ fs ≠ run then some fs
  else none

/-- What is staged, read as a firmware image and as a chart container; nothing staged reads as erased. -/
def State.stagedImage (s : State) : FwImage := { bytes := (s.boot.staged.getD {}).bytes }
def State.stagedChart (s : State) : Container := { bytes := (s.boot.staged.getD {}).bytes, content := (s.boot.staged.getD {}).content }

/-- Put an image into a firmware slot. [DEDUCED, unsafe: log 124] -/
def State.putImage (s : State) (slot : Nat) (i : FwImage) : State :=
  s.updBoot fun b => { b with nor := if slot = 2 then { b.nor with fw2 := i } else { b.nor with fw1 := i } }

/-- Put a container into a chart slot. [DEDUCED, unsafe: log 124] -/
def State.putChart (s : State) (slot : Nat) (k : Container) : State :=
  s.updBoot fun b => { b with
    nor := if slot = 0 then { b.nor with chart0 := k } else if slot = 1 then { b.nor with chart1 := k }
      else if slot = 2 then { b.nor with chart2 := k } else { b.nor with chart3 := k } }

/-- A slot whose write has begun and not ended: erased or torn. [DEDUCED, unsafe: log 124] -/
def tornImage : FwImage := {}
/-- A chart slot whose write is in progress or has failed. [DEDUCED, unsafe: log 124] -/
def tornChart : Container := {}

/-- The SEQ of a pointer copy, 0 where it is not valid (R457). -/
def copySeq (p : PtrCopy) : Nat := if ptrResult false p = 0 then p.seq else 0

/-- The activation pointer after an activation of a slot (R469): the copy with the lower SEQ, copy 1 on a tie, takes one above the
higher; at 0xFFFF_FFFE the lower copy first repeats the higher with SEQ 1, and the higher then takes SEQ 2. [DEDUCED, unsafe:
log 121] -/
def activated (n : Nor) (slot : Nat) : Nor :=
  let i := norImage n slot
  let a := copySeq n.ptr0
  let b := copySeq n.ptr1
  let mk := fun (q : Nat) => ptrCopy q slot i.edition i.hash
  let again := fun (p : PtrCopy) => ptrCopy 1 p.slot (p.field 0x0C 4) p.imageHash
  let hi := max a b
  if hi = 0xFFFFFFFE then
    (if a < b then { n with ptr0 := again n.ptr1, ptr1 := mk 2 } else { n with ptr1 := again n.ptr0, ptr0 := mk 2 })
  else if a < b then { n with ptr0 := mk (hi + 1) }
  else { n with ptr1 := mk (hi + 1) }

/-- Write the pointer, and complete the Commit with Firmware Activation Requires Conventional Reset (R467); EV1139. [DEDUCED,
unsafe: log 121] -/
def State.activateSlot (s : State) (r : CmdRef) (slot : Nat) : State :=
  let s := s.updBoot fun b => { b with nor := activated b.nor slot, commit := none }
  let s := (s.wr Reg.BOOT_PTR_SEQ0_SEQ (copySeq s.boot.nor.ptr0)).wr Reg.BOOT_PTR_SEQ1_SEQ (copySeq s.boot.nor.ptr1)
  ((s.wr Reg.BOOT_STATUS_NEXT_SLOT slot).event 1139 [slot]).finish r .firmwareNeedsConventionalReset

/-- Commit CA 000b with FS 4 to 7 (R468): the staged container passes the checks of codes 0x02 to 0x08, and its write begins. -/
def State.commitChart (s : State) (r : CmdRef) (slot : Nat) : State :=
  if (firstFailure (containerChecks s.boot.otp s.stagedChart)).isSome then s.finish r .invalidFirmwareImage
  else ((s.accept r).putChart slot tornChart).updBoot fun b => { b with commit := some ⟨r, slot, false, true⟩ }

/-- Commit CA 000b and CA 001b of an image (R467): the staged image passes R458 but for the pointer match, and its write begins. -/
def State.commitImage (s : State) (r : CmdRef) (fs : Nat) (activate : Bool) : State :=
  match s.fsSlot fs with
  | none => s.finish r .invalidFirmwareSlot
  | some slot =>
    if imageResult false [] s.stagedImage ≠ 0 then s.finish r .invalidFirmwareImage
    else ((s.accept r).putImage slot tornImage).updBoot fun b => { b with commit := some ⟨r, slot, activate, false⟩ }

/-- A Commit that writes and does not activate (CA 000b). -/
def State.commitWrite (s : State) (r : CmdRef) (fs : Nat) : State :=
  s.firmwareCmd r fun s => if 4 ≤ fs ∧ fs ≤ 7 then s.commitChart r (fs - 4) else s.commitImage r fs false

def execFirmwareCommitWrite (ref : CmdRef) (fs : Nat) (s : State) : Host.Outcome State Fault Refusal :=
  effect s fun s => s.commitWrite ref fs

/-- FIRMWARE_COMMIT_WRITE_ACTIVATE (R467, R469): CA 001b. -/
def execFirmwareCommitWriteActivate (ref : CmdRef) (fs : Nat) (s : State) : Host.Outcome State Fault Refusal :=
  effect s fun s => s.firmwareCmd ref fun s =>
    if 4 ≤ fs ∧ fs ≤ 7 then s.finish ref .invalidField else s.commitImage ref fs true

/-- FIRMWARE_COMMIT_ACTIVATE (R467, R469): CA 010b; with CA 011b, or another that the rule does not give, Invalid Field in Command.
The operand of the command is its dword 10: FS is bits 2:0, CA bits 5:3. [DEDUCED, unsafe: log 121; PRESUMED, unsafe: log 123]
-/
def State.commitActivate (s : State) (r : CmdRef) (fs ca : Nat) : State :=
  if (4 ≤ fs ∧ fs ≤ 7) ∨ ca ≠ 2 then s.finish r .invalidField
  else match s.fsSlot fs with
    | none => s.finish r .invalidFirmwareSlot
    | some slot =>
      if imageResult false [] (norImage s.boot.nor slot) ≠ 0 then s.finish r .invalidFirmwareImage
      else s.activateSlot r slot

def execFirmwareCommitActivate (ref : CmdRef) (dw10 : Nat) (s : State) : Host.Outcome State Fault Refusal :=
  effect s fun s => s.firmwareCmd ref fun s => s.commitActivate ref (dw10 % 8) (bits dw10 5 3)

/-- FIRMWARE_COMMIT_CHART (R468). -/
def execFirmwareCommitChart (ref : CmdRef) (fs : Nat) (s : State) : Host.Outcome State Fault Refusal :=
  effect s fun s => s.commitWrite ref fs

/-- SLOT_WRITE_DONE (R467 to R469): a read-back mismatch fails the Commit; otherwise the slot holds what was staged, and the Commit
completes (EV1139) or writes the pointer. [DEDUCED, unsafe: log 121] -/
def State.slotWritten (s : State) (ok : Bool) : State :=
  match s.boot.commit with
  | none => s
  | some c =>
    if !ok then (s.updBoot fun b => { b with commit := none }).finish c.ref .invalidFirmwareImage
    else
      let s := if c.chart then s.putChart c.fs s.stagedChart else s.putImage c.fs s.stagedImage
      if c.activate then s.activateSlot c.ref c.fs
      else ((s.updBoot fun b => { b with commit := none }).event 1139 [c.fs]).finish c.ref .success

def execSlotWriteDone (ok : Bool) (s : State) : Host.Outcome State Fault Refusal := effect s fun s => s.slotWritten ok

end Sys2Proof.Machine
end

