-- ==== Sys2Proof/Machine/Dusk.lean ====
section
/-! DEFINITION. The dusk drain (spec/07 R157 to R160), the non-operational power states (spec/17 R421 to R425), a member's domain
that does not wake (R416), and the watchdogs (spec/19 R471, R472). -/

namespace Sys2Proof.Machine

/-! ### The dusk drain (R157 to R160, R42, R425, R500) -/

/-- Does a PWR_LOSS_N assertion start a drain: armed, after step 7 of the restore (R500), on a chart from a slot that is not being
loaded (R42)? [DEDUCED, unsafe: log 125] -/
def State.drainStarts (s : State) : Bool :=
  s.armed && s.charted && s.boot.stepsDone.contains 7 && decide (s.chart.phase ≠ .loading)

/-- Is the data of a command wholly in the buffer (R158)? -/
def State.whollyIn (s : State) (r : CmdRef) : Bool :=
  (s.wp.wr.any fun e => ofCommand r e.2) && s.wp.wr.all fun e => !(ofCommand r e.2) || e.2.got

/-- Does a command write data: a Write, a Zone Append, or a Write Zeroes that is no deallocation under way? -/
def State.isWrite (s : State) (c : Cmd) : Bool :=
  c.ref.sqid != 0 && (c.opcode == 1 || c.opcode == 0x7D ||
    (c.opcode == 8 && !(s.jr.waiting.any fun e => decide (e.2 = c.ref)) && !mapHas s.zone.resets (cmdKey c.ref)))

/-- Writes whose data is not wholly in the buffer, with those that hold no space yet: they are dropped without a completion (R158).
[DEDUCED, unsafe: log 127] -/
def State.partialWrites (s : State) : List CmdRef :=
  let held := ((s.q.cmds.filter fun e => s.isWrite e.2 && s.runs e.2.ref).map fun e => e.2.ref)
  (((s.wp.wr.filter fun e => decide (e.2.completed = none)).map fun e => e.2.ref) ++ held).eraseDups.filter fun r => !s.whollyIn r

/-- The dies whose running erase a drain suspends (R158). -/
def State.suspendErases (s : State) : State :=
  s.each s.md.die fun s e => match e.2.busy with
    | .running o => if o.kind = .erase then s.startSuspend e.1 o { o with cls := 9 } else s
    | _ => s

/-- Table WRT-1 steps 2 and 3 (R42, R158, R425): the drain starts, EV0048: partial writes are dropped, other commands end with
Command Aborted due to Power Loss Notification, running erases are suspended, and the domains that the drain uses wake. A
structural reset's drain becomes a dusk drain. [DEDUCED, unsafe: log 127, 128] -/
def State.duskStart (s : State) : State :=
  let s := (s.updWp fun w => { w with dusk := .quiesce, holdupFell := false, duskLost := false, duskMiB := 0 }).event 48
  let s := if s.chart.phase = .draining then s.updChart fun c => { c with phase := .sealed, timedOut := false } else s
  let s := s.each ((List.range 9 ++ (List.range 18).map (15 + ·) ++ [34]).filter fun d => !s.forcedOff d) fun s d => s.wake d 2 0
  let s := s.suspendErases
  let part := s.partialWrites
  let whole := ((s.wp.wr.map fun e => e.2.ref).eraseDups).filter s.whollyIn
  let s := s.dropWrite fun w => part.contains w.ref && decide (w.completed = none)
  s.endInFlight (fun r => !part.contains r && !whole.contains r) .abortedPowerLoss

/-- PWR_LOSS_N_ASSERT (R157): the pin was low for 2 µs; with no drain armed EV0051. [DEDUCED, unsafe: log 125] -/
def execPwrLossNAssert (s : State) : Host.Outcome State Fault Refusal :=
  effect s fun s =>
    let s := s.updBoot fun b => { b with pins := { b.pins with pwrLossN := false } }
    if s.wp.dusk ≠ .idle then s
    else if s.drainStarts then s.duskStart else s.event 51

/-- The data that a drain writes to dusk blocks, in MiB rounded up (Table WRT-8). -/
def State.duskData (s : State) : Nat :=
  let units := (s.wp.wr.filter fun e => e.2.got && !e.2.rowsDone).map fun e =>
    match s.ns? e.2.nsid with
    | some n => units4k n e.2.slba e.2.nlb
    | none => 0
  (units.sum + 255) / 256

/-- Does a die still run a program or an erase that its suspend has not ended? -/
def State.writersRun (s : State) : Bool :=
  mapAny s.md.die fun _ x => match x.busy with
    | .running o => o.kind != .read
    | .suspending _ _ => true
    | .resuming _ => true
    | _ => false

/-- DUSK_QUIESCE_DONE (R158, Table WRT-1): the native programs have ended and the erases are suspended. -/
def execDuskQuiesceDone (s : State) : Host.Outcome State Fault Refusal :=
  effect s fun s =>
    if s.wp.dusk = .quiesce ∧ s.writersRun = false then s.updWp fun w => { w with dusk := .data, duskMiB := s.duskData } else s

/-- DUSK_DATA_DONE (R158, R160): the data is in dusk blocks; `lost` lists ranges whose dusk rows could not be completed, which leave
the drain incomplete. [DEDUCED, unsafe: log 126] -/
def execDuskDataDone (lost : List Nat) (s : State) : Host.Outcome State Fault Refusal :=
  effect s fun s =>
    if s.wp.dusk = .data then s.updWp fun w => { w with dusk := .metadata, duskLost := !lost.isEmpty } else s

/-- DUSK_RECORD_WRITTEN (R159, R168): the drain is complete, EV0049; the block stays quiescent, and performs a warm reset if
PWR_LOSS_N is high. A drain that lost data writes no record (R160). [DEDUCED, unsafe: log 126] -/
def State.duskDone (s : State) (tenUs : Nat) : State :=
  if s.wp.dusk ≠ .metadata ∨ s.wp.duskLost = true then s
  else
    let mib := s.wp.duskMiB
    let fell := s.wp.holdupFell
    let s := s.drainToFlash.updWp fun w => { w with dusk := .done, duskLast := some (mib, tenUs, fell) }
    let s := s.duskRegs.event 49 [mib, tenUs]
    if s.boot.pins.pwrLossN then s.askWarm 3 else s

/-- DUSK_RECORD_WRITTEN (R159, R160). [DEDUCED, unsafe: log 126] -/
def execDuskRecordWritten (tenUs : Nat) (s : State) : Host.Outcome State Fault Refusal := effect s fun s => s.duskDone tenUs

/-- HOLDUP_OK_FALL (R157, R160): a drain in progress goes on, EV0050. -/
def State.holdupFalls (s : State) : State :=
  let s := s.updBoot fun b => { b with pins := { b.pins with holdupOk := false } }
  if s.wp.dusk = .quiesce ∨ s.wp.dusk = .data ∨ s.wp.dusk = .metadata then
    (s.updWp fun w => { w with holdupFell := true }).event 50
  else s

def execHoldupOkFall (s : State) : Host.Outcome State Fault Refusal := effect s State.holdupFalls

/-- HOLDUP_OK_RISE (R157, Table MED-11). -/
def execHoldupOkRise (s : State) : Host.Outcome State Fault Refusal :=
  effect s fun s => s.updBoot fun b => { b with pins := { b.pins with holdupOk := true } }

/-- PWR_LOSS_N_DEASSERT (R159): after a completed drain a warm reset follows; during a drain it stops nothing. -/
def execPwrLossNDeassert (s : State) : Host.Outcome State Fault Refusal :=
  effect s fun s =>
    let s := s.updBoot fun b => { b with pins := { b.pins with pwrLossN := true } }
    if s.wp.dusk = .done then s.askWarm 3 else s

/-! ### Non-operational states (R421 to R423) -/

/-- R423: what forbids PS4. -/
def State.ps4Barred (s : State) : Bool :=
  s.isPair || !s.net.assocs.isEmpty || (s.net.sqps.any fun e => decide (e.2.st ≠ .idle)) ||
    (1 ≤ s.time.source && s.time.source ≤ 4)

/-- The conditions of R422 for state `m` when the timer of state `n` has run out. [DEDUCED, unsafe: log 129] -/
def State.mayEnter (s : State) (n m : Nat) : Bool :=
  let t := fun (i : Nat) => s.rd (Reg.PWR_IDLE_TIMER_MS.at (i - 1))
  decide (s.rd Reg.PWR_STATUS_PS < m) && ((s.host.ctrls.filter fun e => e.2.en).all fun e => decide (m ≤ e.2.ps)) &&
    s.deviceIdle && t m != 0 && decide (t m ≤ t n) && !(m == 4 && s.ps4Barred)

/-- A domain as PS3 or PS4 leaves it (Table PWR-1). [DEDUCED, unsafe: log 129] -/
def State.domainIn (s : State) (m d : Nat) : State :=
  let off := m = 4 ∧ (d = 11 ∨ d = 12 ∨ d = 14 ∨ 15 ≤ d ∧ d ≤ 30)
  let on_ := d = 0 ∨ m = 3 ∧ (d = 1 ∨ 9 ≤ d ∧ d ≤ 12 ∨ d = 14)
  if s.forcedOff d ∨ on_ then s
  else if off then s.toOff d
  else if (s.domain d).state = .on then s.toRetain d else s

/-- Enter a non-operational state (R422, Tables PWR-1, PWR-4): EV0016. The links of the network ports go down with PD11 and PD12.
[DEDUCED, unsafe: log 129] -/
def State.enterPs (s : State) (m : Nat) : State :=
  let s := if m = 4 then s.each (List.range 16) State.netDown else s
  let s := s.each (List.range 36) fun s d => s.domainIn m d
  let s := s.wr Reg.PWR_STATUS_PS_TARGET m
  let s := if s.fixedRail then s else (s.wr Reg.PWR_STATUS_VP 0).wr Reg.PWR_VP_CTRL_TARGET 0
  let s := if m = 3 then s.wr Reg.PWR_CLK_CTRL_CORE_MHZ 800 else s
  ({ s with power := { s.power with clocksStopped := true } }).psReached

/-- IDLE_TIMER_EXPIRY (R422, R423): state `n`, or the lowest other one for which the conditions hold. [DEDUCED, unsafe: log 129] -/
def State.idleExpires (s : State) (n : Nat) : State :=
  if n ≠ 3 ∧ n ≠ 4 then s
  else if s.mayEnter n n then s.enterPs n
  else match [3, 4].find? (s.mayEnter n) with
    | some m => s.enterPs m
    | none => s

def execIdleTimerExpiry (n : Nat) (s : State) : Host.Outcome State Fault Refusal := effect s fun s => s.idleExpires n

/-- APST_TRANSITION (R421): the requested state of a controller moves to the one that its table names. -/
def execApstTransition (owner ps : Nat) (s : State) : Host.Outcome State Fault Refusal :=
  effect s fun s => if (s.ctrl owner).en && decide (ps ≤ s.npss) then s.requestPs owner ps else s

/-- MEMBER_WAKE_TIMEOUT (R416): the domain has been waking for 1 ms; its member is declared failed as on a bus fault;
one that is training fails its training (Table RED-4). -/
def execMemberWakeTimeout (d : Nat) (s : State) : Host.Outcome State Fault Refusal :=
  effect s fun s =>
    if 15 ≤ d ∧ d ≤ 30 ∧ (s.domain d).state = .waking then
      if (s.member (memberOfDomain d)).st = .training then s.memberTrained (memberOfDomain d) false (some ([], []))
      else s.isolate (memberOfDomain d) 1
    else s

/-! ### Watchdogs (R471, R472) -/

/-- WDT_CORE_KICK (R472): a core kicks its own watchdog; any other write is ignored. [DEDUCED, unsafe: log 130] -/
def State.coreKick (s : State) (a : Agent) (key : Nat) : State :=
  match a with
  | .core c => if key = 0x4B49 ∧ 1 ≤ c ∧ c ≤ 32 then s.emit [.data "core watchdog restarted" [c]] else s
  | _ => s

def execWdtCoreKick (a : Agent) (key : Nat) (s : State) : Host.Outcome State Fault Refusal := effect s fun s => s.coreKick a key

/-- WDT_DEV_KICK (R472): the supervisor on cluster 0 restarts the device watchdog. [DEDUCED, unsafe: log 130] -/
def State.devKick (s : State) (a : Agent) (key : Nat) : State :=
  match a with
  | .core c =>
    if key = 0x4B49 ∧ 1 ≤ c ∧ c ≤ 8 then
      s.wr Reg.WDT_DEV_REMAIN_MS (s.rd Reg.WDT_CFG_DEV_MS) |>.emit [.data "device watchdog restarted" []]
    else s
  | _ => s

def execWdtDevKick (a : Agent) (key : Nat) (s : State) : Host.Outcome State Fault Refusal := effect s fun s => s.devKick a key

/-- CORE_WATCHDOG_EXPIRY (R443, R470, R472): that core alone resets, its locks stay held; EV1133, and a warm reset at the third expiry
within 1 s. During RECOVERY it resets that core only. -/
def State.coreExpires (s : State) (core : Nat) : State :=
  if core = 0 ∨ 32 < core then s
  else
    let now := s.time.now
    let l := (mapGet s.boot.coreExpiries core []).filter (fun t => now - t < 1000000000) ++ [now]
    let s := s.wr Reg.WDT_CORE_EXP_CORES (Nat.lor (s.rd Reg.WDT_CORE_EXP_CORES) (2 ^ (core - 1)))
    let s := (s.updBoot fun b => { b with coreExpiries := mapSet b.coreExpiries core l }).event 1133 [core]
    if s.stage ≠ 9 ∧ 3 ≤ l.length then s.askWarm 5 else s

def execCoreWatchdogExpiry (core : Nat) (s : State) : Host.Outcome State Fault Refusal := effect s fun s => s.coreExpires core

/-- The device watchdog watches firmware while it runs, unless it is off (R472). -/
def State.devWatched (s : State) : Bool := s.boot.running && !s.on Reg.WDT_BOOT_CFG_DEV_DISABLE

/-- DEVICE_WATCHDOG_HALF (R472): HALF, EV1134. [DEDUCED, unsafe: log 130] -/
def execDeviceWatchdogHalf (s : State) : Host.Outcome State Fault Refusal :=
  effect s fun s =>
    if s.devWatched then
      ((s.set Reg.WDT_STATUS_HALF true).wr Reg.WDT_DEV_REMAIN_MS (s.rd Reg.WDT_CFG_DEV_MS / 2)).event 1134
    else s

/-- DEVICE_WATCHDOG_EXPIRY (R470, R472): EV1135, and a warm reset. [DEDUCED, unsafe: log 130] -/
def execDeviceWatchdogExpiry (s : State) : Host.Outcome State Fault Refusal :=
  effect s fun s =>
    if s.devWatched then ((s.set Reg.WDT_STATUS_DEV_EXPIRED true).wr Reg.WDT_DEV_REMAIN_MS 0).event 1135 |>.askWarm 1 else s

/-- BOOT_WATCHDOG_EXPIRY (R471, R472): EV1136; the slot that was booting is marked, and a warm reset follows. [DEDUCED, unsafe: log
132] -/
def State.bootExpires (s : State) : State :=
  if !s.on Reg.WDT_STATUS_BOOT_RUNNING ∨ s.stage = 9 then s
  else
    let slot := if s.boot.booting = 0 then s.rd Reg.BOOT_STATUS_NEXT_SLOT else s.boot.booting
    let marks := s.rd Reg.WDT_STATUS_BOOT_MARKS
    let s := if s.boot.recovery || slot == 0 then s else s.wr Reg.WDT_STATUS_BOOT_MARKS (Nat.lor marks (2 ^ (slot - 1)))
    ((s.set Reg.WDT_STATUS_BOOT_EXPIRED true).event 1136 [slot]).askWarm 4

def execBootWatchdogExpiry (s : State) : Host.Outcome State Fault Refusal := effect s fun s => s.bootExpires

end Sys2Proof.Machine
end

