-- ==== Sys2Proof/Machine/Registers.lean ====
section
/-! DEFINITION. Reads and writes of the registers of the manager window, once their domain serves them: access types (R7 to R9),
the ranges of the fields, what a control register starts, and the side effects of a read (R478 to R481). A control register
starts what its own command starts. -/

namespace Sys2Proof.Machine

/-- Run a command's meaning inside another command, keeping the outputs so far. -/
def State.via (s : State) (f : State → Host.Outcome State Fault Refusal) : State :=
  match f s with
  | .next t => { t with out := s.out ++ t.out }
  | _ => s

/-! ### Pairs (R479) -/

/-- The _LO registers, each by its lowest field; _HI follows 4 bytes above. [DEDUCED, unsafe: log 145] -/
def loFields : List Field :=
  [Reg.DEV_FW_REV_LO_REVISION, Reg.TIME_NOW_LO_NOW, Reg.TIME_MSEQ_LO_SEQ, Reg.MBX_SUM_RX_LO_BITS, Reg.MBX_SUM_TO_LO_BITS,
   Reg.ALM_SEQ_LO_SEQ, Reg.ALM_OLDEST_LO_SEQ, Reg.ALM_READ_SEQ_LO_SEQ, Reg.BOOT_REC_ADDR_LO_ADDR, Reg.TEN_REC_ADDR_LO_ADDR,
   Reg.TEN_NQN_LO_HASH, Reg.ZONE_TABLE_LO_ADDR, Reg.CELL_DESC_LO_FILL, Reg.DSCH_LEND_LO_ROWS_0_3, Reg.CRU_JOURNAL_SEQ_LO_SEQ,
   Reg.CRU_HALL_LBA_LO_LBA, Reg.ECC_ERR_ADDR_LO_ADDR, Reg.ECC_TEST_ADDR_LO_ADDR, Reg.KEY_LIMIT_XTS_LO_DU,
   Reg.KEY_LIMIT_CTR_LO_BYTES, Reg.KEY_SLOT_COUNT_LO_COUNT, Reg.KEY_OTP_SERIAL_LO_SERIAL, Reg.KEY_OTP_LOT_LO_LOT,
   Reg.PAIR_COMPANION_LO_SERIAL, Reg.DBG_CHALLENGE_LO_VALUE, Reg.NET_MAC_LO_BYTES_2_5]

/-- The _LO register of NET_MAC follows its pair in address order like every other: is `a` a _LO register? -/
def isLo (a : Nat) : Bool := loFields.any fun f => (f.index? a).isSome

/-- Is `a` a _HI register? -/
def isHi (a : Nat) : Bool := decide (4 ≤ a) && isLo (a - 4)

/-- Is the register at `a` one that a write changes? -/
def isWritable (a : Nat) : Bool := (fieldsAt a).any fun p => decide (p.1.acc = .rw) || decide (p.1.acc = .rws)

/-! ### Plain fields (R7, R9, R38) -/

/-- The range of a field, where its table gives one. -/
def fieldRanges : List (Field × Nat × Nat) :=
  [(Reg.CHART_DRAIN_TIMEOUT_MS, 100, 10000), (Reg.TIME_HOLD_DRIFT_PPB, 10, 20000), (Reg.PWR_IDLE_TIMER_MS, 0, 60000),
   (Reg.PWR_AUTO_RETAIN_IDLE_US, 100, 10000), (Reg.THERM_FLASH_CFG_LIMIT, 60, 95), (Reg.THERM_FLASH_CFG_WARN, 55, 90),
   (Reg.EVT_COUNT_SEL_SOURCE, 0, 1151), (Reg.MBX_TIMEOUT_US, 1, 65535), (Reg.ALM_LIST_SEL_ENTRY, 0, 11),
   (Reg.WDT_CFG_DEV_MS, 100, 10000), (Reg.WDT_CFG_CORE_MS, 1, 1000), (Reg.WDT_BOOT_CFG_BOOT_S, 5, 120),
   (Reg.BOOT_REC_LEN_BYTES, 1024, 3145728), (Reg.QENG_DRR_QUANTUM_UNITS, 1, 256), (Reg.TEN_REC_MAX_BYTES, 0, 7364864),
   (Reg.TEN_ECL_TIMEOUT_MS, 1, 10000), (Reg.ZONE_HOT_CTRL_TENANT_PCT, 1, 100), (Reg.ZONE_NS_SEL_NSID, 1, 65536),
   (Reg.DSCH_SHARE_C01_CX, 0, 1000), (Reg.DSCH_SHARE_C01_CY, 0, 1000), (Reg.DSCH_SHARE_C23_CX, 0, 1000),
   (Reg.DSCH_SHARE_C23_CY, 0, 1000), (Reg.DSCH_SHARE_C45_CX, 0, 1000), (Reg.DSCH_SHARE_C45_CY, 0, 1000),
   (Reg.DSCH_SHARE_C67_CX, 0, 1000), (Reg.DSCH_SHARE_C67_CY, 0, 1000), (Reg.DSCH_SUSPEND_CFG_HOLD_MS, 1, 100),
   (Reg.DSCH_SUSPEND_CFG_MIN_RUN, 1, 255), (Reg.DSCH_BEST_EFFORT_MS, 1, 1000), (Reg.DSCH_CONS_MODE_OCC_PCT, 1, 100),
   (Reg.MEDIA_SCRUB_CFG_DISTURB_K, 16, 255), (Reg.MEDIA_SCRUB_CFG_REFRESH_PCT, 30, 95), (Reg.MEDIA_SCRUB_CFG_PERIOD_H, 24, 2160),
   (Reg.MEDIA_ASSAY_CFG_ERASE_LIMIT, 1, 255), (Reg.MEDIA_ASSAY_CFG_LIMIT_PCT, 10, 90), (Reg.MEDIA_ASSAY_CFG_MARGIN, 1, 15),
   (Reg.MEDIA_ASSAY_CFG_SAMPLE_LOG2, 4, 16), (Reg.MEDIA_LADDER_CFG_RETRY_MAX, 0, 6), (Reg.MEDIA_WL_CFG_DELTA, 50, 10000),
   (Reg.CRU_FAIL_CFG_DIE_LIMIT, 1, 255), (Reg.CRU_RMW_CFG_MAX_4K, 1, 64), (Reg.DRAM_FILL_LEN_MIB, 1, 262144),
   (Reg.DRAM_NR_CFG_DISTANCE, 1, 2), (Reg.DRAM_NR_CFG_K, 4, 16), (Reg.DRAM_SCRUB_CFG_PERIOD_H, 1, 168),
   (Reg.ECC_DEV_SEL_POSITION, 0, 9), (Reg.ECC_CE_THRESH_COUNT, 1, 65535), (Reg.SERVE_CFG_TEN_MAX, 1, 255),
   (Reg.SERVE_CFG_MAX_MIB, 1, 64), (Reg.NET_CC_CFG_G_LOG2, 1, 15), (Reg.NET_CC_CFG_CNP_GAP_US, 1, 255),
   (Reg.NET_CC_CFG_T_INC_US, 1, 65535), (Reg.NET_CC_CFG2_RAI_MBPS, 1, 65535), (Reg.NET_CC_CFG2_RATE_MIN_MBPS, 10, 65535),
   (Reg.NET_QP_CFG_ACK_TIMEOUT, 8, 20), (Reg.NET_QP_CFG_RETRY_CNT, 1, 7), (Reg.NET_SQP_ATTR_PMTU, 1, 3)]

/-- Is a value inside the range of its field? -/
def inRange (f : Field) (v : Nat) : Bool :=
  match fieldRanges.find? fun r => decide (r.1.key = f.key) with
  | some r => decide (r.2.1 ≤ v) && decide (v ≤ r.2.2)
  | none => true

/-- The plain fields that carry an R field of Table CHT-6 (R38). -/
def chartFields : List Field :=
  [Reg.PWR_IDLE_TIMER_MS, Reg.DSCH_SHARE_C01_CX, Reg.DSCH_SHARE_C01_CY, Reg.DSCH_SHARE_C23_CX, Reg.DSCH_SHARE_C23_CY,
   Reg.DSCH_SHARE_C45_CX, Reg.DSCH_SHARE_C45_CY, Reg.DSCH_SHARE_C67_CX, Reg.DSCH_SHARE_C67_CY, Reg.MEDIA_SCRUB_CFG_PERIOD_H,
   Reg.MEDIA_ASSAY_CFG_SAMPLE_LOG2]

/-- A field at its own address. -/
def Field.here (f : Field) (a : Nat) : Field := { f with addr := a, dims := [] }

/-- A write's part of one field of the register at `a` (R7, R9). -/
def State.writeField (s : State) (a v : Nat) (f : Field) : State :=
  let x := bits v f.hi f.lo
  let g := f.here a
  match f.acc with
  | .ro => s
  | .rc => s
  | .w1c => s.wr g (s.rd g &&& (2 ^ f.width - 1 - x))
  | _ => if inRange f x then s.wr g x else s

/-- A write to a register that starts nothing: each field by its access type; a value that an R field of the chart refuses
records EV0013 (R38). -/
def State.writePlain (s : State) (a v : Nat) : State :=
  let l := (fieldsAt a).map (·.1)
  let refused := l.any fun f => !inRange f (bits v f.hi f.lo) && chartFields.any fun c => decide (c.key = f.key)
  let s := s.each l fun s f => s.writeField a v f
  if refused then s.event 13 [a] else s

/-! ### Registers with a rule of their own -/

/-- A CHART_CTRL write (R40, R41): SAFE goes before LOAD; a write with neither starts nothing, but is counted where R41 refuses it. -/
def State.chartWrite (s : State) (v : Nat) : State :=
  let u := bits v 31 16
  let arm := bit v 8
  let busy := decide (s.chart.phase = .draining) || decide (s.chart.phase = .loading)
  if u ≠ 0x4C59 ∨ busy = true ∨ bit v 1 = true then s.chartCtrl u (.structuralSafe arm)
  else if bit v 0 then s.chartCtrl u (.structural (bits v 5 4) arm)
  else s

/-- The five thresholds in the order of Table CHT-6. -/
def State.thresholds (s : State) : List Nat :=
  [s.rd Reg.THERM_THRESH0_WARN, s.rd Reg.THERM_THRESH0_T1, s.rd Reg.THERM_THRESH0_T2, s.rd Reg.THERM_THRESH0_T3,
   s.rd Reg.THERM_THRESH1_TRIP]

/-- Those of the sealed chart. -/
def State.chartThresholds (s : State) : List Nat :=
  let p := s.chart.cur.power
  [p.warn, p.t1, p.t2, p.t3, p.trip]

/-- Are five thresholds at least 70 °C, at most the chart's, and strictly increasing (Table CHT-6, R435)? [DEDUCED, unsafe: log 148]
-/
def State.thresholdsOk (s : State) (l : List Nat) : Bool :=
  (l.all fun t => decide (70 ≤ t)) && ((l.zip s.chartThresholds).all fun p => decide (p.1 ≤ p.2)) &&
    ((l.zip l.tail).all fun p => decide (p.1 < p.2))

/-- A THERM_THRESH write (R38, R435): taken whole, or ignored with EV0013. [DEDUCED, unsafe: log 148] -/
def State.threshWrite (s : State) (first : Bool) (v : Nat) : State :=
  let old := s.thresholds
  let new := if first then [bits v 7 0, bits v 15 8, bits v 23 16, bits v 31 24, old.getD 4 0] else old.take 4 ++ [bits v 7 0]
  if s.thresholdsOk new then
    let s := ((s.wr Reg.THERM_THRESH0_WARN (new.getD 0 0)).wr Reg.THERM_THRESH0_T1 (new.getD 1 0)).wr Reg.THERM_THRESH0_T2 (new.getD 2 0)
    (s.wr Reg.THERM_THRESH0_T3 (new.getD 3 0)).wr Reg.THERM_THRESH1_TRIP (new.getD 4 0)
  else s.event 13 [if first then 0x40008 else 0x4000C]

/-- THERM_FLASH_CFG: WARN also lies below LIMIT (Table PWR-11). -/
def State.flashCfgWrite (s : State) (v : Nat) : State :=
  let s := s.writeField Reg.THERM_FLASH_CFG_LIMIT.addr v Reg.THERM_FLASH_CFG_LIMIT
  if bits v 7 0 < s.rd Reg.THERM_FLASH_CFG_LIMIT then s.writeField Reg.THERM_FLASH_CFG_WARN.addr v Reg.THERM_FLASH_CFG_WARN else s

/-- EVT_ROUTE of source `n`: a LIST below 128 restores firmware's (R450). [DEDUCED, unsafe: log 147] -/
def State.routeWrite (s : State) (n v : Nat) : State :=
  let s := (s.wr (Reg.EVT_ROUTE_MGR.at n) (bits v 31 31)).wr (Reg.EVT_ROUTE_VECTOR.at n) (bits v 30 20)
  s.wr (Reg.EVT_ROUTE_LIST.at n) (if bits v 7 0 < 128 then Reg.EVT_ROUTE_LIST.reset else bits v 7 0)

/-- MBX_DOORBELL: RING, REPLY and FLUSH, in this order (R440). [DEDUCED, unsafe: log 146] -/
def State.doorbellWrite (s : State) (m v : Nat) : State :=
  let s := if bit v 0 then s.mbxRing m .manager else s
  let s := if bit v 1 then s.mbxReply m .manager else s
  if bit v 2 then s.mbxFlush m .manager else s

/-- MBX_STATUS: BROKEN, TIMEOUT and OVERFLOW clear by writing 1. -/
def State.mbxStatusWrite (s : State) (m v : Nat) : State :=
  s.modMbx m fun b => { b with
    broken := b.broken && !bit v 31, timeout := b.timeout && !bit v 30, overflow := b.overflow && !bit v 29 }

/-- WDT_BOOT_CFG: DEV_DISABLE is written only while DBG is unlocked (R472, R489). -/
def State.bootCfgWrite (s : State) (v : Nat) : State :=
  let s := s.writeField Reg.WDT_BOOT_CFG_BOOT_S.addr v Reg.WDT_BOOT_CFG_BOOT_S
  if s.boot.dbgUnlocked then s.wr Reg.WDT_BOOT_CFG_DEV_DISABLE (bits v 31 31) else s

/-- BOOT_CTRL (R465, R470). -/
def State.bootCtrlWrite (s : State) (v : Nat) : State :=
  s.unlocked (bits v 31 16) 0x4257 fun s =>
    let s := if bit v 1 then s.fillGo else s
    if bit v 0 then s.askWarm 2 else s

/-- BOOT_REC_CTRL (R461): the image is what host memory holds at BOOT_REC_ADDR (log entry 6). -/
def State.recCtrlWrite (s : State) (v : Nat) : State :=
  let u := bits v 31 16
  if bit v 0 then
    let a := s.rd Reg.BOOT_REC_ADDR_LO_ADDR / 4096 * 4096 + s.rd Reg.BOOT_REC_ADDR_HI_ADDR * 2 ^ 32
    s.nextFree.recLoad u (Config.hostImage a (s.rd Reg.BOOT_REC_LEN_BYTES) s.freeCtr)
  else s.unlocked u 0x4252 id

/-- QENG_PF_WEIGHT of link `l` (R111, R336). -/
def State.pfWeightWrite (s : State) (l v : Nat) : State :=
  let w := v % 65536
  (s.wr (Reg.QENG_PF_WEIGHT_WEIGHT.at l) w).updQ fun q => { q with pendingWeight := mapSet q.pendingWeight (pfOwner l) w }

/-- A write of a field whose encodings `ok` allows (R9): the value in force for the request, which a reserved encoding leaves as it
was written before, and the state that holds it. -/
def State.heldField (s : State) (f : Field) (x : Nat) (ok : Nat → Bool) : Nat × State := if ok x then (x, s.wr f x) else (s.rd f, s)

/-- TEN_ECL_CTRL of slot `t` (R335, R344, R349); OP 0 and 5 to 7 are reserved (R9). [DEDUCED, unsafe: log 150] -/
def State.eclCtrlWrite (s : State) (t v : Nat) : State :=
  let (op, s) := s.heldField (Reg.TEN_ECL_CTRL_OP.at t) (bits v 30 28) fun x => 1 ≤ x && x ≤ 4
  if bit v 31 = false then s
  else if op = 1 then s.via (execEclipse t (bit v 27) (bits v 26 24))
  else if op = 2 then s.via (execResume t)
  else if op = 3 then s.via (execRestore t (bits v 26 24))
  else if op = 4 then s.via (execRelease t)
  else s

/-- ZONE_NS_LIMIT of the selected namespace: each limit at most its constellation's (R9). -/
def State.nsLimitWrite (s : State) (v : Nat) : State :=
  let nsid := s.rd Reg.ZONE_NS_SEL_NSID
  match s.ns? nsid with
  | none => s
  | some n =>
    let c := s.consOf n.cons
    let o := bits v 31 16
    let a := bits v 15 0
    s.modNs nsid fun n => { n with
      openM1 := if o < c.openLimit then o else n.openM1, activeM1 := if a < c.activeLimit then a else n.activeM1 }

/-- MEDIA_ENDURANCE: 100 to 1,000,000 cycles, persisted (R245). -/
def State.enduranceWrite (s : State) (v : Nat) : State :=
  let c := bits v 19 0
  if 100 ≤ c ∧ c ≤ 1000000 then s.persist fun x => { x with cycles := c } else s

/-- CRU_MEMBER_CTRL (R266, R268); ACTION 3 is reserved. [DEDUCED, unsafe: log 150] -/
def State.memberCtrlWrite (s : State) (v : Nat) : State :=
  let u := bits v 31 16
  let m := bits v 3 0
  s.unlocked u 0x4352 fun s =>
    let (op, s) := s.heldField Reg.CRU_MEMBER_CTRL_ACTION (bits v 9 8) (· != 3)
    if op = 1 then s.memberFail u m (bit v 4)
    else if op = 2 then s.memberInsert u m
    else s

/-- ECC_TEST_CTRL (R388); OP 0 and 4 to 7, and SPACE 3, are reserved. [DEDUCED, unsafe: log 150] -/
def State.testCtrlWrite (s : State) (v : Nat) : State :=
  let u := bits v 31 16
  s.unlocked u eccUnlock fun s =>
    let (space, s) := s.heldField Reg.ECC_TEST_CTRL_SPACE (bits v 5 4) (· != 3)
    let (op, s) := s.heldField Reg.ECC_TEST_CTRL_OP (bits v 2 0) fun x => 1 ≤ x && x ≤ 3
    if op = 1 then s.via (execReadRaw u space)
    else if op = 2 then s.via (execWriteRaw u space)
    else if op = 3 then s.via (execEccTestWrite u space)
    else s

/-- KEY_SLOT_CTRL (R317, R318, R321); OP 0 and 4 to 7 are reserved. [DEDUCED, unsafe: log 150] -/
def State.slotCtrlWrite (s : State) (v : Nat) : State :=
  let kind := bits v 27 26
  let owner := bits v 12 0
  let (op, s) := s.heldField Reg.KEY_SLOT_CTRL_OP (bits v 30 28) fun x => 1 ≤ x && x ≤ 3
  let s := (s.heldField Reg.KEY_SLOT_CTRL_KIND kind (· != 0)).2
  if bit v 31 = false then s
  else if op = 1 then s.keyLoad kind owner (bit v 25)
  else if op = 2 then s.keyGenerate kind owner (bit v 25)
  else if op = 3 then s.keyClear
  else s

/-- SERVE_SLOT_CTRL (R304); OP 0 and 3 are reserved. [DEDUCED, unsafe: log 150] -/
def State.serveCtrlWrite (s : State) (v : Nat) : State :=
  let (op, s) := s.heldField Reg.SERVE_SLOT_CTRL_OP (bits v 30 29) fun x => x == 1 || x == 2
  if bit v 31 = false then s
  else if op = 1 then s.via (execServeSlotLoad (bits v 15 0) (bits v 28 16))
  else if op = 2 then s.via (execServeSlotClear (bits v 15 0))
  else s

/-- NET_PFC_CFG of port `p`: XOFF at most the buffer less 256 KiB, XON below XOFF (Table SRV-17). [DESIGN CHOICE, unsafe: log 60] -/
def State.pfcWrite (s : State) (p v : Nat) : State :=
  let s := s.wr (Reg.NET_PFC_CFG_ENABLE.at p) (bits v 31 24)
  let s := if bits v 23 16 ≤ s.portBuffer p / 16384 - 16 then s.wr (Reg.NET_PFC_CFG_XOFF.at p) (bits v 23 16) else s
  if bits v 15 8 < s.rd (Reg.NET_PFC_CFG_XOFF.at p) then s.wr (Reg.NET_PFC_CFG_XON.at p) (bits v 15 8) else s

/-- NET_SQP_CTRL (R305); OP 0 and 3 are reserved. [DEDUCED, unsafe: log 150] -/
def State.sqpCtrlWrite (s : State) (v : Nat) : State :=
  let (op, s) := s.heldField Reg.NET_SQP_CTRL_OP (bits v 30 29) fun x => x == 1 || x == 2
  if bit v 31 = false then s
  else if op = 1 then s.sqpConnect (bits v 28 16)
  else if op = 2 then s.sqpDestroy
  else s

/-- PAIR_CTRL (R403, R404); ACTION 0 and 3 are reserved. -/
def State.pairCtrlWrite (s : State) (v : Nat) : State :=
  s.unlocked (bits v 31 16) 0x5052 fun s =>
    let (op, s) := s.heldField Reg.PAIR_CTRL_ACTION (bits v 1 0) fun x => x == 1 || x == 2
    if op = 1 then s.yield else if op = 2 then s.survive else s

/-- DBG_UNLOCK (R486, R487): LOCK takes precedence. Whether the token's signature verifies is open (log entry 6). -/
def State.dbgWrite (s : State) (v : Nat) : State :=
  s.unlocked (bits v 31 16) 0x4447 fun s =>
    if bit v 1 then s.debugLock
    else if bit v 0 then s.debugGo
    else s

/-- DBG_OTP_CTRL (R488). Whether the row reads back is open (log entry 6). -/
def State.otpCtrlWrite (s : State) (v : Nat) : State :=
  s.unlocked (bits v 31 16) 0x4F54 fun s =>
    if bit v 0 then s.otpProgram (Config.otpReadback ((List.range 25).map fun i => s.rd (Reg.DBG_OTP_DATA_DATA.at i))) else s

/-! ### Writes, by block

`b` is the address of the register's first instance, `i` its instance number; none for a register that starts nothing. -/

def State.ctlLow (s : State) (b i v : Nat) : Option State :=
  if b = Reg.CHART_CTRL_LOAD.addr then some (s.chartWrite v)
  else if b = Reg.PWR_VP_CTRL_TARGET.addr then some (s.vpWrite (bits v 1 0))
  else if b = Reg.PWR_CLK_CTRL_DP_MHZ.addr then some (s.clkWrite (bits v 23 12) (bits v 11 0))
  else if b = Reg.THERM_THRESH0_T1.addr then some (s.threshWrite true v)
  else if b = Reg.THERM_THRESH1_TRIP.addr then some (s.threshWrite false v)
  else if b = Reg.THERM_FLASH_CFG_WARN.addr then some (s.flashCfgWrite v)
  else if b = Reg.EVT_PENDING_BITS.addr then some (s.evtPendingClear i v [])
  else if b = Reg.EVT_ROUTE_LIST.addr then some (s.routeWrite i v)
  else if b = Reg.MBX_RELEASE_ID.addr then some (s.mbxRelease i .manager (bits v 7 0))
  else if b = Reg.MBX_SEND_DATA.addr then some (s.mbxSend i .manager (BitVec.ofNat 32 v))
  else if b = Reg.MBX_REPLY_SEND_DATA.addr then some (s.mbxReplySend i .manager (BitVec.ofNat 32 v))
  else if b = Reg.MBX_DOORBELL_RING.addr then some (s.doorbellWrite i v)
  else if b = Reg.MBX_STATUS_BROKEN.addr then some (s.mbxStatusWrite i v)
  else if b = Reg.MBX_BREAK_BREAK.addr then
    some (if bit v 0 then s.mbxBreak i .manager (bits v 31 16) else s.unlocked (bits v 31 16) 0x4D42 id)
  else if b = Reg.ALM_LIST_DATA_OFFSET.addr then
    some (s.almListWrite (s.rd Reg.ALM_LIST_SEL_LIST) (s.rd Reg.ALM_LIST_SEL_ENTRY) (bit v 31) (bits v 25 0))
  else if b = Reg.WDT_BOOT_CFG_BOOT_S.addr then some (s.bootCfgWrite v)
  else if b = Reg.WDT_DEV_KICK_KEY.addr then some (s.devKick .manager (bits v 15 0))
  else if b = Reg.WDT_CORE_KICK_KEY.addr then some (s.coreKick .manager (bits v 15 0))
  else if b = Reg.BOOT_CTRL_WARM.addr then some (s.bootCtrlWrite v)
  else if b = Reg.BOOT_REC_CTRL_LOAD.addr then some (s.recCtrlWrite v)
  else none

def State.ctlMid (s : State) (b i v : Nat) : Option State :=
  if b = Reg.QENG_PF_WEIGHT_WEIGHT.addr then some (s.pfWeightWrite i v)
  else if b = Reg.QENG_QCOUNT_CTRL_GO.addr then
    some (if bit v 31 then s.qcountStart (bits v 27 16) (bits v 15 0) else s)
  else if b = Reg.QENG_TEN_LIMIT_LIMIT.addr then some (s.limitWrite i (bits v 18 0))
  else if b = Reg.TEN_WEIGHT_WEIGHT.addr then some (s.via (execTenWeightWrite i (bits v 15 0)))
  else if b = Reg.TEN_ECL_CTRL_GO.addr then some (s.eclCtrlWrite i v)
  else if b = Reg.ZONE_HOT_SIZE_REQUEST.addr then some (s.hotSizeWrite (bits v 7 0))
  else if b = Reg.ZONE_NS_ATTR_SECURE.addr then some (s.nsAttrWrite (bit v 0))
  else if b = Reg.ZONE_NS_LIMIT_OPEN_M1.addr then some (s.nsLimitWrite v)
  else if b = Reg.DSCH_SHARE_CTRL_APPLY.addr then
    some (if bit v 0 then s.set Reg.DSCH_SHARE_CTRL_PENDING true else s)
  else if b = Reg.MEDIA_WP_CTRL_RELEASE.addr then
    some (if bit v 0 then s.wpRelease (bits v 31 16) else s.unlocked (bits v 31 16) 0x4D57 id)
  else if b = Reg.MEDIA_ENDURANCE_CYCLES.addr then some (s.enduranceWrite v)
  else if b = Reg.MEDIA_RAW_CTRL_ENABLE.addr then some (s.rawWrite (bit v 0))
  else none

/-- A write of a control register of the crucible, the DRAM, the key store, the network, the pair and debug; none where the address
is not one of theirs (R481). [DEDUCED, unsafe: log 150] -/
def State.ctlHigh (s : State) (b i v : Nat) : Option State :=
  if b = Reg.CRU_MEMBER_CTRL_ACTION.addr then some (s.memberCtrlWrite v)
  else if b = Reg.CRU_RMW_NS_ENABLE.addr then
    some (s.modNs (s.rd Reg.ZONE_NS_SEL_NSID) fun n => { n with rmw := bit v 0 })
  else if b = Reg.DRAM_HASH_MASK.addr then some (if s.on Reg.DRAM_STATUS_HASH_LOCKED then s else s.wr (Reg.DRAM_HASH_MASK.at i) v)
  else if b = Reg.DRAM_HASH_CTRL_APPLY.addr then some (if bit v 0 then s.hashApply else s)
  else if b = Reg.DRAM_FILL_CTRL_GO.addr then some (if bit v 31 then s.fillStart else s)
  else if b = Reg.DRAM_NR_SEED_SEED.addr then some (s.reseed v)
  else if b = Reg.ECC_TEST_CTRL_OP.addr then some (s.testCtrlWrite v)
  else if b = Reg.KEY_LIMIT_GCM_GCM_M1.addr then some (s.limitLower .gcm v)
  else if b = Reg.KEY_SLOT_CTRL_GO.addr then some (s.slotCtrlWrite v)
  else if b = Reg.KEY_NS_BIND_GO.addr then some (if bit v 31 then s.nsBind (bits v 12 0) else s)
  else if b = Reg.SERVE_SLOT_CTRL_GO.addr then some (s.serveCtrlWrite v)
  else if b = Reg.NET_PFC_CFG_XON.addr then some (s.pfcWrite i v)
  else if b = Reg.NET_ADDR_ATTR_COMMIT.addr then some (if bit v 30 then s.addrCommit v else s.addrAttr v)
  else if b = Reg.NET_SQP_CTRL_GO.addr then some (s.sqpCtrlWrite v)
  else if b = Reg.PAIR_CTRL_ACTION.addr then some (s.pairCtrlWrite v)
  else if b = Reg.PAIR_HOME_SIDE_B.addr then some (s.homeWrite i v)
  else if b = Reg.DBG_UNLOCK_GO.addr then some (s.dbgWrite v)
  else if b = Reg.DBG_OTP_CTRL_PROGRAM.addr then some (s.otpCtrlWrite v)
  else none

/-- The value of a pair takes effect when its _HI register at `a` is written (R479). [DEDUCED, unsafe: log 145] -/
def State.pairWrite (s : State) (b i a v : Nat) : State :=
  let lo := mapGet s.loWrite (a - 4) (s.peek (a - 4))
  let x := lo + v * 2 ^ 32
  if b = Reg.ALM_READ_SEQ_HI_SEQ.addr then s.almRead v
  else
    let s := { s with loWrite := mapErase s.loWrite (a - 4) }
    if b = Reg.TEN_NQN_HI_HASH.addr then s.via (execTenNqnWrite i x)
    else if b = Reg.KEY_LIMIT_XTS_HI_DU.addr then s.limitLower .xts (lo + bits v 8 0 * 2 ^ 32)
    else if b = Reg.KEY_LIMIT_CTR_HI_BYTES.addr then s.limitLower .ctr (lo + bits v 18 0 * 2 ^ 32)
    else (s.writePlain (a - 4) lo).writePlain a v

/-- A write of a register that its domain serves. -/
def State.writeReg (s : State) (a v : Nat) : State :=
  match fieldsAt a with
  | [] => s
  | p :: _ =>
    let b := p.1.addr
    let i := p.2.getD 0 0
    if isLo a && isWritable a then { s with loWrite := mapSet s.loWrite a v }
    else if isHi a && isWritable a then s.pairWrite b i a v
    else
      let r := if b < 0x100000 then s.ctlLow b i v else if b < 0x600000 then s.ctlMid b i v else s.ctlHigh b i v
      match r with
      | some t => t
      | none => s.writePlain a v

/-! ### Reads (R7, R478, R479) -/

/-- A read of a clearing field of the register at `a`: it takes what the hardware adds in the same cycle (R7). -/
def State.clearField (s : State) (a same : Nat) (f : Field) : State :=
  if f.acc = .rc then s.wr (f.here a) (bits same f.hi f.lo) else s

/-- The clears of a read of the register at `a`, whose first instance is at `b`, for what the table of the state does not
hold. -/
def State.clearOther (s : State) (b i same : Nat) : State :=
  let owner := s.rd Reg.DSCH_LEDGER_SEL_OWNER
  let cons := s.rd Reg.DSCH_LEDGER_SEL_CONS
  let led := fun (f : Ledger → Ledger) => if s.selectedLedger.exists_ then s.modLedger owner cons f else s
  if b = Reg.THERM_MAX_TEMP.addr then s.wr Reg.THERM_MAX_TEMP (signed 12 (s.power.filtered / 4096))
  else if b = Reg.CELL_LOW_GENERAL.addr then s.updCell fun c => { c with low := c.low.set i (s.cellGeneral i) }
  else if b = Reg.EVT_COUNT_OCCURRED.addr then
    let n := s.rd Reg.EVT_COUNT_SEL_SOURCE
    let c := mapPut s.evt.counts n ⟨bits same 15 0, bits same 31 16⟩ {}
    { s with evt := { s.evt with counts := c } }
  else if b = Reg.DSCH_LEDGER_MET_COUNT.addr then led fun l => { l with met := same }
  else if b = Reg.DSCH_LEDGER_MISSED_COUNT.addr then led fun l => { l with missed := same }
  else if b = Reg.DSCH_LEDGER_LOST_COUNT.addr then led fun l => { l with lost := same }
  else if b = Reg.DSCH_LEDGER_OCC_COUNT.addr then led fun l => { l with occ := same }
  else if b = Reg.ECC_DEV_COUNT_COUNT.addr then
    let k := 16 * (2 * s.rd Reg.ECC_DEV_SEL_CHANNEL + s.rd Reg.ECC_DEV_SEL_SUBCH) + s.rd Reg.ECC_DEV_SEL_POSITION
    s.updDram fun d => { d with devCount := mapPut d.devCount k (bits same 15 0) 0, devNoted := d.devNoted.filter (· ≠ k) }
  else s

/-- A read of a register that its domain serves: the dword, then its side effects; `same` holds what the hardware adds to each
clearing field in the same cycle. [DEDUCED, unsafe: log 145] -/
def State.readReg (s : State) (a same : Nat) : State :=
  match fieldsAt a with
  | [] => s.returns 0
  | p :: _ =>
    let b := p.1.addr
    let i := p.2.getD 0 0
    if b = Reg.MBX_LOCK_OWNER.addr then s.mbxLockRead i .manager
    else if b = Reg.MBX_RECV_DATA.addr then s.mbxRecv i .manager
    else if b = Reg.MBX_REPLY_RECV_DATA.addr then s.mbxReplyRecv i .manager
    else if isHi a then s.returns (mapGet s.latch a 0)
    else
      let w := s.peek a
      let s := if isLo a then { s with latch := mapPut s.latch (a + 4) (s.peek (a + 4)) 0 } else s
      let s := s.each ((fieldsAt a).map (·.1)) fun s f => s.clearField a same f
      (s.clearOther b i same).returns w

end Sys2Proof.Machine
end

