-- ==== Sys2Proof/Machine/Window.lean ====
section
/-! DEFINITION. The manager window and the NVMe-MI path (spec/20 R475 to R483, R489; spec/04 R73, R74, R87, R88;
spec/01 R20, R22). -/

namespace Sys2Proof.Machine

/-! ### One dword access (R475 to R483) -/

/-- The blocks that a structural reset resets (Table REG-4), whose registers R483 governs. [DEDUCED, unsafe: log 140] -/
def resetsAtLoad (a : Nat) : Bool :=
  (decide (0x30000 ≤ a) && decide (a < 0x40000)) || (decide (0x50000 ≤ a) && decide (a < 0x70000)) ||
    (decide (0x100000 ≤ a) && decide (a < 0xB00000)) || (decide (0xC00000 ≤ a) && decide (a < 0xD00000))

/-- DEV, BOOT and WDT: the blocks that answer in RECOVERY and during a warm reset (R461, R470). [DEDUCED, unsafe: log 140] -/
def answersAlways (a : Nat) : Bool := decide (a < 0x10000) || (decide (0x80000 ≤ a) && decide (a < 0xA0000))

/-- A warm reset is in progress: its chart load is not done (R470). [DEDUCED, unsafe: log 142] -/
def State.inWarmReset (s : State) : Bool := s.boot.warm && decide (s.rd Reg.BOOT_STATUS_STAGE ≤ 3)

/-- The reset values of the register at `a` (R483). -/
def resetWord (a : Nat) : Nat :=
  (fieldsAt a).foldl (fun w p => if p.1.acc = .wo then w else w + p.1.reset * 2 ^ p.1.lo) 0

/-- The trace and scan facilities of DBG (R489). [DESIGN CHOICE, safe: log 153] -/
def isFacility (a : Nat) : Bool := decide (0xF01000 ≤ a) && decide (a < 0x1000000)

/-- An access that reaches nothing: a read returns 0, a write is ignored (R74, R475, R476). [DEDUCED, unsafe: log 141, 186] -/
def State.accessNothing (s : State) : Access32 → State
  | .read _ => s.returns 0
  | .write _ _ _ => s

/-- An access during LOADING to a block that the load resets (R483). [DEDUCED, unsafe: log 139] -/
def State.accessLoading (s : State) : Access32 → State
  | .read off => s.returns (resetWord (canonical off))
  | .write _ _ _ => s.bump Reg.DEV_ACC_ERR_LOADING

/-- The offset of an access. -/
def accessOff : Access32 → Nat
  | .read off => off
  | .write off _ _ => off

/-- An access that its domain serves now. [DEDUCED, unsafe: log 139; DESIGN CHOICE, safe: log 153] -/
def State.accessNow (s : State) (x : Access32) (same : Nat) : State :=
  let a := canonical (accessOff x)
  if isFacility a then
    match x with
    | .read _ => s.returns (Config.debugFacility a)
    | .write _ _ _ => s
  else match x with
    | .read _ => s.readReg a same
    | .write _ v _ => s.writeReg a v.toNat

/-- An access to a domain that sleeps or wakes (R73, R415): it waits, in order, and the domain wakes; a write in PS3 or PS4 also
ends the power state (R424). [DEDUCED, unsafe: log 152] -/
def State.accessWaits (s : State) (d : Nat) (x : Access32) : State :=
  let asleep := decide ((s.domain d).state ≠ .waking)
  let s := match x with
    | .write _ _ _ => if asleep then s.powerExit 0 else s
    | .read _ => s
  let s := s.modDom d fun y => { y with stalled := y.stalled ++ [x] }
  s.wake d 0 0

/-- Does an offset name a register, or a facility of DBG? -/
def isNamed (a : Nat) : Bool := namesRegister a || isFacility a

/-- R476: a channel offset of DSCH or DRAM whose domain is OFF under R413 or R266, or a DBG facility while DBG is locked (R489).
[DEDUCED, unsafe: log 141] -/
def State.isBarred (s : State) (a : Nat) : Bool :=
  (decide (15 ≤ domainOf a) && decide (domainOf a ≤ 30) && s.forcedOff (domainOf a)) || (isFacility a && !s.boot.dbgUnlocked)

/-- One dword access of the window. A write with a byte enable clear is ignored and counted (R477). [DEDUCED, unsafe: log 139, 142]
-/
def State.access (s : State) (x : Access32) (same : Nat := 0) : State :=
  let a := canonical (accessOff x)
  let full := match x with
    | .write _ _ be => decide (be % 16 = 15)
    | .read _ => true
  if !full then s.bump Reg.DEV_ACC_ERR_PARTIAL
  else if s.boot.recovery && decide (s.rd Reg.BOOT_STATUS_STAGE = 9) && !answersAlways a then s.accessNothing x
  else if s.inWarmReset && !answersAlways a then s.accessFails x
  else if !isNamed a || s.isBarred a then s.accessNothing x
  else if decide (s.chart.phase = .loading) && resetsAtLoad a then s.accessLoading x
  else if (s.domain (domainOf a)).state = .on then s.accessNow x same
  else s.accessWaits (domainOf a) x

/-- Is the manager's link up, so that BAR2 can be reached (R78)? -/
def State.windowReached (s : State) : Bool :=
  match s.boot.manager with
  | .mi => true
  | .pf l => s.on (Reg.HOST_LINK_STATUS_UP.at l)

/-- Is an FLR of the manager's function in progress (R77)? -/
def State.managerFlr (s : State) : Bool := (s.managerOwner.map fun o => (s.ctrl o).flr).getD false

/-- An access on the manager's path: none arrives while its link is down (R78); during an FLR of its function a read returns all
ones and a write is discarded (R77). -/
def State.accessBar (s : State) (x : Access32) (same : Nat := 0) : State :=
  if s.windowReached = false then s
  else if s.managerFlr then (match x with
    | .read _ => s.returns 0xFFFFFFFF
    | .write _ _ _ => s)
  else s.access x same

/-- LO_REGISTER_READ (R479): the read latches the _HI register. -/
def execLoRegisterRead (off : Nat) (s : State) : Host.Outcome State Fault Refusal := effect s fun s => s.accessBar (.read off)

/-- READ_CLEAR (R7): `same` is what the hardware adds to the clearing fields in the same cycle. -/
def execReadClear (off same : Nat) (s : State) : Host.Outcome State Fault Refusal := effect s fun s => s.accessBar (.read off) same

/-- REGISTER_WRITE (R7, R9, R477). -/
def execRegisterWrite (off : Nat) (value : Word) (be : Nat) (s : State) : Host.Outcome State Fault Refusal :=
  effect s fun s => s.accessBar (.write off value be)

/-- DOMAIN_READY (R73, R412): the domain is ON, and the accesses that waited for it proceed in order. [DEDUCED, unsafe: log 152] -/
def execDomainReady (d ns : Nat) (s : State) : Host.Outcome State Fault Refusal :=
  effect s fun s =>
    if (s.domain d).state ≠ .waking then s
    else
      let l := (s.domain d).stalled
      (s.domainOn d ns).each l fun s x => s.accessNow x 0

/-! ### The NVMe-MI path (R22, R87, R88) -/

/-- A command that the path may not give: Invalid Command Opcode, counted in HOST_MI_STATUS.REFUSED, EV0135, whose link index is 8:
the path is no link (R89). [DEDUCED, unsafe: log 143] -/
def State.miRefused (s : State) (opcode : Nat) : State :=
  ((s.bump Reg.HOST_MI_STATUS_REFUSED).event 135 [8, opcode]).emit [.mi "Invalid Command Opcode" []]

/-- MI_COMMAND_REFUSED (R22, R88): any other command of a path that is not the manager's. [DEDUCED, unsafe: log 144] -/
def execMiCommandRefused (opcode : Nat) (s : State) : Host.Outcome State Fault Refusal :=
  effect s fun s => if s.boot.manager = .mi then s else s.miRefused opcode

/-- The checks of Window Read and Window Write (R87); `f` makes the accesses. [DEDUCED, unsafe: log 143] -/
def State.miWindow (s : State) (opcode off count : Nat) (f : State → State) : State :=
  if s.boot.manager ≠ .mi then s.miRefused opcode
  else if count = 0 ∨ 16 < count ∨ 0x4000000 < off + 4 * count ∨ off % 4 ≠ 0 then s.emit [.mi "Invalid Parameter" []]
  else f (s.emit [.mi "Success" []])

/-- WINDOW_READ (R87): `count` dword reads in ascending address order. [DEDUCED, unsafe: log 143] -/
def execWindowRead (off count : Nat) (s : State) : Host.Outcome State Fault Refusal :=
  effect s fun s => s.miWindow 0xC0 off count fun s => s.each (List.range count) fun s i => s.access (.read (off + 4 * i))

/-- WINDOW_WRITE (R87): `count` dword writes in ascending address order. [DEDUCED, unsafe: log 143] -/
def execWindowWrite (off count : Nat) (data : List Word) (s : State) : Host.Outcome State Fault Refusal :=
  effect s fun s => s.miWindow 0xC1 off count fun s =>
    s.each (List.range count) fun s i => s.access (.write (off + 4 * i) (data.getD i 0#32) 15)

/-- The owners of the controllers that exist: the PFs and the slots that are not INACTIVE (R67, R335). [DEDUCED, unsafe: log 197] -/
def State.controllerOwners (s : State) : List Nat :=
  (s.ten.slots.filter fun e => s.present e.1).map (·.1) ++ s.linkList.map pfOwner

/-- The controllers, by their identifiers: OWNER + 1. [DEDUCED, unsafe: log 197] -/
def State.controllerIds (s : State) : List Nat := s.controllerOwners.map (· + 1)

/-- READ_NVME_MI_DATA_STRUCTURE (R88): DTYP 2 is the controller list, and 3 the controller's information; what the others hold is
not stated: a free value (log entry 5). A DTYP above 4 is an invalid parameter. [DESIGN CHOICE, safe: log 5; PRESUMED, unsafe:
log 198] -/
def execReadNvmeMiDataStructure (dtyp : Nat) (s : State) : Host.Outcome State Fault Refusal :=
  effect s fun s =>
    if dtyp = 2 then s.emit [.mi "Success" s.controllerIds]
    else if dtyp = 3 then s.emit [.mi "Success" [vendorId, deviceId (.pf 0), classCode]]
    else if dtyp ≤ 4 then s.nextFree.emit [.mi "Success" [s.fresh]]
    else s.emit [.mi "Invalid Parameter" []]

/-- NVM_SUBSYSTEM_HEALTH_STATUS_POLL (R88): critical warning, composite temperature, percentage used. -/
def execNvmSubsystemHealthStatusPoll (s : State) : Host.Outcome State Fault Refusal :=
  effect s fun s => s.emit [.mi "Success" [s.criticalWarning, s.kelvin, (s.spareFields s.diesUp).2.2]]

/-- The health of one controller: CNTLID, RDY, CFS, temperature, percentage used, available spare, critical warning. -/
def State.ctrlHealth (s : State) (owner : Nat) : List Nat :=
  let c := s.ctrl owner
  let f := s.spareFields s.diesUp
  [owner + 1, c.rdy.toNat, c.cfs.toNat, s.kelvin, f.2.2, f.1, s.criticalWarning]

/-- CONTROLLER_HEALTH_STATUS_POLL (R88): the controllers from `sctl` on, at most `maxrent` + 1 of them. [DEDUCED, unsafe: log 197]
-/
def execControllerHealthStatusPoll (sctl maxrent : Nat) (s : State) : Host.Outcome State Fault Refusal :=
  effect s fun s =>
    let l := (s.controllerOwners.filter fun o => decide (sctl ≤ o + 1)).take (maxrent + 1)
    s.emit [.mi "Success" (l.map s.ctrlHealth).flatten]

/-- CONFIGURATION_GET (R88): configuration identifiers 1 to 3; their values are not stated: a free value (log entry 5). Another
identifier is an invalid parameter. [DESIGN CHOICE, safe: log 5; PRESUMED, unsafe: log 198] -/
def execConfigurationGet (id : Nat) (s : State) : Host.Outcome State Fault Refusal :=
  effect s fun s =>
    if 1 ≤ id ∧ id ≤ 3 then s.nextFree.emit [.mi "Success" [s.fresh]] else s.emit [.mi "Invalid Parameter" []]

/-- The answer to a tunnelled command: its status, and its data. [DESIGN CHOICE, safe: log 159] -/
def State.tunnelled (s : State) (x : Status × List Nat) : State :=
  s.emit [.mi "Success" ((statusCode x.1).1 :: (statusCode x.1).2 :: x.2)]

/-- ADMIN_TUNNEL (R88, R453): Identify, and Get Log Page of logs 02h, C0h and C3h, for a controller; another log is refused. -/
def execAdminTunnel (owner : Nat) (identify : Bool) (cns nsid csi lid off : Nat) (s : State) : Host.Outcome State Fault Refusal :=
  effect s fun s =>
    if identify then s.tunnelled (s.identifyData owner cns nsid csi)
    else if lid = 2 then s.tunnelled (.success, s.smart)
    else if lid = 0xC0 then s.tunnelled (.success, s.logC0)
    else if lid = 0xC3 then
      match s.logC3 true off with
      | some l => s.tunnelled (.success, l)
      | none => s.tunnelled (.invalidField, [])
    else if s.boot.manager = .mi then s else s.miRefused lid

end Sys2Proof.Machine
end

