-- ==== Sys2Proof/Machine/Dispatch.lean ====
section
/-! DEFINITION. The meaning of every command, one arm per constructor. -/

namespace Sys2Proof.Machine

def exec (i : Instr) (s : State) : Host.Outcome State Fault Refusal :=
  match i with
  | .porNAssert => Sys2Proof.Machine.execPorNAssert s
  | .porNDeassert straps pins nor => Sys2Proof.Machine.execPorNDeassert straps pins nor s
  | .sramFillDone => Sys2Proof.Machine.execSramFillDone s
  | .norBusyWaitDone dev finished => Sys2Proof.Machine.execNorBusyWaitDone dev finished s
  | .firmwareBoot => Sys2Proof.Machine.execFirmwareBoot s
  | .recoveryLinkRetry h0 h1 => Sys2Proof.Machine.execRecoveryLinkRetry h0 h1 s
  | .bootRecLoad unlock image => Sys2Proof.Machine.execBootRecLoad unlock image s
  | .chartLoad tr => Sys2Proof.Machine.execChartLoad tr s
  | .restoreStep n found => Sys2Proof.Machine.execRestoreStep n found s
  | .pairJournalWaitExpiry => Sys2Proof.Machine.execPairJournalWaitExpiry s
  | .fillHoldTimeout => Sys2Proof.Machine.execFillHoldTimeout s
  | .fillGo unlock => Sys2Proof.Machine.execFillGo unlock s
  | .warm unlock => Sys2Proof.Machine.execWarm unlock s
  | .warmReset cause => Sys2Proof.Machine.execWarmReset cause s
  | .chartCtrlLoad unlock slot arm => Sys2Proof.Machine.execChartCtrlLoad unlock slot arm s
  | .chartCtrlSafe unlock arm => Sys2Proof.Machine.execChartCtrlSafe unlock arm s
  | .chartDrainTimeout => Sys2Proof.Machine.execChartDrainTimeout s
  | .structuralDrainDone tr => Sys2Proof.Machine.execStructuralDrainDone tr s
  | .meridian => Sys2Proof.Machine.execMeridian s
  | .ptpSync m domain offset twoStep => Sys2Proof.Machine.execPtpSync m domain offset twoStep s
  | .ptpFollowUp m domain offset => Sys2Proof.Machine.execPtpFollowUp m domain offset s
  | .ptpAnnounce m => Sys2Proof.Machine.execPtpAnnounce m s
  | .ptpDelayResp m domain delay => Sys2Proof.Machine.execPtpDelayResp m domain delay s
  | .ptpDelayReq => Sys2Proof.Machine.execPtpDelayReq s
  | .ptpSyncTimeout => Sys2Proof.Machine.execPtpSyncTimeout s
  | .announceReceiptTimeout => Sys2Proof.Machine.execAnnounceReceiptTimeout s
  | .ppsEdge ns => Sys2Proof.Machine.execPpsEdge ns s
  | .ppsWindowClose => Sys2Proof.Machine.execPpsWindowClose s
  | .judgingIntervalEnd => Sys2Proof.Machine.execJudgingIntervalEnd s
  | .todMessage t => Sys2Proof.Machine.execTodMessage t s
  | .acquireTimeout => Sys2Proof.Machine.execAcquireTimeout s
  | .holdoverTimeout => Sys2Proof.Machine.execHoldoverTimeout s
  | .slewTimeout => Sys2Proof.Machine.execSlewTimeout s
  | .sqTailDoorbell owner qid tail => Sys2Proof.Machine.execSqTailDoorbell owner qid tail s
  | .cqHeadDoorbell owner qid head => Sys2Proof.Machine.execCqHeadDoorbell owner qid head s
  | .stampSweep => Sys2Proof.Machine.execStampSweep s
  | .fetch => Sys2Proof.Machine.execFetch s
  | .fetchReadComplete owner qid entries => Sys2Proof.Machine.execFetchReadComplete owner qid entries s
  | .contextFill owner qid => Sys2Proof.Machine.execContextFill owner qid s
  | .completionPost ref egress => Sys2Proof.Machine.execCompletionPost ref egress s
  | .cqFullWaitExpiry owner cqid => Sys2Proof.Machine.execCqFullWaitExpiry owner cqid s
  | .aggregationTimeExpiry owner vector => Sys2Proof.Machine.execAggregationTimeExpiry owner vector s
  | .vectorUnmask fn w => Sys2Proof.Machine.execVectorUnmask fn w s
  | .qcountChange slot countM1 => Sys2Proof.Machine.execQcountChange slot countM1 s
  | .qcountChangeDone => Sys2Proof.Machine.execQcountChangeDone s
  | .qengTenLimitWrite slot limit => Sys2Proof.Machine.execQengTenLimitWrite slot limit s
  | .linkUp link gen width flit tag10 => Sys2Proof.Machine.execLinkUp link gen width flit tag10 s
  | .linkDown link => Sys2Proof.Machine.execLinkDown link s
  | .hotReset link => Sys2Proof.Machine.execHotReset link s
  | .perstAssert port => Sys2Proof.Machine.execPerstAssert port s
  | .functionLevelReset fn => Sys2Proof.Machine.execFunctionLevelReset fn s
  | .flrComplete fn => Sys2Proof.Machine.execFlrComplete fn s
  | .vfEnable link => Sys2Proof.Machine.execVfEnable link s
  | .vfDisable link => Sys2Proof.Machine.execVfDisable link s
  | .numvfsWrite link w => Sys2Proof.Machine.execNumvfsWrite link w s
  | .ccEnable owner asqs acqs ams asq acq => Sys2Proof.Machine.execCcEnable owner asqs acqs ams asq acq s
  | .controllerReset owner => Sys2Proof.Machine.execControllerReset owner s
  | .completionTimeout link what => Sys2Proof.Machine.execCompletionTimeout link what s
  | .poisonedTlp link what => Sys2Proof.Machine.execPoisonedTlp link what s
  | .identify ref cns nsid csi => Sys2Proof.Machine.execIdentify ref cns nsid csi s
  | .getLogPage ref lid nsid off rae => Sys2Proof.Machine.execGetLogPage ref lid nsid off rae s
  | .getLogC0 ref off => Sys2Proof.Machine.execGetLogC0 ref off s
  | .getLogC1 ref nsid rae => Sys2Proof.Machine.execGetLogC1 ref nsid rae s
  | .getLogC2 ref nsid rae => Sys2Proof.Machine.execGetLogC2 ref nsid rae s
  | .getLogC3 ref off => Sys2Proof.Machine.execGetLogC3 ref off s
  | .setFeaturesDeadlineDefault ref qid dl sv => Sys2Proof.Machine.execSetFeaturesDeadlineDefault ref qid dl sv s
  | .getFeaturesDeadlineDefault ref qid => Sys2Proof.Machine.execGetFeaturesDeadlineDefault ref qid s
  | .setFeaturesNumberOfQueues ref nsq ncq => Sys2Proof.Machine.execSetFeaturesNumberOfQueues ref nsq ncq s
  | .getFeaturesNumberOfQueues ref => Sys2Proof.Machine.execGetFeaturesNumberOfQueues ref s
  | .setFeaturesVolatileWriteCache ref wce => Sys2Proof.Machine.execSetFeaturesVolatileWriteCache ref wce s
  | .setFeaturesPowerManagement ref ps => Sys2Proof.Machine.execSetFeaturesPowerManagement ref ps s
  | .getFeaturesPowerManagement ref => Sys2Proof.Machine.execGetFeaturesPowerManagement ref s
  | .setFeaturesInterruptCoalescing ref vectorConfig dw11 => Sys2Proof.Machine.execSetFeaturesInterruptCoalescing ref vectorConfig dw11 s
  | .setFeaturesArbitration ref ab lpw mpw hpw => Sys2Proof.Machine.execSetFeaturesArbitration ref ab lpw mpw hpw s
  | .createIoSubmissionQueue ref qid size base cqid prio pc => Sys2Proof.Machine.execCreateIoSubmissionQueue ref qid size base cqid prio pc s
  | .createIoCompletionQueue ref qid size base vector ien pc => Sys2Proof.Machine.execCreateIoCompletionQueue ref qid size base vector ien pc s
  | .deleteIoSubmissionQueue ref qid => Sys2Proof.Machine.execDeleteIoSubmissionQueue ref qid s
  | .deleteIoCompletionQueue ref qid => Sys2Proof.Machine.execDeleteIoCompletionQueue ref qid s
  | .asynchronousEventRequest ref => Sys2Proof.Machine.execAsynchronousEventRequest ref s
  | .abort ref sqid cid => Sys2Proof.Machine.execAbort ref sqid cid s
  | .namespaceCreate ref cons csi nsze fmt handles => Sys2Proof.Machine.execNamespaceCreate ref cons csi nsze fmt handles s
  | .namespaceDelete ref nsid => Sys2Proof.Machine.execNamespaceDelete ref nsid s
  | .namespaceAttach ref nsid ctrls => Sys2Proof.Machine.execNamespaceAttach ref nsid ctrls s
  | .namespaceDetach ref nsid ctrls => Sys2Proof.Machine.execNamespaceDetach ref nsid ctrls s
  | .formatNvm ref nsid fmt ses => Sys2Proof.Machine.execFormatNvm ref nsid fmt ses s
  | .sanitizeCryptoErase ref => Sys2Proof.Machine.execSanitizeCryptoErase ref s
  | .sanitizeBlockErase ref => Sys2Proof.Machine.execSanitizeBlockErase ref s
  | .firmwareDownload ref off len content => Sys2Proof.Machine.execFirmwareDownload ref off len content s
  | .firmwareCommitWrite ref fs => Sys2Proof.Machine.execFirmwareCommitWrite ref fs s
  | .firmwareCommitWriteActivate ref fs => Sys2Proof.Machine.execFirmwareCommitWriteActivate ref fs s
  | .firmwareCommitActivate ref dw10 => Sys2Proof.Machine.execFirmwareCommitActivate ref dw10 s
  | .firmwareCommitChart ref fs => Sys2Proof.Machine.execFirmwareCommitChart ref fs s
  | .read ref nsid slba nlb hot => Sys2Proof.Machine.execRead ref nsid slba nlb hot s
  | .write ref nsid slba nlb fua dtype dspec => Sys2Proof.Machine.execWrite ref nsid slba nlb fua dtype dspec s
  | .zoneAppend ref nsid slba nlb => Sys2Proof.Machine.execZoneAppend ref nsid slba nlb s
  | .writeZeroes ref nsid slba nlb deac => Sys2Proof.Machine.execWriteZeroes ref nsid slba nlb deac s
  | .flush ref nsid => Sys2Proof.Machine.execFlush ref nsid s
  | .datasetManagementDeallocate ref nsid ranges => Sys2Proof.Machine.execDatasetManagementDeallocate ref nsid ranges s
  | .zoneOpen ref nsid slba all sec => Sys2Proof.Machine.execZoneOpen ref nsid slba all sec s
  | .zoneClose ref nsid slba all sec => Sys2Proof.Machine.execZoneClose ref nsid slba all sec s
  | .zoneFinish ref nsid slba all sec => Sys2Proof.Machine.execZoneFinish ref nsid slba all sec s
  | .zoneReset ref nsid slba all => Sys2Proof.Machine.execZoneReset ref nsid slba all s
  | .secureReset ref nsid slba all => Sys2Proof.Machine.execSecureReset ref nsid slba all s
  | .zoneReport ref nsid slba => Sys2Proof.Machine.execZoneReport ref nsid slba s
  | .writeDataReceived ref res => Sys2Proof.Machine.execWriteDataReceived ref res s
  | .zoneResetApply nsid zone => Sys2Proof.Machine.execZoneResetApply nsid zone s
  | .zoneOpenEraseWaitEnd nsid zone => Sys2Proof.Machine.execZoneOpenEraseWaitEnd nsid zone s
  | .secureResetComplete ref => Sys2Proof.Machine.execSecureResetComplete ref s
  | .securePendingLimitWaitEnd cons => Sys2Proof.Machine.execSecurePendingLimitWaitEnd cons s
  | .zoneHotSizeWrite request => Sys2Proof.Machine.execZoneHotSizeWrite request s
  | .hotCacheShrinkDone => Sys2Proof.Machine.execHotCacheShrinkDone s
  | .zoneNsAttrWrite secure => Sys2Proof.Machine.execZoneNsAttrWrite secure s
  | .batchOnFlash okA okB companion => Sys2Proof.Machine.execBatchOnFlash okA okB companion s
  | .pwrLossNAssert => Sys2Proof.Machine.execPwrLossNAssert s
  | .duskQuiesceDone => Sys2Proof.Machine.execDuskQuiesceDone s
  | .duskDataDone lost => Sys2Proof.Machine.execDuskDataDone lost s
  | .duskRecordWritten tenUs => Sys2Proof.Machine.execDuskRecordWritten tenUs s
  | .holdupOkFall => Sys2Proof.Machine.execHoldupOkFall s
  | .pwrLossNDeassert => Sys2Proof.Machine.execPwrLossNDeassert s
  | .dieQueueEntry r => Sys2Proof.Machine.execDieQueueEntry r s
  | .operationIssue ch die => Sys2Proof.Machine.execOperationIssue ch die s
  | .deadlinePass ch die op => Sys2Proof.Machine.execDeadlinePass ch die op s
  | .holdMsReached ch die => Sys2Proof.Machine.execHoldMsReached ch die s
  | .pageReadDone ch die us linesOk => Sys2Proof.Machine.execPageReadDone ch die us linesOk s
  | .hardDecodeDone op ok bits hallmarkOk => Sys2Proof.Machine.execHardDecodeDone op ok bits hallmarkOk s
  | .softDecodeDone op ok hallmarkOk shift => Sys2Proof.Machine.execSoftDecodeDone op ok hallmarkOk shift s
  | .crucibleJobDone job ok hallmarkOk => Sys2Proof.Machine.execCrucibleJobDone job ok hallmarkOk s
  | .programDone ch die us failed => Sys2Proof.Machine.execProgramDone ch die us failed s
  | .eraseDone ch die us failed assayBad => Sys2Proof.Machine.execEraseDone ch die us failed assayBad s
  | .eraseSuspendDone ch die us => Sys2Proof.Machine.execEraseSuspendDone ch die us s
  | .eraseResumeDone ch die us => Sys2Proof.Machine.execEraseResumeDone ch die us s
  | .operationTimeout ch die => Sys2Proof.Machine.execOperationTimeout ch die s
  | .dieResetTimeout die answer => Sys2Proof.Machine.execDieResetTimeout die answer s
  | .idleLevelCheck ch ok => Sys2Proof.Machine.execIdleLevelCheck ch ok s
  | .recentre ch ok => Sys2Proof.Machine.execRecentre ch ok s
  | .flashTemperatureRead ch die temp => Sys2Proof.Machine.execFlashTemperatureRead ch die temp s
  | .scrubRead ch die block lower upper between => Sys2Proof.Machine.execScrubRead ch die block lower upper between s
  | .scrubMidpoint => Sys2Proof.Machine.execScrubMidpoint s
  | .wearLevelCheck => Sys2Proof.Machine.execWearLevelCheck s
  | .blockStateTableSnapshot => Sys2Proof.Machine.execBlockStateTableSnapshot s
  | .mediaWpCtrlRelease unlock => Sys2Proof.Machine.execMediaWpCtrlRelease unlock s
  | .mediaRawCtrlWrite enable => Sys2Proof.Machine.execMediaRawCtrlWrite enable s
  | .memberFail unlock m force => Sys2Proof.Machine.execMemberFail unlock m force s
  | .memberInsert unlock m => Sys2Proof.Machine.execMemberInsert unlock m s
  | .isolationComplete m => Sys2Proof.Machine.execIsolationComplete m s
  | .memberTrainingDone m ok found => Sys2Proof.Machine.execMemberTrainingDone m ok found s
  | .rebuildRow m set row => Sys2Proof.Machine.execRebuildRow m set row s
  | .rebuildComplete m => Sys2Proof.Machine.execRebuildComplete m s
  | .resyncRegion region rows => Sys2Proof.Machine.execResyncRegion region rows s
  | .netLinkUp p => Sys2Proof.Machine.execNetLinkUp p s
  | .netLinkDown p => Sys2Proof.Machine.execNetLinkDown p s
  | .pfcFrame p prio quanta => Sys2Proof.Machine.execPfcFrame p prio quanta s
  | .pfcPauseTimeout p prio => Sys2Proof.Machine.execPfcPauseTimeout p prio s
  | .rocePacket k => Sys2Proof.Machine.execRocePacket k s
  | .cnp qp => Sys2Proof.Machine.execCnp qp s
  | .rateIncreaseTimer qp => Sys2Proof.Machine.execRateIncreaseTimer qp s
  | .ackSend qp => Sys2Proof.Machine.execAckSend qp s
  | .ack qp psn => Sys2Proof.Machine.execAck qp psn s
  | .nakSequenceError qp psn => Sys2Proof.Machine.execNakSequenceError qp psn s
  | .rnrNak qp timer => Sys2Proof.Machine.execRnrNak qp timer s
  | .ackTimeout qp => Sys2Proof.Machine.execAckTimeout qp s
  | .capsule owner qid e => Sys2Proof.Machine.execCapsule owner qid e s
  | .connect c => Sys2Proof.Machine.execConnect c s
  | .keepAlive ref => Sys2Proof.Machine.execKeepAlive ref s
  | .keepAliveExpiry owner => Sys2Proof.Machine.execKeepAliveExpiry owner s
  | .arpRequest p addr => Sys2Proof.Machine.execArpRequest p addr s
  | .neighborSolicitation p addr => Sys2Proof.Machine.execNeighborSolicitation p addr s
  | .connectionRequest p hostNqn qid => Sys2Proof.Machine.execConnectionRequest p hostNqn qid s
  | .serve ref slot len words => Sys2Proof.Machine.execServe ref slot len words s
  | .serveContextWaitEnd ref => Sys2Proof.Machine.execServeContextWaitEnd ref s
  | .gather ref egress => Sys2Proof.Machine.execGather ref egress s
  | .openStep ref => Sys2Proof.Machine.execOpenStep ref s
  | .cipher ref => Sys2Proof.Machine.execCipher ref s
  | .emit ref => Sys2Proof.Machine.execEmit ref s
  | .send ref => Sys2Proof.Machine.execSend ref s
  | .post ref => Sys2Proof.Machine.execPost ref s
  | .serveSlotLoad slot owner => Sys2Proof.Machine.execServeSlotLoad slot owner s
  | .serveSlotClear slot => Sys2Proof.Machine.execServeSlotClear slot s
  | .sqpConnect owner => Sys2Proof.Machine.execSqpConnect owner s
  | .sqpDestroy => Sys2Proof.Machine.execSqpDestroy s
  | .sqpPeerAccept handle => Sys2Proof.Machine.execSqpPeerAccept handle s
  | .sqpPeerReject handle => Sys2Proof.Machine.execSqpPeerReject handle s
  | .sqpConnectTimeout handle => Sys2Proof.Machine.execSqpConnectTimeout handle s
  | .netAddrCommit attr => Sys2Proof.Machine.execNetAddrCommit attr s
  | .keyLoad kind owner force => Sys2Proof.Machine.execKeyLoad kind owner force s
  | .keyGenerate kind owner force => Sys2Proof.Machine.execKeyGenerate kind owner force s
  | .keyClear => Sys2Proof.Machine.execKeyClear s
  | .keyNsBind slot => Sys2Proof.Machine.execKeyNsBind slot s
  | .keyLimitWrite which value => Sys2Proof.Machine.execKeyLimitWrite which value s
  | .glitchDetectorTrip kind => Sys2Proof.Machine.execGlitchDetectorTrip kind s
  | .tamper => Sys2Proof.Machine.execTamper s
  | .eclipse slot force link => Sys2Proof.Machine.execEclipse slot force link s
  | .eclipseDrainDone slot => Sys2Proof.Machine.execEclipseDrainDone slot s
  | .tenEclTimeout slot => Sys2Proof.Machine.execTenEclTimeout slot s
  | .eclipseRecordWritten slot dmaOk => Sys2Proof.Machine.execEclipseRecordWritten slot dmaOk s
  | .resume slot => Sys2Proof.Machine.execResume slot s
  | .restore slot link => Sys2Proof.Machine.execRestore slot link s
  | .restoreRecordRead slot rec => Sys2Proof.Machine.execRestoreRecordRead slot rec s
  | .release slot => Sys2Proof.Machine.execRelease slot s
  | .tenWeightWrite slot weight => Sys2Proof.Machine.execTenWeightWrite slot weight s
  | .tenNqnWrite slot hash => Sys2Proof.Machine.execTenNqnWrite slot hash s
  | .cellAllocate requester reserve pool => Sys2Proof.Machine.execCellAllocate requester reserve pool s
  | .wholeBufferAllocate requester reserve pool cells => Sys2Proof.Machine.execWholeBufferAllocate requester reserve pool cells s
  | .wholeBufferHold pool => Sys2Proof.Machine.execWholeBufferHold pool s
  | .share requester handle uncorrectable corrected holder => Sys2Proof.Machine.execShare requester handle uncorrectable corrected holder s
  | .releaseChain requester handle uncorrectable corrected holder => Sys2Proof.Machine.execReleaseChain requester handle uncorrectable corrected holder s
  | .dramHashApply => Sys2Proof.Machine.execDramHashApply s
  | .dramFill => Sys2Proof.Machine.execDramFill s
  | .dramFillDone => Sys2Proof.Machine.execDramFillDone s
  | .dramNrSeedWrite seed => Sys2Proof.Machine.execDramNrSeedWrite seed s
  | .dramRequest r => Sys2Proof.Machine.execDramRequest r s
  | .dramScrub addr verdict => Sys2Proof.Machine.execDramScrub addr verdict s
  | .readRaw unlock space => Sys2Proof.Machine.execReadRaw unlock space s
  | .writeRaw unlock space => Sys2Proof.Machine.execWriteRaw unlock space s
  | .eccTestWrite unlock space => Sys2Proof.Machine.execEccTestWrite unlock space s
  | .bulumLinkTrained lanes => Sys2Proof.Machine.execBulumLinkTrained lanes s
  | .bulumTrainingRetry => Sys2Proof.Machine.execBulumTrainingRetry s
  | .blockLockLost lane => Sys2Proof.Machine.execBlockLockLost lane s
  | .identityExchange c => Sys2Proof.Machine.execIdentityExchange c s
  | .heartbeat h => Sys2Proof.Machine.execHeartbeat h s
  | .heartbeatSend => Sys2Proof.Machine.execHeartbeatSend s
  | .heartbeatTimeout => Sys2Proof.Machine.execHeartbeatTimeout s
  | .fenceDeferralExpiry => Sys2Proof.Machine.execFenceDeferralExpiry s
  | .fenceSettleExpiry => Sys2Proof.Machine.execFenceSettleExpiry s
  | .fenceInAssert => Sys2Proof.Machine.execFenceInAssert s
  | .mirrorFrame f => Sys2Proof.Machine.execMirrorFrame f s
  | .mirrorAck seq ok => Sys2Proof.Machine.execMirrorAck seq ok s
  | .ackReplayTimeout seq => Sys2Proof.Machine.execAckReplayTimeout seq s
  | .forwardedCommand f => Sys2Proof.Machine.execForwardedCommand f s
  | .forwardResponse ref st lba => Sys2Proof.Machine.execForwardResponse ref st lba s
  | .companionBatch seq epoch => Sys2Proof.Machine.execCompanionBatch seq epoch s
  | .codewordRequest nsid lba n => Sys2Proof.Machine.execCodewordRequest nsid lba n s
  | .codewordResponse ask ok => Sys2Proof.Machine.execCodewordResponse ask ok s
  | .homeConfirm cons toB => Sys2Proof.Machine.execHomeConfirm cons toB s
  | .secureResetConfirm ref => Sys2Proof.Machine.execSecureResetConfirm ref s
  | .pairHomeWrite j value => Sys2Proof.Machine.execPairHomeWrite j value s
  | .yield unlock => Sys2Proof.Machine.execYield unlock s
  | .survive unlock => Sys2Proof.Machine.execSurvive unlock s
  | .resyncCopy nsid region image => Sys2Proof.Machine.execResyncCopy nsid region image s
  | .autoRetainIdle d => Sys2Proof.Machine.execAutoRetainIdle d s
  | .domainWake d source => Sys2Proof.Machine.execDomainWake d source s
  | .domainReady d ns => Sys2Proof.Machine.execDomainReady d ns s
  | .wakeTimeout d => Sys2Proof.Machine.execWakeTimeout d s
  | .memberWakeTimeout d => Sys2Proof.Machine.execMemberWakeTimeout d s
  | .pwrVpCtrlWrite target => Sys2Proof.Machine.execPwrVpCtrlWrite target s
  | .vregAck => Sys2Proof.Machine.execVregAck s
  | .vregTimeout => Sys2Proof.Machine.execVregTimeout s
  | .pwrClkCtrlWrite dp core => Sys2Proof.Machine.execPwrClkCtrlWrite dp core s
  | .pllRelockDone => Sys2Proof.Machine.execPllRelockDone s
  | .powerStateChange => Sys2Proof.Machine.execPowerStateChange s
  | .idleTimerExpiry n => Sys2Proof.Machine.execIdleTimerExpiry n s
  | .thermalSample x => Sys2Proof.Machine.execThermalSample x s
  | .thermalLevelExit => Sys2Proof.Machine.execThermalLevelExit s
  | .mbxLockRead m a => Sys2Proof.Machine.execMbxLockRead m a s
  | .mbxRelease m a id => Sys2Proof.Machine.execMbxRelease m a id s
  | .mbxSend m a w => Sys2Proof.Machine.execMbxSend m a w s
  | .mbxRecv m a => Sys2Proof.Machine.execMbxRecv m a s
  | .mbxReplySend m a w => Sys2Proof.Machine.execMbxReplySend m a w s
  | .mbxReplyRecv m a => Sys2Proof.Machine.execMbxReplyRecv m a s
  | .ring m a => Sys2Proof.Machine.execRing m a s
  | .reply m a => Sys2Proof.Machine.execReply m a s
  | .flushMailbox m a => Sys2Proof.Machine.execFlushMailbox m a s
  | .mbxTimeout m => Sys2Proof.Machine.execMbxTimeout m s
  | .mbxBreak m a unlock => Sys2Proof.Machine.execMbxBreak m a unlock s
  | .companionMailboxFrame m f => Sys2Proof.Machine.execCompanionMailboxFrame m f s
  | .evtPendingClear w mask same => Sys2Proof.Machine.execEvtPendingClear w mask same s
  | .almListWrite list entry valid off => Sys2Proof.Machine.execAlmListWrite list entry valid off s
  | .almRead hi => Sys2Proof.Machine.execAlmRead hi s
  | .almReadDone ok => Sys2Proof.Machine.execAlmReadDone ok s
  | .wdtCoreKick a key => Sys2Proof.Machine.execWdtCoreKick a key s
  | .wdtDevKick a key => Sys2Proof.Machine.execWdtDevKick a key s
  | .coreWatchdogExpiry core => Sys2Proof.Machine.execCoreWatchdogExpiry core s
  | .deviceWatchdogHalf => Sys2Proof.Machine.execDeviceWatchdogHalf s
  | .deviceWatchdogExpiry => Sys2Proof.Machine.execDeviceWatchdogExpiry s
  | .bootWatchdogExpiry => Sys2Proof.Machine.execBootWatchdogExpiry s
  | .dbgUnlockGo unlock lock => Sys2Proof.Machine.execDbgUnlockGo unlock lock s
  | .dbgUnlockLock unlock => Sys2Proof.Machine.execDbgUnlockLock unlock s
  | .jtagUnlock => Sys2Proof.Machine.execJtagUnlock s
  | .otpProgram unlock readbackOk => Sys2Proof.Machine.execOtpProgram unlock readbackOk s
  | .windowRead off count => Sys2Proof.Machine.execWindowRead off count s
  | .windowWrite off count data => Sys2Proof.Machine.execWindowWrite off count data s
  | .readNvmeMiDataStructure dtyp => Sys2Proof.Machine.execReadNvmeMiDataStructure dtyp s
  | .nvmSubsystemHealthStatusPoll => Sys2Proof.Machine.execNvmSubsystemHealthStatusPoll s
  | .controllerHealthStatusPoll sctl maxrent => Sys2Proof.Machine.execControllerHealthStatusPoll sctl maxrent s
  | .configurationGet id => Sys2Proof.Machine.execConfigurationGet id s
  | .adminTunnel owner identify cns nsid csi lid off => Sys2Proof.Machine.execAdminTunnel owner identify cns nsid csi lid off s
  | .miCommandRefused opcode => Sys2Proof.Machine.execMiCommandRefused opcode s
  | .loRegisterRead off => Sys2Proof.Machine.execLoRegisterRead off s
  | .readClear off same => Sys2Proof.Machine.execReadClear off same s
  | .registerWrite off value be => Sys2Proof.Machine.execRegisterWrite off value be s
  | .holdupOkRise => Sys2Proof.Machine.execHoldupOkRise s
  | .fenceInDeassert => Sys2Proof.Machine.execFenceInDeassert s
  | .perstDeassert port => Sys2Proof.Machine.execPerstDeassert port s
  | .alignmentMark lane offset => Sys2Proof.Machine.execAlignmentMark lane offset s
  | .fullRetrainingDone ch ok => Sys2Proof.Machine.execFullRetrainingDone ch ok s
  | .pauseQuantaExpiry p prio => Sys2Proof.Machine.execPauseQuantaExpiry p prio s
  | .rnrRetryTimerExpiry qp => Sys2Proof.Machine.execRnrRetryTimerExpiry qp s
  | .apstTransition owner ps => Sys2Proof.Machine.execApstTransition owner ps s
  | .mirrorCredit mib => Sys2Proof.Machine.execMirrorCredit mib s
  | .slotWriteDone ok => Sys2Proof.Machine.execSlotWriteDone ok s

end Sys2Proof.Machine
end

