-- ==== Sys2Proof/Machine/Transmit.lean ====
section
/-! DEFINITION. What the network ports send in one SYSCLK cycle (spec/11 R279, R280, R282, R289, R300): packet after packet, from one
queue pair after another, within the rates of the port and of the queue pair. -/

namespace Sys2Proof.Machine

/-- The bytes of a packet's transmit time beside its payload: preamble, gap, Ethernet, IP, UDP, transport header, ICRC and FCS.
[PRESUMED, unsafe: log 227] -/
def frameBytes : Nat := 82

/-- The payload of the next packet of a message. -/
def Msg.payload (m : Msg) (pmtu : Nat) : Nat := min pmtu (m.len - m.sent)

/-- The transmit time of the next packet of a message, in 10⁻⁸ bytes. -/
def Msg.cost (m : Msg) (pmtu : Nat) : Nat := (m.payload pmtu + frameBytes) * 100000000

/-- Does the next packet of a message end it? -/
def Msg.ends (m : Msg) (pmtu : Nat) : Bool := decide (m.len ≤ m.sent + m.payload pmtu)

/-- The name of the packet of a message. -/
def MsgKind.packet : MsgKind → String
  | .write | .readData => "rdma write"
  | .send => "send"
  | .writeImm => "rdma write with immediate"
  | .sendImm => "send with immediate"
  | .readReq => "rdma read request"

/-- The data of a message as one little-endian number, and the part of it that the next packet holds. -/
def Msg.bytes (m : Msg) : Nat := m.data.foldr (fun d n => d % 256 ^ m.unit + n * 256 ^ m.unit) 0
def Msg.packetData (m : Msg) (pmtu : Nat) : Nat := m.bytes / 256 ^ m.sent % 256 ^ m.payload pmtu

/-- What a port saves of its transmit time in a cycle, at 95 % of its line rate (R289), and a queue pair at its own rate (R282), in 10⁻⁸
bytes: 1 kb/s is 5 × 10⁻⁶ bytes a cycle. -/
def State.portCredit (s : State) (p : Nat) : Nat := s.lineRate p * 475
def Qp.rateCredit (q : Qp) : Nat := q.rate * 500

/-- The transmit time saved for a largest packet, beyond which nothing is kept. -/
def largestPacket : Nat := (4096 + frameBytes) * 100000000

/-- Time goes by for the ports and for the queue pairs with something to send: none saves more than a packet and a cycle. -/
def State.saveCredit (s : State) : State :=
  s.updNet fun n => { n with
    ports := n.ports.map fun e =>
      if e.2.up then (e.1, { e.2 with credit := min e.2.credit largestPacket + s.portCredit e.1 }) else e
    qps := n.qps.map fun e =>
      if e.2.sendq.isEmpty then e else (e.1, { e.2 with credit := min e.2.credit largestPacket + e.2.rateCredit }) }

/-- May a queue pair send its next packet on port `p` (R280, R282, R283, R284)? -/
def State.maySend (s : State) (p : Nat) (q : Qp) : Bool :=
  match q.sendq.head? with
  | none => false
  | some m => q.port == p && !q.error && !q.rnrWait && (s.netPort p).up &&
      !(bit (s.netPort p).paused (s.rd Reg.NET_PRIO_CFG_ROCE_PRIO) && s.pfcOn p (s.rd Reg.NET_PRIO_CFG_ROCE_PRIO)) &&
      (m.kind != .readReq || decide (s.asksOf q < 16)) && decide (m.cost q.pmtu ≤ q.credit) && decide (m.cost q.pmtu ≤ (s.netPort p).credit)

/-- The queue pair that sends next on a port: the one after the last that sent there, in round robin (R289). -/
def State.nextSender (s : State) (p : Nat) : Option (Nat × Qp) :=
  let l := s.net.qps.filter fun e => s.maySend p e.2
  (l.find? fun e => decide ((s.netPort p).served < e.1)).or l.head?

/-- A program's SEND step has sent a packet of its queue pair; with its last one the step ends, and POST waits for that PSN (R300,
R301). -/
def State.sentFor (s : State) (r : CmdRef) (k : Nat) : State :=
  let s := s.modRun r fun x => { x with sending := x.sending.map (· + 1) }
  match mapGet? s.net.qps k with
  | some q => match q.use with
    | .serve h =>
      if s.sendsFor r then s
      else (s.modRun r fun x => { x with sent := (x.sent.filter fun e => e.1 ≠ h) ++ [(h, q.next)] }).stepDone r
    | _ => s
  | none => s

/-- A queue pair sends the next packet of its first message. -/
def State.sendPacket (s : State) (p k : Nat) (q : Qp) (m : Msg) (rest : List Msg) : State :=
  let n := m.payload q.pmtu
  let s := s.emit [Out.net m.kind.packet
    ([k, q.next % 2 ^ 24, n, m.rkey, m.addr + m.sent, m.imm, m.ask, m.packetData q.pmtu] ++ s.roceTag)]
  let c := m.cost q.pmtu
  let left := if m.ends q.pmtu then rest else { m with sent := m.sent + n } :: rest
  let next := q.next + m.psns q.pmtu
  let s := s.modQp k fun q => { q with
    sendq := left, next := next, credit := q.credit - c
    asked := match m.ref with
      | some r => if m.kind = .readReq then q.asked ++ [(r, next)] else q.asked
      | none => q.asked }
  let s := s.modPort p fun x => { x with credit := x.credit - c, served := k }
  let s := match q.use with
    | .serve _ => s.bumpUnits Reg.SERVE_BYTES_MIB 1048576 n
    | _ => s
  match m.ref with
  | some r => if m.kind = .readData ∨ m.kind = .readReq then s else s.sentFor r k
  | none => s

/-- The packets of a port in one cycle, at most `fuel`: a cycle at 400 Gb/s holds 1,900 bytes, and a largest packet may be saved up. -/
def State.sendPort (p : Nat) : State → Nat → State
  | s, 0 => s
  | s, fuel + 1 =>
    match s.nextSender p with
    | none => s
    | some (k, q) =>
      match q.sendq with
      | m :: rest => State.sendPort p (s.sendPacket p k q m rest) fuel
      | [] => s

/-- What the ports send in one SYSCLK cycle (R289). [DESIGN CHOICE, unsafe: log 220] -/
def State.transmit (s : State) : State :=
  if s.net.qps.any fun e => !e.2.sendq.isEmpty then
    s.saveCredit.each (s.net.ports.map (·.1)) fun s p => State.sendPort p s 80
  else s

end Sys2Proof.Machine
end

