-- ==== Sys2Proof/Machine/Tick.lean ====
section
/-! DEFINITION. What the block does of its own in one SYSCLK cycle: the step on an empty queue (log entry 2). -/

namespace Sys2Proof.Machine

/-- Count 40 ns toward the seconds of a field while `c` holds. -/
def State.countSeconds (s : State) (f : Field) (c : Bool) : State := if c then s.bumpUnits f 1000000000 40 else s

/-- The seconds at thermal level 1 or above, and with the warning set (Table PWR-11). [DESIGN CHOICE, unsafe: log 2] -/
def State.thermalTime (s : State) : State :=
  (s.countSeconds Reg.THERM_TIME_THROTTLED_S (decide (1 ≤ s.rd Reg.THERM_STATUS_LEVEL))).countSeconds Reg.THERM_TIME_WARN_S
    (s.on Reg.THERM_STATUS_WARN)

/-- The times of R432 at or above THERM_WARN and THERM_T3. [DESIGN CHOICE, unsafe: log 2] -/
def State.compositeTime (s : State) : State :=
  let above := fun (f : Field) => s.power.filterLoaded && decide (celsius (s.rd f) ≤ s.power.filtered)
  s.updPower fun p => { p with
    warnNs := p.warnNs + if above Reg.THERM_THRESH0_WARN then 40 else 0
    critNs := p.critNs + if above Reg.THERM_THRESH0_T3 then 40 else 0 }

/-- One SYSCLK cycle: the sidereal clock (R46), the DRAM write queues (R374), the network ports' packets (R289) and the thermal
times. [DESIGN CHOICE, unsafe: log 2] -/
def State.tick (s : State) : State :=
  let s := { s with out := [] }
  if s.alive then ({ s with time := s.time.tick }).drainWrites.transmit.thermalTime.compositeTime else s

end Sys2Proof.Machine
end

