-- ==== Sys2Proof/Machine/Step.lean ====
section
/-! DEFINITION. One step of the block: the command at the front of the queue takes effect with the queue's rest; on an
empty queue one SYSCLK cycle passes (log entry 2). -/

namespace Sys2Proof.Machine

/-- The block with another queue. [DESIGN CHOICE, unsafe: log 14] -/
def State.withPending (s : State) (l : List Instr) : State := { s with pending := l }

/-- One step. -/
def step (s : State) : Host.Outcome State Fault Refusal :=
  match s.pending with
  | [] => .next s.tick
  | c :: rest => exec c (s.withPending rest)

/-- The table gives no row bits, so no word spells a command (log entry 1). [DESIGN CHOICE, safe: log 1] -/
def State.withFetchWord (s : State) (nbits w : Nat) : State :=
  match Sys2Proof.decodeTableWord nbits w with
  | some c => s.withPending (c :: s.pending)
  | none => s

end Sys2Proof.Machine
end

