-- ==== Sys2Proof/Safety.lean ====
section
/-! DEFINITION. The terms in which statements speak of a run: the parts of the state, which parts a step leaves as they
are, and what holds of every state that a run reaches. -/

namespace Sys2Proof.Machine

/-! ### Parts of the state -/

/-- The parts of the state, one for each field. -/
inductive Part where
  | regs | latch | loWrite | pending | out | freeCtr | time | evt | alm | mbx | q | host | power | chart | boot | nv | jr
  | wp | zone | md | net | serve | key | ten | cell | dram | units | pair
  deriving DecidableEq, Repr

/-- The part is the same in both states. -/
def Part.same (s t : State) : Part → Prop
  | .regs => t.regs = s.regs
  | .latch => t.latch = s.latch
  | .loWrite => t.loWrite = s.loWrite
  | .pending => t.pending = s.pending
  | .out => t.out = s.out
  | .freeCtr => t.freeCtr = s.freeCtr
  | .time => t.time = s.time
  | .evt => t.evt = s.evt
  | .alm => t.alm = s.alm
  | .mbx => t.mbx = s.mbx
  | .q => t.q = s.q
  | .host => t.host = s.host
  | .power => t.power = s.power
  | .chart => t.chart = s.chart
  | .boot => t.boot = s.boot
  | .nv => t.nv = s.nv
  | .jr => t.jr = s.jr
  | .wp => t.wp = s.wp
  | .zone => t.zone = s.zone
  | .md => t.md = s.md
  | .net => t.net = s.net
  | .serve => t.serve = s.serve
  | .key => t.key = s.key
  | .ten => t.ten = s.ten
  | .cell => t.cell = s.cell
  | .dram => t.dram = s.dram
  | .units => t.units = s.units
  | .pair => t.pair = s.pair

/-- Between two states only the listed parts differ. -/
def OnlyChanges (l : List Part) (s t : State) : Prop := ∀ p : Part, p ∉ l → p.same s t

/-- The command `i` completes in `s`: it answers a next state, of which `φ` holds. -/
def Completes (i : Instr) (s : State) (φ : State → Prop) : Prop := ∃ t, exec i s = .next t ∧ φ t

/-- The state with no outputs yet, in which a command's effect begins. -/
def State.quiet (s : State) : State := { s with out := [] }

/-- How a command that holds its context has ended: its status and completion dwords (R109). -/
def State.ended (s : State) (r : CmdRef) : Option (Status × Nat × Nat) :=
  match s.cmd? r with
  | some c => match c.phase with
    | .done st a b => some (st, a, b)
    | _ => none
  | none => none

/-- A command that its executing stage may start: it holds a context and is fetched or waits (R14), and it is not an I/O command on
the ROM safe chart (R36), nor is a dusk drain in progress (R158). -/
def State.startable (s : State) (r : CmdRef) : Bool :=
  decide (s.wp.dusk = .idle) && (decide (r.sqid = 0) || decide (s.chart.phase ≠ .safe)) &&
    match s.cmd? r with
    | some c => match c.phase with
      | .fetched => true
      | .waiting _ => true
      | _ => false
    | none => false

/-- What an I/O command to a namespace of a device without a pair passes before it executes: the block is on, the command may start,
and the namespace exists, is attached and ready (R338, R322, R464). -/
def State.serves (s : State) (r : CmdRef) (nsid : Nat) (n : Ns) : Prop :=
  s.alive = true ∧ s.startable r = true ∧ s.ns? nsid = some n ∧ s.reaches r nsid = true ∧ s.nsReady nsid = true ∧ s.isPair = false

/-- Nothing runs or waits on the dies of a member, nor is anything open for writing: when the member leaves service, no work moves. -/
def State.idleMember (s : State) (m : Nat) : Prop :=
  (∀ d, dieMember d = m → (s.die d).busy = .idle ∧ (s.die d).queue = []) ∧ (∀ e ∈ s.nv.zones, e.2.st.isOpen = false) ∧
    ∀ e ∈ s.nv.rus, e.2.held = none

/-! ### Frames -/

/-- The parts that recording an event changes: the event's count and registers, the almanac, outputs, and the pending bits of the
manager's vectors (R444, R445). -/
def Part.recording : List Part := [.regs, .out, .evt, .alm, .host]

/-- Every part but the queue of commands. -/
def Part.everything : List Part :=
  [.regs, .latch, .loWrite, .out, .freeCtr, .time, .evt, .alm, .mbx, .q, .host, .power, .chart, .boot, .nv, .jr, .wp, .zone, .md,
   .net, .serve, .key, .ten, .cell, .dram, .units, .pair]

/-- The parts that a command may change: every other part it leaves as it is. -/
def footprint : Instr → List Part
  | .porNAssert => Part.everything.filter (! [.freeCtr].contains ·)
  | .porNDeassert .. => [.freeCtr, .q, .power, .boot, .nv, .jr, .wp, .zone, .md, .net, .serve, .key, .pair] ++ Part.recording
  | .sramFillDone => [.regs, .out, .boot]
  | .norBusyWaitDone .. => [.boot] ++ Part.recording
  | .firmwareBoot => [.boot] ++ Part.recording
  | .recoveryLinkRetry .. => [.boot] ++ Part.recording
  | .bootRecLoad .. => [.boot] ++ Part.recording
  | .chartLoad .. => [.time, .power, .chart, .boot, .nv, .jr, .wp, .md, .ten, .cell, .dram, .pair] ++ Part.recording
  | .restoreStep .. => [.freeCtr, .q, .power, .boot, .nv, .jr, .wp, .zone, .md, .net, .serve, .key, .pair] ++ Part.recording
  | .pairJournalWaitExpiry => [.freeCtr, .q, .power, .boot, .nv, .jr, .wp, .zone, .md, .net, .serve, .key, .pair] ++ Part.recording
  | .fillHoldTimeout => [.regs, .out, .boot, .dram]
  | .fillGo .. => [.regs, .out, .boot, .dram]
  | .warm .. => [.q, .power, .boot, .nv, .jr, .wp, .zone, .md, .net, .serve, .key, .ten, .cell, .units, .pair] ++ Part.recording
  | .warmReset .. => Part.everything.filter (! [.freeCtr, .chart].contains ·)
  | .chartCtrlLoad .. => [.time, .chart, .md, .net, .serve, .cell, .units] ++ Part.recording
  | .chartCtrlSafe .. => [.time, .chart, .md, .net, .serve, .cell, .units] ++ Part.recording
  | .chartDrainTimeout => [.q, .chart, .nv, .wp, .zone, .md, .net, .serve, .cell, .units] ++ Part.recording
  | .structuralDrainDone .. => Part.everything.filter (! [.freeCtr].contains ·)
  | .meridian => [.time, .q, .nv, .jr, .wp, .zone, .md, .ten, .pair] ++ Part.recording
  | .ptpSync .. => [.freeCtr, .time, .q, .nv, .jr, .wp, .zone, .md, .ten, .pair] ++ Part.recording
  | .ptpFollowUp .. => [.freeCtr, .time, .q, .nv, .jr, .wp, .zone, .md, .ten, .pair] ++ Part.recording
  | .ptpAnnounce .. => [.time] ++ Part.recording
  | .ptpDelayResp .. => [.out, .time]
  | .ptpDelayReq => [.out, .time]
  | .ptpSyncTimeout => [.time] ++ Part.recording
  | .announceReceiptTimeout => [.time] ++ Part.recording
  | .ppsEdge .. => [.freeCtr, .time, .q, .nv, .jr, .wp, .zone, .md, .ten, .pair] ++ Part.recording
  | .ppsWindowClose => [.out, .time]
  | .judgingIntervalEnd => [.time] ++ Part.recording
  | .todMessage .. => [.time, .q, .nv, .jr, .wp, .zone, .md, .ten, .pair] ++ Part.recording
  | .acquireTimeout => [.time] ++ Part.recording
  | .holdoverTimeout => [.time] ++ Part.recording
  | .slewTimeout => [.time] ++ Part.recording
  | .sqTailDoorbell .. => [.q, .power, .units] ++ Part.recording
  | .cqHeadDoorbell .. => [.q, .power, .units] ++ Part.recording
  | .stampSweep => [.q] ++ Part.recording
  | .fetch => [.regs, .out, .q, .units]
  | .fetchReadComplete .. => [.q] ++ Part.recording
  | .contextFill .. => [.q] ++ Part.recording
  | .completionPost .. => [.q, .nv, .wp, .md, .ten, .dram, .units] ++ Part.recording
  | .cqFullWaitExpiry .. => [.q] ++ Part.recording
  | .aggregationTimeExpiry .. => [.out, .host]
  | .vectorUnmask .. => [.out, .host]
  | .qcountChange .. => [.regs, .out, .q]
  | .qcountChangeDone => [.freeCtr, .q] ++ Part.recording
  | .qengTenLimitWrite .. => [.q] ++ Part.recording
  | .linkUp .. => [.boot] ++ Part.recording
  | .linkDown .. => [.q, .power, .boot, .nv, .jr, .wp, .zone, .md, .net, .serve, .key, .ten, .cell, .units, .pair] ++ Part.recording
  | .hotReset .. => [.q, .power, .boot, .nv, .jr, .wp, .zone, .md, .net, .serve, .key, .ten, .cell, .units, .pair] ++ Part.recording
  | .perstAssert .. => [.q, .power, .boot, .nv, .jr, .wp, .zone, .md, .net, .serve, .key, .ten, .cell, .units, .pair] ++ Part.recording
  | .functionLevelReset .. => [.q, .power, .boot, .nv, .jr, .wp, .zone, .md, .net, .serve, .key, .ten, .cell, .units, .pair] ++ Part.recording
  | .flrComplete .. => [.out, .host, .ten]
  | .vfEnable .. => [.ten] ++ Part.recording
  | .vfDisable .. => [.q, .power, .boot, .nv, .jr, .wp, .zone, .md, .net, .serve, .key, .ten, .cell, .units, .pair] ++ Part.recording
  | .numvfsWrite .. => [.regs, .out, .host]
  | .ccEnable .. => [.q] ++ Part.recording
  | .controllerReset .. => [.q, .power, .boot, .nv, .jr, .wp, .zone, .md, .net, .serve, .key, .ten, .cell, .units, .pair] ++ Part.recording
  | .completionTimeout .. => [.q, .nv, .wp, .zone, .md, .net, .serve, .cell, .units] ++ Part.recording
  | .poisonedTlp .. => [.q, .nv, .wp, .zone, .md, .net, .serve, .cell, .units] ++ Part.recording
  | .identify .. => [.out, .q]
  | .getLogPage .. => [.out, .q, .host]
  | .getLogC0 .. => [.out, .q]
  | .getLogC1 .. => [.out, .q, .host]
  | .getLogC2 .. => [.out, .q, .host]
  | .getLogC3 .. => [.out, .q]
  | .setFeaturesDeadlineDefault .. => [.out, .q]
  | .getFeaturesDeadlineDefault .. => [.out, .q]
  | .setFeaturesNumberOfQueues .. => [.out, .q]
  | .getFeaturesNumberOfQueues .. => [.out, .q]
  | .setFeaturesVolatileWriteCache .. => [.out, .q]
  | .setFeaturesPowerManagement .. => [.out, .q, .host, .power]
  | .getFeaturesPowerManagement .. => [.out, .q]
  | .setFeaturesInterruptCoalescing .. => [.out, .q, .host]
  | .setFeaturesArbitration .. => [.out, .q, .host]
  | .createIoSubmissionQueue .. => [.out, .q]
  | .createIoCompletionQueue .. => [.out, .q]
  | .deleteIoSubmissionQueue .. => [.out, .q, .zone]
  | .deleteIoCompletionQueue .. => [.out, .q]
  | .asynchronousEventRequest .. => [.out, .q, .host]
  | .abort .. => [.q, .md, .net, .serve, .cell, .units] ++ Part.recording
  | .namespaceCreate .. => [.freeCtr, .q, .nv, .jr, .zone, .key, .pair] ++ Part.recording
  | .namespaceDelete .. => [.q, .nv, .jr, .wp, .zone, .md, .net, .serve, .key, .ten, .pair] ++ Part.recording
  | .namespaceAttach .. => [.q, .nv, .jr, .ten] ++ Part.recording
  | .namespaceDetach .. => [.out, .q, .host, .nv, .ten]
  | .formatNvm .. => [.freeCtr, .q, .nv, .jr, .wp, .zone, .md, .net, .serve, .key, .pair] ++ Part.recording
  | .sanitizeCryptoErase .. => [.freeCtr, .q, .nv, .jr, .wp, .zone, .md, .net, .serve, .key, .pair] ++ Part.recording
  | .sanitizeBlockErase .. => [.out, .q, .nv, .jr, .wp, .zone, .md, .net, .serve, .pair]
  | .firmwareDownload .. => [.out, .q, .boot]
  | .firmwareCommitWrite .. => [.out, .q, .boot]
  | .firmwareCommitWriteActivate .. => [.out, .q, .boot]
  | .firmwareCommitActivate .. => [.q, .boot] ++ Part.recording
  | .firmwareCommitChart .. => [.out, .q, .boot]
  | .read .. => [.regs, .out, .q, .host, .nv, .zone, .md, .net, .serve]
  | .write .. => [.q, .nv, .jr, .wp, .zone, .net, .key, .ten, .pair] ++ Part.recording
  | .zoneAppend .. => [.q, .nv, .jr, .wp, .zone, .net, .key, .ten, .pair] ++ Part.recording
  | .writeZeroes .. => [.q, .nv, .jr, .wp, .zone, .net, .key, .ten, .pair] ++ Part.recording
  | .flush .. => [.regs, .out, .q, .nv, .jr, .wp, .md, .ten]
  | .datasetManagementDeallocate .. => [.q, .nv, .jr, .wp, .zone, .net, .pair] ++ Part.recording
  | .zoneOpen .. => [.q, .nv, .wp, .zone, .net, .pair] ++ Part.recording
  | .zoneClose .. => [.regs, .out, .q, .nv, .wp, .zone, .net, .pair]
  | .zoneFinish .. => [.regs, .out, .q, .nv, .wp, .net, .pair]
  | .zoneReset .. => [.q, .nv, .jr, .wp, .zone, .md, .net, .pair] ++ Part.recording
  | .secureReset .. => [.q, .nv, .jr, .wp, .zone, .md, .net, .pair] ++ Part.recording
  | .zoneReport .. => [.out, .q]
  | .writeDataReceived .. => [.q, .nv, .jr, .wp, .zone, .net, .pair] ++ Part.recording
  | .zoneResetApply .. => [.q, .nv, .jr, .wp, .zone, .md, .pair] ++ Part.recording
  | .zoneOpenEraseWaitEnd .. => [.q, .nv, .zone] ++ Part.recording
  | .secureResetComplete .. => [.out, .q, .zone]
  | .securePendingLimitWaitEnd .. => [.q, .nv, .jr, .wp, .zone, .md, .pair] ++ Part.recording
  | .zoneHotSizeWrite .. => Part.recording
  | .hotCacheShrinkDone => [.zone] ++ Part.recording
  | .zoneNsAttrWrite .. => [.nv] ++ Part.recording
  | .batchOnFlash .. => [.q, .nv, .jr, .wp, .zone, .md, .key, .pair] ++ Part.recording
  | .pwrLossNAssert => [.q, .power, .chart, .boot, .nv, .wp, .zone, .md, .net, .serve, .cell, .units] ++ Part.recording
  | .duskQuiesceDone => [.out, .wp]
  | .duskDataDone .. => [.out, .wp]
  | .duskRecordWritten .. => [.q, .power, .boot, .nv, .jr, .wp, .zone, .md, .net, .serve, .key, .ten, .cell, .units, .pair] ++ Part.recording
  | .holdupOkFall => [.boot, .wp] ++ Part.recording
  | .pwrLossNDeassert => [.q, .power, .boot, .nv, .jr, .wp, .zone, .md, .net, .serve, .key, .ten, .cell, .units, .pair] ++ Part.recording
  | .dieQueueEntry .. => [.q, .power, .nv, .jr, .wp, .zone, .md, .net, .serve, .pair] ++ Part.recording
  | .operationIssue .. => [.nv, .md] ++ Part.recording
  | .deadlinePass .. => [.out, .md]
  | .holdMsReached .. => [.out, .md]
  | .pageReadDone .. => [.q, .power, .nv, .jr, .wp, .zone, .md, .net, .serve, .pair] ++ Part.recording
  | .hardDecodeDone .. => [.q, .power, .nv, .jr, .wp, .zone, .md, .net, .serve, .pair] ++ Part.recording
  | .softDecodeDone .. => [.q, .power, .nv, .jr, .wp, .zone, .md, .net, .serve, .pair] ++ Part.recording
  | .crucibleJobDone .. => [.q, .power, .nv, .jr, .wp, .zone, .md, .net, .serve, .pair] ++ Part.recording
  | .programDone .. => [.q, .nv, .jr, .wp, .md] ++ Part.recording
  | .eraseDone .. => [.q, .nv, .jr, .zone, .md] ++ Part.recording
  | .eraseSuspendDone .. => [.md] ++ Part.recording
  | .eraseResumeDone .. => [.regs, .out, .md]
  | .operationTimeout .. => [.q, .power, .nv, .jr, .wp, .zone, .md, .net, .serve, .pair] ++ Part.recording
  | .dieResetTimeout .. => [.q, .power, .nv, .jr, .wp, .zone, .md, .net, .serve, .pair] ++ Part.recording
  | .idleLevelCheck .. => [.q, .power, .nv, .jr, .wp, .zone, .md, .net, .serve, .pair] ++ Part.recording
  | .recentre .. => [.md] ++ Part.recording
  | .flashTemperatureRead .. => [.q, .power, .nv, .md] ++ Part.recording
  | .scrubRead .. => [.regs, .out, .md]
  | .scrubMidpoint => [.md] ++ Part.recording
  | .wearLevelCheck => [.nv, .jr, .wp, .zone, .md] ++ Part.recording
  | .blockStateTableSnapshot => [.out, .jr]
  | .mediaWpCtrlRelease .. => [.nv, .jr] ++ Part.recording
  | .mediaRawCtrlWrite .. => [.nv] ++ Part.recording
  | .memberFail .. => [.q, .power, .nv, .jr, .wp, .zone, .md, .net, .serve, .pair] ++ Part.recording
  | .memberInsert .. => [.regs, .out, .power, .nv]
  | .isolationComplete .. => [.q, .power, .nv, .md] ++ Part.recording
  | .memberTrainingDone .. => [.power, .nv, .md] ++ Part.recording
  | .rebuildRow .. => [.regs, .out, .power, .nv, .md]
  | .rebuildComplete .. => [.q, .nv, .jr, .md] ++ Part.recording
  | .resyncRegion .. => [.nv, .md] ++ Part.recording
  | .netLinkUp .. => [.net] ++ Part.recording
  | .netLinkDown .. => [.time, .net] ++ Part.recording
  | .pfcFrame .. => [.regs, .out, .net]
  | .pfcPauseTimeout .. => [.net] ++ Part.recording
  | .rocePacket .. => [.net, .units] ++ Part.recording
  | .cnp .. => [.net, .units] ++ Part.recording
  | .rateIncreaseTimer .. => [.net] ++ Part.recording
  | .ackSend .. => [.out, .net]
  | .ack .. => [.out, .net]
  | .nakSequenceError .. => [.q, .power, .boot, .nv, .jr, .wp, .zone, .md, .net, .serve, .key, .ten, .cell, .units, .pair] ++ Part.recording
  | .rnrNak .. => [.q, .power, .boot, .nv, .jr, .wp, .zone, .md, .net, .serve, .key, .ten, .cell, .units, .pair] ++ Part.recording
  | .ackTimeout .. => [.q, .power, .boot, .nv, .jr, .wp, .zone, .md, .net, .serve, .key, .ten, .cell, .units, .pair] ++ Part.recording
  | .capsule .. => [.q, .power, .net, .units] ++ Part.recording
  | .connect .. => [.q, .power, .net, .ten] ++ Part.recording
  | .keepAlive .. => [.out, .q, .net]
  | .keepAliveExpiry .. => [.q, .power, .boot, .nv, .jr, .wp, .zone, .md, .net, .serve, .key, .ten, .cell, .units, .pair] ++ Part.recording
  | .arpRequest .. => [.out]
  | .neighborSolicitation .. => [.out]
  | .connectionRequest .. => [.out, .net]
  | .serve .. => [.q, .power, .md, .net, .serve, .cell, .units] ++ Part.recording
  | .serveContextWaitEnd .. => [.q, .power, .md, .net, .serve, .cell, .units] ++ Part.recording
  | .gather .. => [.q, .nv, .zone, .md, .net, .serve, .cell, .dram, .units] ++ Part.recording
  | .openStep .. => [.q, .md, .net, .serve, .key, .cell, .units] ++ Part.recording
  | .cipher .. => [.q, .md, .net, .serve, .key, .cell, .units] ++ Part.recording
  | .emit .. => [.out, .serve]
  | .send .. => [.q, .md, .net, .serve, .cell, .units] ++ Part.recording
  | .post .. => [.q, .md, .net, .serve, .cell, .units] ++ Part.recording
  | .serveSlotLoad .. => [.serve] ++ Part.recording
  | .serveSlotClear .. => [.serve] ++ Part.recording
  | .sqpConnect .. => [.regs, .out, .net]
  | .sqpDestroy => [.q, .md, .net, .serve, .cell, .units] ++ Part.recording
  | .sqpPeerAccept .. => [.net] ++ Part.recording
  | .sqpPeerReject .. => [.regs, .out, .net]
  | .sqpConnectTimeout .. => [.regs, .out, .net]
  | .netAddrCommit .. => [.regs, .out, .net]
  | .keyLoad .. => [.q, .nv, .jr, .wp, .zone, .md, .net, .serve, .key, .pair] ++ Part.recording
  | .keyGenerate .. => [.freeCtr, .q, .nv, .jr, .wp, .zone, .md, .net, .serve, .key, .pair] ++ Part.recording
  | .keyClear => [.key] ++ Part.recording
  | .keyNsBind .. => [.nv, .zone] ++ Part.recording
  | .keyLimitWrite .. => Part.recording
  | .glitchDetectorTrip .. => [.q, .nv, .jr, .wp, .zone, .md, .net, .serve, .key, .pair] ++ Part.recording
  | .tamper => [.q, .boot, .nv, .jr, .wp, .zone, .md, .net, .serve, .key, .pair] ++ Part.recording
  | .eclipse .. => [.regs, .out, .q, .ten]
  | .eclipseDrainDone .. => [.regs, .out, .q, .ten]
  | .tenEclTimeout .. => [.q, .power, .boot, .nv, .jr, .wp, .zone, .md, .net, .serve, .key, .ten, .cell, .units, .pair] ++ Part.recording
  | .eclipseRecordWritten .. => [.ten] ++ Part.recording
  | .resume .. => [.regs, .out, .ten]
  | .restore .. => [.regs, .out, .ten]
  | .restoreRecordRead .. => [.q, .nv, .jr, .ten] ++ Part.recording
  | .release .. => [.q, .power, .boot, .nv, .jr, .wp, .zone, .md, .net, .serve, .key, .ten, .cell, .units, .pair] ++ Part.recording
  | .tenWeightWrite .. => [.out, .q]
  | .tenNqnWrite .. => [.out, .nv]
  | .cellAllocate .. => [.cell, .units] ++ Part.recording
  | .wholeBufferAllocate .. => [.cell, .units] ++ Part.recording
  | .wholeBufferHold .. => [.cell] ++ Part.recording
  | .share .. => [.q, .nv, .wp, .md, .net, .serve, .cell, .dram, .units] ++ Part.recording
  | .releaseChain .. => [.q, .nv, .wp, .md, .net, .serve, .cell, .dram, .units] ++ Part.recording
  | .dramHashApply => [.dram] ++ Part.recording
  | .dramFill => [.regs, .out, .dram]
  | .dramFillDone => [.q, .power, .boot, .nv, .jr, .wp, .zone, .md, .net, .serve, .key, .ten, .cell, .dram, .units, .pair] ++ Part.recording
  | .dramNrSeedWrite .. => [.out, .dram]
  | .dramRequest .. => [.q, .power, .boot, .nv, .jr, .wp, .zone, .md, .net, .serve, .key, .ten, .cell, .dram, .units, .pair] ++ Part.recording
  | .dramScrub .. => [.dram] ++ Part.recording
  | .readRaw .. => [.regs, .out, .dram, .units]
  | .writeRaw .. => [.dram, .units] ++ Part.recording
  | .eccTestWrite .. => [.regs, .out, .dram, .units]
  | .bulumLinkTrained .. => [.freeCtr, .q, .power, .boot, .nv, .jr, .wp, .zone, .md, .net, .serve, .key, .pair] ++ Part.recording
  | .bulumTrainingRetry => [.out]
  | .blockLockLost .. => [.mbx, .pair] ++ Part.recording
  | .identityExchange .. => [.q, .nv, .pair] ++ Part.recording
  | .heartbeat .. => [.regs, .out]
  | .heartbeatSend => [.out]
  | .heartbeatTimeout => [.q, .nv, .wp, .md, .net, .serve, .pair] ++ Part.recording
  | .fenceDeferralExpiry => [.q, .nv, .wp, .md, .net, .serve, .pair] ++ Part.recording
  | .fenceSettleExpiry => [.freeCtr, .q, .nv, .jr, .wp, .zone, .md, .net, .serve, .key, .ten, .pair] ++ Part.recording
  | .fenceInAssert => [.q, .boot, .nv, .wp, .md, .net, .serve, .pair] ++ Part.recording
  | .mirrorFrame .. => [.freeCtr, .q, .nv, .jr, .wp, .zone, .md, .net, .serve, .key, .ten, .pair] ++ Part.recording
  | .mirrorAck .. => [.q, .nv, .jr, .wp, .md, .pair] ++ Part.recording
  | .ackReplayTimeout .. => Part.recording
  | .forwardedCommand .. => [.freeCtr, .q, .nv, .jr, .wp, .zone, .md, .net, .serve, .key, .ten, .pair] ++ Part.recording
  | .forwardResponse .. => [.freeCtr, .q, .nv, .jr, .wp, .zone, .md, .net, .serve, .key, .ten, .pair] ++ Part.recording
  | .companionBatch .. => [.out, .pair]
  | .codewordRequest .. => [.regs, .out, .power, .md]
  | .codewordResponse .. => [.q, .nv, .jr, .wp, .zone, .md, .net, .serve, .pair] ++ Part.recording
  | .homeConfirm .. => [.out, .pair]
  | .secureResetConfirm .. => [.out, .q, .zone]
  | .pairHomeWrite .. => [.out, .pair]
  | .yield .. => [.q, .nv, .wp, .md, .net, .serve, .pair] ++ Part.recording
  | .survive .. => [.freeCtr, .q, .nv, .jr, .wp, .zone, .md, .net, .serve, .key, .ten, .pair] ++ Part.recording
  | .resyncCopy .. => [.q, .nv, .jr, .wp, .zone, .md, .pair] ++ Part.recording
  | .autoRetainIdle .. => [.out, .power]
  | .domainWake .. => [.out, .power]
  | .domainReady .. => Part.everything
  | .wakeTimeout .. => [.power] ++ Part.recording
  | .memberWakeTimeout .. => [.q, .power, .nv, .jr, .wp, .zone, .md, .net, .serve, .pair] ++ Part.recording
  | .pwrVpCtrlWrite .. => [.power] ++ Part.recording
  | .vregAck => [.q, .power] ++ Part.recording
  | .vregTimeout => [.q, .power] ++ Part.recording
  | .pwrClkCtrlWrite .. => [.power] ++ Part.recording
  | .pllRelockDone => [.q, .power] ++ Part.recording
  | .powerStateChange => [.q, .power] ++ Part.recording
  | .idleTimerExpiry .. => [.time, .q, .power, .net] ++ Part.recording
  | .thermalSample .. => [.q, .power] ++ Part.recording
  | .thermalLevelExit => [.power] ++ Part.recording
  | .mbxLockRead .. => [.out, .mbx]
  | .mbxRelease .. => [.mbx] ++ Part.recording
  | .mbxSend .. => [.mbx] ++ Part.recording
  | .mbxRecv .. => [.mbx] ++ Part.recording
  | .mbxReplySend .. => [.mbx] ++ Part.recording
  | .mbxReplyRecv .. => [.mbx] ++ Part.recording
  | .ring .. => [.mbx] ++ Part.recording
  | .reply .. => [.mbx] ++ Part.recording
  | .flushMailbox .. => [.mbx] ++ Part.recording
  | .mbxTimeout .. => [.mbx] ++ Part.recording
  | .mbxBreak .. => [.mbx] ++ Part.recording
  | .companionMailboxFrame .. => [.mbx] ++ Part.recording
  | .evtPendingClear .. => Part.recording
  | .almListWrite .. => Part.recording
  | .almRead .. => [.regs, .loWrite, .out, .alm]
  | .almReadDone .. => [.regs, .out, .alm]
  | .wdtCoreKick .. => [.out]
  | .wdtDevKick .. => [.regs, .out]
  | .coreWatchdogExpiry .. => [.q, .power, .boot, .nv, .jr, .wp, .zone, .md, .net, .serve, .key, .ten, .cell, .units, .pair] ++ Part.recording
  | .deviceWatchdogHalf => Part.recording
  | .deviceWatchdogExpiry => [.q, .power, .boot, .nv, .jr, .wp, .zone, .md, .net, .serve, .key, .ten, .cell, .units, .pair] ++ Part.recording
  | .bootWatchdogExpiry => [.q, .power, .boot, .nv, .jr, .wp, .zone, .md, .net, .serve, .key, .ten, .cell, .units, .pair] ++ Part.recording
  | .dbgUnlockGo .. => [.freeCtr, .q, .power, .boot, .nv, .jr, .wp, .zone, .md, .net, .serve, .key, .pair] ++ Part.recording
  | .dbgUnlockLock .. => [.regs, .out, .power, .boot]
  | .jtagUnlock => [.q, .boot, .nv, .jr, .wp, .zone, .md, .net, .serve, .key, .pair] ++ Part.recording
  | .otpProgram .. => [.regs, .out, .freeCtr, .boot]
  | .windowRead .. => Part.everything
  | .windowWrite .. => Part.everything
  | .readNvmeMiDataStructure .. => [.out, .freeCtr]
  | .nvmSubsystemHealthStatusPoll => [.out]
  | .controllerHealthStatusPoll .. => [.out]
  | .configurationGet .. => [.out, .freeCtr]
  | .adminTunnel .. => Part.recording
  | .miCommandRefused .. => Part.recording
  | .loRegisterRead .. => Part.everything
  | .readClear .. => Part.everything
  | .registerWrite .. => Part.everything
  | .holdupOkRise => [.out, .boot]
  | .fenceInDeassert => [.out, .boot, .pair]
  | .perstDeassert .. => [.out, .boot]
  | .alignmentMark .. => [.mbx, .pair] ++ Part.recording
  | .fullRetrainingDone .. => [.q, .power, .nv, .jr, .wp, .zone, .md, .net, .serve, .pair] ++ Part.recording
  | .pauseQuantaExpiry .. => [.out, .net]
  | .rnrRetryTimerExpiry .. => [.out, .net]
  | .apstTransition .. => [.out, .host]
  | .mirrorCredit .. => [.out, .pair]
  | .slotWriteDone .. => [.q, .boot] ++ Part.recording

/-! ### What holds of every state -/

/-- The register table is in canonical form: its keys rise. -/
def State.regsWf (s : State) : Prop := mapWf s.regs = true

/-- The almanac numbers its records once (R447): the records, newest first, carry strictly falling numbers, none above SEQ, and
SEQ has not passed the high-water mark. -/
def AlmState.Numbered (a : AlmState) : Prop :=
  a.seq ≤ a.mark ∧ ((a.ring ++ a.flash).map AlmRec.seq).Pairwise (· > ·) ∧ ∀ r ∈ a.ring ++ a.flash, r.seq ≤ a.seq

/-- What holds of every state that a run reaches: the register table is canonical, and the almanac's numbers are in order. -/
def State.Inv (s : State) : Prop := s.regsWf ∧ s.alm.Numbered

end Sys2Proof.Machine
end

