-- ==== Sys2Proof/WellFormed.lean ====
section
/-! DEFINITION. Which commands are well formed: every operand that names a part of the block names one that the block
has. The meanings are total: a command that is not well formed leaves the parts it does not name as they are. -/

namespace Sys2Proof

/-- Link indices: H0.n is n and H1.n is 4 + n (spec/04, before R65). -/
def linkOk (n : Nat) : Bool := decide (n < 8)
/-- The host ports H0 and H1 (spec/04). -/
def portOk (n : Nat) : Bool := decide (n < 2)
/-- Tenant slots (Table TEN-10). -/
def slotOk (n : Nat) : Bool := decide (n < 4096)
/-- Owners: a tenant slot, 0x1000 + link index, or 0x1FFF (Table QUE-1). -/
def ownerOk (n : Nat) : Bool := decide (n < 4096) || (decide (4096 ≤ n) && decide (n < 4104)) || decide (n = 0x1FFF)
/-- A 16-bit number: a queue, a command, a vector. -/
def wordOk (n : Nat) : Bool := decide (n < 65536)
/-- A 32-bit number: a register's value. -/
def dwordOk (n : Nat) : Bool := decide (n < 2 ^ 32)
/-- The flash channels (R169). -/
def channelOk (n : Nat) : Bool := decide (n < 128)
/-- The die positions of a channel (R169). -/
def dieOk (n : Nat) : Bool := decide (n < 32)
/-- The members (R264). -/
def memberOk (n : Nat) : Bool := decide (n < 16)
/-- The mailboxes (R436). -/
def mailboxOk (n : Nat) : Bool := decide (n < 52)
/-- The logical network ports (R277). -/
def netPortOk (n : Nat) : Bool := decide (n < 16)
/-- The priorities of PFC (R280). -/
def prioOk (n : Nat) : Bool := decide (n < 8)
/-- The power domains (Table PWR-1). -/
def domainOk (n : Nat) : Bool := decide (n < 36)
/-- A dword offset of the window (R477). -/
def offsetOk (n : Nat) : Bool := decide (n < 2 ^ 26) && decide (n % 4 = 0)
/-- Byte enables (R477). -/
def lanesOk (n : Nat) : Bool := decide (n < 16)
/-- The words of the pending bits (R445). -/
def eventWordOk (n : Nat) : Bool := decide (n < 36)
/-- The snapshot lists and their entries (R450). -/
def listOk (n : Nat) : Bool := decide (n < 256)
def entryOk (n : Nat) : Bool := decide (n < 12)
/-- The constellations (R116). -/
def constellationOk (n : Nat) : Bool := decide (n < 256)
/-- The cell pools (R353). -/
def poolOk (n : Nat) : Bool := decide (n < 3)
/-- Packet sequence numbers (R284). -/
def psnOk (n : Nat) : Bool := decide (n < 2 ^ 24)
/-- A 64-byte line (R377). -/
def lineOk (a : Nat) : Bool := decide (a % 64 = 0)

/-- A command reference. -/
def refOk (r : CmdRef) : Bool := ownerOk r.owner && wordOk r.sqid && wordOk r.cid

/-- A function: a link, and for a VF its number from 1 (R67). -/
def fnOk : Fn → Bool
  | .pf link => linkOk link
  | .vf link v => linkOk link && decide (1 ≤ v) && decide (v < 1024)

/-- What a request was for. -/
def reqOk : ReqKind → Bool
  | .data r => refOk r
  | .entryFetch owner qid => ownerOk owner && wordOk qid
  | .listFetch r => refOk r
  | .cqWrite owner cqid => ownerOk owner && wordOk cqid

/-- An agent: the cores have the identifiers 1 to 32 (R436). -/
def agentOk : Agent → Bool
  | .core i => decide (1 ≤ i) && decide (i ≤ 32)
  | .manager => true
  | .companion => true

/-- A die request names a die. -/
def dieReqOk (r : DieReq) : Bool := channelOk r.ch && dieOk r.die

/-- A received frame names a port, a priority and a DSCP (R280). -/
def packetOk (k : RocePacket) : Bool := netPortOk k.port && decide (k.dscp < 64) && k.pcp.all prioOk

/-- The widths of the straps (R498). -/
def strapsOk (t : Straps) : Bool :=
  decide (t.chart < 4) && decide (t.mgr < 4) && decide (t.pair < 4) && decide (t.h0w < 4) && decide (t.h1w < 4) &&
    decide (t.vreg < 4)

/-- A submission queue entry's fields fit. -/
def sqeOk (e : Sqe) : Bool := wordOk e.cid && decide (e.opcode < 256) && decide (e.fuse < 4) && wordOk e.dl

/-- Well-formed commands. -/
def wellFormed : Instr → Bool
  | .porNAssert => true
  | .porNDeassert straps _ _ => strapsOk straps
  | .sramFillDone => true
  | .norBusyWaitDone _ _ => true
  | .firmwareBoot => true
  | .recoveryLinkRetry _ _ => true
  | .bootRecLoad unlock _ => dwordOk unlock
  | .chartLoad _ => true
  | .restoreStep _ _ => true
  | .pairJournalWaitExpiry => true
  | .fillHoldTimeout => true
  | .fillGo unlock => dwordOk unlock
  | .warm unlock => dwordOk unlock
  | .warmReset _ => true
  | .chartCtrlLoad unlock _ _ => dwordOk unlock
  | .chartCtrlSafe unlock _ => dwordOk unlock
  | .chartDrainTimeout => true
  | .structuralDrainDone _ => true
  | .meridian => true
  | .ptpSync _ _ _ _ => true
  | .ptpFollowUp _ _ _ => true
  | .ptpAnnounce _ => true
  | .ptpDelayResp _ _ _ => true
  | .ptpDelayReq => true
  | .ptpSyncTimeout => true
  | .announceReceiptTimeout => true
  | .ppsEdge _ => true
  | .ppsWindowClose => true
  | .judgingIntervalEnd => true
  | .todMessage _ => true
  | .acquireTimeout => true
  | .holdoverTimeout => true
  | .slewTimeout => true
  | .sqTailDoorbell owner qid _ => ownerOk owner && wordOk qid
  | .cqHeadDoorbell owner qid _ => ownerOk owner && wordOk qid
  | .stampSweep => true
  | .fetch => true
  | .fetchReadComplete owner qid entries => ownerOk owner && wordOk qid && (entries.all fun l => l.all sqeOk)
  | .contextFill owner qid => ownerOk owner && wordOk qid
  | .completionPost ref _ => refOk ref
  | .cqFullWaitExpiry owner cqid => ownerOk owner && wordOk cqid
  | .aggregationTimeExpiry owner vector => ownerOk owner && wordOk vector
  | .vectorUnmask fn _ => fnOk fn
  | .qcountChange slot _ => slotOk slot
  | .qcountChangeDone => true
  | .qengTenLimitWrite slot _ => slotOk slot
  | .linkUp link _ _ _ _ => linkOk link
  | .linkDown link => linkOk link
  | .hotReset link => linkOk link
  | .perstAssert port => portOk port
  | .functionLevelReset fn => fnOk fn
  | .flrComplete fn => fnOk fn
  | .vfEnable link => linkOk link
  | .vfDisable link => linkOk link
  | .numvfsWrite link _ => linkOk link
  | .ccEnable owner _ _ _ _ _ => ownerOk owner
  | .controllerReset owner => ownerOk owner
  | .completionTimeout link what => linkOk link && reqOk what
  | .poisonedTlp link what => linkOk link && (match what with
    | .poisonedData r => refOk r
    | .unsupported r => refOk r
    | .poisonedDoorbell _ => true
    | .correctable _ _ => true)
  | .identify ref _ _ _ => refOk ref
  | .getLogPage ref _ _ _ _ => refOk ref
  | .getLogC0 ref _ => refOk ref
  | .getLogC1 ref _ _ => refOk ref
  | .getLogC2 ref _ _ => refOk ref
  | .getLogC3 ref _ => refOk ref
  | .setFeaturesDeadlineDefault ref qid _ _ => refOk ref && wordOk qid
  | .getFeaturesDeadlineDefault ref qid => refOk ref && wordOk qid
  | .setFeaturesNumberOfQueues ref _ _ => refOk ref
  | .getFeaturesNumberOfQueues ref => refOk ref
  | .setFeaturesVolatileWriteCache ref _ => refOk ref
  | .setFeaturesPowerManagement ref _ => refOk ref
  | .getFeaturesPowerManagement ref => refOk ref
  | .setFeaturesInterruptCoalescing ref _ dw11 => dwordOk dw11 && refOk ref
  | .setFeaturesArbitration ref _ _ _ _ => refOk ref
  | .createIoSubmissionQueue ref qid _ _ cqid _ _ => refOk ref && wordOk qid && wordOk cqid
  | .createIoCompletionQueue ref qid _ _ vector _ _ => refOk ref && wordOk qid && wordOk vector
  | .deleteIoSubmissionQueue ref qid => refOk ref && wordOk qid
  | .deleteIoCompletionQueue ref qid => refOk ref && wordOk qid
  | .asynchronousEventRequest ref => refOk ref
  | .abort ref sqid cid => refOk ref && wordOk sqid && wordOk cid
  | .namespaceCreate ref cons _ _ _ _ => refOk ref && constellationOk cons
  | .namespaceDelete ref _ => refOk ref
  | .namespaceAttach ref _ _ => refOk ref
  | .namespaceDetach ref _ _ => refOk ref
  | .formatNvm ref _ _ _ => refOk ref
  | .sanitizeCryptoErase ref => refOk ref
  | .sanitizeBlockErase ref => refOk ref
  | .firmwareDownload ref _ _ _ => refOk ref
  | .firmwareCommitWrite ref _ => refOk ref
  | .firmwareCommitWriteActivate ref _ => refOk ref
  | .firmwareCommitActivate ref _ => refOk ref
  | .firmwareCommitChart ref _ => refOk ref
  | .read ref _ _ _ _ => refOk ref
  | .write ref _ _ _ _ _ _ => refOk ref
  | .zoneAppend ref _ _ _ => refOk ref
  | .writeZeroes ref _ _ _ _ => refOk ref
  | .flush ref _ => refOk ref
  | .datasetManagementDeallocate ref _ _ => refOk ref
  | .zoneOpen ref _ _ _ _ => refOk ref
  | .zoneClose ref _ _ _ _ => refOk ref
  | .zoneFinish ref _ _ _ _ => refOk ref
  | .zoneReset ref _ _ _ => refOk ref
  | .secureReset ref _ _ _ => refOk ref
  | .zoneReport ref _ _ => refOk ref
  | .writeDataReceived ref _ => refOk ref
  | .zoneResetApply _ _ => true
  | .zoneOpenEraseWaitEnd _ _ => true
  | .secureResetComplete ref => refOk ref
  | .securePendingLimitWaitEnd cons => constellationOk cons
  | .zoneHotSizeWrite _ => true
  | .hotCacheShrinkDone => true
  | .zoneNsAttrWrite _ => true
  | .batchOnFlash _ _ _ => true
  | .pwrLossNAssert => true
  | .duskQuiesceDone => true
  | .duskDataDone _ => true
  | .duskRecordWritten _ => true
  | .holdupOkFall => true
  | .pwrLossNDeassert => true
  | .dieQueueEntry r => dieReqOk r
  | .operationIssue ch die => channelOk ch && dieOk die
  | .deadlinePass ch die _ => channelOk ch && dieOk die
  | .holdMsReached ch die => channelOk ch && dieOk die
  | .pageReadDone ch die _ _ => channelOk ch && dieOk die
  | .hardDecodeDone _ _ _ _ => true
  | .softDecodeDone _ _ _ _ => true
  | .crucibleJobDone _ _ _ => true
  | .programDone ch die _ _ => channelOk ch && dieOk die
  | .eraseDone ch die _ _ _ => channelOk ch && dieOk die
  | .eraseSuspendDone ch die _ => channelOk ch && dieOk die
  | .eraseResumeDone ch die _ => channelOk ch && dieOk die
  | .operationTimeout ch die => channelOk ch && dieOk die
  | .dieResetTimeout die _ => channelOk die.1 && dieOk die.2
  | .idleLevelCheck ch _ => channelOk ch
  | .recentre ch _ => channelOk ch
  | .flashTemperatureRead ch die _ => channelOk ch && dieOk die
  | .scrubRead ch die _ _ _ _ => channelOk ch && dieOk die
  | .scrubMidpoint => true
  | .wearLevelCheck => true
  | .blockStateTableSnapshot => true
  | .mediaWpCtrlRelease unlock => dwordOk unlock
  | .mediaRawCtrlWrite _ => true
  | .memberFail unlock m _ => dwordOk unlock && memberOk m
  | .memberInsert unlock m => dwordOk unlock && memberOk m
  | .isolationComplete m => memberOk m
  | .memberTrainingDone m _ found => memberOk m && (found.getD ([], [])).1.all fun r => channelOk r.1
  | .rebuildRow m _ _ => memberOk m
  | .rebuildComplete m => memberOk m
  | .resyncRegion _ _ => true
  | .netLinkUp p => netPortOk p
  | .netLinkDown p => netPortOk p
  | .pfcFrame p prio _ => netPortOk p && prioOk prio
  | .pfcPauseTimeout p prio => netPortOk p && prioOk prio
  | .rocePacket k => packetOk k
  | .cnp _ => true
  | .rateIncreaseTimer _ => true
  | .ackSend _ => true
  | .ack _ psn => psnOk psn
  | .nakSequenceError _ psn => psnOk psn
  | .rnrNak _ _ => true
  | .ackTimeout _ => true
  | .capsule owner qid e => ownerOk owner && wordOk qid && sqeOk e
  | .connect _ => true
  | .keepAlive ref => refOk ref
  | .keepAliveExpiry owner => ownerOk owner
  | .arpRequest p _ => netPortOk p
  | .neighborSolicitation p _ => netPortOk p
  | .connectionRequest p _ qid => netPortOk p && wordOk qid
  | .serve ref _ _ _ => refOk ref
  | .serveContextWaitEnd ref => refOk ref
  | .gather ref _ => refOk ref
  | .openStep ref => refOk ref
  | .cipher ref => refOk ref
  | .emit ref => refOk ref
  | .send ref => refOk ref
  | .post ref => refOk ref
  | .serveSlotLoad _ owner => ownerOk owner
  | .serveSlotClear _ => true
  | .sqpConnect owner => ownerOk owner
  | .sqpDestroy => true
  | .sqpPeerAccept _ => true
  | .sqpPeerReject _ => true
  | .sqpConnectTimeout _ => true
  | .netAddrCommit _ => true
  | .keyLoad _ owner _ => ownerOk owner
  | .keyGenerate _ owner _ => ownerOk owner
  | .keyClear => true
  | .keyNsBind _ => true
  | .keyLimitWrite _ _ => true
  | .glitchDetectorTrip _ => true
  | .tamper => true
  | .eclipse slot _ link => slotOk slot && linkOk link
  | .eclipseDrainDone slot => slotOk slot
  | .tenEclTimeout slot => slotOk slot
  | .eclipseRecordWritten slot _ => slotOk slot
  | .resume slot => slotOk slot
  | .restore slot link => slotOk slot && linkOk link
  | .restoreRecordRead slot _ => slotOk slot
  | .release slot => slotOk slot
  | .tenWeightWrite slot _ => slotOk slot
  | .tenNqnWrite slot _ => slotOk slot
  | .cellAllocate _ _ pool => poolOk pool
  | .wholeBufferAllocate _ _ pool _ => poolOk pool
  | .wholeBufferHold pool => poolOk pool
  | .share _ _ _ _ holder => holder.all refOk
  | .releaseChain _ _ _ _ holder => holder.all refOk
  | .dramHashApply => true
  | .dramFill => true
  | .dramFillDone => true
  | .dramNrSeedWrite _ => true
  | .dramRequest r => lineOk r.addr
  | .dramScrub _ _ => true
  | .readRaw unlock _ => dwordOk unlock
  | .writeRaw unlock _ => dwordOk unlock
  | .eccTestWrite unlock _ => dwordOk unlock
  | .bulumLinkTrained _ => true
  | .bulumTrainingRetry => true
  | .blockLockLost _ => true
  | .identityExchange _ => true
  | .heartbeat _ => true
  | .heartbeatSend => true
  | .heartbeatTimeout => true
  | .fenceDeferralExpiry => true
  | .fenceSettleExpiry => true
  | .fenceInAssert => true
  | .mirrorFrame _ => true
  | .mirrorAck _ _ => true
  | .ackReplayTimeout _ => true
  | .forwardedCommand _ => true
  | .forwardResponse ref _ _ => refOk ref
  | .companionBatch _ _ => true
  | .codewordRequest _ _ _ => true
  | .codewordResponse _ _ => true
  | .homeConfirm cons _ => constellationOk cons
  | .secureResetConfirm ref => refOk ref
  | .pairHomeWrite _ _ => true
  | .yield unlock => dwordOk unlock
  | .survive unlock => dwordOk unlock
  | .resyncCopy _ _ _ => true
  | .autoRetainIdle d => domainOk d
  | .domainWake d _ => domainOk d
  | .domainReady d _ => domainOk d
  | .wakeTimeout d => domainOk d
  | .memberWakeTimeout d => domainOk d
  | .pwrVpCtrlWrite _ => true
  | .vregAck => true
  | .vregTimeout => true
  | .pwrClkCtrlWrite _ _ => true
  | .pllRelockDone => true
  | .powerStateChange => true
  | .idleTimerExpiry _ => true
  | .thermalSample _ => true
  | .thermalLevelExit => true
  | .mbxLockRead m a => mailboxOk m && agentOk a
  | .mbxRelease m a _ => mailboxOk m && agentOk a
  | .mbxSend m a _ => mailboxOk m && agentOk a
  | .mbxRecv m a => mailboxOk m && agentOk a
  | .mbxReplySend m a _ => mailboxOk m && agentOk a
  | .mbxReplyRecv m a => mailboxOk m && agentOk a
  | .ring m a => mailboxOk m && agentOk a
  | .reply m a => mailboxOk m && agentOk a
  | .flushMailbox m a => mailboxOk m && agentOk a
  | .mbxTimeout m => mailboxOk m
  | .mbxBreak m a unlock => mailboxOk m && agentOk a && dwordOk unlock
  | .companionMailboxFrame m _ => mailboxOk m
  | .evtPendingClear w _ _ => eventWordOk w
  | .almListWrite list entry _ _ => listOk list && entryOk entry
  | .almRead _ => true
  | .almReadDone _ => true
  | .wdtCoreKick a key => agentOk a && dwordOk key
  | .wdtDevKick a key => agentOk a && dwordOk key
  | .coreWatchdogExpiry _ => true
  | .deviceWatchdogHalf => true
  | .deviceWatchdogExpiry => true
  | .bootWatchdogExpiry => true
  | .dbgUnlockGo unlock _ => dwordOk unlock
  | .dbgUnlockLock unlock => dwordOk unlock
  | .jtagUnlock => true
  | .otpProgram unlock _ => dwordOk unlock
  | .windowRead _ _ => true
  | .windowWrite _ _ _ => true
  | .readNvmeMiDataStructure _ => true
  | .nvmSubsystemHealthStatusPoll => true
  | .controllerHealthStatusPoll _ _ => true
  | .configurationGet _ => true
  | .adminTunnel owner _ _ _ _ _ _ => ownerOk owner
  | .miCommandRefused _ => true
  | .loRegisterRead off => offsetOk off
  | .readClear off _ => offsetOk off
  | .registerWrite off _ be => offsetOk off && lanesOk be
  | .holdupOkRise => true
  | .fenceInDeassert => true
  | .perstDeassert port => portOk port
  | .alignmentMark _ _ => true
  | .fullRetrainingDone ch _ => channelOk ch
  | .pauseQuantaExpiry p prio => netPortOk p && prioOk prio
  | .rnrRetryTimerExpiry _ => true
  | .apstTransition owner _ => ownerOk owner
  | .mirrorCredit _ => true
  | .slotWriteDone _ => true

end Sys2Proof
end

