-- ==== Sys2Proof/Certificates/Slice0/Obligations.lean ====
section
/-! DEFINITION. The statements about the model: what the commands of every family do, what they leave alone, and what holds of every
state that a run reaches. -/

open Sys2Proof Sys2Proof.Machine

/-! ### The queue of commands and what holds of every step -/

/-- The command at the front of the queue runs with the queue's rest. On an empty queue one SYSCLK cycle passes: the model's choice
(log entry 2). -/
def Obligations.StepRunsFrontCommand : Prop :=
  (∀ s c rest, s.pending = c :: rest → step s = exec c { s with pending := rest }) ∧
  ∀ s, s.pending = [] → step s = .next s.tick ∧ s.tick.pending = []

/-- R447, R462, Table REG-4: the state after reset: no command waits, every register field reads its reset value, and the invariant
holds. Where it goes beyond the spec's words it takes the model's choices of log entries 7, 15, 97. -/
def Obligations.ResetHoldsInvariant : Prop :=
  State.reset.Inv ∧ State.reset.pending = [] ∧ State.reset.alive = true ∧ State.reset.boot.sramFilled = false ∧
    ∀ f : Field, State.reset.rd f = f.reset

/-- R447: whatever command runs, and in a cycle without one, the register table stays canonical, records keep strictly falling
numbers below SEQ and SEQ below its mark, and SEQ never falls: no number is used twice. The free values move on only (log entry
5, the model's own). -/
def Obligations.EveryStepKeepsInvariant : Prop :=
  ∀ s t, s.Inv → step s = .next t → t.Inv ∧ s.alm.seq ≤ t.alm.seq ∧ s.freeCtr ≤ t.freeCtr

/-- The frame of every command: it answers a next state, in which every part that its footprint does not list is as before, the
queue of commands among them. Where it goes beyond the spec's words it takes the model's choices of log entry 4. -/
def Obligations.CommandsChangeOnlyTheirFootprint : Prop :=
  ∀ c s, Part.pending ∉ footprint c ∧ ∃ t, exec c s = .next t ∧ OnlyChanges (footprint c) s t

/-- R429, R495: while POR_N is low, and after a thermal trip until POR_N is asserted, no command but POR_N's own changes anything.
Where it goes beyond the spec's words it takes the model's choices of log entry 10. -/
def Obligations.BlockOffIgnoresCommands : Prop :=
  (∀ c s, s.alive = false → c ≠ .porNAssert → (∀ a b n, c ≠ .porNDeassert a b n) → exec c s = .next { s with out := [] }) ∧
  (∀ s a b n, s.power.tripped = true → exec (.porNDeassert a b n) s = .next { s with out := [] }) ∧
  ∀ s, s.power.tripped = true → s.boot.porN = true → ∃ t, exec .porNAssert s = .next t ∧ t.power.tripped = false ∧ t.power.thermTripN = true

/-! ### Start-up and charts (spec/19, spec/02) -/

/-- R495, Table REG-4, Table REG-6, R470, R471, Table REG-4: POR_N low resets everything but what flash, NOR and OTP keep, and SEQ
resumes at its mark; POR_N high latches the straps and the pins and gives the manager and the debug policy in force; BOOT_CTRL
asks for a warm reset; a warm reset that was asked for returns the queues, mailboxes, serve engines, cells and network to their
reset state, keeps the clock, records its cause, and the boot ROM runs again. Where it goes beyond the spec's words it takes the
model's choices of log entries 7, 10, 11. -/
def Obligations.ResetsComplete : Prop :=
  (∀ s, s.boot.porN = true →
    Completes .porNAssert s fun t =>
      t.alive = false ∧ (∀ f : Field, t.rd f = f.reset) ∧ t.q = {} ∧ t.host = {} ∧ t.cell = {} ∧ t.key = {} ∧ t.mbx = [] ∧
      t.boot.nor = s.boot.nor ∧ t.boot.otp = s.boot.otp ∧ t.alm.flash = s.alm.flash ∧ t.alm.seq = s.alm.mark) ∧
  (∀ s st p n, s.boot.porN = false → s.power.tripped = false →
    Completes (.porNDeassert st p n) s fun t =>
      t.boot.porN = true ∧ t.boot.straps = st ∧ t.boot.pins = p ∧ t.boot.manager = (selectManager st).1 ∧
      t.boot.policyInForce = policyOf s.boot.otp ∧ t.boot.challenge = Config.freeValue s.freeCtr ∧
      (p.tamperN = false → t.key.wiped = true ∧ t.key.slots = [] ∧ t.key.kek = none)) ∧
  (∀ s, s.alive = true → s.boot.resetAsked = none →
    Completes (.warm 0x4257) s fun t => t.boot.resetAsked = some 2 ∧ t.pair.heartbeats = false) ∧
  (∀ s c, s.alive = true → s.boot.resetAsked = some c →
    Completes (.warmReset c) s fun t =>
      t.boot.warm = true ∧ t.boot.running = false ∧ t.boot.resetAsked = none ∧ t.stage = 1 ∧
      t.rd Reg.BOOT_STATUS_LAST_RESET = c % 8 ∧ t.on Reg.WDT_STATUS_BOOT_RUNNING = true ∧
      t.q = {} ∧ t.mbx = [] ∧ t.serve = {} ∧ t.net = {} ∧ t.cell = {} ∧ t.zone = {} ∧ t.time.sid = s.time.sid ∧ (s.time.isPtp = false → t.time = s.time) ∧ t.boot.otp = s.boot.otp)

/-- R381, R457 to R461, Tables STU-4 and STU-6: the fill of the SRAM starts the boot ROM; a NOR device that stays busy counts as
unreadable; the slot that the pointer names boots if it passes, else the other, and with BOOT strapped or neither valid the
device enters RECOVERY, where the manager's link is H0.0 first and an image that passes runs from slot 0. Where it goes beyond
the spec's words it takes the model's choices of log entries 111, 112, 113, 115. -/
def Obligations.BootRomCompletes : Prop :=
  (∀ s, s.alive = true → s.boot.sramFilled = false →
    Completes .sramFillDone s fun t => t.boot.sramFilled = true ∧ t.stage = 1) ∧
  (∀ s dev ok, s.alive = true → s.boot.sramFilled = true → s.boot.running = false → s.boot.recovery = false → dev < 2 →
    Completes (.norBusyWaitDone dev ok) s fun t =>
      t.on Reg.BOOT_STATUS_NOR_WAITED = true ∧
      t.boot.nor0Failed = (s.boot.nor0Failed || (dev == 0 && !ok)) ∧
      t.boot.nor1Failed = (s.boot.nor1Failed || (dev == 1 && !ok))) ∧
  (∀ s a, s.alive = true → s.boot.sramFilled = true → s.boot.running = false → s.boot.recovery = false →
    a = (s.ptrUsed.map (·.slot)).getD 1 →
    Completes .firmwareBoot s fun t =>
      if s.boot.straps.boot = false ∧ s.slotResult a = 0 then
        t.boot.running = true ∧ t.boot.booting = a ∧ t.stage = 3 ∧ t.boot.edition = (norImage s.boot.nor a).edition
      else if s.boot.straps.boot = false ∧ s.slotResult (3 - a) = 0 then
        t.boot.running = true ∧ t.boot.booting = 3 - a ∧ t.stage = 3 ∧ t.on Reg.BOOT_STATUS_FW_FALLBACK = true
      else t.boot.running = false ∧ t.boot.recovery = true ∧ t.stage = 9) ∧
  (∀ s h0 h1, s.alive = true → s.boot.recovery = true → s.stage = 9 → s.boot.recoveryLink = none →
    Completes (.recoveryLinkRetry h0 h1) s fun t =>
      t.boot.recoveryWaited = true ∧
      (h0 = true → s.hasLink 0 = true → t.boot.recoveryLink = some 0 ∧ t.boot.manager = .pf 0) ∧
      (h0 = false → h1 = true → s.hasLink 4 = true → t.boot.recoveryLink = some 4 ∧ t.boot.manager = .pf 4)) ∧
  (∀ s, s.alive = true → s.stage = 9 →
    (Completes (.bootRecLoad 0x4252 none) s fun t => t.rd Reg.BOOT_REC_STATUS_RESULT = 1 ∧ t.stage = 9) ∧
    ∀ i, Completes (.bootRecLoad 0x4252 (some i)) s fun t =>
      t.rd Reg.BOOT_REC_STATUS_RESULT = imageResult false [] i ∧
      (imageResult false [] i = 0 → t.boot.running = true ∧ t.boot.image = some i ∧ t.boot.booting = 0 ∧ t.stage = 3) ∧
      (imageResult false [] i ≠ 0 → t.boot = s.boot ∧ t.stage = 9))

/-- R463 to R466, Table STU-5: a step of the restore whose gates are open is done; step 1 resumes the almanac, step 3 waits for the
filled partitions, step 5 waits in M0 for the Bulum link until 2 s have passed, and step 8 brings the threshold book back. The
hold of the fill ends at its timeout or at FILL_GO. Where it goes beyond the spec's words it takes the model's choices of log
entries 103, 104, 164. -/
def Obligations.RestoreCompletes : Prop :=
  (∀ s n f, s.alive = true → s.boot.running = true → s.stepOpen n = true → s.boot.stepsDone.contains n = false →
    n = 1 ∨ n = 4 ∨ n = 6 ∨ n = 7 ∨ n = 8 →
    Completes (.restoreStep n f) s fun t =>
      t.boot.stepsDone = s.boot.stepsDone ++ [n] ∧ (n = 1 → t.alm.resumed = true) ∧ (n = 8 → s.charted = true → t.md.book = s.jr.book)) ∧
  (∀ s n f, s.alive = true → s.boot.running = true → s.stepOpen n = true → s.boot.stepsDone.contains n = false → s.charted = false →
    4 ≤ n → n ≤ 8 →
    Completes (.restoreStep n f) s fun t =>
      t.boot.stepsDone = s.boot.stepsDone ++ [n] ∧ t.nv.ns = s.nv.ns ∧ t.jr = s.jr ∧ t.wp = s.wp ∧ t.md = s.md) ∧
  (∀ s f, s.alive = true → s.boot.running = true → s.stepOpen 3 = true → s.boot.stepsDone.contains 3 = false →
    s.dramRestored = true →
    Completes (.restoreStep 3 f) s fun t => t.boot.stepsDone = s.boot.stepsDone ++ [3] ∧ t.stage = 5) ∧
  (∀ s f, s.alive = true → s.boot.running = true → s.stepOpen 5 = true → s.boot.stepsDone.contains 5 = false →
    s.charted = true → (s.isPair && !s.pair.linkUp) = false →
    Completes (.restoreStep 5 f) s fun t => t.boot.stepsDone = s.boot.stepsDone ++ [5] ∧ t.boot.bulumWait = false) ∧
  (∀ s f, s.alive = true → s.boot.running = true → s.stepOpen 5 = true → s.boot.stepsDone.contains 5 = false →
    (s.isPair && !s.pair.linkUp) = true →
    Completes (.restoreStep 5 f) s fun t => t.boot = { s.boot with bulumWait := true, found := some f } ∧ t.nv = s.nv) ∧
  (∀ s f, s.alive = true → s.boot.bulumWait = true → s.boot.found = some f → s.boot.stepsDone.contains 5 = false →
    Completes .pairJournalWaitExpiry s fun t =>
      t.boot.bulumWait = false ∧ t.boot.found = none ∧ t.boot.stepsDone = s.boot.stepsDone ++ [5]) ∧
  (∀ s, s.alive = true → s.boot.fillHeld = true →
    (Completes .fillHoldTimeout s fun t => t.boot.fillHeld = false) ∧
    Completes (.fillGo 0x4257) s fun t => t.boot.fillHeld = false)

/-- R24, R35, R37, R40, R507: a load ends with the chart of a slot sealed, or with the ROM safe chart in force, and the meridians
run; CHART_CTRL with its UNLOCK starts a structural reset's drain, the drain's timeout ends what is in flight, and the completed
drain resets the blocks and loads the chart; another UNLOCK is counted and nothing else of the chart changes. Where it goes
beyond the spec's words it takes the model's choices of log entries 93, 98, 110, 154. -/
def Obligations.ChartCompletes : Prop :=
  (∀ s tr, s.alive = true → s.boot.running = true → s.stage = 3 →
    Completes (.chartLoad tr) s fun t =>
      (t.chart.phase = .sealed ∧ t.chart.safeInForce = false ∨ t.chart.phase = .safe ∧ t.chart.safeInForce = true) ∧
      t.chart.kind = (if s.boot.warm then .warm else .cold) ∧ t.time.running = true ∧
      2 ∈ t.boot.stepsDone ∧ t.stage = 4) ∧
  (∀ s u n a, s.alive = true → u = 0x4C59 → s.chart.phase ≠ .draining → s.chart.phase ≠ .loading →
    (Completes (.chartCtrlLoad u n a) s fun t =>
      t.chart.phase = .draining ∧ t.chart.kind = .structural (n % 4) a ∧ t.chart.timedOut = false ∧
      t.time.lock = (if s.time.lock = .locked then .holdover else s.time.lock)) ∧
    Completes (.chartCtrlSafe u a) s fun t =>
      t.chart.phase = .draining ∧ t.chart.kind = .structuralSafe a ∧ t.chart.timedOut = false ∧
      t.time.lock = (if s.time.lock = .locked then .holdover else s.time.lock)) ∧
  (∀ s u n a, s.alive = true → u ≠ 0x4C59 →
    (Completes (.chartCtrlLoad u n a) s fun t =>
      t.chart = s.chart ∧ t.rd Reg.CHART_REFUSED_COUNT = min (s.rd Reg.CHART_REFUSED_COUNT + 1) (2 ^ Reg.CHART_REFUSED_COUNT.width - 1)) ∧
    Completes (.chartCtrlSafe u a) s fun t =>
      t.chart = s.chart ∧ t.rd Reg.CHART_REFUSED_COUNT = min (s.rd Reg.CHART_REFUSED_COUNT + 1) (2 ^ Reg.CHART_REFUSED_COUNT.width - 1)) ∧
  (∀ s, s.alive = true → s.chart.phase = .draining → s.chart.timedOut = false →
    Completes .chartDrainTimeout s fun t =>
      t.chart = { s.chart with timedOut := true } ∧
      ∀ r c, s.cmd? r = some c → c.ref = r → s.busyCommand r = true → t.runs r = false) ∧
  (∀ s tr, s.alive = true → s.chart.phase = .draining → s.chart.timedOut = true ∨ s.unfinished true = false →
    Completes (.structuralDrainDone tr) s fun t =>
      (t.chart.phase = .sealed ∧ t.chart.safeInForce = false ∨ t.chart.phase = .safe ∧ t.chart.safeInForce = true) ∧
      t.time.running = true ∧ t.stage = 4 ∧ t.q = {} ∧ t.net = {} ∧ t.mbx = [] ∧ t.zone = {} ∧ t.serve = {})

/-! ### Sidereal time (spec/03) -/

/-- R48, R49, Table SID-1: an Announce of the source's domain is heard, and the best qualified master heard is selected; a Sync of
the selected one-step master is a sample, which in LOCKED disciplines the clock when it lies within 10 µs, and a Sync of a
two-step master waits for its Follow_Up; a delay request goes out with PTP_PRIO and its response ends the measurement. Where it
goes beyond the spec's words it takes the model's choices of log entries 21, 28, 172. -/
def Obligations.PtpCompletes : Prop :=
  (∀ s m, s.alive = true → s.time.isPtp = true → m.domain = s.rd Reg.TIME_PTP_STAT_DOMAIN →
    Completes (.ptpAnnounce m) s fun t =>
      t.time.ptp.masters = s.time.ptp.masters.filter (·.id ≠ m.id) ++ [m] ∧
      t.time.ptp.selected = (bestMaster t.time.ptp.masters).map (·.id)) ∧
  (∀ s m d o, s.alive = true → s.time.isPtp = true → d = s.rd Reg.TIME_PTP_STAT_DOMAIN →
    s.time.ptp.selected = some m →
    Completes (.ptpSync m d o true) s fun t => t.time.ptp.pendingSync = some o ∧ t.time.offset = s.time.offset) ∧
  (∀ s m d o, s.alive = true → s.time.isPtp = true → d = s.rd Reg.TIME_PTP_STAT_DOMAIN →
    s.time.ptp.selected = some m → s.time.lock = .locked → s.time.stepNext = false → o.natAbs ≤ 10000 →
    Completes (.ptpSync m d o false) s fun t =>
      t.time.offset = o ∧ t.time.lock = .locked ∧ t.time.sid = s.time.sid ∧ t.time.corr.natAbs ≤ 42949672) ∧
  (∀ s m d o p, s.alive = true → s.time.isPtp = true → d = s.rd Reg.TIME_PTP_STAT_DOMAIN →
    s.time.ptp.selected = some m → s.time.ptp.pendingSync = some p → s.time.lock = .locked →
    s.time.stepNext = false → o.natAbs ≤ 10000 →
    Completes (.ptpFollowUp m d o) s fun t =>
      t.time.offset = o ∧ t.time.ptp.pendingSync = none ∧ t.time.sid = s.time.sid ∧ t.time.corr.natAbs ≤ 42949672) ∧
  (∀ s m, s.alive = true → s.time.isPtp = true → s.time.ptp.selected = some m →
    Completes .ptpDelayReq s fun t => t.time.ptp.delayPending = true ∧
      t.out = [.net "Delay_Req" [s.time.source - 1, s.rd Reg.NET_PRIO_CFG_PTP_PRIO]]) ∧
  (∀ s m d x, s.alive = true → s.time.isPtp = true → d = s.rd Reg.TIME_PTP_STAT_DOMAIN →
    s.time.ptp.selected = some m → s.time.ptp.delayPending = true →
    Completes (.ptpDelayResp m d x) s fun t => t.time.ptp.delay = x ∧ t.time.ptp.delayPending = false) ∧
  (∀ s m, s.alive = true → s.time.isPtp = true → s.time.ptp.selected = some m →
    (Completes .ptpSyncTimeout s fun t =>
      t.time.ptp.masters = s.time.ptp.masters.filter (·.id ≠ m) ∧
      t.time.ptp.selected = (bestMaster t.time.ptp.masters).map (·.id)) ∧
    (Completes .announceReceiptTimeout s fun t =>
      t.time.ptp.masters = s.time.ptp.masters.filter (·.id ≠ m) ∧
      t.time.ptp.selected = (bestMaster t.time.ptp.masters).map (·.id)))

/-- R50 to R52, R52 to R54, R57, Table SID-3: the first edge after an accepted message becomes the anchor and predicts the next
edges; an edge inside the window in LOCKED is accepted and disciplines the clock; a second with no edge is bridged, and its end
moves the prediction on by one second; a valid message inside its span that names the predicted second agrees with it; 3 s
without an edge or message end an acquisition from UNLOCKED, a holdover that reaches HOLDOVER_S ends in FREERUN, a slew that
does not end in 10 s makes the next sample a step, and a meridian that is due advances the sequence number by one. Where it goes
beyond the spec's words it takes the model's choices of log entries 20, 23, 28, 155. -/
def Obligations.PpsAndTimersComplete : Prop :=
  (∀ s n l, s.alive = true → s.time.source = 5 → s.time.pps.pred = none → s.time.pps.pendingLabel = some l →
    Completes (.ppsEdge n) s fun t =>
      t.time.pps.pred = some ⟨s.time.sid + n, l⟩ ∧ t.time.pps.anchor = true ∧ t.time.lock = .acquiring) ∧
  (∀ s n p, s.alive = true → s.time.source = 5 → s.time.pps.pred = some p → s.time.pps.judged = .none →
    s.time.lock = .locked → s.time.stepNext = false →
    (((s.time.sid + n : Nat) : Int) - (p.edge : Int)).natAbs ≤ s.rd Reg.TIME_PPS_WINDOW_NS →
    Completes (.ppsEdge n) s fun t => t.time.pps.judged = .accepted ∧ t.time.pps.missed = 0 ∧
      t.time.offset = ((s.time.sid + n : Nat) : Int) - (p.edge : Int)) ∧
  (∀ s p, s.alive = true → s.time.source = 5 → s.time.pps.pred = some p → s.time.pps.judged = .none →
    Completes .ppsWindowClose s fun t => t.time.pps.bridged = true ∧ t.time.sid = s.time.sid) ∧
  (∀ s p, s.alive = true → s.time.source = 5 → s.time.pps.pred = some p → s.time.pps.judged ≠ .none →
    Completes .judgingIntervalEnd s fun t =>
      t.time.pps.pred = some ⟨p.edge + 1000000000, p.label + 1⟩ ∧ t.time.pps.judged = .none ∧
      t.time.pps.bridged = false ∧ t.time.lock = s.time.lock) ∧
  (∀ s m p, s.alive = true → s.time.source = 5 → s.time.pps.pred = some p → s.time.pps.judged = .none →
    s.time.sid < p.edge → m.wellFormed = true → m.valid = true →
    inSpan (p.edge - s.time.sid) = true → m.seconds = p.label →
    Completes (.todMessage m) s fun t => t.time.pps.tod = .agrees ∧ t.time.pps.todRun = none ∧
      t.time.pps.lastTod = some s.time.now) ∧
  (∀ s, s.alive = true → s.time.source = 5 → s.time.lock = .acquiring → s.time.pps.pred = none →
    s.time.cameFrom = .unlocked → Completes .acquireTimeout s fun t => t.time.lock = .unlocked) ∧
  (∀ s n, s.alive = true → s.time.holdStart = some n → s.time.holdExpired = false → s.time.lock = .holdover →
    Completes .holdoverTimeout s fun t =>
      t.time.lock = .freerun ∧ t.time.holdExpired = true ∧ t.time.traceable = false) ∧
  (∀ s l, s.alive = true → s.time.slewLeft = some l →
    Completes .slewTimeout s fun t => t.time.slewLeft = none ∧ t.time.slewCorr = 0 ∧ t.time.stepNext = true) ∧
  (∀ s, s.alive = true → s.time.running = true → s.time.nextMeridian ≤ s.time.sid →
    Completes .meridian s fun t => t.time.mseq = (s.time.mseq + 1) % 2 ^ 64 ∧ t.time.sid = s.time.sid)

/-! ### Queues, fetch and completions (spec/05) -/

/-- R92, R98 to R100: a valid doorbell of a cached queue moves the tail, and takes the sidereal time in units of 64 ns as the stamp
of an empty slot, or the head; a tail that is not valid is recorded and changes no context; an access to a context that is not
cached waits for its fill, after which it is cached, where the cache has a place or an idle context. The sweep marks the stamps
more than 2 s old. Where it goes beyond the spec's words it takes the model's choices of log entries 26, 171. -/
def Obligations.DoorbellCompletes : Prop :=
  (∀ s o q v, s.alive = true → s.present o = true → (s.ctrl o).flr = false → s.isFabric o = false →
    (s.tenant o).phase ≠ .eclipsed → q < s.doorbellRange o → s.hasSq o q = true → s.q.cached.contains (qKey o q) = true →
    (s.qctx o q).tailValid v = true →
    Completes (.sqTailDoorbell o q v) s fun t =>
      (t.qctx o q).sqTail = v ∧ (t.qctx o q).sqHead = (s.qctx o q).sqHead ∧
      ((s.qctx o q).stampA = none → v ≠ (s.qctx o q).sqHead →
        (t.qctx o q).stampA = some { tail := v, time := s.time.sid / 64 * 64, expired := false })) ∧
  (∀ s o q v, s.alive = true → s.present o = true → (s.ctrl o).flr = false → s.isFabric o = false →
    (s.tenant o).phase ≠ .eclipsed → q < s.doorbellRange o → s.hasSq o q = true → s.q.cached.contains (qKey o q) = true →
    (s.qctx o q).tailValid v = false →
    Completes (.sqTailDoorbell o q v) s fun t =>
      t.q.ctx = s.q.ctx ∧ t.on Reg.QENG_DB_ERR_VALID = true) ∧
  (∀ s o q v, s.alive = true → s.present o = true → (s.ctrl o).flr = false → s.isFabric o = false →
    (s.tenant o).phase ≠ .eclipsed → q < s.doorbellRange o → s.hasCq o q = true → s.q.cached.contains (qKey o q) = true →
    (s.qctx o q).headValid v = true →
    Completes (.cqHeadDoorbell o q v) s fun t => (t.qctx o q).cqHead = v ∧ (t.qctx o q).cqTail = (s.qctx o q).cqTail) ∧
  (∀ s o q v, s.alive = true → s.present o = true → (s.ctrl o).flr = false → s.isFabric o = false →
    (s.tenant o).phase ≠ .eclipsed → q < s.doorbellRange o → s.hasSq o q = true → s.q.cached.contains (qKey o q) = false →
    Completes (.sqTailDoorbell o q v) s fun t =>
      t.q.ctx = s.q.ctx ∧ t.q.waits = s.q.waits ++ [(qKey o q, .tail v (s.time.sid / 64 * 64))] ∧ qKey o q ∈ t.q.fills) ∧
  (∀ s o q, s.alive = true → s.q.fills.contains (qKey o q) = true →
    (s.q.cached.length < 65536 ∨ ∃ j ∈ s.q.cached, s.ctxIdle j = true) →
    Completes (.contextFill o q) s fun t =>
      qKey o q ∈ t.q.cached ∧ qKey o q ∉ t.q.fills ∧ (∀ e ∈ t.q.waits, e.1 ≠ qKey o q)) ∧
  (∀ s, s.alive = true →
    Completes .stampSweep s fun t => ∀ o q,
      (t.qctx o q).stampA = (s.qctx o q).stampA.map (fun x =>
        { x with expired := x.expired || decide (2000000000 < s.time.sid - x.time) }) ∧
      (t.qctx o q).stampB = (s.qctx o q).stampB.map (fun x =>
        { x with expired := x.expired || decide (2000000000 < s.time.sid - x.time) }) ∧
      (t.qctx o q).sqTail = (s.qctx o q).sqTail)

/-- R102 to R107, R109: a fetch reads from the one first-tier queue that may be read, or, with none, from the admin queue of the
controller being served while its deficit lasts; the read's entries leave the ring, start their commands and move the head; a
read that fails leaves the head and fails the controller; a command that has ended, and that nothing holds, leaves one
completion entry at the tail of its completion queue with its status, the phase and the submission queue's head, and gives its
context back; the tail moves on and the phase turns at the ring's end. A read whose hallmark fails at egress does not complete
with success (R263). A completion queue that stays full is noted once. Where it goes beyond the spec's words it takes the
model's choices of log entries 18, 19, 40, 170. -/
def Obligations.FetchAndPostComplete : Prop :=
  (∀ s o q, s.alive = true → q < 65536 → s.firstTier (qKey o q) = true → 0 < s.grantable (qKey o q) →
    (∀ e ∈ s.q.ctx, s.firstTier e.1 = true → 0 < s.grantable e.1 → e.1 = qKey o q) → qKey o q ∈ s.q.ctx.map Prod.fst →
    Completes .fetch s fun t =>
      (t.qctx o q).fetching = min (s.grantable (qKey o q)) 8 ∧
      t.out = [.fetchRead o q (min (s.grantable (qKey o q)) 8)] ∧ t.q.cmds = s.q.cmds) ∧
  (∀ s o, s.alive = true → s.q.turn = o → 0 < mapGet s.q.deficit o 0 →
    (∀ e ∈ s.q.ctx, s.firstTier e.1 = true → s.grantable e.1 = 0) → s.firstTier (qKey o 0) = false →
    0 < s.grantable (qKey o 0) → qKey o 0 ∈ s.q.ctx.map Prod.fst →
    Completes .fetch s fun t =>
      (t.qctx o 0).fetching = min (s.grantable (qKey o 0)) 8 ∧
      t.out = [.fetchRead o 0 (min (s.grantable (qKey o 0)) 8)] ∧ t.q.cmds = s.q.cmds) ∧
  (∀ s o q l, s.alive = true → (s.qctx o q).fetching ≠ 0 →
    Completes (.fetchReadComplete o q (some l)) s fun t =>
      let read := (if s.isFabric o then mapGet s.q.rings (qKey o q) [] else l).take (s.qctx o q).fetching
      (t.qctx o q).fetching = 0 ∧ (t.qctx o q).inflight = (s.qctx o q).inflight + read.length ∧
      (t.qctx o q).sqHead = ((s.qctx o q).sqHead + read.length) % ((s.qctx o q).sqSize + 1) ∧
      ∀ e ∈ read, (t.cmd? ⟨o, q, e.cid⟩).isSome = true) ∧
  (∀ s o q, s.alive = true → (s.qctx o q).fetching ≠ 0 →
    Completes (.fetchReadComplete o q none) s fun t =>
      (t.qctx o q).fetching = 0 ∧ (t.qctx o q).sqHead = (s.qctx o q).sqHead ∧ (t.ctrl o).cfs = true ∧ t.q.cmds = s.q.cmds) ∧
  (∀ s r c st a b q cq, s.alive = true → s.cmd? r = some c → c.ref = r → c.phase = .done st a b →
    r.owner ≠ companionOwner → isStale r = false → s.postHeld r = false → s.ctxAbsent r = false →
    (c.opcode = 2 → st = .success → ∀ e ∈ s.dram.poisoned, e.1 ≠ cmdKey r) → q = s.qctx r.owner r.sqid → cq = s.qctx r.owner q.sqCqid →
    Completes (.completionPost r none) s fun t =>
      .cqe ⟨r.owner, q.sqCqid, cq.cqTail, cq.phase, r.sqid, q.sqHead, r.cid, st, a, b⟩ ∈ t.out ∧ t.cmd? r = none ∧
      (t.qctx r.owner q.sqCqid).cqTail = (if cq.cqTail = cq.cqSize then 0 else cq.cqTail + 1) ∧
      (t.qctx r.owner q.sqCqid).phase = (if cq.cqTail = cq.cqSize then !cq.phase else cq.phase)) ∧
  (∀ s r c a b q cq x, s.alive = true → s.cmd? r = some c → c.ref = r → c.phase = .done .success a b → c.opcode = 2 →
    r.owner ≠ companionOwner → isStale r = false → s.postHeld r = false → s.ctxAbsent r = false →
    q = s.qctx r.owner r.sqid → cq = s.qctx r.owner q.sqCqid →
    Completes (.completionPost r (some x)) s fun t =>
      t.cmd? r = none ∧ ∃ st, st ≠ .success ∧
        .cqe ⟨r.owner, q.sqCqid, cq.cqTail, cq.phase, r.sqid, q.sqHead, r.cid, st, a, b⟩ ∈ t.out) ∧
  (∀ s o q, s.alive = true → s.waitingOn o q ≠ 0 → (s.qctx o q).room = 0 → (s.qctx o q).fullNoted = false →
    Completes (.cqFullWaitExpiry o q) s fun t => (t.qctx o q).fullNoted = true)

/-- R71, R97, R108, R110: a held interrupt goes out when its aggregation time has passed, and a pending one when its vector is
unmasked; a queue-count change sets BUSY, and ends with its RESULT and, where that is 0, the new count; a limit within its range
is in force at once, and another is ignored. Where it goes beyond the spec's words it takes the model's choices of log entries
8, 12, 16, 17. -/
def Obligations.InterruptsAndCountsComplete : Prop :=
  (∀ s o v, s.alive = true → ((s.ctrl o).held.any fun e => e.1 == v) = true →
    Completes (.aggregationTimeExpiry o v) s fun t =>
      ((t.ctrl o).held.any fun e => e.1 == v) = false ∧
      (if (s.ctrl o).isMasked v then v ∈ (t.ctrl o).pba else t.out = [.msix o v])) ∧
  (∀ s fn v, s.alive = true → (s.ctrl (s.fnOwner fn)).flr = false → v < 2048 → (s.ctrl (s.fnOwner fn)).fnMask = false →
    (Completes (.vectorUnmask fn (.vector v false)) s fun t =>
      (t.ctrl (s.fnOwner fn)).isMasked v = false ∧
      ((s.ctrl (s.fnOwner fn)).pba.contains v = true → .msix (s.fnOwner fn) v ∈ t.out ∧ v ∉ (t.ctrl (s.fnOwner fn)).pba)) ∧
    Completes (.vectorUnmask fn (.vector v true)) s fun t =>
      (t.ctrl (s.fnOwner fn)).isMasked v = true ∧ ((s.ctrl (s.fnOwner fn)).pba.contains v = true → v ∈ (t.ctrl (s.fnOwner fn)).pba)) ∧
  (∀ s fn m, s.alive = true → (s.ctrl (s.fnOwner fn)).flr = false →
    Completes (.vectorUnmask fn (.function m)) s fun t =>
      (t.ctrl (s.fnOwner fn)).fnMask = m ∧
      (m = true → (t.ctrl (s.fnOwner fn)).pba = (s.ctrl (s.fnOwner fn)).pba)) ∧
  (∀ s slot n, s.alive = true → s.on Reg.QENG_QCOUNT_STATUS_BUSY = false →
    Completes (.qcountChange slot n) s fun t =>
      t.on Reg.QENG_QCOUNT_STATUS_BUSY = true ∧ t.q.qcount = some (slot % 4096, n % 65536)) ∧
  (∀ s slot m, s.alive = true → s.q.qcount = some (slot, m) →
    Completes .qcountChangeDone s fun t =>
      t.on Reg.QENG_QCOUNT_STATUS_BUSY = false ∧ t.rd Reg.QENG_QCOUNT_STATUS_RESULT = s.qcountResult slot (m + 1) ∧
      t.q.qcount = none ∧ (t.ctrl slot).queues = (if s.qcountResult slot (m + 1) = 0 then m + 1 else (s.ctrl slot).queues)) ∧
  (∀ s slot v, s.alive = true → slot < 4096 →
    Completes (.qengTenLimitWrite slot v) s fun t =>
      t.limit slot = (if 1 ≤ v ∧ v ≤ 262144 then v else s.limit slot))

/-- R337: the queue count changes under R97, and QENG_QCOUNT_CTRL refuses the change with RESULT 4 while the slot is not ACTIVE. -/
def Obligations.QueueCountChangesOnlyWhileActive : Prop :=
  (∀ s slot n, s.alive = true → s.q.qcount = some (slot, n) → (s.tenant slot).phase ≠ .active →
    Completes .qcountChangeDone s fun t =>
      t.rd Reg.QENG_QCOUNT_STATUS_RESULT = 4 ∧ t.on Reg.QENG_QCOUNT_STATUS_BUSY = false ∧ (t.ctrl slot).queues = (s.ctrl slot).queues ∧
      t.rd Reg.EVT_STATUS_LAST = 168) ∧
  (∀ s slot n, s.alive = true → s.q.qcount = some (slot, n) → (s.tenant slot).phase = .active → 1 ≤ n → n < s.maxQueues →
    (n + 1 < (s.ctrl slot).queues → ∀ e ∈ s.queuesOf slot, n + 1 ≤ e.1 → s.hasSq slot e.1 = false ∧ s.hasCq slot e.1 = false) →
    n + 1 - (s.ctrl slot).queues ≤ s.poolFree (s.poolOf slot) →
    Completes .qcountChangeDone s fun t =>
      t.rd Reg.QENG_QCOUNT_STATUS_RESULT = 0 ∧ t.on Reg.QENG_QCOUNT_STATUS_BUSY = false ∧ (t.ctrl slot).queues = n + 1 ∧
      t.rd Reg.EVT_STATUS_LAST = 167)

/-! ### Links, functions and controllers (spec/04) -/

/-- R65, R66, R78, R75, R76: a link that trains at 8 GT/s or more is up, degraded where its width or its rate falls short; a link
goes down, a port is reset by PERST, and PERST high lets its links train again; a request whose completions do not come is
counted; a command's data transfer ends it with Data Transfer Error, a list fetch or a completion write that fails makes the
controller fail; poisoned data ends its command. Where it goes beyond the spec's words it takes the model's choices of log
entries 7, 64, 160, 181, 192. -/
def Obligations.LinksAndErrorsComplete : Prop :=
  (∀ s l g w f x, s.alive = true → s.hasLink l = true → s.perst (l / 4) = false → 3 ≤ g → g ≤ 6 →
    Completes (.linkUp l g w f x) s fun t =>
      t.on (Reg.HOST_LINK_STATUS_UP.at l) = true ∧ t.rd (Reg.HOST_LINK_STATUS_GEN.at l) = min g (s.genMax l) ∧
      t.on (Reg.HOST_LINK_STATUS_DEGRADED.at l) = (decide (w < s.linkLanes l) || decide (g < s.genMax l))) ∧
  (∀ s l, s.alive = true → s.hasLink l = true → s.on (Reg.HOST_LINK_STATUS_UP.at l) = true →
    Completes (.linkDown l) s fun t =>
      t.on (Reg.HOST_LINK_STATUS_UP.at l) = false ∧ t.rd (Reg.HOST_LINK_STATUS_GEN.at l) = 0 ∧
      t.rd (Reg.HOST_LINK_STATUS_WIDTH.at l) = 0) ∧
  (∀ s p, s.alive = true → p < 2 →
    Completes (.perstAssert p) s fun t =>
      (if p = 0 then t.boot.pins.perstH0N else t.boot.pins.perstH1N) = false ∧
      ∀ l ∈ s.portLinks p, t.link l = {} ∧ t.on (Reg.HOST_LINK_STATUS_UP.at l) = false) ∧
  (∀ s p, s.alive = true → p < 2 →
    Completes (.perstDeassert p) s fun t =>
      (if p = 0 then t.boot.pins.perstH0N else t.boot.pins.perstH1N) = true ∧ t.perst p = false ∧ t.regs = s.regs) ∧
  (∀ s l w, s.alive = true → l < 8 → (s.cfgOf (reqOwner w)).timeoutNs.isSome = true →
    Completes (.completionTimeout l w) s fun t =>
      ((∀ r, w ≠ .data r) →
        t.rd (Reg.HOST_ERR_COUNT_CPL_TIMEOUT.at l) = min (s.rd (Reg.HOST_ERR_COUNT_CPL_TIMEOUT.at l) + 1) 255) ∧
      (∀ r, w = .data r → s.runs r = true → t.ended r = some (.dataTransferError, 0, 0)) ∧
      (∀ r, w = .listFetch r → (t.ctrl r.owner).cfs = true) ∧
      (∀ o q, w = .cqWrite o q → (t.ctrl o).cfs = true) ∧
      (∀ o q, w = .entryFetch o q → (s.qctx o q).fetching ≠ 0 → (t.ctrl o).cfs = true ∧ (t.qctx o q).fetching = 0)) ∧
  (∀ s l w, s.alive = true → l < 8 →
    Completes (.poisonedTlp l w) s fun t =>
      match w with
      | .poisonedData r => s.runs r = true → t.ended r = some (.dataTransferError, 0, 0)
      | .unsupported r => s.runs r = true → t.ended r = some (.dataTransferError, 0, 0)
      | .poisonedDoorbell _ =>
        t.rd (Reg.HOST_ERR_COUNT_POISON_UR.at l) = min (s.rd (Reg.HOST_ERR_COUNT_POISON_UR.at l) + 1) 255 ∧ t.q = s.q
      | .correctable _ _ =>
        t.rd (Reg.HOST_ERR_COUNT_CORRECTABLE.at l) = min (s.rd (Reg.HOST_ERR_COUNT_CORRECTABLE.at l) + 1) 255 ∧ t.q = s.q)

/-- R67, R77, R78, R335, R462: an FLR resets its controller and holds the function until it completes, and a PF's clears its VF
Enable; a hot reset does so for the PF of its link; VF Enable gives each VF its slot, and clearing it takes the slots away.
Before firmware or the boot ROM's RECOVERY answers configuration requests, each is told to retry. Where it goes beyond the
spec's words it takes the model's choices of log entries 61, 62, 64, 184, 192. -/
def Obligations.FunctionsComplete : Prop :=
  (∀ s l v, s.alive = true → s.cfgOpen = true → s.hasFn (.vf l v) = true → isTenant (s.fnOwner (.vf l v)) = true →
    (s.tenant (s.fnOwner (.vf l v))).phase ≠ .inactive →
    Completes (.functionLevelReset (.vf l v)) s fun t =>
      (t.ctrl (s.fnOwner (.vf l v))).flr = true ∧ (t.ctrl (s.fnOwner (.vf l v))).en = false ∧
      (t.tenant (s.fnOwner (.vf l v))).phase = .resetting) ∧
  (∀ s l, s.alive = true → s.hasLink l = true →
    (s.cfgOpen = true → Completes (.functionLevelReset (.pf l)) s fun t =>
      (t.ctrl (pfOwner l)).flr = true ∧ (t.ctrl (pfOwner l)).en = false ∧ (t.link l).vfEnable = false) ∧
    Completes (.hotReset l) s fun t =>
      (t.ctrl (pfOwner l)).flr = true ∧ (t.ctrl (pfOwner l)).en = false ∧ (t.link l).vfEnable = false) ∧
  (∀ s fn, s.alive = true → (s.ctrl (s.fnOwner fn)).flr = true →
    Completes (.flrComplete fn) s fun t =>
      (t.ctrl (s.fnOwner fn)).flr = false ∧
      (isTenant (s.fnOwner fn) = true → (s.tenant (s.fnOwner fn)).phase = .resetting →
        (t.tenant (s.fnOwner fn)).phase = .active)) ∧
  (∀ s l, s.alive = true → s.cfgOpen = true → s.hasLink l = true → (s.link l).vfEnable = false →
    Completes (.vfEnable l) s fun t =>
      (t.link l).vfEnable = true ∧ (t.link l).enabled = min (s.link l).numVfs (s.totalVfs l) ∧
      ∀ v, 1 ≤ v → v ≤ min (s.link l).numVfs (s.totalVfs l) →
        (t.tenant (s.fnOwner (.vf l v))).phase = .active ∨ (t.ctrl (s.fnOwner (.vf l v))).cfs = true) ∧
  (∀ s l, s.alive = true → s.cfgOpen = true → (s.link l).vfEnable = true →
    Completes (.vfDisable l) s fun t =>
      (t.link l).vfEnable = false ∧ (t.link l).enabled = 0 ∧
      ∀ v ∈ s.vfs l, (t.tenant (s.fnOwner (.vf l v))).phase = .inactive) ∧
  (∀ s l n, s.alive = true → s.cfgOpen = true → s.hasLink l = true → (s.link l).vfEnable = false →
    (s.ctrl (pfOwner l)).flr = false →
    Completes (.numvfsWrite l (.numVfs n)) s fun t => (t.link l).numVfs = n % 65536) ∧
  (∀ s l c, s.alive = true → s.cfgOpen = false →
    c = .functionLevelReset (.pf l) ∨ c = .vfEnable l ∨ c = .vfDisable l ∨ (∃ w, c = .numvfsWrite l w) →
    Completes c s fun t => t.host = s.host ∧ t.ten = s.ten ∧ t.out = [.data "configuration request retry" [l]])

/-- R93, R335, R464: CC.EN with an admin queue makes a controller ready once the device is; an admin queue of one entry makes it
fail; clearing CC.EN ends its queues and its readiness. Where it goes beyond the spec's words it takes the model's choices of
log entries 61, 62, 194. -/
def Obligations.ControllersComplete : Prop :=
  (∀ s o n m ams a b, s.alive = true → s.present o = true → (s.ctrl o).flr = false → (s.ctrl o).en = false →
    s.isFabric o = false →
    Completes (.ccEnable o n m ams a b) s fun t =>
      (t.ctrl o).en = true ∧
      (n = 0 ∨ m = 0 ∨ ams ≠ 0 ∧ bit capAms (ams - 1) = false → (t.ctrl o).cfs = true) ∧
      (n ≠ 0 → m ≠ 0 → ams = 0 ∨ bit capAms (ams - 1) = true → (t.ctrl o).rdy = (s.hostOpen || (s.ctrl o).rdy) ∧ (t.qctx o 0).sqValid = true ∧
        (t.qctx o 0).cqValid = true ∧ (t.qctx o 0).sqSize = n % 4096 ∧ (t.qctx o 0).sqBase = a)) ∧
  (∀ s o n m ams a b, s.alive = true → s.present o = true → (s.ctrl o).flr = false → (s.ctrl o).en = false →
    s.isFabric o = true → s.hostOpen = true →
    Completes (.ccEnable o n m ams a b) s fun t => (t.ctrl o).en = true ∧ (t.ctrl o).rdy = true) ∧
  (∀ s o, s.alive = true → s.present o = true → (s.ctrl o).flr = false → (s.ctrl o).en = true →
    (s.isFabric o && s.hasCapsules o) = false →
    Completes (.controllerReset o) s fun t =>
      (t.ctrl o).en = false ∧ (t.ctrl o).rdy = false ∧ (∀ q, q < 65536 → t.qctx o q = {}) ∧
      (isTenant o = true → (t.tenant o).phase = .active))

/-! ### Admin commands (spec/04, spec/05) -/

/-- R91, R93, R96, R508: an I/O queue is created with its size, base, vector and completion queue, and is deleted: a submission
queue ends what its executing stages have not accepted with Command Aborted due to SQ Deletion, and goes once it owes no
completion. Where it goes beyond the spec's words it takes the model's choices of log entry 42. -/
def Obligations.QueueCommandsComplete : Prop :=
  (∀ s r q n b v ien, s.alive = true → s.startable r = true → s.isFabric r.owner = false → 1 ≤ q → q < s.queueCount r.owner →
    s.hasCq r.owner q = false → 1 ≤ n → n ≤ 65535 → b % 4096 = 0 → v < 2048 →
    Completes (.createIoCompletionQueue r q n b v ien true) s fun t =>
      t.ended r = some (.success, 0, 0) ∧ t.hasCq r.owner q = true ∧ (t.qctx r.owner q).cqSize = n ∧
      (t.qctx r.owner q).cqBase = b ∧ (t.qctx r.owner q).vector = v ∧ (t.qctx r.owner q).ien = ien) ∧
  (∀ s r q n b c p, s.alive = true → s.startable r = true → s.isFabric r.owner = false → 1 ≤ q → q < s.queueCount r.owner →
    s.hasSq r.owner q = false → 1 ≤ n → n ≤ 65535 → b % 4096 = 0 → 1 ≤ c → c < s.queueCount r.owner →
    s.hasCq r.owner c = true →
    Completes (.createIoSubmissionQueue r q n b c p true) s fun t =>
      t.ended r = some (.success, 0, 0) ∧ t.hasSq r.owner q = true ∧ (t.qctx r.owner q).sqSize = n ∧
      (t.qctx r.owner q).sqBase = b ∧ (t.qctx r.owner q).sqCqid = c ∧ (t.qctx r.owner q).prio = p % 4) ∧
  (∀ s r q, s.alive = true → s.startable r = true → r.sqid = 0 → s.isFabric r.owner = false → 1 ≤ q →
    s.hasSq r.owner q = true → (s.qctx r.owner q).deleting = none →
    Completes (.deleteIoSubmissionQueue r q) s fun t =>
      ((∀ e ∈ s.q.cmds, ¬ (e.2.ref.owner = r.owner ∧ e.2.ref.sqid = q)) →
        t.ended r = some (.success, 0, 0) ∧ t.hasSq r.owner q = false) ∧
      ∀ x c, s.cmd? x = some c → c.ref = x → cmdKey x ≠ cmdKey r → x.owner = r.owner → x.sqid = q → c.phase.unaccepted = true →
        t.ended x = some (.abortedSqDeletion, 0, 0)) ∧
  (∀ s r q, s.alive = true → s.startable r = true → s.isFabric r.owner = false → 1 ≤ q → s.hasCq r.owner q = true →
    ((s.queuesOf r.owner).any fun e => e.2.sqValid && e.2.sqCqid == q) = false →
    Completes (.deleteIoCompletionQueue r q) s fun t => t.ended r = some (.success, 0, 0) ∧ t.hasCq r.owner q = false)

/-- R83, R96, R106, R110, R153, R421: features are set and read: the default deadline of one queue or, with FFFFh, of every I/O
queue; the numbers of queues, at most the controller's; the volatile write cache, always on; the power state; coalescing; and
arbitration. Where it goes beyond the spec's words it takes the model's choices of log entries 46, 76, 183. -/
def Obligations.FeaturesComplete : Prop :=
  (∀ s r q dl, s.alive = true → s.startable r = true → q ≠ 0xFFFF → s.hasSq r.owner q = true →
    (Completes (.setFeaturesDeadlineDefault r q dl false) s fun t =>
      t.ended r = some (.success, 0, 0) ∧ (t.qctx r.owner q).dlDefault = dl % 65536) ∧
    Completes (.getFeaturesDeadlineDefault r q) s fun t =>
      t.ended r = some (.success, (s.qctx r.owner q).dlDefault * 65536 + q, 0)) ∧
  (∀ s r dl, s.alive = true → s.startable r = true →
    (Completes (.setFeaturesDeadlineDefault r 0xFFFF dl false) s fun t =>
      t.ended r = some (.success, 0, 0) ∧
      ∀ q, 1 ≤ q → q < 65536 → s.hasSq r.owner q = true → (t.qctx r.owner q).dlDefault = dl % 65536) ∧
    ∀ q, Completes (.setFeaturesDeadlineDefault r q dl true) s fun t => t.ended r = some (.featureNotSaveable, 0, 0)) ∧
  (∀ s r n m, s.alive = true → s.startable r = true →
    (Completes (.setFeaturesNumberOfQueues r n m) s fun t =>
      t.ended r = some (.success, min m (s.queueCount r.owner - 1) * 65536 + min n (s.queueCount r.owner - 1), 0)) ∧
    Completes (.getFeaturesNumberOfQueues r) s fun t =>
      t.ended r = some (.success, (s.queueCount r.owner - 1) * 65536 + (s.queueCount r.owner - 1), 0)) ∧
  (∀ s r w, s.alive = true → s.startable r = true →
    (Completes (.setFeaturesVolatileWriteCache r (some w)) s fun t =>
      t.ended r = some (if w then .success else .invalidField, 0, 0)) ∧
    Completes (.setFeaturesVolatileWriteCache r none) s fun t => t.ended r = some (.success, 1, 0)) ∧
  (∀ s r ps, s.alive = true → s.startable r = true →
    (ps ≤ s.npss → Completes (.setFeaturesPowerManagement r ps) s fun t =>
      (t.ctrl r.owner).ps = ps ∧
      (if 3 ≤ (s.requestPs r.owner ps).psWanted ∨
          (s.requestPs r.owner ps).psWanted = s.rd Reg.PWR_STATUS_PS ∧ s.power.psMoving = false
        then t.ended r = some (.success, 0, 0) else t.runs r = true ∧ r ∈ t.power.psWait)) ∧
    (s.npss < ps → Completes (.setFeaturesPowerManagement r ps) s fun t =>
      t.ended r = some (.invalidField, 0, 0) ∧ t.host = s.host) ∧
    Completes (.getFeaturesPowerManagement r) s fun t => t.ended r = some (.success, (s.ctrl r.owner).ps, 0)) ∧
  (∀ s r x, s.alive = true → s.startable r = true →
    (Completes (.setFeaturesInterruptCoalescing r false x) s fun t =>
      t.ended r = some (.success, 0, 0) ∧ (t.ctrl r.owner).aggThr = x % 256 ∧ (t.ctrl r.owner).aggTime = x / 256 % 256) ∧
    Completes (.setFeaturesInterruptCoalescing r true x) s fun t =>
      if (s.queuesOf r.owner).any (fun e => e.1 != 0 && e.2.cqValid && e.2.ien && e.2.vector == x % 65536) = true then
        t.ended r = some (.success, 0, 0) ∧ (t.ctrl r.owner).coalNoneVectors.contains (x % 65536) = x.testBit 16
      else t.ended r = some (.invalidField, 0, 0)) ∧
  (∀ s r a l m h, s.alive = true → s.startable r = true →
    Completes (.setFeaturesArbitration r a l m h) s fun t =>
      t.ended r = some (.success, 0, 0) ∧ (t.ctrl r.owner).ab = a % 8 ∧ (t.ctrl r.owner).lpw = l % 256 ∧
      (t.ctrl r.owner).mpw = m % 256 ∧ (t.ctrl r.owner).hpw = h % 256)

/-- R166, R303, Table TEN-4: up to 16 Asynchronous Event Requests are held, one that finds an event waiting completes with it; Abort
stops a Serve command, which completes with Command Abort Requested, and no other command. Where it goes beyond the spec's words
it takes the model's choices of log entries 44, 45, 156. -/
def Obligations.EventsAndAbortComplete : Prop :=
  (∀ s r, s.alive = true → s.startable r = true → (s.ctrl r.owner).aers.length < 16 → (s.ctrl r.owner).aenPending = [] →
    Completes (.asynchronousEventRequest r) s fun t =>
      t.runs r = true ∧ (t.ctrl r.owner).aers = (s.ctrl r.owner).aers ++ [r]) ∧
  (∀ s r k i p, s.alive = true → s.startable r = true → (s.ctrl r.owner).aers = [] →
    (s.ctrl r.owner).aenPending = [(k, i, p)] → (s.ctrl r.owner).aenMasked.contains (aenKey k i) = false →
    Completes (.asynchronousEventRequest r) s fun t =>
      t.ended r = some (.success, k + i * 256 + p * 65536, 0) ∧ (t.ctrl r.owner).aenPending = []) ∧
  (∀ s r, s.alive = true → s.startable r = true → 16 ≤ (s.ctrl r.owner).aers.length →
    Completes (.asynchronousEventRequest r) s fun t => t.ended r = some (.aerLimitExceeded, 0, 0)) ∧
  (∀ s r q c, s.alive = true → s.startable r = true → cmdKey ⟨r.owner, q, c⟩ ≠ cmdKey r →
    Completes (.abort r q c) s fun t =>
      if s.runs ⟨r.owner, q, c⟩ = true ∧ (s.cmd? ⟨r.owner, q, c⟩).map (·.opcode) = some serveOpcode then
        t.ended r = some (.success, 0, 0) ∧ t.ended ⟨r.owner, q, c⟩ = some (.abortRequested, 0, 0)
      else t.ended r = some (.success, 1, 0) ∧ t.cmd? ⟨r.owner, q, c⟩ = s.cmd? ⟨r.owner, q, c⟩)

/-- R81, R85, R164, R243, R274, R453: Identify and the log pages return their data and complete with Success; what the device does
not have completes with its status and no data. Where it goes beyond the spec's words it takes the model's choices of log
entries 43, 46. -/
def Obligations.LogsComplete : Prop :=
  (∀ s r cns n c, s.alive = true → s.startable r = true →
    Completes (.identify r cns n c) s fun t =>
      t.ended r = some ((s.identifyData r.owner cns n c).1, 0, 0) ∧
      ((s.identifyData r.owner cns n c).1 = .success → t.out = [.data "identify" (s.identifyData r.owner cns n c).2])) ∧
  (∀ s r lid n off rae, s.alive = true → s.startable r = true →
    Completes (.getLogPage r lid n off rae) s fun t =>
      match s.stdLog r.owner lid n with
      | some l => t.ended r = some (.success, 0, 0) ∧ .data "log page" (lid :: off :: l) ∈ t.out
      | none => t.ended r = some (.invalidField, 0, 0) ∧ t.out = []) ∧
  (∀ s r off, s.alive = true → s.startable r = true →
    (Completes (.getLogC0 r off) s fun t =>
      t.ended r = some (.success, 0, 0) ∧ t.out = [.data "log C0h" (s.logC0.drop off)]) ∧
    Completes (.getLogC3 r off) s fun t =>
      match s.logC3 (decide (s.managerOwner = some r.owner)) off with
      | some l => t.ended r = some (.success, 0, 0) ∧ t.out = [.data "log C3h" l]
      | none => t.ended r = some (.invalidField, 0, 0) ∧ t.out = []) ∧
  (∀ s r n rae, s.alive = true → s.startable r = true →
    (Completes (.getLogC1 r n rae) s fun t =>
      match s.logNs r n with
      | some l => t.ended r = some (.success, 0, 0) ∧ .data "log C1h" (s.nsLogData l false) ∈ t.out
      | none => t.ended r = some (.invalidNamespace, 0, 0)) ∧
    Completes (.getLogC2 r n rae) s fun t =>
      match s.logNs r n with
      | some l => t.ended r = some (.success, 0, 0) ∧ .data "log C2h" (s.nsLogData l true) ∈ t.out
      | none => t.ended r = some (.invalidNamespace, 0, 0))

/-! ### Namespaces and firmware (spec/06, spec/12, spec/13, spec/19) -/

/-- R116, R117, R319, R338: the manager's controller creates a namespace under the lowest free NSID, bound to a generated key in the
lowest EMPTY system slot, and waits for its batch; deletes one; attaches it to controllers, and detaches it, from the commands
fetched from then on. Where it goes beyond the spec's words it takes the model's choices of log entries 77, 78, 79, 80, 81. -/
def Obligations.NamespacesComplete : Prop :=
  (∀ s r k csi n f h id slot, s.alive = true → s.startable r = true → s.mayManage r = true →
    (s.isPair && decide (s.nv.pairSt ≠ .paired)) = false → s.createCheck k csi n f h = none → s.key.kek.isSome = true →
    s.nv.readOnly = false → s.rd Reg.MEDIA_STATUS_RAW ≠ 1 → s.overCapacity (k - 1) (csi == 2) n f.lbaf = false → s.freeNsid = some id →
    s.emptySystemSlot = some slot →
    Completes (.namespaceCreate r k csi n f h) s fun t =>
      (∃ x, t.ns? id = some x ∧ x.cons = k - 1 ∧ x.zoned = (csi == 2) ∧ x.nsze = n ∧ x.lbaf = f.lbaf ∧ x.pi = f.pi ∧ x.guard = f.guard ∧ x.keySlot = some slot) ∧
      (t.keySlot? slot).map (fun x => (x.kind, x.owner, x.key, x.count)) =
        some (.xts, systemOwner, Config.freeValue s.freeCtr, 0) ∧
      (s.jr.openNo, r) ∈ t.jr.waiting ∧ id ∈ t.key.keyReady) ∧
  (∀ s r id, s.alive = true → s.startable r = true → s.mayManage r = true →
    (s.isPair && decide (s.nv.pairSt ≠ .paired)) = false → (s.ns? id).isSome = true → id ≠ 0xFFFFFFFF →
    Completes (.namespaceDelete r id) s fun t => t.ns? id = none ∧ t.attachees id = [] ∧ id ∉ t.key.keyReady) ∧
  (∀ s r id l, s.alive = true → s.startable r = true → s.mayManage r = true → (s.ns? id).isSome = true → l ≠ [] →
    (l.all s.validCtrl) = true → (∀ i ∈ l, s.isAttached (ctrlIdOwner i) id = false) →
    (∀ i ∈ l, s.attachRefused id (ctrlIdOwner i) = false) → s.ledgersOver id (l.map ctrlIdOwner) = false →
    Completes (.namespaceAttach r id l) s fun t =>
      (t.ended r).isSome = true ∧ ∀ i ∈ l, t.isAttached (ctrlIdOwner i) id = true) ∧
  (∀ s r id l, s.alive = true → s.startable r = true → s.mayManage r = true → (s.ns? id).isSome = true → l ≠ [] →
    (l.all s.validCtrl) = true → (∀ i ∈ l, s.isAttached (ctrlIdOwner i) id = true) →
    Completes (.namespaceDetach r id l) s fun t =>
      (t.ended r).isSome = true ∧ ∀ i ∈ l, t.isAttached (ctrlIdOwner i) id = false ∧
        mapGet? t.ten.detached (attachKey (ctrlIdOwner i) id) = some s.q.seq) ∧
  (∀ s r id, s.alive = true → s.startable r = true → s.mayManage r = true → s.isPair = true → s.nv.pairSt ≠ .paired →
    Completes (.namespaceDelete r id) s fun t => t.ended r = some (.commandSequenceError, 0, 0) ∧ t.nv = s.nv)

/-- R239, R321, R323: Format destroys a namespace's data and gives it its new format, and completes with a batch, which is that of
the new key with Secure Erase Settings 2h; Sanitize gives every bound system slot a new key, or erases all data, which a
read-only device refuses. Where it goes beyond the spec's words it takes the model's choices of log entries 77, 78. -/
def Obligations.FormatAndSanitizeComplete : Prop :=
  (∀ s r id x f ses, s.alive = true → s.startable r = true → (s.mayManage r || s.isAttached r.owner id) = true →
    (s.isPair && decide (s.nv.pairSt ≠ .paired)) = false → s.ns? id = some x → formatOk f = true → (x.zoned = true → f.lbaf ≤ 3) → ses ≤ 1 →
    s.writeProtected x = false →
    Completes (.formatNvm r id f ses) s fun t =>
      (t.ns? id).map (fun n => (n.lbaf, n.pi, n.guard, n.nsze)) =
        some (f.lbaf, f.pi, f.guard, x.nsze * lbas4k f.lbaf / lbas4k x.lbaf) ∧
      (∀ e ∈ t.nv.map, e.1 / 2 ^ 40 ≠ id) ∧ (∀ e ∈ t.nv.content, e.1 / 2 ^ 64 ≠ id) ∧ (s.jr.openNo, r) ∈ t.jr.waiting) ∧
  (∀ s r id x f, s.alive = true → s.startable r = true → (s.mayManage r || s.isAttached r.owner id) = true →
    (s.isPair && decide (s.nv.pairSt ≠ .paired)) = false → s.ns? id = some x → formatOk f = true → (x.zoned = true → f.lbaf ≤ 3) →
    s.writeProtected x = false → s.key.wiped = false → (s.emptySystemSlot).isSome = true →
    Completes (.formatNvm r id f 2) s fun t => ∃ w ∈ t.key.waits, w.ref = some r ∧ w.batch = s.jr.openNo) ∧
  (∀ s r, s.alive = true → s.startable r = true → (s.isPair && decide (s.nv.pairSt ≠ .paired)) = false →
    (s.key.wiped = false → Completes (.sanitizeCryptoErase r) s fun t =>
      (∀ k ∈ s.boundSlots, ∃ w ∈ t.key.waits, w.slot = k ∧ w.ref = some r) ∧
      (s.boundSlots = [] → (s.jr.openNo, r) ∈ t.jr.waiting)) ∧
    (s.key.wiped = true → Completes (.sanitizeCryptoErase r) s fun t => t.ended r = some (.sanitizeFailed, 0, 0)) ∧
    (s.nv.readOnly = false → Completes (.sanitizeBlockErase r) s fun t =>
      (∀ e ∈ t.nv.map, (s.ns? (e.1 / 2 ^ 40)).isSome = false) ∧ (s.jr.openNo, r) ∈ t.jr.waiting) ∧
    (s.nv.readOnly = true → Completes (.sanitizeBlockErase r) s fun t => t.ended r = some (.invalidField, 0, 0)))

/-- R467 to R469: the manager's controller downloads up to 3 MiB in units of 4 KiB; a Commit that writes checks what is staged:
where a check fails it ends with Invalid Firmware Image and changes nothing, else it leaves the slot torn and runs until the
write is done; an activation writes the pointer copy with the lower SEQ; a read-back mismatch fails the Commit. Where it goes
beyond the spec's words it takes the model's choices of log entries 121, 122, 123, 124. -/
def Obligations.FirmwareCompletes : Prop :=
  (∀ s r off len c, s.alive = true → s.startable r = true → s.managerOwner = some r.owner → s.boot.commit = none →
    off % 4096 = 0 → len % 4096 = 0 → len ≠ 0 → off + len ≤ 3145728 →
    Completes (.firmwareDownload r off len c) s fun t => t.boot.staged = some (stagePiece s.boot.staged off len c) ∧ t.ended r = some (.success, 0, 0)) ∧
  (∀ s r fs slot, s.alive = true → s.startable r = true → s.managerOwner = some r.owner → s.boot.commit = none → fs < 4 →
    s.fsSlot fs = some slot →
    (Completes (.firmwareCommitWrite r fs) s fun t =>
      if imageResult false [] s.stagedImage = 0 then
        t.boot.commit = some ⟨r, slot, false, false⟩ ∧ norImage t.boot.nor slot = tornImage ∧ t.runs r = true
      else t.boot = s.boot ∧ t.ended r = some (.invalidFirmwareImage, 0, 0)) ∧
    Completes (.firmwareCommitWriteActivate r fs) s fun t =>
      if imageResult false [] s.stagedImage = 0 then
        t.boot.commit = some ⟨r, slot, true, false⟩ ∧ norImage t.boot.nor slot = tornImage ∧ t.runs r = true
      else t.boot = s.boot ∧ t.ended r = some (.invalidFirmwareImage, 0, 0)) ∧
  (∀ s r fs slot, s.alive = true → s.startable r = true → s.managerOwner = some r.owner → s.boot.commit = none → fs < 4 →
    s.fsSlot fs = some slot →
    Completes (.firmwareCommitActivate r (16 + fs)) s fun t =>
      if imageResult false [] (norImage s.boot.nor slot) = 0 then
        t.boot.nor = activated s.boot.nor slot ∧ t.rd Reg.BOOT_STATUS_NEXT_SLOT = slot ∧
        t.ended r = some (.firmwareNeedsConventionalReset, 0, 0)
      else t.boot = s.boot ∧ t.ended r = some (.invalidFirmwareImage, 0, 0)) ∧
  (∀ s r fs, s.alive = true → s.startable r = true → s.managerOwner = some r.owner → s.boot.commit = none → 4 ≤ fs → fs ≤ 7 →
    Completes (.firmwareCommitChart r fs) s fun t =>
      if firstFailure (containerChecks s.boot.otp s.stagedChart) = none then
        t.boot.commit = some ⟨r, fs - 4, false, true⟩ ∧ norChart t.boot.nor (fs - 4) = tornChart ∧ t.runs r = true
      else t.boot = s.boot ∧ t.ended r = some (.invalidFirmwareImage, 0, 0)) ∧
  (∀ s c, s.alive = true → s.boot.commit = some c → s.runs c.ref = true →
    (Completes (.slotWriteDone false) s fun t =>
      t.boot.commit = none ∧ t.ended c.ref = some (.invalidFirmwareImage, 0, 0) ∧ t.boot.nor = s.boot.nor) ∧
    Completes (.slotWriteDone true) s fun t =>
      t.boot.commit = none ∧
      t.ended c.ref = some (if c.activate then .firmwareNeedsConventionalReset else .success, 0, 0) ∧
      (c.chart = false → c.fs = 1 ∨ c.fs = 2 → norImage t.boot.nor c.fs = s.stagedImage))

/-! ### Writes and zones (spec/06, spec/07) -/

/-- R122, R123, R128, R155, R252, R253, R338: a write to an open zone that passes the checks of Table ZON-4 reserves its range above
RESERVED, an append wherever RESERVED stands; a conventional write reserves a range for each 256 KiB unit counted from its SLBA,
or for each granule of a small write that may be modified in place. The command runs on until its data is in the buffer. A write
that fails a check ends with that check's status and reserves nothing. Where it goes beyond the spec's words it takes the
model's choices of log entries 29, 70, 85, 205, 216. -/
def Obligations.WritesComplete : Prop :=
  (∀ s r nsid n slba nlb fua k, s.serves r nsid n → n.zoned = true → s.unseenBy r nsid = false → 1 ≤ nlb →
    nlb ≤ 256 * n.per4k → slba + nlb ≤ n.nsze → k = WriteKind.write ∨ k = WriteKind.append →
    s.zoneChecks n nsid slba nlb k = none → s.writeHeld r n slba nlb = false → s.keyAllows (n.keySlot.getD 0) (units4k n slba nlb) = true →
    (s.zoneAt nsid (slba / s.zoneLbas n)).st.isOpen = true →
    (mapAny s.zone.resets fun _ w => w.nsid == nsid && w.zones.contains (slba / s.zoneLbas n)) = false →
    Completes (if k = .append then .zoneAppend r nsid slba nlb else .write r nsid slba nlb fua 0 0) s fun t =>
      (t.zoneAt nsid (slba / s.zoneLbas n)).reserved = (s.zoneAt nsid (slba / s.zoneLbas n)).reserved + nlb ∧
      (mapGet? t.wp.wr s.wp.next).map (fun w => (w.ref, w.nsid, w.slba, w.nlb, w.got)) =
        some (r, nsid, slba / s.zoneLbas n * s.zoneLbas n + (s.zoneAt nsid (slba / s.zoneLbas n)).reserved, nlb, false) ∧
      t.runs r = true) ∧
  (∀ s r nsid n slba nlb fua c st, s.serves r nsid n → n.zoned = true → s.unseenBy r nsid = false → 1 ≤ nlb →
    nlb ≤ 256 * n.per4k → slba + nlb ≤ n.nsze → s.zoneChecks n nsid slba nlb .write = some (c, st) →
    Completes (.write r nsid slba nlb fua 0 0) s fun t => t.ended r = some (st, 0, 0) ∧ t.wp = s.wp ∧ t.nv = s.nv) ∧
  (∀ s r nsid n slba nlb fua, s.serves r nsid n → n.zoned = false → s.unseenBy r nsid = false → 1 ≤ nlb →
    nlb ≤ 256 * n.per4k → slba + nlb ≤ n.nsze → s.writeProtected n = false → s.writeHeld r n slba nlb = false →
    s.keyAllows (n.keySlot.getD 0) (units4k n slba nlb) = true →
    Completes (.write r nsid slba nlb fua 0 0) s fun t =>
      t.runs r = true ∧ ∀ i c, (s.cutWrite n slba nlb (decide (s.rmwPath n nsid slba nlb = some true)))[i]? = some c →
        (mapGet? t.wp.wr (s.wp.next + i)).map (fun w => (w.ref, w.nsid, w.slba, w.nlb, w.got)) = some (r, nsid, c.1, c.2, false)) ∧
  (∀ s r nsid n slba nlb, s.serves r nsid n → n.zoned = false → s.unseenBy r nsid = false → slba + nlb ≤ n.nsze →
    s.writeProtected n = false → n.secure = false →
    Completes (.writeZeroes r nsid slba nlb true) s fun t =>
      t.runs r = true ∧ (s.jr.openNo, r) ∈ t.jr.waiting ∧
      ∀ i ∈ s.wholeGranules n slba nlb, mapGet? t.nv.map (mapKey nsid i) = none) ∧
  (∀ s r nsid n slba nlb, s.serves r nsid n → n.zoned = false → s.unseenBy r nsid = false → 1 ≤ nlb → slba + nlb ≤ n.nsze →
    s.writeProtected n = false → s.writeHeld r n slba nlb = false → s.keyAllows (n.keySlot.getD 0) (units4k n slba nlb) = true →
    (∀ e ∈ s.wp.wr, e.2.ref ≠ r) → (s.cmd? r).map (·.opcode) = some 8 →
    Completes (.writeZeroes r nsid slba nlb false) s fun t => t.ended r = some (.success, 0, 0)) ∧
  (∀ s r nsid n ranges, s.serves r nsid n → n.zoned = false → s.writeProtected n = false → n.secure = false →
    (∀ x ∈ ranges, x.1 + x.2 ≤ n.nsze) →
    Completes (.datasetManagementDeallocate r nsid ranges) s fun t =>
      t.runs r = true ∧ (s.jr.openNo, r) ∈ t.jr.waiting ∧
      ∀ x ∈ ranges, ∀ i ∈ s.wholeGranules n x.1 x.2, mapGet? t.nv.map (mapKey nsid i) = none)

/-- R143, R145, R148, R151, R263: a write without FUA completes with Success when the data of all its ranges has arrived; a hallmark
that fails at ingress fails it, and its ranges leave the buffer; a Flush completes with Success once nothing of its namespace
that completed before its fetch is still volatile, and waits otherwise. Where it goes beyond the spec's words it takes the
model's choices of log entries 29, 219. -/
def Obligations.WriteDataAndFlushComplete : Prop :=
  (∀ s r d, s.alive = true → s.runs r = true → (∃ e ∈ s.wp.wr, e.2.ref = r ∧ e.2.completed = none ∧ e.2.got = false) →
    (∀ e ∈ s.wp.wr, e.2.ref = r → e.2.fua = false ∧ e.2.needAck = false ∧ (s.ns? e.2.nsid).isSome = true) →
    (s.cmd? r).map (·.opcode) = some 1 →
    Completes (.writeDataReceived r (.data d)) s fun t => t.ended r = some (.success, 0, 0)) ∧
  (∀ s r f lba, s.alive = true → s.runs r = true → (∃ e ∈ s.wp.wr, e.2.ref = r ∧ e.2.completed = none ∧ e.2.got = false) →
    Completes (.writeDataReceived r (.hallmark f lba)) s fun t =>
      t.ended r = some (if f = 0 then .guardCheck else if f = 1 then .appTagCheck else .refTagCheck, 0, 0) ∧
      ∀ e ∈ t.wp.wr, ¬ (e.2.ref = r ∧ e.2.completed = none)) ∧
  (∀ s r nsid n, s.serves r nsid n → nsid ≠ 0xFFFFFFFF → s.unseenBy r nsid = false →
    Completes (.flush r nsid) s fun t =>
      ((∀ e ∈ s.wp.wr, e.2.nsid = nsid → s.lasting e.2 = true) → t.ended r = some (.success, 0, 0)) ∧
      ((∃ e ∈ s.wp.wr, e.2.nsid = nsid ∧ s.lasting e.2 = false ∧ ∃ c, e.2.completed = some c ∧
        c ≤ ((s.cmd? r).map (·.seq)).getD 0) → t.runs r = true ∧ mapHas t.wp.flushes (cmdKey r) = true)) ∧
  (∀ s r nsid n, s.serves r nsid n → nsid ≠ 0xFFFFFFFF → s.unseenBy r nsid = true →
    Completes (.flush r nsid) s fun t => t.ended r = some (.deferredWriteFault, 0, 0) ∧ t.seen r.owner nsid = n.deferred.total)

/-- R119, R120, R131, R133, R142, Tables ZON-2 and ZON-3: the zone commands make the transitions of Table ZON-3, and one that the
zone's state does not allow ends with Invalid Zone State Transition; a report gives every zone from the one that holds the SLBA;
a plain reset waits for its batch, and a secure reset for the erase of every block set. Where it goes beyond the spec's words it
takes the model's choices of log entries 37, 39, 73, 74, 185, 206. -/
def Obligations.ZoneCommandsComplete : Prop :=
  (∀ s r nsid n slba, s.serves r nsid n → n.zoned = true → slba < n.nsze → slba % s.zoneLbas n = 0 → s.writeProtected n = false →
    (s.zoneAt nsid (slba / s.zoneLbas n)).st = .iopen →
    Completes (.zoneOpen r nsid slba false false) s fun t =>
      t.ended r = some (.success, 0, 0) ∧ (t.zoneAt nsid (slba / s.zoneLbas n)).st = .eopen) ∧
  (∀ s r nsid n slba, s.serves r nsid n → n.zoned = true → slba < n.nsze → slba % s.zoneLbas n = 0 → s.writeProtected n = false →
    (s.zoneAt nsid (slba / s.zoneLbas n)).st = .full →
    (Completes (.zoneOpen r nsid slba false false) s fun t =>
      t.ended r = some (.invalidZoneTransition, 0, 0) ∧ t.nv = s.nv) ∧
    (Completes (.zoneClose r nsid slba false false) s fun t =>
      t.ended r = some (.invalidZoneTransition, 0, 0) ∧ t.nv = s.nv) ∧
    Completes (.zoneFinish r nsid slba false false) s fun t =>
      t.ended r = some (.invalidZoneTransition, 0, 0) ∧ t.nv = s.nv) ∧
  (∀ s r nsid n slba, s.serves r nsid n → n.zoned = true → slba < n.nsze → slba % s.zoneLbas n = 0 →
    (s.zoneAt nsid (slba / s.zoneLbas n)).st.isOpen = true →
    Completes (.zoneClose r nsid slba false false) s fun t =>
      t.ended r = some (.success, 0, 0) ∧
      ((s.zoneAt nsid (slba / s.zoneLbas n)).reserved = 0 → (s.zoneAt nsid (slba / s.zoneLbas n)).wp = 0 →
        (t.zoneAt nsid (slba / s.zoneLbas n)).st = .empty ∧ (t.zoneAt nsid (slba / s.zoneLbas n)).sets = []) ∧
      ((s.zoneAt nsid (slba / s.zoneLbas n)).reserved ≠ 0 → (t.zoneAt nsid (slba / s.zoneLbas n)).st = .closed)) ∧
  (∀ s r nsid n slba, s.serves r nsid n → n.zoned = true → slba < n.nsze → slba % s.zoneLbas n = 0 → s.writeProtected n = false →
    ((s.zoneAt nsid (slba / s.zoneLbas n)).st.active || (s.zoneAt nsid (slba / s.zoneLbas n)).st == .empty) = true →
    Completes (.zoneFinish r nsid slba false false) s fun t =>
      t.ended r = some (.success, 0, 0) ∧ (t.zoneAt nsid (slba / s.zoneLbas n)).st = .full) ∧
  (∀ s r nsid n slba, s.serves r nsid n → n.zoned = true → slba < n.nsze → slba % s.zoneLbas n = 0 → s.writeProtected n = false →
    (s.zoneAt nsid (slba / s.zoneLbas n)).st.active = true → n.secure = false →
    s.rangesPending nsid (slba / s.zoneLbas n) = false →
    Completes (.zoneReset r nsid slba false) s fun t =>
      t.runs r = true ∧ (s.jr.openNo, r) ∈ t.jr.waiting ∧ (t.zoneAt nsid (slba / s.zoneLbas n)).st = .empty ∧
      (t.zoneAt nsid (slba / s.zoneLbas n)).wp = 0 ∧ (t.zoneAt nsid (slba / s.zoneLbas n)).reserved = 0 ∧
      mapHas t.zone.resets (cmdKey r) = false) ∧
  (∀ s r nsid n slba sets, s.serves r nsid n → s.secureOffered = true → n.zoned = true → slba < n.nsze → slba % s.zoneLbas n = 0 →
    s.writeProtected n = false → (s.zoneAt nsid (slba / s.zoneLbas n)).st.active = true →
    s.rangesPending nsid (slba / s.zoneLbas n) = false →
    sets = s.zoneSetKeys (s.zoneAt nsid (slba / s.zoneLbas n)) ++ s.relocKeys (zoneKey nsid (slba / s.zoneLbas n)) →
    s.secureFull n sets = false → sets ≠ [] →
    Completes (.secureReset r nsid slba false) s fun t =>
      t.runs r = true ∧ (t.zoneAt nsid (slba / s.zoneLbas n)).st = .empty ∧
      (mapGet? t.zone.resets (cmdKey r)).map (·.left) = some sets ∧ ∀ k ∈ sets, k ∈ t.zone.secureSets) ∧
  (∀ s r nsid slba all, s.alive = true → s.startable r = true → s.secureOffered = false →
    Completes (.secureReset r nsid slba all) s fun t => t.ended r = some (.invalidField, 0, 0) ∧ t.nv = s.nv) ∧
  (∀ s r nsid n slba, s.serves r nsid n → n.zoned = true → slba < n.nsze →
    Completes (.zoneReport r nsid slba) s fun t =>
      t.ended r = some (.success, 0, 0) ∧ t.out = [.data "zones" ((List.range (n.zoneCount - slba / s.zoneLbas n)).map fun i =>
        [(s.zoneAt nsid (slba / s.zoneLbas n + i)).st.code, s.zcap n, (slba / s.zoneLbas n + i) * s.zoneLbas n,
          (slba / s.zoneLbas n + i) * s.zoneLbas n + (s.zoneAt nsid (slba / s.zoneLbas n + i)).wp]).flatten])

/-- R119, R132, R133, R134, R136, R140: a waiting reset applies to a zone once every reserved range of it has its place; a secure
operation completes when nothing is left of it; those that the limit of R136 held try again; a command that waits for an opening
ends; the cache grows at once and shrinks when its blocks are gone; the SECURE attribute is set, in M3 and M2 never to 1. Where
it goes beyond the spec's words it takes the model's choices of log entries 35, 36, 75, 162, 182. -/
def Obligations.ZoneEventsComplete : Prop :=
  (∀ s k w nsid z n, s.alive = true → s.zone.resets = [(k, w)] → w.nsid = nsid → w.zones = [z] → w.secure = false →
    s.ns? nsid = some n → s.rangesPending nsid z = false →
    Completes (.zoneResetApply nsid z) s fun t =>
      (t.zoneAt nsid z).st = .empty ∧ (t.zoneAt nsid z).wp = 0 ∧ t.zone.resets = [] ∧ (s.jr.openNo, w.ref) ∈ t.jr.waiting) ∧
  (∀ s r w, s.alive = true → s.runs r = true → mapGet? s.zone.resets (cmdKey r) = some w → w.ref = r → w.secure = true →
    Completes (.secureResetComplete r) s fun t =>
      if w.zones = [] ∧ w.granules = [] ∧ w.left = [] ∧ w.batch ≤ s.jr.onFlash ∧ s.companionHolds w = false then
        t.ended r = some (.success, w.residue.toNat + (s.isPair && !w.companion).toNat * 2, 0) ∧
        mapHas t.zone.resets (cmdKey r) = false
      else t.runs r = true ∧ t.zone = s.zone) ∧
  (∀ s k w n z cons sets, s.alive = true → s.zone.secureWaits = [k] → mapGet? s.zone.resets k = some w → w.zones = [z] →
    w.granules = [] → w.secure = true → s.ns? w.nsid = some n → n.cons = cons → s.rangesPending w.nsid z = false → s.isPair = false →
    sets = s.zoneSetKeys (s.zoneAt w.nsid z) ++ s.relocKeys (zoneKey w.nsid z) → s.secureFull n sets = false →
    Completes (.securePendingLimitWaitEnd cons) s fun t =>
      (t.zoneAt w.nsid z).st = .empty ∧ t.zone.secureWaits = [] ∧
      (mapGet? t.zone.resets k).map (·.left) = some (w.left ++ sets.filter fun x => !w.left.contains x)) ∧
  (∀ s r nsid z n c, s.alive = true → s.zone.openWaits = [(zoneKey nsid z, r)] → s.ns? nsid = some n → s.cmd? r = some c →
    s.runs r = true → c.opcode = 0x79 → (s.zoneAt nsid z).st = .empty →
    (∀ s', s.quiet.openZone nsid z n true = .ok s' →
      Completes (.zoneOpenEraseWaitEnd nsid z) s fun t =>
        t.ended r = some (.success, 0, 0) ∧ t.zone.openWaits = [] ∧ (t.zoneAt nsid z).st = .eopen ∧
        (t.zoneAt nsid z).column.isSome = true) ∧
    (s.activeFull nsid n = true →
      Completes (.zoneOpenEraseWaitEnd nsid z) s fun t =>
        t.ended r = some (.tooManyActiveZones, 0, 0) ∧ t.zone.openWaits = [])) ∧
  (∀ s v, s.alive = true → s.on Reg.ZONE_HOT_SIZE_BUSY = false → s.charted = true → s.chart.cur.dram.hotMinGiB ≤ v →
    v ≤ s.chart.cur.dram.hotMaxGiB → v < 256 →
    Completes (.zoneHotSizeWrite v) s fun t =>
      t.rd Reg.ZONE_HOT_SIZE_REQUEST = v ∧
      (v < s.rd Reg.ZONE_HOT_SIZE_CURRENT → t.on Reg.ZONE_HOT_SIZE_BUSY = true ∧
        t.rd Reg.ZONE_HOT_SIZE_CURRENT = s.rd Reg.ZONE_HOT_SIZE_CURRENT) ∧
      (s.rd Reg.ZONE_HOT_SIZE_CURRENT ≤ v → t.on Reg.ZONE_HOT_SIZE_BUSY = false ∧ t.rd Reg.ZONE_HOT_SIZE_CURRENT = v)) ∧
  (∀ s, s.alive = true → s.on Reg.ZONE_HOT_SIZE_BUSY = true →
    Completes .hotCacheShrinkDone s fun t =>
      t.on Reg.ZONE_HOT_SIZE_BUSY = false ∧ t.rd Reg.ZONE_HOT_SIZE_CURRENT = s.rd Reg.ZONE_HOT_SIZE_REQUEST % 256 ∧
      t.zone.hot = s.zone.hot.take (s.rd Reg.ZONE_HOT_SIZE_REQUEST % 256 * 262144)) ∧
  (∀ s b, s.alive = true →
    Completes (.zoneNsAttrWrite b) s fun t =>
      if b = true ∧ s.secureOffered = false then t.nv = s.nv
      else (t.ns? (s.rd Reg.ZONE_NS_SEL_NSID)).map (·.secure) = (s.ns? (s.rd Reg.ZONE_NS_SEL_NSID)).map fun _ => b)

/-! ### The journal and the dusk drain (spec/07) -/

/-- R149, R151, R157 to R160: a batch on flash is the journal's newest durable state, and what waited for it completes; a drain
passes through the states of Table WRT-7, records its outcome, and ends in a warm reset once PWR_LOSS_N is high. Where it goes
beyond the spec's words it takes the model's choices of log entries 32, 92, 100, 126, 127. -/
def Obligations.BatchAndDuskComplete : Prop :=
  (∀ s b l okA okB companion, s.alive = true → s.jr.closed = l ++ [b] →
    Completes (.batchOnFlash okA okB companion) s fun t =>
      if okA || okB then
        t.jr.closed = [] ∧ t.jr.onFlash = b.no ∧ t.jr.disk = b.nv ∧
        ∀ e ∈ s.jr.waiting, e.1 ≤ b.no → s.runs e.2 = true → e.2 ∉ s.pair.nsOps →
          (t.ended e.2).map (·.1) = some .success
      else t.jr = s.jr ∧ t.q = s.q) ∧
  (∀ s, s.alive = true → s.wp.dusk = .idle →
    Completes .pwrLossNAssert s fun t =>
      t.boot.pins.pwrLossN = false ∧ t.wp.dusk = (if s.drainStarts then .quiesce else .idle) ∧
      (s.drainStarts = false → t.rd Reg.EVT_STATUS_LAST = 51)) ∧
  (∀ s, s.alive = true → s.wp.dusk = .quiesce → s.writersRun = false →
    Completes .duskQuiesceDone s fun t => t.wp.dusk = .data ∧ t.wp.duskMiB = s.duskData) ∧
  (∀ s l, s.alive = true → s.wp.dusk = .data →
    Completes (.duskDataDone l) s fun t => t.wp.dusk = .metadata ∧ t.wp.duskLost = !l.isEmpty) ∧
  (∀ s us, s.alive = true → s.wp.dusk = .metadata →
    (s.wp.duskLost = false → s.boot.pins.pwrLossN = false →
      Completes (.duskRecordWritten us) s fun t =>
        t.wp.dusk = .done ∧ t.wp.duskLast = some (s.wp.duskMiB, us, s.wp.holdupFell) ∧ t.wp.duskRecord.isSome = true ∧
        t.jr.closed = [] ∧ t.jr.waiting = [] ∧ t.rd Reg.EVT_STATUS_LAST = 49) ∧
    (s.wp.duskLost = true → Completes (.duskRecordWritten us) s fun t => t.wp = s.wp ∧ t.jr = s.jr)) ∧
  (∀ s, s.alive = true →
    Completes .holdupOkFall s fun t =>
      t.boot.pins.holdupOk = false ∧ t.wp.dusk = s.wp.dusk ∧ (s.wp.dusk = .data → t.wp.holdupFell = true)) ∧
  (∀ s, s.alive = true → Completes .holdupOkRise s fun t => t.boot.pins.holdupOk = true ∧ t.wp = s.wp) ∧
  (∀ s, s.alive = true →
    Completes .pwrLossNDeassert s fun t =>
      t.boot.pins.pwrLossN = true ∧ (s.wp.dusk = .done → s.boot.resetAsked = none → t.boot.resetAsked = some 3) ∧
      (s.wp.dusk = .data → t.wp = s.wp))

/-! ### Die scheduling (spec/08) -/

/-- R12, R169, R171, R181, R184, R189, R196: a request enters the queue of its die, in a reserve entry when its class may use one
and one is free, and stays with its sender when no entry is free; an idle die that can only read issues an eligible operation
before which no other comes; a waiting read that passes its deadline is LOST; and the states of a suspended erase. Where it goes
beyond the spec's words it takes the model's choices of log entries 38, 41. -/
def Obligations.DieQueuesComplete : Prop :=
  (∀ s (r : DieReq), s.alive = true → s.populated (dieKey r.ch r.die) = true → s.memberIssues (dieMember (dieKey r.ch r.die)) = true →
    (s.die (dieKey r.ch r.die)).failed = false → r.bad = none →
    r.purpose = .metadata ∨ r.purpose = .adminRead ∨ r.purpose = .scrub none →
    Completes (.dieQueueEntry r) s fun t =>
      if ((s.die (dieKey r.ch r.die)).queue.filter fun o => !o.reserve).length < 14 then
        ∃ o, (t.die (dieKey r.ch r.die)).queue = (s.die (dieKey r.ch r.die)).queue ++ [o] ∧ o.kind = r.kind ∧ o.blocks = r.blocks ∧
          o.page = r.page ∧ o.purpose = r.purpose ∧ o.arrival = s.time.sid ∧
          o.reserve = (decide (r.purpose ≠ .scrub none) && decide (((s.die (dieKey r.ch r.die)).queue.filter (·.reserve)).length < 2))
      else if r.purpose = .scrub none ∨ 2 ≤ ((s.die (dieKey r.ch r.die)).queue.filter (·.reserve)).length then t.md = s.md
      else (t.die (dieKey r.ch r.die)).queue.length = (s.die (dieKey r.ch r.die)).queue.length + 1) ∧
  (∀ s ch pos, s.alive = true → (s.die (dieKey ch pos)).busy = .idle → s.populated (dieKey ch pos) = true →
    (s.die (dieKey ch pos)).failed = false → s.draining = false → (s.die (dieKey ch pos)).erase = none →
    mapHas s.md.retraining ch = false → (s.die (dieKey ch pos)).held = [] → (∀ o ∈ (s.die (dieKey ch pos)).queue, o.kind = .read) →
    ((s.die (dieKey ch pos)).queue.any fun o => s.eligibleOp (dieKey ch pos) o) = true →
    Completes (.operationIssue ch pos) s fun t =>
      ∃ o o', o ∈ (s.die (dieKey ch pos)).queue ∧ s.eligibleOp (dieKey ch pos) o = true ∧
        (∀ p ∈ (s.die (dieKey ch pos)).queue, s.eligibleOp (dieKey ch pos) p = true → s.before p o = false) ∧
        (t.die (dieKey ch pos)).busy = .running o' ∧ o'.id = o.id ∧ (t.die (dieKey ch pos)).since = s.time.now ∧
        ∀ p ∈ (t.die (dieKey ch pos)).queue, p.id ≠ o.id) ∧
  (∀ s ch pos op o v, s.alive = true → o ∈ (s.die (dieKey ch pos)).queue → o.id = op → o.deadline = .live v → o.cls ≤ 1 →
    Completes (.deadlinePass ch pos op) s fun t =>
      ∃ p ∈ (t.die (dieKey ch pos)).queue, p.id = op ∧ p.deadline = .lost v ∧ opTier p = 5) ∧
  (∀ s ch pos e, s.alive = true → (s.die (dieKey ch pos)).erase = some e →
    Completes (.holdMsReached ch pos) s fun t =>
      (t.die (dieKey ch pos)).erase.map (·.holdReached) = some true ∧
      (t.picks (dieKey ch pos)).head?.map (fun p => match p with | .resume _ => true | .op _ => false) = some true) ∧
  (∀ s ch pos us e b r, s.alive = true → (s.die (dieKey ch pos)).busy = .suspending e b → (s.die (dieKey ch pos)).run = some r →
    Completes (.eraseSuspendDone ch pos us) s fun t =>
      (t.die (dieKey ch pos)).busy = .idle ∧ (t.die (dieKey ch pos)).run = none ∧
      (t.die (dieKey ch pos)).erase = some { r with op := e, since := s.time.now, suspends := r.suspends + 1 }) ∧
  (∀ s ch pos us e, s.alive = true → (s.die (dieKey ch pos)).busy = .resuming e → s.wp.dusk = .idle →
    Completes (.eraseResumeDone ch pos us) s fun t =>
      (t.die (dieKey ch pos)).busy = .running e ∧ (t.die (dieKey ch pos)).since = s.time.now)

/-! ### Reads and the decoder ladder (spec/06, spec/09) -/

/-- R126, R137, R216, R218, R219: a read ends at once with what the write buffer, the hot cache and zeros give; the rest comes from
media, each codeword through the ladder of Table MED-8, and the last of it ends the command. Where it goes beyond the spec's
words it takes the model's choices of log entries 75, 204, 206, 208. -/
def Obligations.ReadsComplete : Prop :=
  (∀ s r nsid n slba nlb hot, s.serves r nsid n → 1 ≤ nlb → nlb ≤ 256 * n.per4k → slba + nlb ≤ n.nsze →
    (s.cmd? r).map (·.opcode) = some 2 →
    (∀ i, i < nlb → (s.zoneAt nsid ((slba + i) / s.zoneLbas n)).st ≠ .offline) →
    Completes (.read r nsid slba nlb hot) s fun t =>
      ((∀ i, i < nlb → (s.readBlock n nsid (slba + i)).isSome = true) →
        t.ended r = some (.success, 0, 0) ∧ (s.isFabric r.owner = false →
          .data "read" ((List.range nlb).filterMap fun i => s.readBlock n nsid (slba + i)) ∈ t.out)) ∧
      (n.zoned = true → (∃ i, i < nlb ∧ s.readBlock n nsid (slba + i) = none) →
        t.runs r = true ∧ (mapGet? t.md.reads (cmdKey r)).map (fun j => (j.ref, j.nsid, j.slba, j.blocks.length)) =
          some (r, nsid, slba, nlb))) ∧
  (∀ s ch pos us o r lba n, s.alive = true → (s.die (dieKey ch pos)).busy = .running o → o.kind = .read →
    o.purpose = .hostRead r lba n → r.owner < 65536 →
    Completes (.pageReadDone ch pos us true) s fun t =>
      (t.die (dieKey ch pos)).busy = .idle ∧ ∀ k, k < s.opWords (dieKey ch pos) o → s.wants (dieKey ch pos) o k = true →
        mapGet? t.md.dec (decKey o.id k) = some ⟨o, ch, pos, 1, 0, false, 0, false, k⟩) ∧
  (∀ s e x r lba n j bits ns a m, s.alive = true → mapGet? s.md.dec e = some x → x.softLeft = 0 → s.md.job = [] →
    x.op.purpose = .hostRead r lba n → mapGet? s.md.reads (cmdKey r) = some j → s.runs r = true →
    (s.cmd? r).map (·.opcode) = some 2 → s.wants (dieKey x.ch x.die) x.op x.cw = true →
    s.hostBlocks r lba n x.cw = some (ns, a, m) → lba ≤ a → a - lba + m ≤ x.op.snap.length →
    (∀ i, i < j.blocks.length → (j.blocks.getD i none).isSome = true ∨ a ≤ j.slba + i ∧ j.slba + i < a + m) →
    (x.step = 1 → Completes (.hardDecodeDone e true bits true) s fun t =>
      t.ended r = some (.success, 0, 0) ∧ mapGet? t.md.dec e = none ∧ mapGet? t.md.reads (cmdKey r) = none) ∧
    (x.step = 3 → (s.domain 33).state = .on → ∀ v, Completes (.softDecodeDone e true true v) s fun t =>
      t.ended r = some (.success, 0, 0) ∧ mapGet? t.md.dec e = none ∧ mapGet? t.md.reads (cmdKey r) = none)) ∧
  (∀ s e x bits h, s.alive = true → mapGet? s.md.dec e = some x → x.softLeft = 0 → x.step = 2 →
    s.dieUp (dieKey x.ch x.die) = true → s.wants (dieKey x.ch x.die) x.op x.cw = true →
    Completes (.hardDecodeDone e false bits h) s fun t =>
      if x.retry < s.rd Reg.MEDIA_LADDER_CFG_RETRY_MAX then
        mapGet? t.md.dec e = some { x with step := 2, retry := x.retry + 1, softLeft := 1 }
      else mapGet? t.md.dec e = some { x with step := 3, softLeft := 3 }) ∧
  (∀ s e x v h r lba n set row pos mask, s.alive = true → mapGet? s.md.dec e = some x → x.softLeft = 0 → x.step = 3 → x.early = false →
    x.op.purpose = .hostRead r lba n → s.wants (dieKey x.ch x.die) x.op x.cw = true → (s.domain 33).state = .on →
    s.codewordAt (dieKey x.ch x.die) x.op x.cw = some (set, row, pos, mask) → s.canRebuild set row pos mask = true →
    Completes (.softDecodeDone e false h v) s fun t =>
      mapGet? t.md.dec e = some { x with step := 4 } ∧
      (mapGet? t.md.job s.md.nextJob).map (fun j => (j.kind, j.set, j.row, j.pos, j.left, j.mask)) =
        some (.ladder e, set, row, pos, s.sources set row pos mask, mask)) ∧
  (∀ s k j r lba n x, s.alive = true → (s.domain 34).state = .on → mapGet? s.md.job k = some j → j.left = [] → j.bad = [] →
    j.kind = .outOfService r lba n → j.lane.isSome = true → mapGet? s.md.reads (cmdKey r) = some x → s.runs r = true → (s.cmd? r).map (·.opcode) = some 2 →
    (∀ i, i < x.blocks.length → (x.blocks.getD i none).isSome = true ∨ lba ≤ x.slba + i ∧ x.slba + i < lba + j.snap.length) →
    Completes (.crucibleJobDone k true true) s fun t =>
      t.ended r = some (.success, 0, 0) ∧ mapGet? t.md.job k = none)

/-! ### Programs, erases and the media engines (spec/09) -/

/-- R204 to R212, R222 to R230: a program that passes adds its unit to its row; an erase leaves its blocks ERASED; a die that times
out is reset, and one that does not answer the reset has failed; strobes, retraining, bus faults and temperatures. Where it goes
beyond the spec's words it takes the model's choices of log entries 3, 174. -/
def Obligations.MediaEventsComplete : Prop :=
  (∀ s ch pos us o set row i, s.alive = true → (s.die (dieKey ch pos)).busy = .running o → o.kind = .program →
    o.purpose = .unit set row i → (s.setPlace set).isSome = true →
    Completes (.programDone ch pos us []) s fun t =>
      (t.die (dieKey ch pos)).busy = .idle ∧ i ∈ (t.row set row).passed) ∧
  (∀ s ch pos us o, s.alive = true → (s.die (dieKey ch pos)).busy = .running o → o.kind = .erase →
    (∀ b ∈ o.blocks, (s.block (dieKey ch pos) b).weakCount < 2) →
    Completes (.eraseDone ch pos us [] []) s fun t =>
      (t.die (dieKey ch pos)).busy = .idle ∧ (t.die (dieKey ch pos)).run = none ∧
      ∀ b ∈ o.blocks, (t.block (dieKey ch pos) b).st = .erased ∧ (t.block (dieKey ch pos) b).nextPage = 0) ∧
  (∀ s ch pos o, s.alive = true → (s.die (dieKey ch pos)).busy = .running o → o.kind = .read → o.purpose = .scrub none → s.md.job = [] →
    ((s.die (dieKey ch pos)).timeouts.filter fun x => decide (s.time.now - x ≤ 1000000000)).length < 2 →
    Completes (.operationTimeout ch pos) s fun t =>
      (t.die (dieKey ch pos)).busy = .resetting ∧ (t.die (dieKey ch pos)).since = s.time.now ∧
      s.time.now ∈ (t.die (dieKey ch pos)).timeouts) ∧
  (∀ s ch pos, s.alive = true → (s.die (dieKey ch pos)).busy = .resetting → (s.die (dieKey ch pos)).failed = false →
    (s.die (dieKey ch pos)).queue = [] →
    (∀ d, dieMember d = dieMember (dieKey ch pos) → d ≠ dieKey ch pos → (s.die d).busy = .idle ∧ (s.die d).queue = []) →
    (∀ e ∈ s.nv.zones, e.2.st.isOpen = false) → (∀ e ∈ s.nv.rus, e.2.held = none) → s.setsOn (columnOf (dieKey ch pos)) = [] →
    Completes (.dieResetTimeout (ch, pos) none) s fun t => (t.die (dieKey ch pos)).failed = true) ∧
  (∀ s ch pos, s.alive = true → (s.die (dieKey ch pos)).busy = .resetting →
    (Completes (.dieResetTimeout (ch, pos) (some true)) s fun t =>
      (t.die (dieKey ch pos)).busy = .idle ∧ (t.die (dieKey ch pos)).failed = (s.die (dieKey ch pos)).failed) ∧
    ((s.member (ch / 8)).st = .inService → (s.die (dieKey ch pos)).queue = [] →
      (∀ d, dieMember d = ch / 8 → d ≠ dieKey ch pos → (s.die d).busy = .idle ∧ (s.die d).queue = []) →
      (∀ e ∈ s.nv.zones, e.2.st.isOpen = false) → (∀ e ∈ s.nv.rus, e.2.held = none) →
      Completes (.dieResetTimeout (ch, pos) (some false)) s fun t => (t.member (ch / 8)).st = .isolating ∧ (t.member (ch / 8)).cause = 1)) ∧
  (∀ s ch, s.alive = true →
    (Completes (.idleLevelCheck ch true) s fun t => t.md = s.md ∧ t.nv = s.nv ∧ t.regs = s.regs) ∧
    ((s.member (ch / 8)).st = .inService → s.idleMember (ch / 8) →
      Completes (.idleLevelCheck ch false) s fun t => (t.member (ch / 8)).st = .isolating ∧ (t.member (ch / 8)).cause = 1)) ∧
  (∀ s ch, s.alive = true →
    (Completes (.recentre ch true) s fun t =>
      t.rd (Reg.MEDIA_CH_STATUS_RECENTRES.at ch) =
        min (s.rd (Reg.MEDIA_CH_STATUS_RECENTRES.at ch) + 1) (2 ^ Reg.MEDIA_CH_STATUS_RECENTRES.width - 1) ∧
      t.md.retraining = s.md.retraining) ∧
    Completes (.recentre ch false) s fun t => mapHas t.md.retraining ch = true) ∧
  (∀ s ch, s.alive = true → mapHas s.md.retraining ch = true →
    Completes (.fullRetrainingDone ch true) s fun t => mapHas t.md.retraining ch = false ∧ t.nv = s.nv) ∧
  (∀ s ch pos (v : Int), s.alive = true → s.populated (dieKey ch pos) = true →
    Completes (.flashTemperatureRead ch pos v) s fun t =>
      (t.die (dieKey ch pos)).temp = v ∧ mapGet? t.power.flashHot (dieKey ch pos) = some v ∧
      ((s.rd Reg.THERM_FLASH_CFG_LIMIT : Int) ≤ v → t.power.flashCap = true))

/-- R209, R212, R220, R226, R227, R235, R240: the scrub of the block whose turn it is begins with its first page, and each codeword
of it that decodes is counted and may mark the block; the halfway check; wear leveling moves a set once a block set is worn
beyond the mean; the block state table goes to flash; the read-only state and raw mode end and begin as their conditions say.
Where it goes beyond the spec's words it takes the model's choices of log entries 175, 208. -/
def Obligations.MediaCareComplete : Prop :=
  (∀ s ch pos b low high l, s.alive = true →
    Completes (.scrubRead ch pos b low high l) s fun t =>
      if s.pausedPs = false ∧ s.scrubTurn (dieKey ch pos) = some (blockKey (dieKey ch pos) b) ∧
          (mapAny s.md.scrubs fun j _ => decide (j / 65536 = dieKey ch pos)) = false then
        (s.block (dieKey ch pos) b).st = .open_ ∨ (s.block (dieKey ch pos) b).st = .full → 1 ≤ (s.block (dieKey ch pos) b).nextPage →
          (mapGet? t.md.scrubs (blockKey (dieKey ch pos) b)).map (·.left) = some (List.range (s.block (dieKey ch pos) b).nextPage) ∧
          ∃ o ∈ (t.die (dieKey ch pos)).queue ++ (t.die (dieKey ch pos)).held,
            o.purpose = .scrub none ∧ o.kind = .read ∧ o.blocks = [b] ∧ o.page = 0
      else t.md = s.md ∧ t.nv = s.nv) ∧
  (∀ s e x bits e' x' r b, s.alive = true → mapGet? s.md.dec e = some x → x.step = 1 → x.softLeft = 0 → x.op.purpose = .scrub none →
    b = x.op.blocks.getD 0 0 → mapGet? s.md.scrubs (blockKey (dieKey x.ch x.die) b) = some r →
    mapGet? s.md.dec e' = some x' → e' ≠ e → x'.op = x.op → s.md.job = [] →
    (Completes (.hardDecodeDone e true bits true) s fun t =>
      mapGet? t.md.dec e = none ∧
      (mapGet? t.md.scrubs (blockKey (dieKey x.ch x.die) b)).map (fun y => (y.words, y.bits, y.mark)) =
        some (r.words + 1, r.bits + bits, r.mark ||
          decide (capability (s.codeRate (dieKey x.ch x.die) b) * s.rd Reg.MEDIA_SCRUB_CFG_REFRESH_PCT < bits * 100)) ∧
      t.md.book = s.md.book ∧ t.md.refresh = s.md.refresh)) ∧
  (∀ s, s.alive = true →
    Completes .scrubMidpoint s fun t =>
      if s.scrubPct < 45 ∧ s.scrubList ≠ [] then
        t.on Reg.MEDIA_STATUS_SCRUB_BEHIND = true ∧ t.on Reg.MEDIA_SCRUB_STATUS_BEHIND = true
      else t.regs = s.regs) ∧
  (∀ s set a x, s.alive = true → s.pausedPs = false → s.on Reg.MEDIA_WL_CFG_ENABLE = true → s.nv.readOnly = false → s.chart.cur.cons.length = 1 →
    (mapAny s.md.reloc fun k r => decide (r.why = 2) && decide (s.relocCons k = some 0)) = false → s.refreshDue 0 = false →
    s.wearSets 0 = [(set, a)] →
    s.setPlace set = some x → ((s.consOf 0).columns.any fun c => s.columnServes c && (s.takeSets c).isSome) = true →
    Completes .wearLevelCheck s fun t =>
      if s.wearPool.any fun p =>
          meanLt ((s.wearOf s.wearPool).1 +
            s.rd Reg.MEDIA_WL_CFG_DELTA * max (s.wearOf s.wearPool).2 1,
            (s.wearOf s.wearPool).2) (s.wearOf [p])
      then mapHas t.md.reloc set = true else t.md = s.md) ∧
  (∀ s, s.alive = true →
    Completes .blockStateTableSnapshot s fun t => t.jr.disk.blocks = s.nv.blocks ∧ t.jr.disk.sets = s.nv.sets ∧ t.nv = s.nv) ∧
  (∀ s u, s.alive = true →
    Completes (.mediaWpCtrlRelease u) s fun t =>
      if u = 0x4D57 then
        t.nv.readOnly = (s.nv.readOnly && !(s.allDies.filter s.dieUp).all fun d => decide (s.chart.cur.media.finalReserve < s.spares d))
      else t.nv = s.nv ∧ t.rd Reg.DEV_ACC_ERR_UNLOCK =
        min (s.rd Reg.DEV_ACC_ERR_UNLOCK + 1) (2 ^ Reg.DEV_ACC_ERR_UNLOCK.width - 1)) ∧
  (∀ s, s.alive = true → s.on Reg.MEDIA_STATUS_RAW = false →
    Completes (.mediaRawCtrlWrite true) s fun t =>
      t.on Reg.MEDIA_STATUS_RAW = (s.boot.dbgUnlocked && s.nv.ns.isEmpty)) ∧
  (∀ s, s.alive = true → s.on Reg.MEDIA_STATUS_RAW = true →
    Completes (.mediaRawCtrlWrite false) s fun t =>
      t.on Reg.MEDIA_STATUS_RAW = false ∧ t.on Reg.MEDIA_RAW_CTRL_ENABLE = false)

/-! ### Members (spec/10) -/

/-- R259, R265, R266, R268 to R270: a member is failed on request unless a second one would be out of service; isolation, insertion,
training, rebuild row by row, and the return to service; the regions of a resync. Where it goes beyond the spec's words it takes
the model's choices of log entries 72, 176. -/
def Obligations.MembersComplete : Prop :=
  (∀ s u m f, s.alive = true →
    (u = 0x4352 → s.members.contains m = false → Completes (.memberFail u m f) s fun t => t.rd Reg.CRU_STATUS_RESULT = 3 ∧ t.nv = s.nv) ∧
    (u = 0x4352 → s.members.contains m = true → (s.member m).st = .inService → f = false →
      (s.members.any fun x => x != m && !s.memberUp x) = true →
      Completes (.memberFail u m f) s fun t => t.rd Reg.CRU_STATUS_RESULT = 2 ∧ t.nv = s.nv) ∧
    (u = 0x4352 → s.members.contains m = true → (s.member m).st = .inService → s.idleMember m →
      (f = true ∨ (s.members.any fun x => x != m && !s.memberUp x) = false) →
      Completes (.memberFail u m f) s fun t => (t.member m).st = .isolating ∧ (t.member m).cause = 3) ∧
    (u ≠ 0x4352 → Completes (.memberFail u m f) s fun t => t.nv = s.nv)) ∧
  (∀ s m, s.alive = true → (s.member m).st = .isolating →
    Completes (.isolationComplete m) s fun t => (t.member m).st = .failed ∧ (t.domain (15 + m)).state = .off) ∧
  (∀ s m, s.alive = true → s.members.contains m = true → (s.member m).st = .failed →
    (s.domain (15 + m)).state = .off →
    Completes (.memberInsert 0x4352 m) s fun t =>
      (t.member m).st = .training ∧ (t.domain (15 + m)).state = .waking ∧ (t.domain (15 + m)).cause = 3 ∧ t.rd Reg.CRU_STATUS_RESULT = 0) ∧
  (∀ s m, s.alive = true → (s.member m).st = .training →
    (∀ found, s.md.rebuildQueue = [] →
      Completes (.memberTrainingDone m true (some found)) s fun t =>
        (t.member m).st = .rebuilding ∧ (t.member m).rebuilt = [] ∧ t.md.rebuildQueue = [m]) ∧
    (Completes (.memberTrainingDone m true none) s fun t => (t.member m).st = .failed ∧ (t.member m).cause = 5) ∧
    ∀ found, Completes (.memberTrainingDone m false found) s fun t => (t.member m).st = .failed ∧ (t.member m).cause = 4) ∧
  (∀ s m set row col sets, s.alive = true → (s.member m).st = .rebuilding → s.md.rebuildQueue.head? = some m →
    s.setPlace set = some (col, sets) →
    (s.rebuildNext m col = some (set, row) → s.rowComplete set row = true →
      ((s.member m).rebuilt.any fun e => e.1 == set) = true ∨ (s.md.rebuildStarted.any fun e => e.1 == set) = true →
      Completes (.rebuildRow m set row) s fun t =>
        (set, row) ∈ t.md.rebuildStarted ∧
        (mapGet? t.md.job s.md.nextJob).map (fun j => (j.kind, j.set, j.row, j.pos, j.mask)) =
          some (.rebuild set row m, set, row, s.posOf m, s.unitMask col)) ∧
    (s.rebuildNext m col ≠ some (set, row) → Completes (.rebuildRow m set row) s fun t => t.md = s.md ∧ t.nv = s.nv)) ∧
  (∀ s m, s.alive = true → (s.member m).st = .rebuilding → s.md.rebuildQueue = [m] →
    Completes (.rebuildComplete m) s fun t =>
      (t.member m).st = (if (s.rebuildRows (s.posOf m)).isEmpty then .inService else .rebuilding)) ∧
  (∀ s region rows, s.alive = true → region ∈ s.md.resyncLeft →
    Completes (.resyncRegion region rows) s fun t => t.md.resyncLeft = s.md.resyncLeft.filter (· ≠ region)) ∧
  (∀ s region set row pos, s.alive = true → region ∈ s.md.resyncLeft → row < 4294967296 →
    Completes (.resyncRegion region [(rowKey set row, 8 * pos + 3)]) s fun t =>
      (t.row set row).parity = true ∧ (t.row set row).openRow = false)

/-! ### The network ports (spec/11) -/

/-- R277, R280, R281, R305, Table SRV-11: links come up and go down; a PFC frame pauses and resumes a priority on which PFC is
enabled, the pause ends with its quanta, and one longer than 100 ms is recorded once; a serve queue pair connects when its
request can be made, becomes READY when the peer accepts, and returns to IDLE when the peer refuses, does not answer, or when it
is destroyed. Where it goes beyond the spec's words it takes the model's choices of log entries 52, 59, 60, 222. -/
def Obligations.PortsAndServePairsComplete : Prop :=
  (∀ s p, s.alive = true → s.hasPort p = true → (s.netPort p).up = false → s.portPowered p = true →
    Completes (.netLinkUp p) s fun t => (t.netPort p).up = true ∧ t.rd Reg.EVT_STATUS_LAST = 1024) ∧
  (∀ s p, s.alive = true → (s.netPort p).up = true →
    Completes (.netLinkDown p) s fun t => t.netPort p = {} ∧ t.net.qps = s.net.qps) ∧
  (∀ s p prio quanta, s.alive = true → (s.netPort p).up = true → prio < 8 →
    Completes (.pfcFrame p prio quanta) s fun t =>
      bit (t.netPort p).paused prio = (if s.pfcOn p prio then decide (quanta ≠ 0) else bit (s.netPort p).paused prio)) ∧
  (∀ s p prio, s.alive = true → prio < 8 →
    Completes (.pauseQuantaExpiry p prio) s fun t => bit (t.netPort p).paused prio = false ∧ t.regs = s.regs) ∧
  (∀ s p prio, s.alive = true → bit (s.netPort p).paused prio = true → bit (s.netPort p).noted prio = false →
    Completes (.pfcPauseTimeout p prio) s fun t =>
      bit (t.netPort p).noted prio = true ∧ (t.netPort p).paused = (s.netPort p).paused ∧ t.rd Reg.EVT_STATUS_LAST = 1026) ∧
  (∀ s o, s.alive = true → s.on Reg.NET_SQP_STATUS_BUSY = false → (s.sqp (s.rd Reg.NET_SQP_SEL_HANDLE)).st = .idle →
    (s.sqpOwnerActive o = false → Completes (.sqpConnect o) s fun t => t.rd Reg.NET_SQP_STATUS_RESULT = 5 ∧ t.net = s.net) ∧
    (s.sqpOwnerActive o = true → (s.netPort (s.rd Reg.NET_SQP_ATTR_PORT)).up = true → s.hasAddress (s.rd Reg.NET_SQP_ATTR_PORT) = true →
      s.qpLeft = true → Completes (.sqpConnect o) s fun t =>
        t.sqp (s.rd Reg.NET_SQP_SEL_HANDLE) = ⟨.connecting, o, s.net.nextQp⟩ ∧ t.on Reg.NET_SQP_STATUS_BUSY = true ∧
        mapHas t.net.qps s.net.nextQp = true)) ∧
  (∀ s, s.alive = true → s.on Reg.NET_SQP_STATUS_BUSY = false → (s.sqp (s.rd Reg.NET_SQP_SEL_HANDLE)).st = .ready →
    Completes .sqpDestroy s fun t =>
      (t.sqp (s.rd Reg.NET_SQP_SEL_HANDLE)).st = .idle ∧ t.rd Reg.NET_SQP_STATUS_RESULT = 0 ∧
      .net "disconnect" [(s.sqp (s.rd Reg.NET_SQP_SEL_HANDLE)).qp] ∈ t.out ∧
      mapGet? t.net.qps (s.sqp (s.rd Reg.NET_SQP_SEL_HANDLE)).qp = none) ∧
  (∀ s h, s.alive = true → (s.sqp h).st = .connecting →
    (s.sqpOwnerActive (s.sqp h).owner = true → Completes (.sqpPeerAccept h) s fun t =>
      (t.sqp h).st = .ready ∧ t.rd Reg.NET_SQP_STATUS_RESULT = 0 ∧ t.on Reg.NET_SQP_STATUS_BUSY = false ∧
      t.rd Reg.EVT_STATUS_LAST = 1037) ∧
    (Completes (.sqpPeerReject h) s fun t =>
      (t.sqp h).st = .idle ∧ t.rd Reg.NET_SQP_STATUS_RESULT = 2 ∧ t.on Reg.NET_SQP_STATUS_BUSY = false) ∧
    Completes (.sqpConnectTimeout h) s fun t =>
      (t.sqp h).st = .idle ∧ t.rd Reg.NET_SQP_STATUS_RESULT = 2 ∧ t.on Reg.NET_SQP_STATUS_BUSY = false)

/-- R278, R281 to R284: a CNP cuts a queue pair's rate and the timer raises it, between the minimum and line rate; packets in order
are acknowledged; acknowledgements, NAKs, RNR NAKs and timeouts move the sender as go-back-N does; RDMA requests from the
network are refused. Where it goes beyond the spec's words it takes the model's choices of log entries 51, 52, 53, 54, 220. -/
def Obligations.TransportCompletes : Prop :=
  (∀ s k q, s.alive = true → mapGet? s.net.qps k = some q → q.port < 16 → s.on Reg.NET_CC_CFG_ENABLE = true →
    (Completes (.cnp k) s fun t =>
      (mapGet? t.net.qps k).map (fun x => (x.target, x.steps, x.rate)) =
        some (q.rate, 0, min (max (q.rate - q.rate * q.alpha / 2097152) (s.rd Reg.NET_CC_CFG2_RATE_MIN_MBPS * 1000)) (s.lineRate q.port))) ∧
    (q.steps < 5 → Completes (.rateIncreaseTimer k) s fun t =>
      (mapGet? t.net.qps k).map (fun x => (x.target, x.steps, x.rate)) =
        some (q.target, q.steps + 1,
          min (max ((q.rate + q.target) / 2) (s.rd Reg.NET_CC_CFG2_RATE_MIN_MBPS * 1000)) (s.lineRate q.port)))) ∧
  (∀ s (k : RocePacket) j q psn b, s.alive = true → (s.netPort k.port).up = true → k.bytes ≤ s.chart.cur.ports.mtu →
    k.occupancy ≤ s.portBuffer k.port → k.ce = false → k.kind = .send j psn b → mapGet? s.net.qps j = some q → q.error = false →
    (psn = q.expect → q.unacked < 15 → Completes (.rocePacket k) s fun t =>
      (mapGet? t.net.qps j).map (fun x => (x.expect, x.unacked)) = some ((q.expect + 1) % 16777216, q.unacked + 1)) ∧
    (psn ≠ q.expect → Completes (.rocePacket k) s fun t =>
      mapGet? t.net.qps j = some q ∧ .net "nak sequence error" ([j, q.expect] ++ s.roceTag) ∈ t.out)) ∧
  (∀ s (k : RocePacket), s.alive = true → (s.netPort k.port).up = true → k.bytes ≤ s.chart.cur.ports.mtu →
    s.portBuffer k.port < k.occupancy → k.kind ≠ .ptp →
    Completes (.rocePacket k) s fun t => t.net = s.net ∧ t.rd Reg.EVT_STATUS_LAST = 1027) ∧
  (∀ s (k : RocePacket) j psn, s.alive = true → (s.netPort k.port).up = true → k.bytes ≤ s.chart.cur.ports.mtu →
    k.occupancy ≤ s.portBuffer k.port → k.ce = false → k.kind = .rdmaRead j psn ∨ k.kind = .rdmaWrite j psn → mapHas s.net.qps j = true →
    Completes (.rocePacket k) s fun t => t.net.qps = s.net.qps ∧ .net "nak remote access error" ([j, psn] ++ s.roceTag) ∈ t.out) ∧
  (∀ s k q, s.alive = true → mapGet? s.net.qps k = some q → q.unacked ≠ 0 →
    Completes (.ackSend k) s fun t =>
      mapGet? t.net.qps k = some { q with unacked := 0 } ∧ .net "ack" ([k, (q.expect + 16777215) % 16777216] ++ s.roceTag) ∈ t.out) ∧
  (∀ s k q psn, s.alive = true → mapGet? s.net.qps k = some q → q.ahead psn < q.next - q.acked →
    (Completes (.ack k psn) s fun t =>
      mapGet? t.net.qps k = some { q with acked := q.acked + q.ahead psn + 1, retries := 0, rnr := 0 }) ∧
    (q.error = false → q.ahead psn ≠ 0 → 1 ≤ q.retryCnt → Completes (.nakSequenceError k psn) s fun t =>
      mapGet? t.net.qps k = some { q with acked := q.acked + q.ahead psn, retries := 1, rnr := 0 } ∧
      .net "retransmit" ([k, (q.acked + q.ahead psn) % 16777216, q.next - (q.acked + q.ahead psn)] ++ s.roceTag) ∈ t.out)) ∧
  (∀ s k q v, s.alive = true → mapGet? s.net.qps k = some q → q.error = false → q.acked < q.next →
    (q.rnrRetry = 7 ∨ q.rnr < q.rnrRetry → Completes (.rnrNak k v) s fun t =>
      mapGet? t.net.qps k = some { q with rnr := q.rnr + 1, rnrWait := true } ∧ t.out = [.net "rnr wait" [k, v]]) ∧
    (q.rnrWait = false → q.retries < q.retryCnt → Completes (.ackTimeout k) s fun t =>
      mapGet? t.net.qps k = some { q with retries := q.retries + 1 }) ∧
    (q.rnrWait = false → q.retryCnt ≤ q.retries → q.use = .fresh → Completes (.ackTimeout k) s fun t =>
      mapGet? t.net.qps k = none ∧ t.rd Reg.EVT_STATUS_LAST = 1028)) ∧
  (∀ s k q, s.alive = true → mapGet? s.net.qps k = some q → q.rnrWait = true →
    Completes (.rnrRetryTimerExpiry k) s fun t => mapGet? t.net.qps k = some { q with rnrWait := false })

/-- R278, R285 to R287, R307, R334: addresses are entered and answered for; a connection is accepted on a port with an address while
queue pairs are left; Connect makes a controller, or a queue of one; a capsule enters its ring or is answered with an RNR NAK;
the keep-alive. Where it goes beyond the spec's words it takes the model's choices of log entries 56, 57, 58, 178. -/
def Obligations.FabricsComplete : Prop :=
  (∀ s a, s.alive = true → bits a 27 20 ≤ (if s.on Reg.NET_ADDR_SEL_IPV6 then 128 else 32) →
    Completes (.netAddrCommit a) s fun t =>
      mapGet? t.net.addrs (addrKey (s.rd Reg.NET_ADDR_SEL_PORT) (s.on Reg.NET_ADDR_SEL_IPV6) (s.rd Reg.NET_ADDR_SEL_INDEX)) =
        some ⟨bit a 31, if s.on Reg.NET_ADDR_SEL_IPV6 then
            ((s.rd (Reg.NET_ADDR_DATA_ADDR.at 0) * 2 ^ 32 + s.rd (Reg.NET_ADDR_DATA_ADDR.at 1)) * 2 ^ 32 +
              s.rd (Reg.NET_ADDR_DATA_ADDR.at 2)) * 2 ^ 32 + s.rd (Reg.NET_ADDR_DATA_ADDR.at 3)
          else s.rd (Reg.NET_ADDR_DATA_ADDR.at 0), bits a 27 20, bits a 11 0⟩) ∧
  (∀ s p a, s.alive = true →
    (Completes (.arpRequest p a) s fun t => t.out = (if s.answersFor p false a then [.net "arp reply" [p, a, s.mac p]] else [])) ∧
    Completes (.neighborSolicitation p a) s fun t =>
      t.out = (if s.answersFor p true a then [.net "neighbor advertisement" [p, a, s.mac p]] else [])) ∧
  (∀ s p h qid, s.alive = true →
    Completes (.connectionRequest p h qid) s fun t =>
      if ((s.netPort p).up && s.hasAddress p && s.qpLeft) = true then
        (mapGet? t.net.qps s.net.nextQp).map (fun q => (q.port, q.use, q.rate)) = some (p, .fresh, s.lineRate p) ∧
        t.out = [.net "connection accepted" [p, h, qid, s.net.nextQp]]
      else t.net = s.net ∧ t.out = [.net "connection rejected" [p, h, qid]]) ∧
  (∀ s (c : ConnectReq) q k, s.alive = true → mapGet? s.net.qps c.qp = some q → q.use = .fresh → c.qid = 0 → c.discovery = false →
    c.cntlid = 0xFFFF → (s.reservedFor c.hash) = [k] → (s.tenant k).phase = .inactive →
    (((s.quiet.powerExit 2).activate k q.port).tenant k).phase = .active →
    Completes (.connect c) s fun t =>
      (t.tenant k).phase = .active ∧ (mapGet? t.net.assocs k).map (fun a => (a.port, a.hash, a.qps)) = some (q.port, c.hash, [c.qp]) ∧
      t.hasSq k 0 = true ∧ t.hasCq k 0 = true ∧ (mapGet? t.net.qps c.qp).map (·.use) = some (.nvme k 0)) ∧
  (∀ s (c : ConnectReq) q, s.alive = true → mapGet? s.net.qps c.qp = some q → q.use = .fresh → c.qid = 0 → c.discovery = false →
    c.cntlid = 0xFFFF → s.reservedFor c.hash = [] →
    Completes (.connect c) s fun t =>
      t.net = s.net ∧ .net "connect response" [c.qp, (statusCode .connectInvalidHost).1, (statusCode .connectInvalidHost).2, 0] ∈ t.out) ∧
  (∀ s (c : ConnectReq) q a, s.alive = true → mapGet? s.net.qps c.qp = some q → q.use = .fresh → c.qid ≠ 0 →
    mapGet? s.net.assocs (ctrlIdOwner c.cntlid) = some a → a.hash = c.hash → c.sqsize ≠ 0 →
    ((s.quiet.powerExit 2).ctrl (ctrlIdOwner c.cntlid)).rdy = true →
    c.qid < ((s.quiet.powerExit 2).ctrl (ctrlIdOwner c.cntlid)).queues → s.hasSq (ctrlIdOwner c.cntlid) c.qid = false →
    Completes (.connect c) s fun t =>
      t.hasSq (ctrlIdOwner c.cntlid) c.qid = true ∧ (t.qctx (ctrlIdOwner c.cntlid) c.qid).sqSize = c.sqsize % 65536 ∧
      (mapGet? t.net.assocs (ctrlIdOwner c.cntlid)).map (·.qps) = some (a.qps ++ [c.qp])) ∧
  (∀ s o qid (e : Sqe) k, s.alive = true → s.qpOf o qid = some k → s.isFabric o = true → s.hasSq o qid = true →
    ((mapGet s.q.rings (qKey o qid) []).length < (s.qctx o qid).sqSize → Completes (.capsule o qid e) s fun t =>
      mapGet t.q.rings (qKey o qid) [] = mapGet s.q.rings (qKey o qid) [] ++ [e]) ∧
    ((s.qctx o qid).sqSize ≤ (mapGet s.q.rings (qKey o qid) []).length → Completes (.capsule o qid e) s fun t =>
      t.q = s.q ∧ .net "rnr nak" ([k, s.rd Reg.NET_QP_CFG_RNR_TIMER] ++ s.roceTag) ∈ t.out)) ∧
  (∀ s r a, s.alive = true → s.startable r = true → mapGet? s.net.assocs r.owner = some a →
    Completes (.keepAlive r) s fun t =>
      t.ended r = some (.success, 0, 0) ∧ mapGet? t.net.assocs r.owner = some { a with since := s.time.now }) ∧
  (∀ s r, s.alive = true → s.startable r = true → mapGet? s.net.assocs r.owner = none →
    Completes (.keepAlive r) s fun t => t.ended r = some (.invalidOpcode, 0, 0) ∧ t.net = s.net) ∧
  (∀ s o a, s.alive = true → mapGet? s.net.assocs o = some a →
    Completes (.keepAliveExpiry o) s fun t =>
      if s.weightNow o = 0 ∨ a.kato = 0 then t.net = s.net
      else mapGet? t.net.assocs o = none ∧ ∀ k ∈ a.qps, mapGet? t.net.qps k = none)

/-! ### Serve programs (spec/11) -/

/-- R290 to R293, R304: a Serve command whose program is valid takes a context, one that finds none waits, and an invalid one ends
with Serve Program Invalid; a staged program is loaded into a slot or refused. Where it goes beyond the spec's words it takes
the model's choices of log entries 34, 65, 66, 68. -/
def Obligations.ServeStartCompletes : Prop :=
  (∀ s r slot len words e, s.alive = true → s.startable r = true → s.program r = none → s.contextFor r.owner = some e →
    Completes (.serve r slot len words) s fun t =>
      match (s.serveWords r.owner slot len words).bind parseProgram with
      | some p => if (s.programOk p && p.steps.all fun x => s.issuerOk r.owner x.2) = true
          then (t.program r).map (fun x => (x.engine, x.prog, x.left)) = some (e, p, p.steps) ∧ t.runs r = true
          else t.ended r = some (.serveProgramInvalid, 0, 0) ∧ t.program r = none
      | none => t.ended r = some (.serveProgramInvalid, 0, 0) ∧ t.program r = none) ∧
  (∀ s r slot len words, s.alive = true → s.startable r = true → s.program r = none → s.contextFor r.owner = none →
    Completes (.serve r slot len words) s fun t => t.runs r = true ∧ ⟨r, slot, words, len⟩ ∈ t.serve.waits) ∧
  (∀ s r w p e, s.alive = true → s.startable r = true → s.program r = none → s.serve.waits = [w] → w.ref = r →
    s.contextFor r.owner = some e → (s.serveWords r.owner w.slot w.len w.words).bind parseProgram = some p →
    (s.programOk p && p.steps.all fun x => s.issuerOk r.owner x.2) = true →
    Completes (.serveContextWaitEnd r) s fun t =>
      (t.program r).map (fun x => (x.engine, x.prog)) = some (e, p) ∧ t.serve.waits = []) ∧
  (∀ s slot o, s.alive = true →
    Completes (.serveSlotLoad slot o) s fun t =>
      if s.slotOwnerOk o = false then t.rd Reg.SERVE_SLOT_STATUS_RESULT = 2 ∧ t.serve = s.serve
      else match parseProgram ((List.range (32 + 16 * min (bytesAt [s.rd (Reg.SERVE_STAGE_DATA.at 0)] 1 1) 64)).map fun i =>
          s.rd (Reg.SERVE_STAGE_DATA.at i)) with
        | some p => if s.programOk p = true then
            t.rd Reg.SERVE_SLOT_STATUS_RESULT = 0 ∧ (mapGet? t.serve.slots (slot % 65536)).map (·.owner) = some o
          else t.rd Reg.SERVE_SLOT_STATUS_RESULT = 1 ∧ t.serve = s.serve
        | none => t.rd Reg.SERVE_SLOT_STATUS_RESULT = 1 ∧ t.serve = s.serve) ∧
  (∀ s slot, s.alive = true →
    Completes (.serveSlotClear slot) s fun t =>
      mapGet? t.serve.slots (slot % 65536) = none ∧ t.rd Reg.SERVE_SLOT_STATUS_RESULT = 0)

/-- R295 to R301: each step of a program does to its buffers what the table of steps says, and the program goes on with the next;
POST ends the command with its value once the acknowledgements that it waits for have come. Where it goes beyond the spec's
words it takes the model's choices of log entries 67, 68, 179, 213, 220. -/
def Obligations.ServeStepsComplete : Prop :=
  (∀ s r x pos b off nsid hot a n m, s.alive = true → s.program r = some x → x.ready = true → s.runs r = true →
    (s.cmd? r).map (·.opcode) = some serveOpcode → x.next = (pos, .gather 0 0 b off nsid hot [(a, n)]) → x.ranges = none →
    a < 2 ^ 64 → 1 ≤ n → n < 2 ^ 32 → off + n * s.lbaBytes nsid ≤ x.prog.bufSize b → b < x.bufs.length → s.ns? nsid = some m →
    s.reaches r nsid = true → s.nsReady nsid = true → a + n ≤ m.nsze → s.isPair = false → (∀ e ∈ s.dram.poisoned, e.1 ≠ cmdKey r) →
    (∀ i, i < n → (s.zoneAt nsid ((a + i) / s.zoneLbas m)).st ≠ .offline ∧ (s.readBlock m nsid (a + i)).isSome = true) →
    Completes (.gather r none) s fun t =>
      (t.program r).map (fun y => (y.left, y.buf b)) =
        some (x.left.tail, put (x.buf b) off (n * s.lbaBytes nsid)
          (((List.range n).filterMap fun i => s.readBlock m nsid (a + i)).foldr
            (fun d v => v * 256 ^ s.lbaBytes nsid + d % 256 ^ s.lbaBytes nsid) 0))) ∧
  (∀ s r x pos b sb off key aad src len, s.alive = true → s.program r = some x → x.ready = true → s.runs r = true →
    x.next = (pos, .openStep 0 b sb off key aad src len) → len < 2 ^ 32 → off + len ≤ x.prog.bufSize b →
    src + 28 + aad + len ≤ x.prog.bufSize sb → b < x.bufs.length →
    Completes (.openStep r) s fun t =>
      if s.keyAllows key 1 = false then t.ended r = some (.keySlotSpent, pos + 512, 0)
      else match Config.gcmOpen (((s.keySlot? key).map (·.key)).getD 0) (sub (x.buf sb) src 12) (sub (x.buf sb) (src + 12) aad)
          (sub (x.buf sb) (src + 12 + aad) len) (sub (x.buf sb) (src + 12 + aad + len) 16) with
        | some pt => (t.program r).map (fun y => (y.left, y.buf b)) = some (x.left.tail, put (x.buf b) off len pt)
        | none => t.ended r = some (.serveAuthFailed, pos + 512, 0) ∧ t.program r = none) ∧
  (∀ s r x pos b sb off key scheme len mo iv, s.alive = true → s.program r = some x → x.ready = true → s.runs r = true →
    x.next = (pos, .cipher 0 b sb off key scheme false len mo iv) → len < 2 ^ 32 → off + len ≤ x.prog.bufSize b → b < x.bufs.length →
    Completes (.cipher r) s fun t =>
      if s.keyAllows key (aesBytes scheme [⟨iv, len, [(0, len)]⟩]) = false then t.ended r = some (.keySlotSpent, pos + 768, 0)
      else (t.program r).map (fun y => (y.left, y.buf b)) =
        some (x.left.tail, cipherAll (((s.keySlot? key).map (·.key)).getD 0) scheme (x.buf b) off [⟨iv, len, [(0, len)]⟩])) ∧
  (∀ s r x pos b off len data k, s.alive = true → s.program r = some x → x.ready = true →
    x.next = (pos, .emit b off len data k) → b < x.bufs.length →
    Completes (.emit r) s fun t =>
      (t.program r).map (fun y => (y.left, y.buf b)) = some (x.left.tail, put (x.buf b) off len data)) ∧
  (∀ s r x pos b off h kind len rkey remote k q, s.alive = true → s.program r = some x → x.ready = true →
    x.next = (pos, .send 0 0 b off h kind len rkey remote none) → 1 ≤ len → len ≤ 67108864 → off + len ≤ x.prog.bufSize b →
    remote < 2 ^ 64 → s.readyQp h = some (k, q) → x.sending = none →
    Completes (.send r) s fun t =>
      (t.program r).map (fun y => (y.left, y.sending)) = some (x.left, some 0) ∧
      (mapGet? t.net.qps k).map (·.sendq) =
        some (q.sendq ++ sendMsgs r kind q.pmtu len rkey remote (sub (x.buf b) off len) none)) ∧
  (∀ s r x pos wait v, s.alive = true → s.program r = some x → x.ready = true → s.runs r = true → x.next = (pos, .post wait v) →
    Completes (.post r) s fun t =>
      if wait && x.sent.any fun e => (s.readyQp e.1).isNone then t.ended r = some (.transientTransport, pos + 1536, 0) ∧ t.program r = none
      else if wait && !s.allAcked x then t.program r = some x ∧ t.runs r = true
      else t.ended r = some (.success, v, 0) ∧ t.program r = none)

/-! ### Keys (spec/12) -/

/-- R312, R315, R317 to R321, R327: keys are loaded and generated into unbound slots, refused by the checks, and change a bound slot
only when forced, with the next batch; slots are cleared and bound; limits only fall. Where it goes beyond the spec's words it
takes the model's choices of log entries 31, 70, 149. -/
def Obligations.KeysComplete : Prop :=
  (∀ s kind o f, s.alive = true → s.on Reg.KEY_SLOT_STATUS_BUSY = false →
    (s.boundTo (s.rd Reg.KEY_SLOT_SEL_SLOT) = [] → s.keyChecks (s.rd Reg.KEY_SLOT_SEL_SLOT) (s.keyKind kind) o f true = 0 →
      Completes (.keyLoad kind o f) s fun t =>
        (∀ i, i < 18 → t.rd (Reg.KEY_WRAP_DATA.at i) = 0) ∧
        match Config.unwrap (s.key.kek.getD 0) ((List.range (if s.keyKind kind = 1 then 18 else 10)).map fun i => s.rd (Reg.KEY_WRAP_DATA.at i)) with
        | some k => t.keySlot? (s.rd Reg.KEY_SLOT_SEL_SLOT) = some ⟨false, .ofCode (s.keyKind kind), o, k, 0⟩ ∧ t.rd Reg.KEY_SLOT_STATUS_RESULT = 0
        | none => t.key = s.key ∧ t.rd Reg.KEY_SLOT_STATUS_RESULT = 1) ∧
    (s.keyChecks (s.rd Reg.KEY_SLOT_SEL_SLOT) (s.keyKind kind) o f true ≠ 0 →
      Completes (.keyLoad kind o f) s fun t =>
        t.key = s.key ∧ t.rd Reg.KEY_SLOT_STATUS_RESULT = s.keyChecks (s.rd Reg.KEY_SLOT_SEL_SLOT) (s.keyKind kind) o f true) ∧
    (s.boundTo (s.rd Reg.KEY_SLOT_SEL_SLOT) = [] → s.keyChecks (s.rd Reg.KEY_SLOT_SEL_SLOT) (s.keyKind kind) o f false = 0 →
      Completes (.keyGenerate kind o f) s fun t =>
        t.keySlot? (s.rd Reg.KEY_SLOT_SEL_SLOT) = some ⟨false, .ofCode (s.keyKind kind), o, Config.freeValue s.freeCtr, 0⟩ ∧
        t.freeCtr = s.freeCtr + 1 ∧ t.rd Reg.KEY_SLOT_STATUS_RESULT = 0) ∧
    (s.boundTo (s.rd Reg.KEY_SLOT_SEL_SLOT) ≠ [] → s.keyChecks (s.rd Reg.KEY_SLOT_SEL_SLOT) (s.keyKind kind) o true false = 0 →
      Completes (.keyGenerate kind o true) s fun t =>
        t.on Reg.KEY_SLOT_STATUS_BUSY = true ∧ ⟨s.jr.openNo, s.rd Reg.KEY_SLOT_SEL_SLOT, none⟩ ∈ t.key.waits)) ∧
  (∀ s, s.alive = true → s.on Reg.KEY_SLOT_STATUS_BUSY = false → s.key.wiped = false →
    Completes .keyClear s fun t =>
      if s.boundTo (s.rd Reg.KEY_SLOT_SEL_SLOT) = [] then
        t.keySlot? (s.rd Reg.KEY_SLOT_SEL_SLOT) = none ∧ t.rd Reg.KEY_SLOT_STATUS_RESULT = 0
      else t.key = s.key ∧ t.rd Reg.KEY_SLOT_STATUS_RESULT = 2) ∧
  (∀ s k x, s.alive = true → s.key.wiped = false → (s.ns? (s.rd Reg.ZONE_NS_SEL_NSID)).isSome = true → k < 8192 →
    s.systemSlot k = true → s.keySlot? k = some x → x.spent = false → x.kind = .xts →
    Completes (.keyNsBind k) s fun t =>
      if s.nsEmpty (s.rd Reg.ZONE_NS_SEL_NSID) = true then
        (t.ns? (s.rd Reg.ZONE_NS_SEL_NSID)).map (·.keySlot) = some (some k) ∧ t.rd Reg.KEY_NS_BIND_RESULT = 0
      else t.nv = s.nv ∧ t.rd Reg.KEY_NS_BIND_RESULT = 1) ∧
  (∀ s l v, s.alive = true →
    (v < s.limitNow l → (limitRange l).1 ≤ v → v ≤ (limitRange l).2 → Completes (.keyLimitWrite l v) s fun t =>
      t.limitNow l = v ∧ t.rd Reg.EVT_STATUS_LAST = 969) ∧
    (s.limitNow l < v → Completes (.keyLimitWrite l v) s fun t =>
      t.limitNow l = s.limitNow l ∧ t.rd Reg.EVT_STATUS_LAST = 13))

/-- R328, R329, R496, R328, R486, R487, R488: an armed detector and TAMPER wipe every slot, the KEK and the waiting requests; a
detector that is not armed does nothing; a token that passes every check unlocks what it names, and any other raises the alarm;
each GO takes a new challenge, a free value (log entry 5); JTAG opens only where a token permits it; the OTP row is programmed
once. Where it goes beyond the spec's words it takes the model's choices of log entries 114, 133, 134, 135. -/
def Obligations.AlarmsAndDebugComplete : Prop :=
  (∀ s g, s.alive = true →
    Completes (.glitchDetectorTrip g) s fun t =>
      if s.boot.detectorsArmed = true then t.key.wiped = true ∧ t.key.slots = [] ∧ t.key.kek = none ∧ t.key.waits = []
      else t.key = s.key ∧ t.regs = s.regs) ∧
  (∀ s, s.alive = true →
    Completes .tamper s fun t =>
      t.boot.pins.tamperN = false ∧ t.key.wiped = true ∧ t.key.slots = [] ∧ t.key.kek = none ∧ t.key.waits = []) ∧
  (∀ s, s.alive = true → s.key.wiped = false →
    Completes (.dbgUnlockGo 0x4447 false) s fun t =>
      t.boot.challenge = Config.freeValue s.freeCtr ∧ t.freeCtr = s.freeCtr + 1 ∧
      if s.boot.policyInForce ≠ 7 ∧ s.tokenOk s.tokenWords = true ∧ s.tokenSigned = true then
        t.boot.dbgUnlocked = (s.boot.dbgUnlocked || bit (s.rd (Reg.DBG_TOKEN_DATA.at 6)) 0) ∧
        t.boot.jtagPermitted = (s.boot.jtagPermitted || bit (s.rd (Reg.DBG_TOKEN_DATA.at 6)) 1) ∧ t.key = s.key
      else t.key.wiped = true ∧ t.key.slots = [] ∧ t.boot.dbgUnlocked = s.boot.dbgUnlocked) ∧
  (∀ s c, s.alive = true → c = .dbgUnlockLock 0x4447 ∨ c = .dbgUnlockGo 0x4447 true →
    Completes c s fun t =>
      t.boot.dbgUnlocked = false ∧ t.boot.jtagOpen = false ∧ t.boot.jtagPermitted = false ∧ (t.domain 35).state = .retain) ∧
  (∀ s u lock, s.alive = true → u ≠ 0x4447 →
    (Completes (.dbgUnlockGo u lock) s fun t => t.boot = s.boot ∧ t.key = s.key) ∧
    Completes (.dbgUnlockLock u) s fun t => t.boot = s.boot) ∧
  (∀ s, s.alive = true → s.boot.jtagOpen = false →
    Completes .jtagUnlock s fun t =>
      t.boot.jtagOpen = s.boot.jtagPermitted ∧ (s.boot.jtagPermitted = false → t.key.wiped = true) ∧
      (s.boot.jtagPermitted = true → t.key = s.key)) ∧
  (∀ s ok, s.alive = true →
    Completes (.otpProgram 0x4F54 ok) s fun t =>
      (∀ i, i < 25 → t.rd (Reg.DBG_OTP_DATA_DATA.at i) = 0) ∧
      if s.boot.otp.locked = true then t.boot = s.boot ∧ t.rd Reg.DBG_OTP_STATUS_RESULT = 1
      else if s.boot.dbgUnlocked = false then t.boot = s.boot ∧ t.rd Reg.DBG_OTP_STATUS_RESULT = 2
      else t.boot.otp.locked = true ∧ t.rd Reg.DBG_OTP_STATUS_RESULT = (if ok then 0 else 3) ∧
        (ok = true → t.boot.otp.serial =
          s.rd (Reg.DBG_OTP_DATA_DATA.at 0) % 2 ^ 32 + s.rd (Reg.DBG_OTP_DATA_DATA.at 1) % 2 ^ 32 * 2 ^ 32))

/-! ### Tenants (spec/13) -/

/-- R334 to R336, R344 to R350: the states of an eclipse, of a resume, of a release and of a restore; a weight that waits for the
meridian, and the reservation of a fabric slot. Where it goes beyond the spec's words it takes the model's choices of log
entries 63, 169. -/
def Obligations.TenantsComplete : Prop :=
  (∀ s k f l, s.alive = true → k < 4096 → s.on (Reg.TEN_ECL_STATUS_BUSY.at k) = false →
    (s.isFabric k = true → Completes (.eclipse k f l) s fun t => t.ten = s.ten ∧ t.rd (Reg.TEN_ECL_STATUS_RESULT.at k) = 8) ∧
    (s.isFabric k = false → (s.tenant k).phase = .active → (s.ctrl k).en = true → (s.ctrl k).rdy = true →
      Completes (.eclipse k f l) s fun t =>
        (t.tenant k).phase = .quiesce ∧ (t.tenant k).force = f ∧ (t.tenant k).link = l ∧ t.on (Reg.TEN_ECL_STATUS_BUSY.at k) = true) ∧
    ((s.tenant k).phase = .eclipsed →
      (Completes (.resume k) s fun t =>
        (t.tenant k).phase = .active ∧ (t.tenant k).resumeAtMeridian = true ∧ t.rd (Reg.TEN_ECL_STATUS_RESULT.at k) = 0) ∧
      Completes (.release k) s fun t =>
        (t.tenant k).phase = .inactive ∧ (t.tenant k).released = true ∧ (t.ctrl k).cfs = true ∧
        t.rd (Reg.TEN_ECL_STATUS_RESULT.at k) = 0) ∧
    ((s.tenant k).phase = .active → s.isFabric k = false → (s.ctrl k).en = false →
      ((s.queuesOf k).all fun e => e.1 == 0 || !(e.2.sqValid || e.2.cqValid)) = true →
      Completes (.restore k l) s fun t =>
        (t.tenant k).phase = .restoring ∧ (t.tenant k).link = l ∧ t.on (Reg.TEN_ECL_STATUS_BUSY.at k) = true)) ∧
  (∀ s k, s.alive = true → (s.tenant k).phase = .quiesce → (s.tenant k).frozen = false →
    (s.drained k = true → Completes (.eclipseDrainDone k) s fun t =>
      (t.tenant k).frozen = true ∧
      if s.rd (Reg.TEN_REC_MAX_BYTES.at k) < (s.eclRecord k).size then
        (t.tenant k).phase = .eclipsed ∧ t.rd (Reg.TEN_ECL_STATUS_RESULT.at k) = 4
      else (t.tenant k).phase = .quiesce ∧ t.out = [.eclipse (s.tenant k).link
        (s.rd (Reg.TEN_REC_ADDR_LO_ADDR.at k) / 4096 * 4096 + s.rd (Reg.TEN_REC_ADDR_HI_ADDR.at k) * 2 ^ 32) (s.eclRecord k).bytes]) ∧
    ((s.tenant k).force = false → Completes (.tenEclTimeout k) s fun t =>
      (t.tenant k).phase = .active ∧ (t.tenant k).resumeAtMeridian = true ∧ t.rd (Reg.TEN_ECL_STATUS_RESULT.at k) = 2 ∧
      t.rd Reg.EVT_STATUS_LAST = 36) ∧
    ((s.tenant k).force = true → Completes (.tenEclTimeout k) s fun t =>
      (t.tenant k).forced = true ∧ (t.tenant k).frozen = true)) ∧
  (∀ s k ok, s.alive = true → (s.tenant k).frozen = true → s.on (Reg.TEN_ECL_STATUS_BUSY.at k) = true → (s.tenant k).phase = .quiesce →
    Completes (.eclipseRecordWritten k ok) s fun t =>
      (t.tenant k).phase = .eclipsed ∧ t.on (Reg.TEN_ECL_STATUS_BUSY.at k) = false ∧
      t.rd (Reg.TEN_ECL_STATUS_RESULT.at k) = (if ok then 0 else 9) ∧ (ok = true → (t.tenant k).recorded = true)) ∧
  (∀ s k, s.alive = true → (s.tenant k).phase = .restoring →
    (Completes (.restoreRecordRead k none) s fun t =>
      (t.tenant k).phase = .active ∧ t.rd (Reg.TEN_ECL_STATUS_RESULT.at k) = 9) ∧
    ∀ l r, r = EclRecord.read (l.take (s.rd (Reg.TEN_REC_MAX_BYTES.at k))) → Completes (.restoreRecordRead k (some l)) s fun t =>
      (t.tenant k).phase = .active ∧
      t.rd (Reg.TEN_ECL_STATUS_RESULT.at k) =
        (if eclHeaderOk (l.take (s.rd (Reg.TEN_REC_MAX_BYTES.at k))) = true then s.restoreChecks k r else 5) ∧
      (t.rd (Reg.TEN_ECL_STATUS_RESULT.at k) = 0 → (t.ctrl k).en = true ∧ (t.ctrl k).rdy = true ∧ (t.ctrl k).queues = r.queueCountM1 + 1 ∧
        (t.tenant k).resumeAtMeridian = true ∧ (t.tenant k).owed = r.completions.map fun c => (c.sqid, c.cid))) ∧
  (∀ s k w, s.alive = true → k < 4096 →
    Completes (.tenWeightWrite k w) s fun t => t.weight k = w % 65536 ∧ t.q.applied = s.q.applied) ∧
  (∀ s k h, s.alive = true → k < 4096 → s.isFabric k = true →
    Completes (.tenNqnWrite k h) s fun t =>
      if (s.tenant k).phase = .inactive then mapGet t.nv.nqn k 0 = h % 2 ^ 64 else t.nv = s.nv)

/-! ### Buffer cells (spec/14) -/

/-- R354, R358 to R365: a cell is allocated from the first pool, from the starting one upward, that can give one, and it was free
before; a whole buffer is granted or queued; SHARE and RELEASE count references, and the last RELEASE frees the cell. Where it
goes beyond the spec's words it takes the model's choices of log entries 48, 69. -/
def Obligations.CellsComplete : Prop :=
  (∀ s q res p, s.alive = true →
    Completes (.cellAllocate q res p) s fun t =>
      match s.quiet.allocate (isReserve q res) (poolsFrom p) with
      | some (h, _) => mapHas s.cell.cells h = false ∧ s.cell.withdrawn.contains h = false ∧ p ≤ handlePool h ∧
          mapGet? t.cell.cells h = some ⟨1, 0, nullHandle⟩ ∧ .data "chain" [q, h, h] ∈ t.out
      | none => t.cell = s.cell) ∧
  (∀ s q res p n, s.alive = true → p < 3 → n ≠ 0 →
    Completes (.wholeBufferAllocate q res p n) s fun t =>
      if (∀ w ∈ s.wholeQueue p, w.reserve = false ∧ isReserve q res = true) ∧ (s.canSupply p n (isReserve q res) false = true ∨
          p < 2 ∧ s.canSupply (p + 1) (cellsIn p n (p + 1)) (isReserve q res) false = true) then
        ∃ h, .data "chain" [q, h] ∈ t.out
      else t.wholeQueue p = s.wholeQueue p ++ [⟨q, isReserve q res, n, none⟩] ∧ t.cell.cells = s.cell.cells) ∧
  (∀ s p, s.alive = true → s.wholeQueue p ≠ [] → s.cellHeld p = false →
    Completes (.wholeBufferHold p) s fun t => t.cellHeld p = true ∧ t.rd Reg.EVT_STATUS_LAST = 904) ∧
  (∀ s q h c k ho, s.alive = true → s.validHandle h = true → mapGet? s.cell.cells h = some c → c.next = nullHandle → h ≠ nullHandle →
    (Completes (.share q h none k ho) s fun t =>
      if c.refcnt = 255 then t.cell = s.cell
      else mapGet? t.cell.cells h = some { c with refcnt := c.refcnt + 1 }) ∧
    (s.cell.queues = [] → Completes (.releaseChain q h none k ho) s fun t =>
      mapGet? t.cell.cells h = if c.refcnt = 1 then none else some { c with refcnt := c.refcnt - 1 })) ∧
  (∀ s q h k ho, s.alive = true → s.validHandle h = true → h ≠ nullHandle → mapGet? s.cell.cells h = none → s.cell.queues = [] →
    (Completes (.share q h none k ho) s fun t => t.cell = s.cell) ∧
    Completes (.releaseChain q h none k ho) s fun t => t.cell = s.cell)

/-! ### DRAM (spec/15) -/

/-- R371, R373 to R376, R379, R380, R382, R383, R388: masks are applied until the first fill; a fill makes its granules readable; a
read is served from a queued write of its line; correctable errors are counted; the LFSRs take the seed; the check-bit bypass
reads and writes a line. Where it goes beyond the spec's words it takes the model's choices of log entries 6, 30, 50, 161, 165,
167. -/
def Obligations.DramComplete : Prop :=
  (∀ s, s.alive = true →
    Completes .dramHashApply s fun t =>
      if s.on Reg.DRAM_STATUS_HASH_LOCKED = true then t.dram = s.dram ∧ t.rd Reg.DRAM_HASH_CTRL_RESULT = 4
      else t.rd Reg.DRAM_HASH_CTRL_RESULT = hashResult s.dramCfg ((List.range 9).map fun i => s.rd (Reg.DRAM_HASH_MASK.at i)) ∧
        t.dram.masks = (if hashResult s.dramCfg ((List.range 9).map fun i => s.rd (Reg.DRAM_HASH_MASK.at i)) = 0
          then (List.range 9).map fun i => s.rd (Reg.DRAM_HASH_MASK.at i) else s.dram.masks)) ∧
  (∀ s, s.alive = true → s.on Reg.DRAM_FILL_STATUS_BUSY = false →
    Completes .dramFill s fun t =>
      if dramMiB s.dramCfg < s.rd Reg.DRAM_FILL_BASE_MIB + s.rd Reg.DRAM_FILL_LEN_MIB ∨ s.rd Reg.DRAM_FILL_LEN_MIB = 0 then
        t.rd Reg.DRAM_FILL_STATUS_RESULT = 1 ∧ t.dram = s.dram
      else t.dram.filling = some (s.rd Reg.DRAM_FILL_BASE_MIB, s.rd Reg.DRAM_FILL_LEN_MIB) ∧
        t.on Reg.DRAM_FILL_STATUS_BUSY = true ∧ t.on Reg.DRAM_STATUS_HASH_LOCKED = true) ∧
  (∀ s b n, s.alive = true → s.dram.filling = some (b, n) → s.dram.waiting = [] →
    Completes .dramFillDone s fun t =>
      ∀ g, (b ≤ g ∧ g < b + n) ∨ s.granuleFilled g = true → t.granuleFilled g = true) ∧
  (∀ s v i, s.alive = true → i < 16 →
    Completes (.dramNrSeedWrite v) s fun t => mapGet? t.dram.lfsr i = some (lfsrSeed (v % 4294967296) i)) ∧
  (∀ s (r : DramReq) w, s.alive = true → s.granuleFilling (r.addr / 1048576) = false → s.granuleFilled (r.addr / 1048576) = true →
    r.act = false → metadataClass (partitionOf s.chart.cur r.addr) = false →
    (r.write = none → s.queuedWrite (s.dramSub (r.addr / 64)) (r.addr / 64) = some w → w.poison = false →
      Completes (.dramRequest r) s fun t => .data "dram" [w.data] ∈ t.out ∧ t.dram = s.dram) ∧
    ∀ v, r.write = some v → r.mask = fullMask → r.found = .clean →
      Completes (.dramRequest r) s fun t =>
        (t.queuedWrite (s.dramSub (r.addr / 64)) (r.addr / 64)).map (fun x => (x.data, x.poison)) = some (v, false)) ∧
  (∀ s (r : DramReq), s.alive = true → s.granuleFilling (r.addr / 1048576) = false → s.granuleFilled (r.addr / 1048576) = false →
    (∀ v, r.write = some v → Completes (.dramRequest r) s fun t => t.dram = s.dram ∧ t.rd Reg.EVT_STATUS_LAST = 916) ∧
    (∀ c, r.write = none → r.content = .coreLoad c → Completes (.dramRequest r) s fun t =>
      t.dram = s.dram ∧ .data "load access fault" [c, 5] ∈ t.out)) ∧
  (∀ s a p, s.alive = true → s.pausedPs = false → s.granuleFilled (a / 1048576) = true → s.line (a / 64) = zeroLine →
    (Completes (.dramScrub a .clean) s fun t => t.dram = s.dram) ∧
    Completes (.dramScrub a (.correctable p)) s fun t =>
      mapGet? t.dram.devCount (posKey (s.dramSub (a / 64)) p) =
        some (min (mapGet s.dram.devCount (posKey (s.dramSub (a / 64)) p) 0 + 1) 65535)) ∧
  (∀ s, s.alive = true → s.testAddr < s.spaceBytes 0 → s.testAddr % 64 = 0 → s.granuleFilled (s.testAddr / 1048576) = true →
    s.writeQueue (s.dramSub (s.testAddr / 64)) = [] →
    (Completes (.eccTestWrite eccUnlock 0) s fun t =>
      t.line (s.testAddr / 64) = ⟨s.testData 16, none, false⟩ ∧ t.rd Reg.ECC_TEST_STATUS_RESULT = 0) ∧
    (Completes (.writeRaw eccUnlock 0) s fun t =>
      t.line (s.testAddr / 64) = ⟨s.testData 16, some (s.testCheck 4), s.testCheck 4 == Config.dramPoison⟩ ∧
      t.rd Reg.ECC_TEST_STATUS_RESULT = 0 ∧ t.rd Reg.EVT_STATUS_LAST = 922) ∧
    ((s.line (s.testAddr / 64)).poison = false → (s.line (s.testAddr / 64)).check = none →
      Completes (.readRaw eccUnlock 0) s fun t =>
        t.rd Reg.ECC_TEST_STATUS_RESULT = 0 ∧ t.rd Reg.ECC_TEST_STATUS_DECODE = 0 ∧
        ∀ i, i < 16 → t.rd (Reg.ECC_TEST_DATA_DATA.at i) = (s.line (s.testAddr / 64)).data / 2 ^ (32 * i) % 2 ^ 32)) ∧
  (∀ s u space, s.alive = true → u ≠ eccUnlock →
    (Completes (.readRaw u space) s fun t => t.dram = s.dram) ∧ (Completes (.writeRaw u space) s fun t => t.dram = s.dram) ∧
    Completes (.eccTestWrite u space) s fun t => t.dram = s.dram)

/-! ### The pair (spec/16) -/

/-- R51, R394, R395, R396, R441: the Bulum link trains on 8 or on 4 lanes and sends this side's identity; a link that is down trains
again; a mark near its place is accepted, and the others are counted until the lane re-aligns or loses block lock, and with it
the mailbox words on their way. Where it goes beyond the spec's words it takes the model's choices of log entry 163. -/
def Obligations.PairLinkCompletes : Prop :=
  (∀ s lanes, s.alive = true → s.isPair = true → 4 ≤ lanes → s.boot.bulumWait = false → s.journalBack = true →
    Completes (.bulumLinkTrained lanes) s fun t =>
      t.pair.linkUp = true ∧ t.rd Reg.PAIR_STATUS_LANES = (if 8 ≤ lanes ∧ s.chart.cur.pair.lanes = 8 then 8 else 4) ∧
      .bulum "identity" s.identity ∈ t.out ∧ t.nv = s.nv) ∧
  (∀ s, s.alive = true → s.isPair = true → s.pair.linkUp = false →
    Completes .bulumTrainingRetry s fun t => t.out = [.bulum "train" []] ∧ t.pair = s.pair) ∧
  (∀ s lane, s.alive = true → s.pair.linkUp = true →
    Completes (.blockLockLost lane) s fun t =>
      t.pair.linkUp = false ∧ t.pair.heartbeats = false ∧ t.rd Reg.PAIR_STATUS_LANES = 0 ∧
      (if (s.mailbox 48).wire = 0 ∧ (s.mailbox 49).wire = 0 then t.rd Reg.EVT_STATUS_LAST = 1089 ∧ t.mbx = s.mbx
        else t.rd Reg.EVT_STATUS_LAST = 1112)) ∧
  (∀ s lane, s.alive = true → s.pair.linkUp = true → lane < 8 →
    (Completes (.alignmentMark lane none) s fun t =>
      if 64 ≤ (mapGet s.pair.lanes lane {}).bad then t.pair.linkUp = false
      else t.pair.linkUp = true ∧ (mapGet t.pair.lanes lane {}).bad = (mapGet s.pair.lanes lane {}).bad + 1) ∧
    ∀ o : Int, Completes (.alignmentMark lane (some o)) s fun t =>
      if o.natAbs ≤ 2 ∨ 3 ≤ (Run.next (mapGet s.pair.lanes lane {}).run o 2).len then
        t.pair.linkUp = true ∧ mapGet t.pair.lanes lane {} = {}
      else if 64 ≤ (mapGet s.pair.lanes lane {}).bad then t.pair.linkUp = false
      else t.pair.linkUp = true ∧
        mapGet t.pair.lanes lane {} = ⟨(mapGet s.pair.lanes lane {}).bad + 1, some (Run.next (mapGet s.pair.lanes lane {}).run o 2)⟩)

/-- R394, R401, R405: identities that fit pair a JOINING side whose regions are level, and MISMATCH is the state otherwise; a
heartbeat keeps the longest gap and carries the side's state, epoch, newest batch and sidereal time; a companion that misses
them is SUSPECT. Where it goes beyond the spec's words it takes the model's choices of log entries 90, 164. -/
def Obligations.HeartbeatsComplete : Prop :=
  (∀ s (c : CompanionId), s.alive = true → s.isPair = true → s.pair.linkUp = true → s.nv.pairSt = .joining → s.nv.diverge = [] →
    c.diverged = [] → s.journalBack = true →
    Completes (.identityExchange c) s fun t =>
      t.rd Reg.PAIR_COMPANION_LO_SERIAL = c.serial % 2 ^ 32 ∧
      if (s.chart.cur.pair.companion = 0 ∨ c.serial = s.chart.cur.pair.companion) ∧ (c.side = 1 ∨ c.side = 2) ∧
          c.side ≠ s.boot.straps.pair ∧ c.fingerprint = s.chart.fingerprint ∧ ¬(s.pair.cameFrom = .survivor ∧ c.state = 3) then
        t.nv.pairSt = .paired ∧ t.pair.heartbeats = true ∧ t.rd Reg.EVT_STATUS_LAST = 1090
      else t.nv.pairSt = .mismatch ∧ t.rd Reg.EVT_STATUS_LAST = 1091) ∧
  (∀ s (h : HeartbeatFrame), s.alive = true → s.isPair = true → s.pair.linkUp = true →
    Completes (.heartbeat h) s fun t =>
      t.rd Reg.PAIR_HB_STAT_MAX_GAP_US = min (max (s.rd Reg.PAIR_HB_STAT_MAX_GAP_US) h.gapUs) 65535 ∧ t.pair = s.pair) ∧
  (∀ s, s.alive = true → s.isPair = true → s.pair.linkUp = true → s.pair.heartbeats = true →
    Completes .heartbeatSend s fun t =>
      t.out = [.bulum "heartbeat" [s.nv.pairSt.code, s.nv.pairEpoch, s.jr.onFlash, s.time.sid]]) ∧
  (∀ s, s.alive = true → s.isPair = true → s.nv.pairSt = .paired ∨ s.nv.pairSt = .resync →
    (s.sideB = true → s.boot.pins.fenceIn = false → Completes .heartbeatTimeout s fun t =>
      t.nv.pairSt = .suspect ∧ t.pair.deferring = true ∧ t.pair.asserted = s.pair.asserted ∧ t.rd Reg.EVT_STATUS_LAST = 1092) ∧
    (s.sideB = false → s.boot.pins.fenceIn = false → Completes .heartbeatTimeout s fun t =>
      t.nv.pairSt = .suspect ∧ t.pair.asserted = true ∧ t.rd Reg.EVT_STATUS_LAST = 1092) ∧
    (s.sideB = false → s.boot.pins.fenceIn = true → s.wp.wr = [] → s.pair.opAcks = [] → s.pair.forwards = [] →
      s.pair.asks = [] →
      Completes .heartbeatTimeout s fun t => t.nv.pairSt = .fenced ∧ t.pair.asserted = s.pair.asserted))

/-- R402, R403, R404: the pair's arbitration by the fence. The side that asserts its fence while the other's is low becomes SURVIVOR
and completes what awaited the companion; the other becomes FENCED and fails it; YIELD and SURVIVE act on their unlock value.
Where it goes beyond the spec's words it takes the model's choices of log entry 82. -/
def Obligations.FenceCompletes : Prop :=
  (∀ s, s.alive = true → s.isPair = true → s.nv.pairSt = .suspect → s.pair.deferring = true → s.boot.pins.fenceIn = false →
    Completes .fenceDeferralExpiry s fun t => t.pair.asserted = true ∧ t.pair.deferring = false ∧ t.nv = s.nv) ∧
  (∀ s, s.alive = true → s.isPair = true → s.nv.pairSt = .suspect → s.pair.asserted = true → s.boot.pins.fenceIn = false →
    s.wp.wr = [] → s.pair.forwards = [] → s.pair.asks = [] → s.pair.nsOps = [] → s.zone.resets = [] →
    Completes .fenceSettleExpiry s fun t =>
      t.nv.pairSt = .survivor ∧ t.nv.pairEpoch = (s.nv.pairEpoch + 1) % 2 ^ 32 ∧ t.pair.opAcks = [] ∧
      ∀ e ∈ s.pair.opAcks, s.runs e.2.1 = true → (t.ended e.2.1).map (·.1) = some .success) ∧
  (∀ s, s.alive = true → s.isPair = true → s.wp.wr = [] → s.pair.forwards = [] → s.pair.asks = [] →
    (s.nv.pairSt = .suspect ∧ s.pair.asserted = true ∧ s.boot.pins.fenceIn = true →
      Completes .fenceSettleExpiry s fun t => t.nv.pairSt = .fenced ∧ t.rd Reg.EVT_STATUS_LAST = 1095) ∧
    (s.nv.pairSt = .paired ∨ s.nv.pairSt = .joining ∧ s.journalBack = true ∨ s.nv.pairSt = .suspect ∧ s.pair.asserted = false →
      Completes .fenceInAssert s fun t =>
        t.boot.pins.fenceIn = true ∧ t.nv.pairSt = .fenced ∧ t.nv.pairEpoch = (s.nv.pairEpoch + 1) % 2 ^ 32 ∧
        ∀ e ∈ s.pair.opAcks, s.runs e.2.1 = true → (t.ended e.2.1).map (·.1) = some .anaInaccessible) ∧
    (s.nv.pairSt = .mismatch → Completes (.yield 0x5052) s fun t =>
      t.nv.pairSt = .fenced ∧ t.pair.asserted = false ∧ t.rd Reg.PAIR_STATUS_RESULT = 0)) ∧
  (∀ s, s.alive = true →
    Completes .fenceInDeassert s fun t =>
      t.boot.pins.fenceIn = false ∧ t.pair.fenceLowSince = some s.time.now ∧ t.nv = s.nv) ∧
  (∀ s, s.alive = true → s.isPair = true → s.nv.pairSt = .fenced →
    (Completes (.yield 0x5052) s fun t =>
      t.nv = s.nv ∧ t.pair.asserted = false ∧ t.rd Reg.PAIR_STATUS_RESULT = 0 ∧ t.rd Reg.EVT_STATUS_LAST = 1096) ∧
    (s.fenceLow = false → Completes (.survive 0x5052) s fun t => t.nv = s.nv ∧ t.rd Reg.PAIR_STATUS_RESULT = 2) ∧
    (s.fenceLow = true → s.wp.wr = [] → s.pair.opAcks = [] → s.pair.forwards = [] → s.pair.asks = [] → s.pair.nsOps = [] →
      s.zone.resets = [] →
      Completes (.survive 0x5052) s fun t =>
        t.nv.pairSt = .survivor ∧ t.pair.asserted = true ∧ t.rd Reg.PAIR_STATUS_RESULT = 0 ∧ t.rd Reg.EVT_STATUS_LAST = 1096)) ∧
  (∀ s u, s.alive = true → u ≠ 0x5052 →
    (Completes (.yield u) s fun t => t.nv = s.nv ∧ t.pair = s.pair) ∧
    Completes (.survive u) s fun t => t.nv = s.nv ∧ t.pair = s.pair)

/-- R145, R146, R397, R398, R399: frames that come again are only acknowledged, and damaged ones refused; an acknowledgement ends
the write that waited for it, or fails it; frames late in coming are replayed; a forwarded command runs here, and the response
to one of ours lets it run or ends it. Where it goes beyond the spec's words it takes the model's choices of log entries 83, 85,
86. -/
def Obligations.MirroringCompletes : Prop :=
  (∀ s (f : MirrorData), s.alive = true → s.isPair = true → s.pair.linkUp = true →
    (s.pair.placed.contains f.seq = true → Completes (.mirrorFrame f) s fun t =>
      t.out = [.bulum "acknowledge" [f.seq, 1]] ∧ t.wp = s.wp ∧ t.nv = s.nv) ∧
    (s.pair.placed.contains f.seq = false → f.hallmarkOk = false → Completes (.mirrorFrame f) s fun t =>
      .bulum "acknowledge" [f.seq, 0] ∈ t.out ∧ t.wp = s.wp ∧ t.nv = s.nv ∧ t.pair = s.pair) ∧
    ∀ n, s.pair.placed.contains f.seq = false → f.hallmarkOk = true → kindRanges f.kind = true → s.ns? f.nsid = some n →
      n.zoned = false → Completes (.mirrorFrame f) s fun t =>
        .bulum "acknowledge" [f.seq, 1] ∈ t.out ∧ f.seq ∈ t.pair.placed) ∧
  (∀ s k r a b ok, s.alive = true → mapGet? s.pair.opAcks k = some (r, a, b) → s.runs r = true →
    Completes (.mirrorAck k ok) s fun t =>
      mapGet? t.pair.opAcks k = none ∧ t.ended r = (if ok then some (.success, a, b) else some (.internalError, 0, 0))) ∧
  (∀ s k w, s.alive = true → mapGet? s.pair.opAcks k = none → k ∈ s.pair.sent → mapGet? s.wp.wr k = some w → w.got = true →
    w.fua = false → (s.ns? w.nsid).isSome = true → (s.wp.wr.filter fun e => ofCommand w.ref e.2) = [(k, w)] → s.runs w.ref = true →
    Completes (.mirrorAck k true) s fun t => k ∉ t.pair.sent ∧ (t.ended w.ref).map (·.1) = some .success) ∧
  (∀ s k, s.alive = true → k ∈ s.pair.sent →
    Completes (.ackReplayTimeout k) s fun t =>
      .bulum "replay" (k :: ((mapGet? s.wp.wr k).map fun w => s.decryptAll w.nsid w.slba w.data).getD []) ∈ t.out ∧ t.pair = s.pair ∧ t.wp = s.wp) ∧
  (∀ s n, s.alive = true → s.isPair = true →
    Completes (.mirrorCredit n) s fun t => t.pair.credit = s.pair.credit + n * 256 ∧ t.wp = s.wp) ∧
  (∀ s (f : Forwarded) n, s.alive = true → s.isPair = true → s.pair.linkUp = true → s.nv.pairSt = .paired → f.kind = .zoneSend 1 true →
    f.data = [] → s.ns? f.nsid = some n → n.zoned = true → s.nsReady f.nsid = true → s.homeMoving n.cons = false →
    s.homeB n.cons = s.sideB → s.zonesIn f.nsid ZoneSt.isOpen = [] →
    Completes (.forwardedCommand f) s fun t => t.ended ⟨companionOwner, 0, f.seq⟩ = some (.success, 0, 0) ∧ t.nv = s.nv) ∧
  (∀ s r k f lba, s.alive = true → s.pair.nsOps.contains r = false →
    (s.pair.forwards.find? fun e => decide (e.2.1 = r)) = some (k, r, f) → s.runs r = true →
    (∀ st, st ≠ .success → Completes (.forwardResponse r st lba) s fun t =>
      t.ended r = some (st, 0, 0) ∧ mapGet? t.pair.forwards k = none ∧ t.wp = s.wp) ∧
    ∀ n, f.kind = .zoneSend 1 true → f.data = [] → s.startable r = true → s.ns? f.nsid = some n → n.zoned = true →
      s.reaches r f.nsid = true → s.nsReady f.nsid = true → s.zonesIn f.nsid ZoneSt.isOpen = [] →
      Completes (.forwardResponse r .success lba) s fun t => t.ended r = some (.success, 0, 0))

/-- R133, R253, R272, R393, R400, R405, R408: the four latest batches of the companion are kept; a codeword that the buffer holds
goes to the companion at once; homes are changed in agreement; a secure reset ends when both sides have done it; and the last
level region makes the sides PAIRED. Where it goes beyond the spec's words it takes the model's choices of log entries 84, 87,
89, 214. -/
def Obligations.CompanionCompletes : Prop :=
  (∀ s q e, s.alive = true → s.isPair = true →
    Completes (.companionBatch q e) s fun t =>
      t.pair.batches.length = min (s.pair.batches.length + 1) 4 ∧ t.pair.batches.getLast? = some (q, e)) ∧
  (∀ s nsid lba n, s.alive = true → s.isPair = true → (∀ i, i < n → (s.buffered nsid (lba + i)).isSome = true) →
    Completes (.codewordRequest nsid lba n) s fun t =>
      t.out = [.bulum "codeword" (nsid :: lba ::
        s.decryptAll nsid lba ((List.range n).filterMap fun i => s.buffered nsid (lba + i)))] ∧ t.md = s.md) ∧
  (∀ s k ok a, s.alive = true → mapGet? s.pair.asks k = some a →
    Completes (.codewordResponse k ok) s fun t => mapGet? t.pair.asks k = none) ∧
  (∀ s j v, s.alive = true →
    Completes (.pairHomeWrite j v) s fun t =>
      if s.isPair = true ∧ s.nv.pairSt = .paired ∧ j < 8 then
        mapGet t.pair.homeWant j (s.rd (Reg.PAIR_HOME_SIDE_B.at j)) = v % 2 ^ 32 ∧ t.out = [.bulum "home" [j, v % 2 ^ 32]]
      else t.pair = s.pair ∧ t.out = []) ∧
  (∀ s k toB, s.alive = true → s.isPair = true → s.nv.pairSt = .paired →
    Completes (.homeConfirm k toB) s fun t =>
      k ∈ t.pair.homeOk ∧ bit (mapGet t.pair.homeWant (k / 32) (s.rd (Reg.PAIR_HOME_SIDE_B.at (k / 32)))) (k % 32) = toB ∧
      (.bulum "home confirmed" [k, toB.toNat] ∈ t.out ↔ s.homeMoving k = false)) ∧
  (∀ s r w, s.alive = true → mapGet? s.zone.resets (cmdKey r) = some w → w.secure = true → w.zones = [] → w.granules = [] → w.left = [] →
    w.batch ≤ s.jr.onFlash → s.runs w.ref = true →
    Completes (.secureResetConfirm r) s fun t =>
      t.ended w.ref = some (.success, w.residue.toNat, 0) ∧ mapGet? t.zone.resets (cmdKey r) = none) ∧
  (∀ s nsid region g n, s.alive = true → s.isPair = true → s.nv.pairSt = .resync → s.ns? nsid = some n → n.zoned = false →
    (s.on Reg.PAIR_STATUS_RESYNC_TARGET = false → s.pair.left = [(nsid, region)] → s.pair.lostRanges = [] →
      Completes (.resyncCopy nsid region g) s fun t =>
        t.nv.pairSt = .paired ∧ t.nv.diverge = [] ∧ t.pair.left = [] ∧ t.pair.asserted = false ∧
        .bulum "copy" (copyWords (s.copyImage n nsid region) nsid region) ∈ t.out ∧
        t.rd Reg.EVT_STATUS_LAST = 1098) ∧
    (s.on Reg.PAIR_STATUS_RESYNC_TARGET = true → (nsid, region) ∈ s.pair.left →
      mapHas s.zone.resets (cmdKey ⟨companionOwner, 2, regionKey nsid region % 65536⟩) = false →
      Completes (.resyncCopy nsid region g) s fun t => (nsid, region) ∉ t.pair.left))

/-! ### Power, clocks and temperature (spec/17) -/

/-- R411, R412, R415, R416, R74: an idle domain enters RETAIN; one in RETAIN or OFF wakes for an access, unless it must stay OFF,
and is then ON; a domain that wakes too late ends the accesses that wait for it, and isolates its member. Where it goes beyond
the spec's words it takes the model's choices of log entries 97, 152. -/
def Obligations.DomainsComplete : Prop :=
  (∀ s d, s.alive = true → (s.domain d).state = .on →
    (d = 13 ∧ s.on Reg.PWR_AUTO_RETAIN_PD13 = true ∨ d = 33 ∧ s.on Reg.PWR_AUTO_RETAIN_PD33 = true ∨
      d = 34 ∧ s.on Reg.PWR_AUTO_RETAIN_PD34 = true) →
    Completes (.autoRetainIdle d) s fun t => (t.domain d).state = .retain ∧ ∀ e, e ≠ d → t.domain e = s.domain e) ∧
  (∀ s d x, s.alive = true → d < 36 → (s.domain d).state = .retain ∨ (s.domain d).state = .off →
    Completes (.domainWake d x) s fun t =>
      if s.forcedOff d = true ∨ d = 35 ∧ s.boot.dbgUnlocked = false then t.power = s.power
      else (t.domain d).state = .waking ∧ (t.domain d).fromOff = decide ((s.domain d).state = .off) ∧ (t.domain d).source = x ∧
        ∀ e, e ≠ d → t.domain e = s.domain e) ∧
  (∀ s d ns, s.alive = true → (s.domain d).state = .waking → (s.domain d).stalled = [] →
    Completes (.domainReady d ns) s fun t =>
      (t.domain d).state = .on ∧ (t.domain d).shadowed = false ∧ t.rd Reg.PWR_WAKE_LAST_DOMAIN = d % 64 ∧
      t.rd Reg.PWR_WAKE_LAST_CAUSE = (s.domain d).cause % 4 ∧ t.rd Reg.PWR_WAKE_LAST_TIME_NS = min (ns / 10) 65535 ∧
      t.rd (Reg.PWR_DOM_STATE_LAST_WAKE_US.at d) = min ((ns + 999) / 1000) 255) ∧
  (∀ s d, s.alive = true → (s.domain d).state = .waking →
    Completes (.wakeTimeout d) s fun t =>
      (t.domain d).state = .waking ∧ (t.domain d).stalled = [] ∧ t.rd Reg.EVT_STATUS_LAST = 15 ∧
      (s.on Reg.PWR_WAKE_ERR_VALID = false → t.rd Reg.PWR_WAKE_ERR_DOMAIN = d % 64 ∧ t.on Reg.PWR_WAKE_ERR_VALID = true) ∧
      ∀ off, .read off ∈ (s.domain d).stalled → .regValue 0xFFFFFFFF#32 ∈ t.out) ∧
  (∀ s d, s.alive = true → 15 ≤ d → d ≤ 30 → (s.domain d).state = .waking → (s.member (d - 15)).st = .inService → s.idleMember (d - 15) →
    Completes (.memberWakeTimeout d) s fun t => (t.member (d - 15)).st = .isolating ∧ (t.member (d - 15)).cause = 1)

/-- R417, R418, R419: a voltage or clock request goes to the regulator or the PLLs, unless the rail is fixed or a ceiling of Table
PWR-3 forbids it; the point asked for is in force once it is acknowledged, and a regulator that fails keeps the last. Where it
goes beyond the spec's words it takes the model's choices of log entry 24. -/
def Obligations.ClocksComplete : Prop :=
  (∀ s v, s.alive = true → s.on Reg.PWR_VP_CTRL_BUSY = false →
    Completes (.pwrVpCtrlWrite v) s fun t =>
      if s.fixedRail = true then t.rd Reg.PWR_VP_CTRL_RESULT = 3 ∧ t.power = s.power
      else if v % 4 < s.rd Reg.PWR_STATUS_VP ∧ ¬(s.rd Reg.PWR_CLK_CTRL_CORE_MHZ ≤ (ceilings (v % 4)).1 ∧
          s.rd Reg.PWR_CLK_CTRL_DP_MHZ ≤ (ceilings (v % 4)).2) then
        t.rd Reg.PWR_VP_CTRL_RESULT = 1 ∧ t.power = s.power ∧ t.rd Reg.EVT_STATUS_LAST = 17
      else t.on Reg.PWR_VP_CTRL_BUSY = true ∧ t.power.vpAsked = some (v % 4) ∧ t.out = [.regulator (v % 4)] ∧
        t.rd Reg.PWR_STATUS_VP = s.rd Reg.PWR_STATUS_VP) ∧
  (∀ s dp core, s.alive = true → s.on Reg.PWR_CLK_CTRL_BUSY = false → 400 ≤ dp → dp ≤ 1600 → dp % 100 = 0 → 400 ≤ core →
    core ≤ 2200 → core % 100 = 0 →
    Completes (.pwrClkCtrlWrite dp core) s fun t =>
      if (ceilings (s.rd Reg.PWR_STATUS_VP)).1 < core ∨ (ceilings (s.rd Reg.PWR_STATUS_VP)).2 < dp then
        t.rd Reg.PWR_CLK_CTRL_RESULT = 1 ∧ t.power = s.power ∧ t.rd Reg.PWR_CLK_CTRL_CORE_MHZ = s.rd Reg.PWR_CLK_CTRL_CORE_MHZ ∧
        t.rd Reg.PWR_CLK_CTRL_DP_MHZ = s.rd Reg.PWR_CLK_CTRL_DP_MHZ ∧ t.rd Reg.EVT_STATUS_LAST = 17
      else t.on Reg.PWR_CLK_CTRL_BUSY = true ∧ t.power.clkAsked = some (dp, core) ∧ t.rd Reg.PWR_CLK_CTRL_CORE_MHZ = core ∧
        t.rd Reg.PWR_CLK_CTRL_DP_MHZ = dp) ∧
  (∀ s x, s.alive = true → s.power.clkAsked = some x →
    (s.power.psMoving = false → Completes .pllRelockDone s fun t =>
      t.on Reg.PWR_CLK_CTRL_BUSY = false ∧ t.rd Reg.PWR_CLK_CTRL_RESULT = 0 ∧ t.power.clkAsked = none ∧
      t.rd Reg.PWR_STATUS_PS = s.rd Reg.PWR_STATUS_PS) ∧
    (s.power.psMoving = true → s.rd Reg.PWR_STATUS_PS_TARGET ≤ 4 → s.power.vpAsked = none →
      s.rd Reg.PWR_CLK_CTRL_CORE_MHZ = (psPoint (s.rd Reg.PWR_STATUS_PS_TARGET)).2.1 →
      s.rd Reg.PWR_CLK_CTRL_DP_MHZ = (psPoint (s.rd Reg.PWR_STATUS_PS_TARGET)).2.2 →
      s.fixedRail = true ∨ s.rd Reg.PWR_STATUS_VP = (psPoint (s.rd Reg.PWR_STATUS_PS_TARGET)).1 →
      Completes .pllRelockDone s fun t =>
        t.rd Reg.PWR_STATUS_PS = s.rd Reg.PWR_STATUS_PS_TARGET ∧ t.power.psMoving = false ∧ t.rd Reg.EVT_STATUS_LAST = 16)) ∧
  (∀ s v, s.alive = true → s.power.vpAsked = some v → v < 4 →
    (Completes .vregAck s fun t =>
      t.rd Reg.PWR_STATUS_VP = v ∧ (s.power.psMoving = false →
        t.power.vpAsked = none ∧ t.on Reg.PWR_VP_CTRL_BUSY = false ∧ t.rd Reg.PWR_VP_CTRL_RESULT = 0)) ∧
    Completes .vregTimeout s fun t =>
      t.on Reg.PWR_STATUS_VREG_FAULT = true ∧ t.on Reg.PWR_VP_CTRL_BUSY = false ∧ t.rd Reg.PWR_VP_CTRL_RESULT = 2 ∧
      t.rd Reg.PWR_STATUS_VP = s.rd Reg.PWR_STATUS_VP ∧ t.power.vpAsked = none ∧
      (s.power.psMoving = false → t.rd Reg.EVT_STATUS_LAST = 18))

/-- R418, R421 to R424: the device moves to the lowest state that an enabled controller asks for, clocks before voltage on the way
down and voltage before clocks on the way up; idle, it enters PS3 or PS4, whose domains sleep as Table PWR-1 says. Where it goes
beyond the spec's words it takes the model's choices of log entries 24, 27, 129. -/
def Obligations.PowerStatesComplete : Prop :=
  (∀ s, s.alive = true → s.power.psMoving = false → s.psWanted < 3 →
    (s.psWanted = s.rd Reg.PWR_STATUS_PS → Completes .powerStateChange s fun t =>
      t.power.psWait = [] ∧ t.rd Reg.PWR_STATUS_PS = s.rd Reg.PWR_STATUS_PS ∧
      ∀ r ∈ s.power.psWait, s.runs r = true → t.ended r = some (.success, 0, 0)) ∧
    (3 ≤ s.rd Reg.PWR_STATUS_PS → Completes .powerStateChange s fun t =>
      t.rd Reg.PWR_STATUS_PS = s.psGoal ∧ t.power.clocksStopped = false ∧ t.power.psWait = [] ∧
      t.rd Reg.PWR_CLK_CTRL_CORE_MHZ = (psPoint s.psGoal).2.1 ∧ t.rd Reg.PWR_CLK_CTRL_DP_MHZ = (psPoint s.psGoal).2.2 ∧
      (s.fixedRail = false → t.rd Reg.PWR_STATUS_VP = (psPoint s.psGoal).1) ∧ t.rd Reg.EVT_STATUS_LAST = 16 ∧
      ∀ r ∈ s.power.psWait, s.runs r = true → t.ended r = some (.success, 0, 0)) ∧
    (s.rd Reg.PWR_STATUS_PS < s.psWanted → s.power.vpAsked = none → s.power.clkAsked = none →
      s.fixedRail = true ∨ (psPoint s.psWanted).1 ≤ s.rd Reg.PWR_STATUS_VP →
      s.rd Reg.PWR_CLK_CTRL_CORE_MHZ ≠ (psPoint s.psWanted).2.1 →
      (psPoint s.psWanted).2.1 ≤ (ceilings (s.rd Reg.PWR_STATUS_VP)).1 → (psPoint s.psWanted).2.2 ≤ (ceilings (s.rd Reg.PWR_STATUS_VP)).2 →
      Completes .powerStateChange s fun t =>
        t.power.psMoving = true ∧ t.power.clkAsked = some ((psPoint s.psWanted).2.2, (psPoint s.psWanted).2.1) ∧
        t.power.vpAsked = none ∧ t.rd Reg.PWR_STATUS_PS_TARGET = s.psWanted ∧
        t.rd Reg.PWR_STATUS_PS = s.rd Reg.PWR_STATUS_PS) ∧
    (s.psWanted < s.rd Reg.PWR_STATUS_PS → s.rd Reg.PWR_STATUS_PS < 3 → s.fixedRail = false →
      s.rd Reg.PWR_STATUS_VP < (psPoint s.psWanted).1 → s.power.vpAsked = none → s.power.clkAsked = none →
      Completes .powerStateChange s fun t =>
        t.power.psMoving = true ∧ t.power.vpAsked = some (psPoint s.psWanted).1 ∧ .regulator (psPoint s.psWanted).1 ∈ t.out ∧
        t.power.clkAsked = none ∧ t.rd Reg.PWR_STATUS_PS_TARGET = s.psWanted ∧
        t.rd Reg.PWR_STATUS_PS = s.rd Reg.PWR_STATUS_PS)) ∧
  (∀ s n, s.alive = true → n = 3 ∨ n = 4 →
    (s.mayEnter n n = true → Completes (.idleTimerExpiry n) s fun t =>
      t.rd Reg.PWR_STATUS_PS = n ∧ t.power.clocksStopped = true ∧ t.rd Reg.EVT_STATUS_LAST = 16 ∧ t.domain 0 = s.domain 0 ∧
      (∀ d, 15 ≤ d → d ≤ 30 → s.forcedOff d = false → (s.domain d).state = .on →
        (t.domain d).state = if n = 4 then .off else .retain) ∧
      ∀ d, s.forcedOff d = true → t.domain d = s.domain d) ∧
    (s.mayEnter n 3 = false → s.mayEnter n 4 = false → Completes (.idleTimerExpiry n) s fun t =>
      t.power = s.power ∧ t.regs = s.regs)) ∧
  (∀ s o p, s.alive = true → (s.ctrl o).en = true → p ≤ s.npss →
    Completes (.apstTransition o p) s fun t =>
      (t.ctrl o).ps = p ∧ (t.ctrl o).psLastOp = (if p < 3 then p else (s.ctrl o).psLastOp) ∧
      ∀ x, x ≠ o → t.ctrl x = s.ctrl x)

/-- R426, R427, R429, R431, R432: each sample of the diode is filtered, raises the level to its threshold, or is a fault that forces
level 3; the second hot sample in a row trips; and a level is left with hysteresis. Where it goes beyond the spec's words it
takes the model's choices of log entry 22. -/
def Obligations.ThermalCompletes : Prop :=
  (∀ s, s.alive = true →
    (∀ x k, x = .opened ∧ k = 1 ∨ x = .shorted ∧ k = 2 ∨ (∃ q : Int, x = .valid q ∧ (q < -160 ∨ 600 < q)) ∧ k = 3 →
      Completes (.thermalSample x) s fun t =>
        t.power.faulty = true ∧ t.power.filtered = s.power.filtered ∧ t.rd Reg.THERM_RAW_FAULT_KIND = k ∧
        t.on Reg.THERM_STATUS_WARN = true ∧ t.rd Reg.THERM_STATUS_LEVEL = 3) ∧
    ∀ q : Int, -160 ≤ q → q ≤ 600 → s.power.faulty = false →
      (q < (s.rd Reg.THERM_THRESH1_TRIP : Int) * 4 → Completes (.thermalSample (.valid q)) s fun t =>
        t.power.filtered = (if s.power.filterLoaded = true ∧ s.power.reloadNext = false
          then s.power.filtered + (q * 4096 - s.power.filtered) / 8 else q * 4096) ∧
        t.power.filterLoaded = true ∧ t.power.faulty = false ∧ t.power.tripped = false ∧
        t.rd Reg.THERM_STATUS_LEVEL = max (s.rd Reg.THERM_STATUS_LEVEL) (s.levelAt t.power.filtered)) ∧
      ((s.rd Reg.THERM_THRESH1_TRIP : Int) * 4 ≤ q → 1 ≤ s.power.hot → Completes (.thermalSample (.valid q)) s fun t =>
        t.power.tripped = true ∧ t.power.thermTripN = false ∧ t.alive = false ∧
        ∀ d, 1 ≤ d → d ≤ 35 → (t.domain d).state = .off)) ∧
  (∀ s, s.alive = true → s.rd Reg.THERM_STATUS_LEVEL ≤ 3 →
    Completes .thermalLevelExit s fun t =>
      t.rd Reg.THERM_STATUS_LEVEL =
        (if s.power.faulty = false ∧ s.power.filtered < s.levelThreshold (s.rd Reg.THERM_STATUS_LEVEL) - celsius 3
          then s.rd Reg.THERM_STATUS_LEVEL - 1 else s.rd Reg.THERM_STATUS_LEVEL) ∧
      (s.warnCause = false → s.flashCool = true → s.power.filtered < celsius (s.rd Reg.THERM_THRESH0_WARN) - celsius 3 →
        t.on Reg.THERM_STATUS_WARN = false) ∧
      (s.warnCause = true ∨ s.flashCool = false → t.on Reg.THERM_STATUS_WARN = s.on Reg.THERM_STATUS_WARN))

/-- R442: only the manager breaks a lock, by MBX_BREAK with UNLOCK = 0x4D42. The mailbox is then free and empty, its pending bits
are clear, BROKEN is set and EV1113 recorded; from any other agent the write is ignored; and the former owner is refused under
R439 until it acquires the lock again. -/
def Obligations.OnlyTheManagerBreaksALock : Prop :=
  (∀ s m, s.alive = true → m < 52 →
    Completes (.mbxBreak m .manager 0x4D42) s fun t =>
      (t.mailbox m).owner = 0 ∧ (t.mailbox m).fwd = [] ∧ (t.mailbox m).rep = [] ∧ (t.mailbox m).rx = false ∧
      (t.mailbox m).tx = false ∧ (t.mailbox m).broken = true ∧ t.rd Reg.EVT_STATUS_LAST = 1113 ∧
      (∀ k, k ≠ m → t.mailbox k = s.mailbox k) ∧
      ∀ a w, agentId a = (s.mailbox m).owner → agentId a ≠ 0 →
        (Completes (.mbxSend m a w) t fun u => u.mbx = t.mbx ∧
          u.rd (Reg.MBX_STAT_REFUSED.at m) = min (t.rd (Reg.MBX_STAT_REFUSED.at m) + 1) (2 ^ Reg.MBX_STAT_REFUSED.width - 1)) ∧
        (Completes (.mbxReplyRecv m a) t fun u => u.mbx = t.mbx ∧ .regValue 0#32 ∈ u.out) ∧
        (Completes (.ring m a) t fun u => u.mbx = t.mbx) ∧
        (Completes (.flushMailbox m a) t fun u => u.mbx = t.mbx) ∧
        (maySend m a = true → Completes (.mbxLockRead m a) t fun u => (u.mailbox m).owner = agentId a)) ∧
  (∀ s m a u, s.alive = true → a ≠ .manager → Completes (.mbxBreak m a u) s fun t => t.mbx = s.mbx ∧ t.regs = s.regs) ∧
  (∀ s m u, s.alive = true → m < 52 → u ≠ 0x4D42 → Completes (.mbxBreak m .manager u) s fun t => t.mbx = s.mbx)

/-! ### Mailboxes, events and the almanac (spec/18) -/

/-- R436, R437, R438, R439, R440, R441: a permitted sender's read takes a free lock, and only the owner frees it; the owner pushes
words and pops replies, the receiver the other way round, each queue 8 deep and in order; a ring and a reply set their pending
bits and interrupt; and the words of a ring that are not popped in time set TIMEOUT. Where it goes beyond the spec's words it
takes the model's choices of log entry 146. -/
def Obligations.MailboxesComplete : Prop :=
  (∀ s m a, s.alive = true → m < 52 →
    Completes (.mbxLockRead m a) s fun t =>
      if (s.mailbox m).owner = 0 ∧ maySend m a = true then
        t.mailbox m = { s.mailbox m with owner := agentId a } ∧ .regValue 0#32 ∈ t.out ∧ ∀ k, k ≠ m → t.mailbox k = s.mailbox k
      else t.mbx = s.mbx ∧ t.out = [.regValue (BitVec.ofNat 32 (s.mbxOwner m))]) ∧
  (∀ s m a id, s.alive = true → m < 52 →
    Completes (.mbxRelease m a id) s fun t =>
      if (s.mailbox m).owner = agentId a ∧ id = agentId a then t.mailbox m = { s.mailbox m with owner := 0 }
      else t.mbx = s.mbx) ∧
  (∀ s m a w, s.alive = true → m < 52 →
    (Completes (.mbxSend m a w) s fun t =>
      if (s.mailbox m).owner ≠ agentId a then t.mbx = s.mbx
      else if 8 ≤ (s.mailbox m).fwd.length then
        t.mailbox m = { s.mailbox m with overflow := true } ∧ t.rd Reg.EVT_STATUS_LAST = 1115
      else (t.mailbox m).fwd = (s.mailbox m).fwd ++ [w] ∧ (t.mailbox m).rep = (s.mailbox m).rep) ∧
    Completes (.mbxReplySend m a w) s fun t =>
      if isReceiver m a = false then t.mbx = s.mbx
      else if 8 ≤ (s.mailbox m).rep.length then
        t.mailbox m = { s.mailbox m with overflow := true } ∧ t.rd Reg.EVT_STATUS_LAST = 1115
      else (t.mailbox m).rep = (s.mailbox m).rep ++ [w] ∧ (t.mailbox m).fwd = (s.mailbox m).fwd) ∧
  (∀ s m a, s.alive = true → m < 52 →
    (isReceiver m a = true →
      ((s.mailbox m).fwd = [] → Completes (.mbxRecv m a) s fun t => t.mbx = s.mbx ∧ t.out = [.regValue 0#32]) ∧
      (∀ w l, (s.mailbox m).fwd = w :: l → Completes (.mbxRecv m a) s fun t =>
        (t.mailbox m).fwd = l ∧ .regValue w ∈ t.out ∧ (l = [] → (t.mailbox m).rx = false)) ∧
      Completes (.reply m a) s fun t =>
        (t.mailbox m).tx = true ∧ ((s.mailbox m).owner = 64 → t.rd Reg.EVT_STATUS_LAST = 1116) ∧
        (1 ≤ (s.mailbox m).owner → (s.mailbox m).owner ≤ 32 → t.out = [.coreInterrupt (s.mailbox m).owner])) ∧
    ((s.mailbox m).owner = agentId a →
      ((s.mailbox m).rep = [] → Completes (.mbxReplyRecv m a) s fun t => t.mbx = s.mbx ∧ t.out = [.regValue 0#32]) ∧
      (∀ w l, (s.mailbox m).rep = w :: l → Completes (.mbxReplyRecv m a) s fun t =>
        (t.mailbox m).rep = l ∧ .regValue w ∈ t.out ∧ (l = [] → (t.mailbox m).tx = false)) ∧
      (Completes (.ring m a) s fun t =>
        (t.mailbox m).rx = true ∧
        (t.mailbox m).timed = (if (s.mailbox m).fwd = [] then none else some (s.mailbox m).fwd.length) ∧
        (m < 32 → t.out = [.coreInterrupt (m + 1)])) ∧
      Completes (.flushMailbox m a) s fun t =>
        (t.mailbox m).fwd = [] ∧ (t.mailbox m).rx = false ∧ (t.mailbox m).rep = (s.mailbox m).rep) ∧
    (isReceiver m a = false →
      (Completes (.mbxRecv m a) s fun t => t.mbx = s.mbx ∧ .regValue 0#32 ∈ t.out) ∧
      Completes (.reply m a) s fun t => t.mbx = s.mbx) ∧
    ((s.mailbox m).owner ≠ agentId a →
      (Completes (.mbxReplyRecv m a) s fun t => t.mbx = s.mbx ∧ .regValue 0#32 ∈ t.out) ∧
      (Completes (.ring m a) s fun t => t.mbx = s.mbx) ∧ Completes (.flushMailbox m a) s fun t => t.mbx = s.mbx)) ∧
  (∀ s m n, s.alive = true → (s.mailbox m).timed = some n →
    Completes (.mbxTimeout m) s fun t =>
      (t.mailbox m).timeout = true ∧ (t.mailbox m).fwd = (s.mailbox m).fwd ∧ t.rd Reg.EVT_STATUS_LAST = 1112) ∧
  (∀ s m, s.alive = true → m = 50 ∨ m = 51 →
    (∀ w, (s.mailbox m).fwd.length < 8 → Completes (.companionMailboxFrame m (.word w)) s fun t =>
      (t.mailbox m).fwd = (s.mailbox m).fwd ++ [w]) ∧
    (Completes (.companionMailboxFrame m .ring) s fun t => (t.mailbox m).rx = true ∧ t.out = [.clusterInterrupt 0]) ∧
    (Completes (.companionMailboxFrame m .owned) s fun t => (t.mailbox m).owner = 96) ∧
    Completes (.companionMailboxFrame m .freed) s fun t => (t.mailbox m).owner = 0) ∧
  (∀ s m w, s.alive = true → m = 48 ∨ m = 49 → (s.mailbox m).rep.length < 8 →
    Completes (.companionMailboxFrame m (.replyWord w)) s fun t => (t.mailbox m).rep = (s.mailbox m).rep ++ [w])

/-- R7, R444, R445, R446, R447, R450, R455: a pending bit is cleared by writing 1 unless its source occurs in the same cycle; an
occurrence is counted, recorded under the next number and delivered; the manager's snapshot lists are written; and the read port
gives the record that a number names. Where it goes beyond the spec's words it takes the model's choices of log entries 15, 25,
91, 147. -/
def Obligations.AlmanacCompletes : Prop :=
  (∀ s w mask, s.alive = true → w < 36 →
    Completes (.evtPendingClear w mask []) s fun t =>
      (∀ i, i < 32 → bit (t.rd (Reg.EVT_PENDING_BITS.at w)) i = (bit (s.rd (Reg.EVT_PENDING_BITS.at w)) i && !bit mask i)) ∧
      t.evt = s.evt ∧ t.alm = s.alm) ∧
  (∀ s n mask, s.alive = true → n < 1152 →
    Completes (.evtPendingClear (n / 32) mask [n]) s fun t =>
      (mapGet t.evt.counts n {}).occurred = (mapGet s.evt.counts n {}).occurred + 1 ∧ t.rd Reg.EVT_STATUS_LAST = n ∧
      (s.on (Reg.EVT_ROUTE_MGR.at n) = true → bit (t.rd (Reg.EVT_PENDING_BITS.at (n / 32))) (n % 32) = true) ∧
      (s.on (Reg.EVT_ROUTE_FW.at n) = true → .clusterInterrupt (s.rd (Reg.EVT_ROUTE_FW_CLUSTER.at n)) ∈ t.out) ∧
      (s.alm.resumed = true → s.alm.ring = [] → s.alm.lostPending = 0 →
        t.alm.seq = s.alm.seq + 1 ∧
        t.alm.ring.map (fun r => (r.seq, r.event, r.sidereal, r.rep)) = [(s.alm.seq + 1, n, s.time.sid, 0)])) ∧
  (∀ s l e v off, s.alive = true →
    Completes (.almListWrite l e v off) s fun t =>
      if 128 ≤ l ∧ l < 256 ∧ e < 12 then
        mapGet t.alm.lists (16 * l + e) {} =
          ⟨v, if off % 4 = 0 ∧ off < 0x4000000 then off else (mapGet s.alm.lists (16 * l + e) {}).off⟩ ∧
        t.rd Reg.EVT_STATUS_LAST = 1124
      else t.alm = s.alm) ∧
  (∀ s hi, s.alive = true → s.on Reg.ALM_READ_STATUS_BUSY = false →
    Completes (.almRead hi) s fun t =>
      t.on Reg.ALM_READ_STATUS_BUSY = true ∧
      t.alm.readSeq = some (hi % 2 ^ 32 * 2 ^ 32 +
        mapGet s.loWrite Reg.ALM_READ_SEQ_LO_SEQ.addr (s.rd Reg.ALM_READ_SEQ_LO_SEQ) % 2 ^ 32)) ∧
  (∀ s ok q, s.alive = true → s.alm.readSeq = some q →
    Completes (.almReadDone ok) s fun t =>
      t.on Reg.ALM_READ_STATUS_BUSY = false ∧ t.alm.readSeq = none ∧
      ((∀ r ∈ s.alm.ring ++ s.alm.flash, r.seq ≠ q) → t.rd Reg.ALM_READ_STATUS_RESULT = 1) ∧
      (∀ r ∈ s.alm.ring, r.seq = q → t.rd Reg.ALM_READ_STATUS_RESULT = 0 ∧ t.alm.readRec.map AlmRec.seq = some q) ∧
      ((∀ r ∈ s.alm.ring, r.seq ≠ q) → (∃ r ∈ s.alm.flash, r.seq = q) →
        t.rd Reg.ALM_READ_STATUS_RESULT = (if ok then 0 else 2)))

/-! ### Watchdogs and debug access (spec/19, spec/20) -/

/-- R470, R471, R472: kicks restart the watchdogs; a core's third expiry within a second, the device's and the boot watchdog's
expiries ask for a warm reset, which stops the queues. Where it goes beyond the spec's words it takes the model's choices of log
entries 130, 132. -/
def Obligations.WatchdogsComplete : Prop :=
  (∀ s c key, s.alive = true →
    (Completes (.wdtCoreKick (.core c) key) s fun t =>
      t.out = (if key = 0x4B49 ∧ 1 ≤ c ∧ c ≤ 32 then [.data "core watchdog restarted" [c]] else []) ∧ t.regs = s.regs) ∧
    Completes (.wdtDevKick (.core c) key) s fun t =>
      if key = 0x4B49 ∧ 1 ≤ c ∧ c ≤ 8 then
        t.rd Reg.WDT_DEV_REMAIN_MS = s.rd Reg.WDT_CFG_DEV_MS % 2 ^ 14 ∧ t.out = [.data "device watchdog restarted" []]
      else t.regs = s.regs) ∧
  (∀ s c, s.alive = true → 1 ≤ c → c ≤ 32 → s.boot.resetAsked = none → s.net.assocs = [] →
    Completes (.coreWatchdogExpiry c) s fun t =>
      bit (t.rd Reg.WDT_CORE_EXP_CORES) (c - 1) = true ∧
      if s.rd Reg.BOOT_STATUS_STAGE ≠ 9 ∧
          2 ≤ ((mapGet s.boot.coreExpiries c []).filter fun u => s.time.now - u < 1000000000).length then
        t.boot.resetAsked = some 5 ∧ t.q.stopped = true ∧ t.rd Reg.EVT_STATUS_LAST = 1141
      else t.boot.resetAsked = none ∧ t.q = s.q ∧ t.rd Reg.EVT_STATUS_LAST = 1133) ∧
  (∀ s, s.alive = true → s.devWatched = true →
    (Completes .deviceWatchdogHalf s fun t =>
      t.on Reg.WDT_STATUS_HALF = true ∧ t.rd Reg.EVT_STATUS_LAST = 1134 ∧ t.boot = s.boot) ∧
    (s.boot.resetAsked = none → s.net.assocs = [] → Completes .deviceWatchdogExpiry s fun t =>
      t.on Reg.WDT_STATUS_DEV_EXPIRED = true ∧ t.boot.resetAsked = some 1 ∧ t.q.stopped = true ∧ t.pair.heartbeats = false)) ∧
  (∀ s, s.alive = true → s.on Reg.WDT_STATUS_BOOT_RUNNING = true → s.rd Reg.BOOT_STATUS_STAGE ≠ 9 → s.boot.resetAsked = none →
    s.net.assocs = [] →
    Completes .bootWatchdogExpiry s fun t =>
      t.on Reg.WDT_STATUS_BOOT_EXPIRED = true ∧ t.boot.resetAsked = some 4 ∧ t.q.stopped = true ∧
      (s.boot.recovery = false → s.boot.booting = 1 ∨ s.boot.booting = 2 →
        bit (t.rd Reg.WDT_STATUS_BOOT_MARKS) (s.boot.booting - 1) = true))

/-! ### The manager window and NVMe-MI (spec/20, spec/04) -/

/-- R7, R77, R78, R477, R479: while the manager's function can be reached, a dword write takes effect whole, one with a byte enable
clear has none and is counted; a read of a clearing field takes what it returns, less what the hardware adds meanwhile; a read
of a _LO register latches its _HI. Where it goes beyond the spec's words it takes the model's choices of log entries 131, 139,
145, 148, 150. -/
def Obligations.WindowCompletes : Prop :=
  (∀ s k v, s.alive = true → s.windowReached = true → s.managerFlr = false → k < 4 → (s.domain 0).state = .on →
    Completes (.registerWrite (0x20 + 4 * k) v 15) s fun t =>
      t.rd (Reg.DEV_SCRATCH_DATA.at k) = v.toNat ∧ (∀ j, j < 4 → j ≠ k → t.rd (Reg.DEV_SCRATCH_DATA.at j) = s.rd (Reg.DEV_SCRATCH_DATA.at j)) ∧
      t.nv = s.nv ∧ t.boot = s.boot) ∧
  (∀ s off v be, s.alive = true → s.windowReached = true → s.managerFlr = false → be % 16 ≠ 15 →
    Completes (.registerWrite off v be) s fun t =>
      t.rd Reg.DEV_ACC_ERR_PARTIAL = min (s.rd Reg.DEV_ACC_ERR_PARTIAL + 1) 255 ∧
      (∀ f : Field, f.key ≠ Reg.DEV_ACC_ERR_PARTIAL.key → t.rd f = s.rd f) ∧ t.nv = s.nv ∧ t.boot = s.boot) ∧
  (∀ s same, s.alive = true → s.windowReached = true → s.managerFlr = false → (s.domain 0).state = .on →
    Completes (.readClear Reg.WDT_CORE_EXP_CORES.addr same) s fun t =>
      t.rd Reg.WDT_CORE_EXP_CORES = same % 2 ^ 32 ∧ t.out = [.regValue (BitVec.ofNat 32 (s.rd Reg.WDT_CORE_EXP_CORES))]) ∧
  (∀ s, s.alive = true → s.windowReached = true → s.managerFlr = false → s.boot.recovery = false → s.inWarmReset = false → s.chart.phase ≠ .loading → (s.domain 6).state = .on →
    (Completes (.loRegisterRead Reg.ALM_SEQ_LO_SEQ.addr) s fun t =>
      t.out = [.regValue (BitVec.ofNat 32 s.alm.seq)] ∧ mapGet t.latch Reg.ALM_SEQ_HI_SEQ.addr 0 = s.alm.seq / 2 ^ 32 % 2 ^ 32) ∧
    Completes (.loRegisterRead Reg.ALM_SEQ_HI_SEQ.addr) s fun t =>
      t.out = [.regValue (BitVec.ofNat 32 (mapGet s.latch Reg.ALM_SEQ_HI_SEQ.addr 0))]) ∧
  (∀ s off v be, s.alive = true → s.windowReached = true → s.managerFlr = true →
    (Completes (.loRegisterRead off) s fun t => t.out = [.regValue 0xFFFFFFFF#32] ∧ t.regs = s.regs) ∧
    Completes (.registerWrite off v be) s fun t => t.regs = s.regs ∧ t.out = [])

/-- R19, R22, R87, R88: with the manager on NVMe-MI, a Window command makes its accesses in order, and with another it is refused
and counted; the polls answer every controller's health; what the spec does not state of the rest is a free value (log entry 5).
Where it goes beyond the spec's words it takes the model's choices of log entry 143. -/
def Obligations.MiCompletes : Prop :=
  (∀ s v, s.alive = true → s.boot.manager = .mi → (s.domain 0).state = .on →
    (∀ k, k < 4 → Completes (.windowWrite (0x20 + 4 * k) 1 [v]) s fun t =>
      t.rd (Reg.DEV_SCRATCH_DATA.at k) = v.toNat ∧ t.out = [.mi "Success" []]) ∧
    Completes (.windowRead 0x20 4) s fun t =>
      t.out = .mi "Success" [] ::
        (List.range 4).map fun k => .regValue (BitVec.ofNat 32 (s.rd (Reg.DEV_SCRATCH_DATA.at k)))) ∧
  (∀ s off n d, s.alive = true → s.boot.manager = .mi → n = 0 ∨ 16 < n ∨ 0x4000000 < off + 4 * n →
    (Completes (.windowRead off n) s fun t => t.out = [.mi "Invalid Parameter" []] ∧ t.regs = s.regs) ∧
    Completes (.windowWrite off n d) s fun t => t.out = [.mi "Invalid Parameter" []] ∧ t.regs = s.regs) ∧
  (∀ s off n d op, s.alive = true → s.boot.manager ≠ .mi →
    (Completes (.windowRead off n) s fun t => .mi "Invalid Command Opcode" [] ∈ t.out ∧ t.rd Reg.EVT_STATUS_LAST = 135) ∧
    (Completes (.windowWrite off n d) s fun t => .mi "Invalid Command Opcode" [] ∈ t.out ∧ t.rd Reg.EVT_STATUS_LAST = 135) ∧
    Completes (.miCommandRefused op) s fun t =>
      .mi "Invalid Command Opcode" [] ∈ t.out ∧ t.rd Reg.EVT_STATUS_LAST = 135 ∧ t.nv = s.nv) ∧
  (∀ s, s.alive = true →
    (Completes (.readNvmeMiDataStructure 2) s fun t =>
      t.out = [.mi "Success" (s.host.ctrls.map fun e => e.1 + 1)] ∧ t.regs = s.regs) ∧
    (Completes .nvmSubsystemHealthStatusPoll s fun t =>
      ∃ w, t.out = [.mi "Success" [s.criticalWarning, ((s.power.filtered / 16384) + 273).toNat, w]] ∧ t.regs = s.regs) ∧
    (∀ o c, s.host.ctrls = [(o, c)] → Completes (.controllerHealthStatusPoll 0 0) s fun t =>
      ∃ l, t.out = [.mi "Success" ([o + 1, c.rdy.toNat, c.cfs.toNat] ++ l)]) ∧
    (∀ id, 1 ≤ id → id ≤ 3 → Completes (.configurationGet id) s fun t =>
      t.out = [.mi "Success" [Config.freeValue s.freeCtr]] ∧ t.freeCtr = s.freeCtr + 1) ∧
    ∀ o off, Completes (.adminTunnel o false 0 0 0 2 off) s fun t =>
      ∃ l, t.out = [.mi "Success" ([0, 0] ++ l)] ∧ t.nv = s.nv ∧ t.regs = s.regs)
end

