-- ==== Sys2Proof/Laws/Cipher.lean ====
section
/-! SUPPORT. The data cipher (R310): decryption undoes encryption, and encryption decryption, for every key, tweak and block. -/

namespace Sys2Proof.Machine

/-- A transposition undoes itself. -/
@[simp] theorem swap_swap (d : Nat) (e : Nat × Nat) : swap (swap d e) e = d := by
  unfold swap
  split
  · rename_i h
    split
    · rename_i h'; omega
    · simp [h]
  · rename_i h
    split
    · rename_i h'; simp [h']
    · rfl

theorem permute_append (l m : List (Nat × Nat)) (d : Nat) : permute (l ++ m) d = permute m (permute l d) := by
  simp [permute, List.foldl_append]

/-- The transpositions in reverse order undo a permutation. -/
@[simp] theorem permute_reverse (l : List (Nat × Nat)) (d : Nat) : permute l.reverse (permute l d) = d := by
  induction l generalizing d with
  | nil => rfl
  | cons e l ih =>
    rw [List.reverse_cons, permute_append]
    show permute [e] (permute l.reverse (permute l (swap d e))) = d
    rw [ih]
    exact swap_swap d e

/-- R310: a block decrypts to what was encrypted, under the same key, tweak and format. -/
@[simp] theorem State.decrypt_encrypt (s : State) (nsid lba d : Nat) : s.decrypt nsid lba (s.encrypt nsid lba d) = d :=
  permute_reverse _ d

@[simp] theorem State.encrypt_decrypt (s : State) (nsid lba d : Nat) : s.encrypt nsid lba (s.decrypt nsid lba d) = d := by
  have h := permute_reverse (s.xtsOf nsid lba).reverse d
  rwa [List.reverse_reverse] at h

/-- Encryption maps different blocks to different blocks. -/
theorem State.encrypt_inj (s : State) (nsid lba : Nat) {d e : Nat} (h : s.encrypt nsid lba d = s.encrypt nsid lba e) : d = e := by
  rw [← s.decrypt_encrypt nsid lba d, h, s.decrypt_encrypt]

/-- A stretch of blocks decrypts to what was encrypted. -/
@[simp] theorem State.decryptAll_encryptAll (s : State) (nsid lba : Nat) (l : List Nat) :
    s.decryptAll nsid lba (s.encryptAll nsid lba l) = l := by
  apply List.ext_getElem <;> simp [State.decryptAll, State.encryptAll]

end Sys2Proof.Machine
end

