-- ==== Sys2Proof/Laws/Maps.lean ====
section
/-! SUPPORT. The canonical sparse tables: what each operation reads as afterwards, and that each keeps the keys rising. -/

namespace Sys2Proof.Machine

variable {α : Type}

theorem mapWf_iff (m : Map α) : mapWf m = true ↔ (m.map Prod.fst).Pairwise (· < ·) := by
  induction m with
  | nil => simp [mapWf]
  | cons a m ih =>
    obtain ⟨k, v⟩ := a
    cases m with
    | nil => simp [mapWf]
    | cons b l =>
      obtain ⟨k', v'⟩ := b
      simp only [mapWf, Bool.and_eq_true, decide_eq_true_eq, ih, List.map_cons, List.pairwise_cons]
      constructor
      · rintro ⟨h, h1, h2⟩
        refine ⟨?_, h1, h2⟩
        intro x hx
        rcases List.mem_cons.mp hx with rfl | hx
        · exact h
        · exact Nat.lt_trans h (h1 x hx)
      · rintro ⟨h, h1, h2⟩
        exact ⟨h k' (List.mem_cons_self ..), h1, h2⟩

theorem mem_fst_mapSet (m : Map α) (k : Nat) (v : α) (x : Nat) :
    x ∈ (mapSet m k v).map Prod.fst → x = k ∨ x ∈ m.map Prod.fst := by
  induction m with
  | nil => simp [mapSet]
  | cons a m ih =>
    obtain ⟨k', v'⟩ := a
    simp only [mapSet]
    split
    · simp_all
    · split
      · simp
      · intro h
        rcases List.mem_cons.mp h with h | h
        · exact .inr (by simp [h])
        · rcases ih h with h | h
          · exact .inl h
          · exact .inr (by simp only [List.map_cons, List.mem_cons]; exact .inr h)

theorem mapWf_mapSet {m : Map α} (h : mapWf m = true) (k : Nat) (v : α) : mapWf (mapSet m k v) = true := by
  rw [mapWf_iff] at h ⊢
  induction m with
  | nil => simp [mapSet]
  | cons a m ih =>
    obtain ⟨k', v'⟩ := a
    simp only [mapSet]
    have h := List.pairwise_cons.mp h
    split
    · rename_i e; subst e
      exact List.pairwise_cons.mpr h
    · split
      · rename_i hlt
        refine List.pairwise_cons.mpr ⟨?_, List.pairwise_cons.mpr h⟩
        intro x hx
        rcases List.mem_cons.mp hx with rfl | hx
        · exact hlt
        · exact Nat.lt_trans hlt (h.1 x hx)
      · rename_i hne hlt
        refine List.pairwise_cons.mpr ⟨?_, ih h.2⟩
        intro x hx
        rcases mem_fst_mapSet m k v x hx with rfl | hx
        · have : k' < x := by omega
          exact this
        · exact h.1 x hx

theorem mapErase_sublist (m : Map α) (k : Nat) : (mapErase m k).Sublist m := List.filter_sublist

theorem mapWf_sublist {m l : Map α} (h : mapWf m = true) (s : l.Sublist m) : mapWf l = true := by
  rw [mapWf_iff] at h ⊢
  exact h.sublist (s.map _)

theorem mapWf_mapErase {m : Map α} (h : mapWf m = true) (k : Nat) : mapWf (mapErase m k) = true :=
  mapWf_sublist h (mapErase_sublist m k)

theorem mapWf_mapPut [DecidableEq α] {m : Map α} (h : mapWf m = true) (k : Nat) (v d : α) : mapWf (mapPut m k v d) = true := by
  unfold mapPut
  split
  · exact mapWf_mapErase h k
  · exact mapWf_mapSet h k v

theorem mapWf_filter {m : Map α} (h : mapWf m = true) (p : Nat × α → Bool) : mapWf (m.filter p) = true :=
  mapWf_sublist h List.filter_sublist

theorem mapGet?_mapSet_self (m : Map α) (k : Nat) (v : α) : mapGet? (mapSet m k v) k = some v := by
  induction m with
  | nil => simp [mapSet, mapGet?]
  | cons a m ih =>
    simp only [mapSet]
    split
    · simp [mapGet?]
    · split
      · simp [mapGet?]
      · rename_i h _; simp [mapGet?, h, ih]

theorem mapGet?_mapSet_ne (m : Map α) {k j : Nat} (v : α) (h : j ≠ k) : mapGet? (mapSet m k v) j = mapGet? m j := by
  induction m with
  | nil => simp [mapSet, mapGet?, h]
  | cons a m ih =>
    simp only [mapSet]
    split
    · rename_i e; simp [mapGet?, h, ← e]
    · split
      · simp [mapGet?, h]
      · simp [mapGet?, ih]

theorem mapErase_cons (a : Nat × α) (m : Map α) (k : Nat) :
    mapErase (a :: m) k = if a.1 = k then mapErase m k else a :: mapErase m k := by
  unfold mapErase
  by_cases h : a.1 = k <;> simp [h]

theorem mapGet?_mapErase_self (m : Map α) (k : Nat) : mapGet? (mapErase m k) k = none := by
  induction m with
  | nil => rfl
  | cons a m ih =>
    rw [mapErase_cons]
    split
    · exact ih
    · rename_i h
      simp [mapGet?, ih, Ne.symm h]

theorem mapGet?_mapErase_ne (m : Map α) {k j : Nat} (h : j ≠ k) : mapGet? (mapErase m k) j = mapGet? m j := by
  induction m with
  | nil => rfl
  | cons a m ih =>
    rw [mapErase_cons]
    split
    · rename_i e
      have : ¬ j = a.1 := fun x => h (x.trans e)
      simp [mapGet?, this, ih]
    · simp [mapGet?, ih]

/-- A read after a write of the same key gives the value written. -/
theorem mapGet_mapSet_self (m : Map α) (k : Nat) (v d : α) : mapGet (mapSet m k v) k d = v := by
  simp [mapGet, mapGet?_mapSet_self]

theorem mapGet_mapSet_ne (m : Map α) {k j : Nat} (v d : α) (h : j ≠ k) : mapGet (mapSet m k v) j d = mapGet m j d := by
  simp [mapGet, mapGet?_mapSet_ne m v h]

theorem mapGet_mapPut_self [DecidableEq α] (m : Map α) (k : Nat) (v d : α) : mapGet (mapPut m k v d) k d = v := by
  unfold mapPut
  split
  · rename_i h; simp [mapGet, mapGet?_mapErase_self, h]
  · exact mapGet_mapSet_self m k v d

theorem mapGet_mapPut_ne [DecidableEq α] (m : Map α) {k j : Nat} (v d e : α) (h : j ≠ k) :
    mapGet (mapPut m k v d) j e = mapGet m j e := by
  unfold mapPut
  split
  · simp [mapGet, mapGet?_mapErase_ne m h]
  · exact mapGet_mapSet_ne m v e h

/-- What a changed entry reads as. -/
theorem mapGet?_mapMod_self (m : Map α) (k : Nat) (f : α → α) : mapGet? (mapMod m k f) k = (mapGet? m k).map f := by
  unfold mapMod
  induction m with
  | nil => rfl
  | cons a m ih =>
    simp only [List.map_cons, mapGet?]
    by_cases h : a.1 = k
    · simp [h]
    · simp only [if_neg h, if_neg (Ne.symm h)]; exact ih

theorem mapGet?_mapMod_ne (m : Map α) {k j : Nat} (f : α → α) (h : j ≠ k) : mapGet? (mapMod m k f) j = mapGet? m j := by
  unfold mapMod
  induction m with
  | nil => rfl
  | cons a m ih =>
    simp only [List.map_cons, mapGet?]
    by_cases h' : a.1 = k
    · simp only [h', if_true, if_neg h]; exact ih
    · simp only [if_neg h']; split
      · rfl
      · exact ih

theorem mapGet?_mapAll (m : Map α) (f : Nat → α → α) (k : Nat) : mapGet? (mapAll m f) k = (mapGet? m k).map (f k) := by
  induction m with
  | nil => rfl
  | cons a m ih =>
    simp only [mapAll, List.map_cons, mapGet?] at ih ⊢
    split
    · rename_i h; simp [h]
    · exact ih

end Sys2Proof.Machine
end

