-- ==== Sys2Proof/Laws/Frame.lean ====
section
/-! SUPPORT. What every operation of the model keeps, said once for each: `Keeps m s t` holds when the parts whose bit of `m` is
clear are the same in both states, the queue among them; the register table stays canonical, the free values move on,
and the almanac stays numbered. -/

namespace Sys2Proof.Machine

/-- The bit of a part. -/
def Part.idx : Part → Nat
  | .regs => 0 | .latch => 1 | .loWrite => 2 | .pending => 3 | .out => 4 | .freeCtr => 5 | .time => 6 | .evt => 7
  | .alm => 8 | .mbx => 9 | .q => 10 | .host => 11 | .power => 12 | .chart => 13 | .boot => 14 | .nv => 15 | .jr => 16
  | .wp => 17 | .zone => 18 | .md => 19 | .net => 20 | .serve => 21 | .key => 22 | .ten => 23 | .cell => 24 | .dram => 25
  | .units => 26 | .pair => 27

/-- What an operation keeps. -/
structure Keeps (m : Nat) (s t : State) : Prop where
  parts : ∀ p : Part, m.testBit p.idx = false → p.same s t
  regs : s.regsWf → t.regsWf
  free : s.freeCtr ≤ t.freeCtr
  alm : s.alm.Numbered → t.alm.Numbered ∧ s.alm.seq ≤ t.alm.seq

theorem Part.same_refl (p : Part) (s : State) : p.same s s := by cases p <;> rfl

theorem Part.same_trans {p : Part} {s t u : State} (h : p.same s t) (k : p.same t u) : p.same s u := by
  cases p <;> exact Eq.trans k h

theorem Keeps.refl (m : Nat) (s : State) : Keeps m s s :=
  ⟨fun p _ => p.same_refl s, id, Nat.le_refl _, fun h => ⟨h, Nat.le_refl _⟩⟩

theorem Keeps.trans {m : Nat} {s t u : State} (h : Keeps m s t) (k : Keeps m t u) : Keeps m s u :=
  ⟨fun p hp => Part.same_trans (h.parts p hp) (k.parts p hp), k.regs ∘ h.regs, Nat.le_trans h.free k.free,
   fun a => ⟨(k.alm (h.alm a).1).1, Nat.le_trans (h.alm a).2 (k.alm (h.alm a).1).2⟩⟩

theorem Keeps.weaken {m n : Nat} {s t : State} (k : Keeps m s t) (h : m ||| n = n) : Keeps n s t :=
  ⟨fun p hp => k.parts p (by rw [← h, Nat.testBit_or] at hp; exact (Bool.or_eq_false_iff.mp hp).1), k.regs, k.free, k.alm⟩

/-- One more operation after others. -/
theorem Keeps.step {m n : Nat} {s t u : State} (k : Keeps m t u) (hm : m ||| n = n) (h : Keeps n s t) : Keeps n s u :=
  h.trans (k.weaken hm)

/-- A change of parts whose bits are set, other than the register table, the free values and the almanac. -/
theorem Keeps.change {n : Nat} {s t u : State} (h : Keeps n s t) (hp : ∀ p : Part, n.testBit p.idx = false → p.same t u)
    (hr : u.regs = t.regs) (hf : u.freeCtr = t.freeCtr) (ha : u.alm = t.alm) : Keeps n s u :=
  h.trans ⟨hp, fun w => by unfold State.regsWf; rw [hr]; exact w, Nat.le_of_eq hf.symm,
    fun a => by rw [ha]; exact ⟨a, Nat.le_refl _⟩⟩

theorem Keeps.ite {n : Nat} {s a b : State} {c : Prop} {inst : Decidable c} (ha : Keeps n s a) (hb : Keeps n s b) :
    Keeps n s (@ite State c inst a b) := by
  cases inst with
  | isTrue h => exact ha
  | isFalse h => exact hb

theorem Keeps.foldl {α : Type} {n : Nat} {s : State} {f : State → α → State} (hf : ∀ u x, Keeps n s u → Keeps n s (f u x)) :
    ∀ (l : List α) {t : State}, Keeps n s t → Keeps n s (l.foldl f t)
  | [], _, h => h
  | x :: l, t, h => Keeps.foldl hf l (hf t x h)

theorem Keeps.each {α : Type} {n : Nat} {s t : State} {l : List α} {f : State → α → State} (h : Keeps n s t)
    (hf : ∀ u x, Keeps n s u → Keeps n s (f u x)) : Keeps n s (t.each l f) := Keeps.foldl hf l h

theorem Keeps.when {n : Nat} {s t : State} {c : Bool} {f : State → State} (h : Keeps n s t)
    (hf : ∀ u, Keeps n s u → Keeps n s (f u)) : Keeps n s (t.when c f) := by
  unfold State.when
  exact Keeps.ite (hf t h) h

theorem Keeps.running {n : Nat} {s t : State} {r : CmdRef} {f : State → State} (h : Keeps n s t)
    (hf : ∀ u, Keeps n s u → Keeps n s (f u)) : Keeps n s (t.running r f) := by
  unfold State.running
  exact Keeps.ite (hf t h) h


theorem Keeps.sub {a m n : Nat} (h : a ||| m = m) (k : m ||| n = n) : a ||| n = n := by
  rw [← k, ← Nat.or_assoc, h]

theorem Keeps.dite {n : Nat} {s : State} {c : Prop} {inst : Decidable c} {a : c → State} {b : ¬c → State}
    (ha : ∀ h, Keeps n s (a h)) (hb : ∀ h, Keeps n s (b h)) : Keeps n s (@dite State c inst a b) := by
  cases inst with
  | isTrue h => exact ha h
  | isFalse h => exact hb h

/-- One part is changed. -/
theorem Keeps.one {n : Nat} {s t u : State} (c : Part) (hm : 2 ^ c.idx ||| n = n) (h : Keeps n s t)
    (hp : ∀ p : Part, p ≠ c → p.same t u) (hr : u.regs = t.regs) (hf : u.freeCtr = t.freeCtr) (ha : u.alm = t.alm) :
    Keeps n s u := by
  refine h.change (fun p hb => hp p ?_) hr hf ha
  rintro rfl
  rw [← hm, Nat.testBit_or, Nat.testBit_two_pow_self] at hb
  simp at hb

theorem Keeps.set_latch {n : Nat} {s t : State} {v} (hm : 2 ||| n = n) (h : Keeps n s t) : Keeps n s { t with latch := v } :=
  h.one .latch hm (fun p hp => by cases p <;> first | rfl | exact absurd rfl hp) rfl rfl rfl
theorem Keeps.set_loWrite {n : Nat} {s t : State} {v} (hm : 4 ||| n = n) (h : Keeps n s t) : Keeps n s { t with loWrite := v } :=
  h.one .loWrite hm (fun p hp => by cases p <;> first | rfl | exact absurd rfl hp) rfl rfl rfl
theorem Keeps.set_out {n : Nat} {s t : State} {v} (hm : 16 ||| n = n) (h : Keeps n s t) : Keeps n s { t with out := v } :=
  h.one .out hm (fun p hp => by cases p <;> first | rfl | exact absurd rfl hp) rfl rfl rfl
theorem Keeps.set_time {n : Nat} {s t : State} {v} (hm : 64 ||| n = n) (h : Keeps n s t) : Keeps n s { t with time := v } :=
  h.one .time hm (fun p hp => by cases p <;> first | rfl | exact absurd rfl hp) rfl rfl rfl
theorem Keeps.set_evt {n : Nat} {s t : State} {v} (hm : 128 ||| n = n) (h : Keeps n s t) : Keeps n s { t with evt := v } :=
  h.one .evt hm (fun p hp => by cases p <;> first | rfl | exact absurd rfl hp) rfl rfl rfl
theorem Keeps.set_mbx {n : Nat} {s t : State} {v} (hm : 512 ||| n = n) (h : Keeps n s t) : Keeps n s { t with mbx := v } :=
  h.one .mbx hm (fun p hp => by cases p <;> first | rfl | exact absurd rfl hp) rfl rfl rfl
theorem Keeps.set_q {n : Nat} {s t : State} {v} (hm : 1024 ||| n = n) (h : Keeps n s t) : Keeps n s { t with q := v } :=
  h.one .q hm (fun p hp => by cases p <;> first | rfl | exact absurd rfl hp) rfl rfl rfl
theorem Keeps.set_host {n : Nat} {s t : State} {v} (hm : 2048 ||| n = n) (h : Keeps n s t) : Keeps n s { t with host := v } :=
  h.one .host hm (fun p hp => by cases p <;> first | rfl | exact absurd rfl hp) rfl rfl rfl
theorem Keeps.set_power {n : Nat} {s t : State} {v} (hm : 4096 ||| n = n) (h : Keeps n s t) : Keeps n s { t with power := v } :=
  h.one .power hm (fun p hp => by cases p <;> first | rfl | exact absurd rfl hp) rfl rfl rfl
theorem Keeps.set_chart {n : Nat} {s t : State} {v} (hm : 8192 ||| n = n) (h : Keeps n s t) : Keeps n s { t with chart := v } :=
  h.one .chart hm (fun p hp => by cases p <;> first | rfl | exact absurd rfl hp) rfl rfl rfl
theorem Keeps.set_boot {n : Nat} {s t : State} {v} (hm : 16384 ||| n = n) (h : Keeps n s t) : Keeps n s { t with boot := v } :=
  h.one .boot hm (fun p hp => by cases p <;> first | rfl | exact absurd rfl hp) rfl rfl rfl
theorem Keeps.set_nv {n : Nat} {s t : State} {v} (hm : 32768 ||| n = n) (h : Keeps n s t) : Keeps n s { t with nv := v } :=
  h.one .nv hm (fun p hp => by cases p <;> first | rfl | exact absurd rfl hp) rfl rfl rfl
theorem Keeps.set_jr {n : Nat} {s t : State} {v} (hm : 65536 ||| n = n) (h : Keeps n s t) : Keeps n s { t with jr := v } :=
  h.one .jr hm (fun p hp => by cases p <;> first | rfl | exact absurd rfl hp) rfl rfl rfl
theorem Keeps.set_wp {n : Nat} {s t : State} {v} (hm : 131072 ||| n = n) (h : Keeps n s t) : Keeps n s { t with wp := v } :=
  h.one .wp hm (fun p hp => by cases p <;> first | rfl | exact absurd rfl hp) rfl rfl rfl
theorem Keeps.set_zone {n : Nat} {s t : State} {v} (hm : 262144 ||| n = n) (h : Keeps n s t) : Keeps n s { t with zone := v } :=
  h.one .zone hm (fun p hp => by cases p <;> first | rfl | exact absurd rfl hp) rfl rfl rfl
theorem Keeps.set_md {n : Nat} {s t : State} {v} (hm : 524288 ||| n = n) (h : Keeps n s t) : Keeps n s { t with md := v } :=
  h.one .md hm (fun p hp => by cases p <;> first | rfl | exact absurd rfl hp) rfl rfl rfl
theorem Keeps.set_net {n : Nat} {s t : State} {v} (hm : 1048576 ||| n = n) (h : Keeps n s t) : Keeps n s { t with net := v } :=
  h.one .net hm (fun p hp => by cases p <;> first | rfl | exact absurd rfl hp) rfl rfl rfl
theorem Keeps.set_serve {n : Nat} {s t : State} {v} (hm : 2097152 ||| n = n) (h : Keeps n s t) : Keeps n s { t with serve := v } :=
  h.one .serve hm (fun p hp => by cases p <;> first | rfl | exact absurd rfl hp) rfl rfl rfl
theorem Keeps.set_key {n : Nat} {s t : State} {v} (hm : 4194304 ||| n = n) (h : Keeps n s t) : Keeps n s { t with key := v } :=
  h.one .key hm (fun p hp => by cases p <;> first | rfl | exact absurd rfl hp) rfl rfl rfl
theorem Keeps.set_ten {n : Nat} {s t : State} {v} (hm : 8388608 ||| n = n) (h : Keeps n s t) : Keeps n s { t with ten := v } :=
  h.one .ten hm (fun p hp => by cases p <;> first | rfl | exact absurd rfl hp) rfl rfl rfl
theorem Keeps.set_cell {n : Nat} {s t : State} {v} (hm : 16777216 ||| n = n) (h : Keeps n s t) : Keeps n s { t with cell := v } :=
  h.one .cell hm (fun p hp => by cases p <;> first | rfl | exact absurd rfl hp) rfl rfl rfl
theorem Keeps.set_dram {n : Nat} {s t : State} {v} (hm : 33554432 ||| n = n) (h : Keeps n s t) : Keeps n s { t with dram := v } :=
  h.one .dram hm (fun p hp => by cases p <;> first | rfl | exact absurd rfl hp) rfl rfl rfl
theorem Keeps.set_units {n : Nat} {s t : State} {v} (hm : 67108864 ||| n = n) (h : Keeps n s t) : Keeps n s { t with units := v } :=
  h.one .units hm (fun p hp => by cases p <;> first | rfl | exact absurd rfl hp) rfl rfl rfl
theorem Keeps.set_pair {n : Nat} {s t : State} {v} (hm : 134217728 ||| n = n) (h : Keeps n s t) : Keeps n s { t with pair := v } :=
  h.one .pair hm (fun p hp => by cases p <;> first | rfl | exact absurd rfl hp) rfl rfl rfl

/-- A change of the almanac that keeps its numbers. -/
theorem Keeps.set_alm {n : Nat} {s t : State} {a : AlmState} (hm : 256 ||| n = n)
    (ha : t.alm.Numbered → a.Numbered ∧ t.alm.seq ≤ a.seq) (h : Keeps n s t) : Keeps n s { t with alm := a } := by
  refine h.trans ⟨fun p hb => ?_, id, Nat.le_refl _, ha⟩
  rw [← hm, Nat.testBit_or] at hb
  have hb := (Bool.or_eq_false_iff.mp hb).1
  cases p <;> first | rfl | exact absurd hb (by decide)

/-- The free values move on. -/
theorem Keeps.set_freeCtr {n k : Nat} {s t : State} (hm : 32 ||| n = n) (hk : t.freeCtr ≤ k) (h : Keeps n s t) :
    Keeps n s { t with freeCtr := k } := by
  refine h.trans ⟨fun p hb => ?_, id, hk, fun a => ⟨a, Nat.le_refl _⟩⟩
  rw [← hm, Nat.testBit_or] at hb
  have hb := (Bool.or_eq_false_iff.mp hb).1
  cases p <;> first | rfl | exact absurd hb (by decide)

/-- A change of several parts, the almanac among them. -/
theorem Keeps.changeAlm {n : Nat} {s t u : State} (h : Keeps n s t) (hp : ∀ p : Part, n.testBit p.idx = false → p.same t u)
    (hr : u.regs = t.regs) (hf : u.freeCtr = t.freeCtr)
    (ha : t.alm.Numbered → u.alm.Numbered ∧ t.alm.seq ≤ u.alm.seq) : Keeps n s u :=
  h.trans ⟨hp, fun w => by unfold State.regsWf; rw [hr]; exact w, Nat.le_of_eq hf.symm, ha⟩

/-! ### Results that carry a state -/

/-- A result that may carry a state: where it does, `gt` gives it, and what the operation keeps is kept. -/
structure KeepsIn {ρ : Type} (gt : ρ → Option State) (n : Nat) (s : State) (r : ρ) : Prop where
  keeps : ∀ t, gt r = some t → Keeps n s t

def atOpt : Option State → Option State := id
def atSnd {α : Type} (r : α × State) : Option State := some r.2
def atFst {α : Type} (r : State × α) : Option State := some r.1
def atOptSnd {α : Type} : Option (α × State) → Option State
  | some r => some r.2
  | none => none
def atInl {α β : Type} : (α × State) ⊕ β → Option State
  | .inl r => some r.2
  | .inr _ => none
def atNext : Host.Outcome State Fault Refusal → Option State
  | .next t => some t
  | _ => none
def atOpened : Opened → Option State
  | .ok s => some s
  | .fails _ s => some s
  | .waits s => some s

variable {ρ α : Type} {gt : ρ → Option State} {m n : Nat} {s t u : State} {r r' : ρ}

theorem KeepsIn.get (h : KeepsIn gt n s r) (e : gt r = some t) : Keeps n s t := h.keeps t e

theorem KeepsIn.none (h : gt r = Option.none) : KeepsIn gt n s r := ⟨fun t e => by rw [h] at e; cases e⟩

theorem KeepsIn.leaf (h : gt r = some t) (k : Keeps n s t) : KeepsIn gt n s r := ⟨fun u e => by
  rw [h] at e; cases e; exact k⟩

theorem KeepsIn.step (k : KeepsIn gt m t r) (hm : m ||| n = n) (h : Keeps n s t) : KeepsIn gt n s r :=
  ⟨fun u e => (k.keeps u e).step hm h⟩

theorem KeepsIn.leafOpt (k : Keeps n s t) : KeepsIn atOpt n s (Option.some t) := KeepsIn.leaf rfl k
theorem KeepsIn.leafSnd {x : α} (k : Keeps n s t) : KeepsIn atSnd n s (x, t) := KeepsIn.leaf rfl k
theorem KeepsIn.leafFst {x : α} (k : Keeps n s t) : KeepsIn atFst n s (t, x) := KeepsIn.leaf rfl k
theorem KeepsIn.leafOptSnd {x : α} (k : Keeps n s t) : KeepsIn atOptSnd n s (Option.some (x, t)) := KeepsIn.leaf rfl k
theorem KeepsIn.leafInl {β : Type} {x : α} (k : Keeps n s t) : KeepsIn (ρ := (α × State) ⊕ β) atInl n s (Sum.inl (x, t)) :=
  KeepsIn.leaf rfl k
theorem KeepsIn.leafNext (k : Keeps n s t) : KeepsIn atNext n s (Host.Outcome.next t) := KeepsIn.leaf rfl k
theorem KeepsIn.leafOk (k : Keeps n s t) : KeepsIn atOpened n s (Opened.ok t) := KeepsIn.leaf rfl k
theorem KeepsIn.leafFails {x : Status} (k : Keeps n s t) : KeepsIn atOpened n s (Opened.fails x t) := KeepsIn.leaf rfl k
theorem KeepsIn.leafWaits (k : Keeps n s t) : KeepsIn atOpened n s (Opened.waits t) := KeepsIn.leaf rfl k

theorem KeepsIn.ite {c : Prop} {inst : Decidable c} (ha : KeepsIn gt n s r) (hb : KeepsIn gt n s r') :
    KeepsIn gt n s (@ite ρ c inst r r') := by
  cases inst with
  | isTrue h => exact ha
  | isFalse h => exact hb

theorem KeepsIn.getD {o : Option State} (ho : KeepsIn atOpt n s o) (h : Keeps n s t) : Keeps n s (o.getD t) := by
  cases o with
  | none => exact h
  | some u => exact ho.keeps u rfl

theorem KeepsIn.ofSnd {r : α × State} (h : KeepsIn atSnd n s r) : Keeps n s r.2 := h.keeps _ rfl

theorem KeepsIn.ofFst {r : State × α} (h : KeepsIn atFst n s r) : Keeps n s r.1 := h.keeps _ rfl

theorem KeepsIn.someSnd {r : α × State} (h : KeepsIn atSnd n s r) : KeepsIn atOptSnd n s (some r) :=
  ⟨fun t e => h.keeps t e⟩

theorem KeepsIn.mapOpt {o : Option α} {f : α → State} (h : ∀ x, Keeps n s (f x)) : KeepsIn atOpt n s (o.map f) := by
  cases o with
  | none => exact KeepsIn.none rfl
  | some x => exact KeepsIn.leaf rfl (h x)

theorem KeepsIn.mapOpt' {o : Option (α × State)} {f : α × State → State} (ho : KeepsIn atOptSnd n s o)
    (h : ∀ x, Keeps n s x.2 → Keeps n s (f x)) : KeepsIn atOpt n s (o.map f) := by
  cases o with
  | none => exact KeepsIn.none rfl
  | some x => exact KeepsIn.leaf rfl (h x (ho.keeps _ rfl))

theorem KeepsIn.mapOptSnd {β : Type} {o : Option α} {f : α → β × State} (h : ∀ x, KeepsIn atSnd n s (f x)) :
    KeepsIn atOptSnd n s (o.map f) := by
  cases o with
  | none => exact KeepsIn.none rfl
  | some x => exact KeepsIn.leaf rfl ((h x).keeps _ rfl)

theorem KeepsIn.mapOptSnd' {β : Type} {o : Option (α × State)} {f : α × State → β × State} (ho : KeepsIn atOptSnd n s o)
    (h : ∀ x, Keeps n s x.2 → KeepsIn atSnd n s (f x)) : KeepsIn atOptSnd n s (o.map f) := by
  cases o with
  | none => exact KeepsIn.none rfl
  | some x => exact KeepsIn.leaf rfl ((h x (ho.keeps _ rfl)).keeps _ rfl)

/-- A command's effect keeps what it keeps of the state whose outputs are cleared. -/
theorem KeepsIn.effect {f : State → State} (hm : 16 ||| n = n) (h : Keeps n s t)
    (hf : ∀ u, Keeps n s u → Keeps n s (f u)) : KeepsIn atNext n s (Machine.effect t f) := by
  unfold Machine.effect
  exact KeepsIn.leaf rfl (Keeps.ite (hf _ (Keeps.set_out hm h)) (Keeps.set_out hm h))

end Sys2Proof.Machine
end

