-- ==== Sys2Proof/Laws/KeepsFields.lean ====
section
/-! SUPPORT. What each operation of Machine/Fields.lean keeps (Laws/Frame.lean). -/

namespace Sys2Proof.Machine

theorem State.wr_keeps (s : State) (f : Field) (v : Nat) : Keeps 1 s (State.wr s f v) :=
  ⟨fun p hp => by cases p <;> first | rfl | exact absurd hp (by decide), fun h => mapWf_mapPut h _ _ _, Nat.le_refl _,
   fun h => ⟨h, Nat.le_refl _⟩⟩

theorem State.emit_keeps (s : State) (l : List Out) : Keeps 16 s (State.emit s l) := by
  unfold State.emit
  exact Keeps.set_out rfl (.refl _ _)

theorem State.bump_keeps (s : State) (f : Field) (n : Nat) : Keeps 1 s (State.bump s f n) := by
  unfold State.bump
  exact (State.wr_keeps ..).step rfl (.refl _ _)

theorem State.bumpUnits_keeps (s : State) (f : Field) (unit : Nat) (n : Nat) : Keeps 67108865 s (State.bumpUnits s f unit n) := by
  unfold State.bumpUnits
  extract_lets l1
  exact (State.bump_keeps ..).step rfl (Keeps.set_units rfl (.refl _ _))

theorem State.set_keeps (s : State) (f : Field) (b : Bool) : Keeps 1 s (State.set s f b) := by
  unfold State.set
  exact (State.wr_keeps ..).step rfl (.refl _ _)

end Sys2Proof.Machine
end

