-- ==== Sys2Proof/Laws/KeepsOps.lean ====
section
/-! SUPPORT. What each operation of Machine/Ops.lean keeps (Laws/Frame.lean). -/

namespace Sys2Proof.Machine

theorem State.updKey_keeps (s : State) (f : KeyState → KeyState) : Keeps 4194304 s (State.updKey s f) := by
  unfold State.updKey
  exact Keeps.set_key rfl (.refl _ _)

theorem State.updChart_keeps (s : State) (f : ChartState → ChartState) : Keeps 8192 s (State.updChart s f) := by
  unfold State.updChart
  exact Keeps.set_chart rfl (.refl _ _)

theorem State.updNet_keeps (s : State) (f : NetState → NetState) : Keeps 1048576 s (State.updNet s f) := by
  unfold State.updNet
  exact Keeps.set_net rfl (.refl _ _)

theorem State.nextFree_keeps (s : State) : Keeps 32 s (State.nextFree s) := by
  unfold State.nextFree
  exact Keeps.set_freeCtr rfl (Nat.le_add_right ..) (.refl _ _)

theorem State.updDram_keeps (s : State) (f : DramState → DramState) : Keeps 33554432 s (State.updDram s f) := by
  unfold State.updDram
  exact Keeps.set_dram rfl (.refl _ _)

theorem State.resetBlock_keeps (s : State) (lo : Nat) (hi : Nat) : Keeps 7 s (State.resetBlock s lo hi) :=
  ⟨fun p hp => by cases p <;> first | rfl | exact absurd hp (by decide), fun h => mapWf_filter h _, Nat.le_refl _,
   fun h => ⟨h, Nat.le_refl _⟩⟩

theorem State.updServe_keeps (s : State) (f : ServeState → ServeState) : Keeps 2097152 s (State.updServe s f) := by
  unfold State.updServe
  exact Keeps.set_serve rfl (.refl _ _)

theorem State.updCell_keeps (s : State) (f : CellState → CellState) : Keeps 16777216 s (State.updCell s f) := by
  unfold State.updCell
  exact Keeps.set_cell rfl (.refl _ _)

theorem State.updMd_keeps (s : State) (f : MediaState → MediaState) : Keeps 524288 s (State.updMd s f) := by
  unfold State.updMd
  exact Keeps.set_md rfl (.refl _ _)

theorem State.suppressed_keeps (s : State) (n : Nat) : Keeps 129 s (State.suppressed s n) := by
  unfold State.suppressed
  exact (State.wr_keeps ..).step rfl (Keeps.set_evt rfl (.refl _ _))

theorem State.updWp_keeps (s : State) (f : WriteState → WriteState) : Keeps 131072 s (State.updWp s f) := by
  unfold State.updWp
  exact Keeps.set_wp rfl (.refl _ _)

theorem State.updTime_keeps (s : State) (f : TimeState → TimeState) : Keeps 64 s (State.updTime s f) := by
  unfold State.updTime
  exact Keeps.set_time rfl (.refl _ _)

/-- A change of the almanac keeps it numbered where it numbers the records as before or by the next number. -/
theorem State.updAlm_keeps {s : State} {f : AlmState → AlmState}
    (hf : s.alm.Numbered → (f s.alm).Numbered ∧ s.alm.seq ≤ (f s.alm).seq) : Keeps 256 s (State.updAlm s f) :=
  ⟨fun p hp => by cases p <;> first | rfl | exact absurd hp (by decide), id, Nat.le_refl _, hf⟩

/-- A record that is entered takes the next number. -/
theorem AlmState.push_numbered {a : AlmState} (h : a.Numbered) (r : AlmRec) :
    (a.push r).Numbered ∧ a.seq ≤ (a.push r).seq := by
  obtain ⟨h1, h2, h3⟩ := h
  refine ⟨⟨?_, ?_, ?_⟩, Nat.le_succ _⟩
  · simp only [AlmState.push]
    split <;> omega
  · simp only [AlmState.push, List.cons_append, List.map_cons]
    refine List.pairwise_cons.mpr ⟨?_, h2⟩
    intro x hx
    obtain ⟨y, hy, rfl⟩ := List.mem_map.mp hx
    exact Nat.lt_succ_of_le (h3 y hy)
  · intro x hx
    simp only [AlmState.push, List.cons_append] at hx ⊢
    rcases List.mem_cons.mp hx with rfl | hx
    · exact Nat.le_refl _
    · exact Nat.le_succ_of_le (h3 x hx)

theorem AlmState.pushAll_numbered (l : List AlmRec) :
    ∀ {a : AlmState}, a.Numbered → (l.foldl AlmState.push a).Numbered ∧ a.seq ≤ (l.foldl AlmState.push a).seq := by
  induction l with
  | nil => exact fun h => ⟨h, Nat.le_refl _⟩
  | cons x l ih =>
    intro a h
    have p := AlmState.push_numbered h x
    exact ⟨(ih p.1).1, Nat.le_trans p.2 (ih p.1).2⟩

/-- Fewer unflushed records are as well numbered. -/
theorem AlmState.Numbered.fewer {a : AlmState} (h : a.Numbered) {l k : List AlmRec} (hl : (l ++ k).Sublist (a.ring ++ a.flash)) :
    AlmState.Numbered { a with ring := l, flash := k } :=
  ⟨h.1, h.2.1.sublist (hl.map _), fun r hr => h.2.2 r (hl.subset hr)⟩

/-- What an occurrence does to the almanac keeps it numbered. -/
theorem State.almNext_numbered (s : State) (n : Nat) (detail : List Int) (cause : Nat) (h : s.alm.Numbered) :
    (s.almNext n detail cause).Numbered ∧ s.alm.seq ≤ (s.almNext n detail cause).seq := by
  unfold State.almNext
  extract_lets a r
  split
  · split
    · exact ⟨h, Nat.le_refl _⟩
    · exact ⟨h, Nat.le_refl _⟩
  · split
    · rename_i hd t hring
      have hring : s.alm.ring = hd :: t := hring
      split
      · refine ⟨⟨h.1, ?_, ?_⟩, Nat.le_refl _⟩
        · have := h.2.1
          simp only [a, hring] at this ⊢
          exact this
        · intro x hx
          rcases List.mem_append.mp hx with hx | hx
          · rcases List.mem_cons.mp hx with rfl | hx
            · exact h.2.2 hd (by simp [hring])
            · exact h.2.2 x (by simp [hring, hx])
          · exact h.2.2 x (List.mem_append.mpr (.inr hx))
      · split
        · exact AlmState.push_numbered h r
        · split
          · have hs : ((hd :: t).dropLast ++ a.flash).Sublist (a.ring ++ a.flash) := by
              rw [hring]
              exact (List.dropLast_sublist _).append_right _
            exact AlmState.push_numbered (h.fewer hs) r
          · exact ⟨h, Nat.le_refl _⟩
    · exact AlmState.push_numbered h r

theorem State.updPower_keeps (s : State) (f : PowerState → PowerState) : Keeps 4096 s (State.updPower s f) := by
  unfold State.updPower
  exact Keeps.set_power rfl (.refl _ _)

theorem State.updJr_keeps (s : State) (f : Journal → Journal) : Keeps 65536 s (State.updJr s f) := by
  unfold State.updJr
  exact Keeps.set_jr rfl (.refl _ _)

theorem State.unlocked_keeps {n₀ : Nat} {s₀ : State} {s : State} {given : Nat} {want : Nat} {f : State → State} (hm : 1 ||| n₀ = n₀) (h₀ : Keeps n₀ s₀ s) (hf : ∀ v0, Keeps n₀ s₀ v0 → Keeps n₀ s₀ (f v0)) : Keeps n₀ s₀ (State.unlocked s given want f) := by
  unfold State.unlocked
  refine Keeps.ite ?_ ?_
  · exact hf _ h₀
  · exact (State.bump_keeps ..).step (Keeps.sub rfl hm) h₀

theorem State.updPair_keeps (s : State) (f : PairState → PairState) : Keeps 134217728 s (State.updPair s f) := by
  unfold State.updPair
  exact Keeps.set_pair rfl (.refl _ _)

theorem State.updBoot_keeps (s : State) (f : BootState → BootState) : Keeps 16384 s (State.updBoot s f) := by
  unfold State.updBoot
  exact Keeps.set_boot rfl (.refl _ _)

theorem State.modCmd_keeps (s : State) (r : CmdRef) (f : Cmd → Cmd) : Keeps 1024 s (State.modCmd s r f) := by
  unfold State.modCmd
  exact Keeps.set_q rfl (.refl _ _)

theorem State.updQ_keeps (s : State) (f : QueueState → QueueState) : Keeps 1024 s (State.updQ s f) := by
  unfold State.updQ
  exact Keeps.set_q rfl (.refl _ _)

theorem State.modCtrl_keeps (s : State) (owner : Nat) (f : Ctrl → Ctrl) : Keeps 2048 s (State.modCtrl s owner f) := by
  unfold State.modCtrl
  exact Keeps.set_host rfl (.refl _ _)

theorem State.updZone_keeps (s : State) (f : ZoneState → ZoneState) : Keeps 262144 s (State.updZone s f) := by
  unfold State.updZone
  exact Keeps.set_zone rfl (.refl _ _)

theorem State.msix_keeps (s : State) (owner : Nat) (v : Nat) : Keeps 2064 s (State.msix s owner v) := by
  unfold State.msix
  extract_lets l1
  refine Keeps.ite ?_ ?_
  · refine Keeps.ite ?_ ?_
    · exact .refl _ _
    · exact (State.modCtrl_keeps ..).step rfl (.refl _ _)
  · exact (State.emit_keeps ..).step rfl (.refl _ _)

theorem State.modCtx_keeps (s : State) (owner : Nat) (qid : Nat) (f : QCtx → QCtx) : Keeps 1024 s (State.modCtx s owner qid f) := by
  unfold State.modCtx
  exact Keeps.set_q rfl (.refl _ _)

theorem State.updTen_keeps (s : State) (f : TenantState → TenantState) : Keeps 8388608 s (State.updTen s f) := by
  unfold State.updTen
  exact Keeps.set_ten rfl (.refl _ _)

theorem State.firstError_keeps (s : State) (valid : Field) (fields : List (Field × Nat)) : Keeps 1 s (State.firstError s valid fields) := by
  unfold State.firstError
  refine Keeps.ite ?_ ?_
  · exact .refl _ _
  · refine (State.set_keeps ..).step rfl ?_
    refine Keeps.foldl ?_ _ ?_
    · intro u1 _ hu1
      exact (State.wr_keeps ..).step rfl hu1
    · exact .refl _ _

theorem effect_keeps {n₀ : Nat} {s₀ : State} {s : State} {f : State → State} (hm : 16 ||| n₀ = n₀) (h₀ : Keeps n₀ s₀ s) (hf : ∀ v0, Keeps n₀ s₀ v0 → Keeps n₀ s₀ (f v0)) : KeepsIn atNext n₀ s₀ (effect s f) := by
  unfold effect
  refine KeepsIn.leafNext ?_
  refine Keeps.ite ?_ ?_
  · exact hf _ (Keeps.set_out (Keeps.sub rfl hm) h₀)
  · exact Keeps.set_out (Keeps.sub rfl hm) h₀

theorem State.finish_keeps (s : State) (r : CmdRef) (st : Status) (dw0 : Nat) (dw1 : Nat) : Keeps 1024 s (State.finish s r st dw0 dw1) := by
  unfold State.finish
  exact (State.modCmd_keeps ..).step rfl (.refl _ _)

theorem State.hold_keeps (s : State) (r : CmdRef) (why : Nat) : Keeps 1024 s (State.hold s r why) := by
  unfold State.hold
  exact (State.modCmd_keeps ..).step rfl (.refl _ _)

theorem State.deliver_keeps (s : State) (n : Nat) : Keeps 2065 s (State.deliver s n) := by
  unfold State.deliver
  extract_lets l1 l2 l3 l4
  have kl1 : Keeps 2065 s l1 := by
    unfold l1
    refine Keeps.ite ?_ ?_
    · exact (State.emit_keeps ..).step rfl (.refl _ _)
    · exact .refl _ _
  have kl4 : Keeps 2065 s l4 := (State.wr_keeps ..).step rfl kl1
  refine Keeps.ite ?_ ?_
  · refine Keeps.ite ?_ ?_
    · exact kl1
    · split
      · exact (State.msix_keeps ..).step rfl kl4
      · exact kl4
  · exact kl1

theorem State.aen_keeps (s : State) (owner : Nat) (kind : Nat) (info : Nat) (page : Nat) : Keeps 3088 s (State.aen s owner kind info page) := by
  unfold State.aen
  extract_lets l1
  split
  · refine Keeps.ite ?_ ?_
    · exact (State.modCtrl_keeps ..).step rfl (.refl _ _)
    · extract_lets l2
      have kl2 : Keeps 3088 s l2 := (State.modCtrl_keeps ..).step rfl (.refl _ _)
      exact (State.emit_keeps ..).step rfl ((State.finish_keeps ..).step rfl kl2)
  · exact (State.modCtrl_keeps ..).step rfl (.refl _ _)

theorem State.occurs_keeps (s : State) (n : Nat) (detail : List Int) (cause : Nat) : Keeps 2449 s (State.occurs s n detail cause) := by
  unfold State.occurs
  extract_lets full t l1
  have kt : Keeps 2449 s t := by
    refine (Keeps.refl _ _).trans ⟨fun p hp => ?_, id, Nat.le_refl _, s.almNext_numbered n detail cause⟩
    cases p <;> first | rfl | exact absurd hp (by decide)
  have kl1 : Keeps 2449 s l1 := by
    refine Keeps.ite ?_ kt
    refine Keeps.ite ?_ ?_
    · exact (State.bump_keeps ..).step rfl kt
    · exact (State.bump_keeps ..).step rfl kt
  exact (State.deliver_keeps ..).step rfl ((State.wr_keeps ..).step rfl kl1)

theorem State.event_keeps (s : State) (n : Nat) (detail : List Int) (cause : Nat) : Keeps 2449 s (State.event s n detail cause) := by
  unfold State.event
  extract_lets l1
  have kl1 : Keeps 2449 s l1 := by
    unfold l1
    refine Keeps.ite ?_ ?_
    · exact (State.occurs_keeps ..).step rfl ((State.updAlm_keeps (hf := fun h => ⟨h, Nat.le_refl _⟩)).step rfl (.refl _ _))
    · exact .refl _ _
  exact (State.occurs_keeps ..).step rfl kl1

theorem State.aenClear_keeps (s : State) (owner : Nat) (key : Nat) : Keeps 3088 s (State.aenClear s owner key) := by
  unfold State.aenClear
  extract_lets l1
  have kl1 : Keeps 3088 s l1 := (State.modCtrl_keeps ..).step rfl (.refl _ _)
  split
  · refine Keeps.ite ?_ ?_
    · exact kl1
    · extract_lets l2
      have kl2 : Keeps 3088 s l2 := (State.modCtrl_keeps ..).step rfl kl1
      exact (State.aen_keeps ..).step rfl kl2
  · exact kl1

theorem State.eventPerMeridian_keeps (s : State) (n : Nat) (key : Nat) (detail : List Int) : Keeps 2449 s (State.eventPerMeridian s n key detail) := by
  unfold State.eventPerMeridian
  extract_lets l1 l2 l3
  have kl2 : Keeps 2449 s l2 := (State.event_keeps ..).step rfl (.refl _ _)
  refine Keeps.ite ?_ ?_
  · exact (State.suppressed_keeps ..).step rfl (.refl _ _)
  · exact Keeps.set_evt rfl kl2

theorem State.eventPer_keeps (s : State) (n : Nat) (key : Nat) (period : Nat) (detail : List Int) : Keeps 2449 s (State.eventPer s n key period detail) := by
  unfold State.eventPer
  extract_lets l1 l2 l3
  have kl2 : Keeps 2449 s l2 := (State.event_keeps ..).step rfl (.refl _ _)
  split
  · refine Keeps.ite ?_ ?_
    · exact (State.suppressed_keeps ..).step rfl (.refl _ _)
    · exact Keeps.set_evt rfl kl2
  · exact Keeps.set_evt rfl kl2

theorem State.fatal_keeps (s : State) (owner : Nat) : Keeps 2449 s (State.fatal s owner) := by
  unfold State.fatal
  exact (State.event_keeps ..).step rfl ((State.modCtrl_keeps ..).step rfl (.refl _ _))

end Sys2Proof.Machine
end

