-- ==== Sys2Proof/Laws/State.lean ====
section
/-! SUPPORT. What each shared operation leaves of each part of the state: one lemma for each part, so that no proof unfolds an
update of the state. -/

namespace Sys2Proof.Machine

/-! ### State.wr -/

@[simp] theorem State.wr_latch (s : State) (f : Field) (v : Nat) : (s.wr f v).latch = s.latch := rfl
@[simp] theorem State.wr_loWrite (s : State) (f : Field) (v : Nat) : (s.wr f v).loWrite = s.loWrite := rfl
@[simp] theorem State.wr_pending (s : State) (f : Field) (v : Nat) : (s.wr f v).pending = s.pending := rfl
@[simp] theorem State.wr_out (s : State) (f : Field) (v : Nat) : (s.wr f v).out = s.out := rfl
@[simp] theorem State.wr_freeCtr (s : State) (f : Field) (v : Nat) : (s.wr f v).freeCtr = s.freeCtr := rfl
@[simp] theorem State.wr_time (s : State) (f : Field) (v : Nat) : (s.wr f v).time = s.time := rfl
@[simp] theorem State.wr_evt (s : State) (f : Field) (v : Nat) : (s.wr f v).evt = s.evt := rfl
@[simp] theorem State.wr_alm (s : State) (f : Field) (v : Nat) : (s.wr f v).alm = s.alm := rfl
@[simp] theorem State.wr_mbx (s : State) (f : Field) (v : Nat) : (s.wr f v).mbx = s.mbx := rfl
@[simp] theorem State.wr_q (s : State) (f : Field) (v : Nat) : (s.wr f v).q = s.q := rfl
@[simp] theorem State.wr_host (s : State) (f : Field) (v : Nat) : (s.wr f v).host = s.host := rfl
@[simp] theorem State.wr_power (s : State) (f : Field) (v : Nat) : (s.wr f v).power = s.power := rfl
@[simp] theorem State.wr_chart (s : State) (f : Field) (v : Nat) : (s.wr f v).chart = s.chart := rfl
@[simp] theorem State.wr_boot (s : State) (f : Field) (v : Nat) : (s.wr f v).boot = s.boot := rfl
@[simp] theorem State.wr_nv (s : State) (f : Field) (v : Nat) : (s.wr f v).nv = s.nv := rfl
@[simp] theorem State.wr_jr (s : State) (f : Field) (v : Nat) : (s.wr f v).jr = s.jr := rfl
@[simp] theorem State.wr_wp (s : State) (f : Field) (v : Nat) : (s.wr f v).wp = s.wp := rfl
@[simp] theorem State.wr_zone (s : State) (f : Field) (v : Nat) : (s.wr f v).zone = s.zone := rfl
@[simp] theorem State.wr_md (s : State) (f : Field) (v : Nat) : (s.wr f v).md = s.md := rfl
@[simp] theorem State.wr_net (s : State) (f : Field) (v : Nat) : (s.wr f v).net = s.net := rfl
@[simp] theorem State.wr_serve (s : State) (f : Field) (v : Nat) : (s.wr f v).serve = s.serve := rfl
@[simp] theorem State.wr_key (s : State) (f : Field) (v : Nat) : (s.wr f v).key = s.key := rfl
@[simp] theorem State.wr_ten (s : State) (f : Field) (v : Nat) : (s.wr f v).ten = s.ten := rfl
@[simp] theorem State.wr_cell (s : State) (f : Field) (v : Nat) : (s.wr f v).cell = s.cell := rfl
@[simp] theorem State.wr_dram (s : State) (f : Field) (v : Nat) : (s.wr f v).dram = s.dram := rfl
@[simp] theorem State.wr_units (s : State) (f : Field) (v : Nat) : (s.wr f v).units = s.units := rfl
@[simp] theorem State.wr_pair (s : State) (f : Field) (v : Nat) : (s.wr f v).pair = s.pair := rfl

/-! ### State.set -/

@[simp] theorem State.set_latch (s : State) (f : Field) (b : Bool) : (s.set f b).latch = s.latch := rfl
@[simp] theorem State.set_loWrite (s : State) (f : Field) (b : Bool) : (s.set f b).loWrite = s.loWrite := rfl
@[simp] theorem State.set_pending (s : State) (f : Field) (b : Bool) : (s.set f b).pending = s.pending := rfl
@[simp] theorem State.set_out (s : State) (f : Field) (b : Bool) : (s.set f b).out = s.out := rfl
@[simp] theorem State.set_freeCtr (s : State) (f : Field) (b : Bool) : (s.set f b).freeCtr = s.freeCtr := rfl
@[simp] theorem State.set_time (s : State) (f : Field) (b : Bool) : (s.set f b).time = s.time := rfl
@[simp] theorem State.set_evt (s : State) (f : Field) (b : Bool) : (s.set f b).evt = s.evt := rfl
@[simp] theorem State.set_alm (s : State) (f : Field) (b : Bool) : (s.set f b).alm = s.alm := rfl
@[simp] theorem State.set_mbx (s : State) (f : Field) (b : Bool) : (s.set f b).mbx = s.mbx := rfl
@[simp] theorem State.set_q (s : State) (f : Field) (b : Bool) : (s.set f b).q = s.q := rfl
@[simp] theorem State.set_host (s : State) (f : Field) (b : Bool) : (s.set f b).host = s.host := rfl
@[simp] theorem State.set_power (s : State) (f : Field) (b : Bool) : (s.set f b).power = s.power := rfl
@[simp] theorem State.set_chart (s : State) (f : Field) (b : Bool) : (s.set f b).chart = s.chart := rfl
@[simp] theorem State.set_boot (s : State) (f : Field) (b : Bool) : (s.set f b).boot = s.boot := rfl
@[simp] theorem State.set_nv (s : State) (f : Field) (b : Bool) : (s.set f b).nv = s.nv := rfl
@[simp] theorem State.set_jr (s : State) (f : Field) (b : Bool) : (s.set f b).jr = s.jr := rfl
@[simp] theorem State.set_wp (s : State) (f : Field) (b : Bool) : (s.set f b).wp = s.wp := rfl
@[simp] theorem State.set_zone (s : State) (f : Field) (b : Bool) : (s.set f b).zone = s.zone := rfl
@[simp] theorem State.set_md (s : State) (f : Field) (b : Bool) : (s.set f b).md = s.md := rfl
@[simp] theorem State.set_net (s : State) (f : Field) (b : Bool) : (s.set f b).net = s.net := rfl
@[simp] theorem State.set_serve (s : State) (f : Field) (b : Bool) : (s.set f b).serve = s.serve := rfl
@[simp] theorem State.set_key (s : State) (f : Field) (b : Bool) : (s.set f b).key = s.key := rfl
@[simp] theorem State.set_ten (s : State) (f : Field) (b : Bool) : (s.set f b).ten = s.ten := rfl
@[simp] theorem State.set_cell (s : State) (f : Field) (b : Bool) : (s.set f b).cell = s.cell := rfl
@[simp] theorem State.set_dram (s : State) (f : Field) (b : Bool) : (s.set f b).dram = s.dram := rfl
@[simp] theorem State.set_units (s : State) (f : Field) (b : Bool) : (s.set f b).units = s.units := rfl
@[simp] theorem State.set_pair (s : State) (f : Field) (b : Bool) : (s.set f b).pair = s.pair := rfl

/-! ### State.bump -/

@[simp] theorem State.bump_latch (s : State) (f : Field) (n : Nat) : (s.bump f n).latch = s.latch := rfl
@[simp] theorem State.bump_loWrite (s : State) (f : Field) (n : Nat) : (s.bump f n).loWrite = s.loWrite := rfl
@[simp] theorem State.bump_pending (s : State) (f : Field) (n : Nat) : (s.bump f n).pending = s.pending := rfl
@[simp] theorem State.bump_out (s : State) (f : Field) (n : Nat) : (s.bump f n).out = s.out := rfl
@[simp] theorem State.bump_freeCtr (s : State) (f : Field) (n : Nat) : (s.bump f n).freeCtr = s.freeCtr := rfl
@[simp] theorem State.bump_time (s : State) (f : Field) (n : Nat) : (s.bump f n).time = s.time := rfl
@[simp] theorem State.bump_evt (s : State) (f : Field) (n : Nat) : (s.bump f n).evt = s.evt := rfl
@[simp] theorem State.bump_alm (s : State) (f : Field) (n : Nat) : (s.bump f n).alm = s.alm := rfl
@[simp] theorem State.bump_mbx (s : State) (f : Field) (n : Nat) : (s.bump f n).mbx = s.mbx := rfl
@[simp] theorem State.bump_q (s : State) (f : Field) (n : Nat) : (s.bump f n).q = s.q := rfl
@[simp] theorem State.bump_host (s : State) (f : Field) (n : Nat) : (s.bump f n).host = s.host := rfl
@[simp] theorem State.bump_power (s : State) (f : Field) (n : Nat) : (s.bump f n).power = s.power := rfl
@[simp] theorem State.bump_chart (s : State) (f : Field) (n : Nat) : (s.bump f n).chart = s.chart := rfl
@[simp] theorem State.bump_boot (s : State) (f : Field) (n : Nat) : (s.bump f n).boot = s.boot := rfl
@[simp] theorem State.bump_nv (s : State) (f : Field) (n : Nat) : (s.bump f n).nv = s.nv := rfl
@[simp] theorem State.bump_jr (s : State) (f : Field) (n : Nat) : (s.bump f n).jr = s.jr := rfl
@[simp] theorem State.bump_wp (s : State) (f : Field) (n : Nat) : (s.bump f n).wp = s.wp := rfl
@[simp] theorem State.bump_zone (s : State) (f : Field) (n : Nat) : (s.bump f n).zone = s.zone := rfl
@[simp] theorem State.bump_md (s : State) (f : Field) (n : Nat) : (s.bump f n).md = s.md := rfl
@[simp] theorem State.bump_net (s : State) (f : Field) (n : Nat) : (s.bump f n).net = s.net := rfl
@[simp] theorem State.bump_serve (s : State) (f : Field) (n : Nat) : (s.bump f n).serve = s.serve := rfl
@[simp] theorem State.bump_key (s : State) (f : Field) (n : Nat) : (s.bump f n).key = s.key := rfl
@[simp] theorem State.bump_ten (s : State) (f : Field) (n : Nat) : (s.bump f n).ten = s.ten := rfl
@[simp] theorem State.bump_cell (s : State) (f : Field) (n : Nat) : (s.bump f n).cell = s.cell := rfl
@[simp] theorem State.bump_dram (s : State) (f : Field) (n : Nat) : (s.bump f n).dram = s.dram := rfl
@[simp] theorem State.bump_units (s : State) (f : Field) (n : Nat) : (s.bump f n).units = s.units := rfl
@[simp] theorem State.bump_pair (s : State) (f : Field) (n : Nat) : (s.bump f n).pair = s.pair := rfl

/-! ### State.bumpUnits -/

@[simp] theorem State.bumpUnits_latch (s : State) (f : Field) (u n : Nat) : (s.bumpUnits f u n).latch = s.latch := rfl
@[simp] theorem State.bumpUnits_loWrite (s : State) (f : Field) (u n : Nat) : (s.bumpUnits f u n).loWrite = s.loWrite := rfl
@[simp] theorem State.bumpUnits_pending (s : State) (f : Field) (u n : Nat) : (s.bumpUnits f u n).pending = s.pending := rfl
@[simp] theorem State.bumpUnits_out (s : State) (f : Field) (u n : Nat) : (s.bumpUnits f u n).out = s.out := rfl
@[simp] theorem State.bumpUnits_freeCtr (s : State) (f : Field) (u n : Nat) : (s.bumpUnits f u n).freeCtr = s.freeCtr := rfl
@[simp] theorem State.bumpUnits_time (s : State) (f : Field) (u n : Nat) : (s.bumpUnits f u n).time = s.time := rfl
@[simp] theorem State.bumpUnits_evt (s : State) (f : Field) (u n : Nat) : (s.bumpUnits f u n).evt = s.evt := rfl
@[simp] theorem State.bumpUnits_alm (s : State) (f : Field) (u n : Nat) : (s.bumpUnits f u n).alm = s.alm := rfl
@[simp] theorem State.bumpUnits_mbx (s : State) (f : Field) (u n : Nat) : (s.bumpUnits f u n).mbx = s.mbx := rfl
@[simp] theorem State.bumpUnits_q (s : State) (f : Field) (u n : Nat) : (s.bumpUnits f u n).q = s.q := rfl
@[simp] theorem State.bumpUnits_host (s : State) (f : Field) (u n : Nat) : (s.bumpUnits f u n).host = s.host := rfl
@[simp] theorem State.bumpUnits_power (s : State) (f : Field) (u n : Nat) : (s.bumpUnits f u n).power = s.power := rfl
@[simp] theorem State.bumpUnits_chart (s : State) (f : Field) (u n : Nat) : (s.bumpUnits f u n).chart = s.chart := rfl
@[simp] theorem State.bumpUnits_boot (s : State) (f : Field) (u n : Nat) : (s.bumpUnits f u n).boot = s.boot := rfl
@[simp] theorem State.bumpUnits_nv (s : State) (f : Field) (u n : Nat) : (s.bumpUnits f u n).nv = s.nv := rfl
@[simp] theorem State.bumpUnits_jr (s : State) (f : Field) (u n : Nat) : (s.bumpUnits f u n).jr = s.jr := rfl
@[simp] theorem State.bumpUnits_wp (s : State) (f : Field) (u n : Nat) : (s.bumpUnits f u n).wp = s.wp := rfl
@[simp] theorem State.bumpUnits_zone (s : State) (f : Field) (u n : Nat) : (s.bumpUnits f u n).zone = s.zone := rfl
@[simp] theorem State.bumpUnits_md (s : State) (f : Field) (u n : Nat) : (s.bumpUnits f u n).md = s.md := rfl
@[simp] theorem State.bumpUnits_net (s : State) (f : Field) (u n : Nat) : (s.bumpUnits f u n).net = s.net := rfl
@[simp] theorem State.bumpUnits_serve (s : State) (f : Field) (u n : Nat) : (s.bumpUnits f u n).serve = s.serve := rfl
@[simp] theorem State.bumpUnits_key (s : State) (f : Field) (u n : Nat) : (s.bumpUnits f u n).key = s.key := rfl
@[simp] theorem State.bumpUnits_ten (s : State) (f : Field) (u n : Nat) : (s.bumpUnits f u n).ten = s.ten := rfl
@[simp] theorem State.bumpUnits_cell (s : State) (f : Field) (u n : Nat) : (s.bumpUnits f u n).cell = s.cell := rfl
@[simp] theorem State.bumpUnits_dram (s : State) (f : Field) (u n : Nat) : (s.bumpUnits f u n).dram = s.dram := rfl
@[simp] theorem State.bumpUnits_pair (s : State) (f : Field) (u n : Nat) : (s.bumpUnits f u n).pair = s.pair := rfl

/-! ### State.emit -/

@[simp] theorem State.emit_regs (s : State) (l : List Out) : (s.emit l).regs = s.regs := rfl
@[simp] theorem State.emit_latch (s : State) (l : List Out) : (s.emit l).latch = s.latch := rfl
@[simp] theorem State.emit_loWrite (s : State) (l : List Out) : (s.emit l).loWrite = s.loWrite := rfl
@[simp] theorem State.emit_pending (s : State) (l : List Out) : (s.emit l).pending = s.pending := rfl
@[simp] theorem State.emit_out (s : State) (l : List Out) : (s.emit l).out = s.out ++ l := rfl
@[simp] theorem State.emit_freeCtr (s : State) (l : List Out) : (s.emit l).freeCtr = s.freeCtr := rfl
@[simp] theorem State.emit_time (s : State) (l : List Out) : (s.emit l).time = s.time := rfl
@[simp] theorem State.emit_evt (s : State) (l : List Out) : (s.emit l).evt = s.evt := rfl
@[simp] theorem State.emit_alm (s : State) (l : List Out) : (s.emit l).alm = s.alm := rfl
@[simp] theorem State.emit_mbx (s : State) (l : List Out) : (s.emit l).mbx = s.mbx := rfl
@[simp] theorem State.emit_q (s : State) (l : List Out) : (s.emit l).q = s.q := rfl
@[simp] theorem State.emit_host (s : State) (l : List Out) : (s.emit l).host = s.host := rfl
@[simp] theorem State.emit_power (s : State) (l : List Out) : (s.emit l).power = s.power := rfl
@[simp] theorem State.emit_chart (s : State) (l : List Out) : (s.emit l).chart = s.chart := rfl
@[simp] theorem State.emit_boot (s : State) (l : List Out) : (s.emit l).boot = s.boot := rfl
@[simp] theorem State.emit_nv (s : State) (l : List Out) : (s.emit l).nv = s.nv := rfl
@[simp] theorem State.emit_jr (s : State) (l : List Out) : (s.emit l).jr = s.jr := rfl
@[simp] theorem State.emit_wp (s : State) (l : List Out) : (s.emit l).wp = s.wp := rfl
@[simp] theorem State.emit_zone (s : State) (l : List Out) : (s.emit l).zone = s.zone := rfl
@[simp] theorem State.emit_md (s : State) (l : List Out) : (s.emit l).md = s.md := rfl
@[simp] theorem State.emit_net (s : State) (l : List Out) : (s.emit l).net = s.net := rfl
@[simp] theorem State.emit_serve (s : State) (l : List Out) : (s.emit l).serve = s.serve := rfl
@[simp] theorem State.emit_key (s : State) (l : List Out) : (s.emit l).key = s.key := rfl
@[simp] theorem State.emit_ten (s : State) (l : List Out) : (s.emit l).ten = s.ten := rfl
@[simp] theorem State.emit_cell (s : State) (l : List Out) : (s.emit l).cell = s.cell := rfl
@[simp] theorem State.emit_dram (s : State) (l : List Out) : (s.emit l).dram = s.dram := rfl
@[simp] theorem State.emit_units (s : State) (l : List Out) : (s.emit l).units = s.units := rfl
@[simp] theorem State.emit_pair (s : State) (l : List Out) : (s.emit l).pair = s.pair := rfl

/-! ### State.modCtrl -/

@[simp] theorem State.modCtrl_regs (s : State) (o : Nat) (f : Ctrl → Ctrl) : (s.modCtrl o f).regs = s.regs := rfl
@[simp] theorem State.modCtrl_latch (s : State) (o : Nat) (f : Ctrl → Ctrl) : (s.modCtrl o f).latch = s.latch := rfl
@[simp] theorem State.modCtrl_loWrite (s : State) (o : Nat) (f : Ctrl → Ctrl) : (s.modCtrl o f).loWrite = s.loWrite := rfl
@[simp] theorem State.modCtrl_pending (s : State) (o : Nat) (f : Ctrl → Ctrl) : (s.modCtrl o f).pending = s.pending := rfl
@[simp] theorem State.modCtrl_out (s : State) (o : Nat) (f : Ctrl → Ctrl) : (s.modCtrl o f).out = s.out := rfl
@[simp] theorem State.modCtrl_freeCtr (s : State) (o : Nat) (f : Ctrl → Ctrl) : (s.modCtrl o f).freeCtr = s.freeCtr := rfl
@[simp] theorem State.modCtrl_time (s : State) (o : Nat) (f : Ctrl → Ctrl) : (s.modCtrl o f).time = s.time := rfl
@[simp] theorem State.modCtrl_evt (s : State) (o : Nat) (f : Ctrl → Ctrl) : (s.modCtrl o f).evt = s.evt := rfl
@[simp] theorem State.modCtrl_alm (s : State) (o : Nat) (f : Ctrl → Ctrl) : (s.modCtrl o f).alm = s.alm := rfl
@[simp] theorem State.modCtrl_mbx (s : State) (o : Nat) (f : Ctrl → Ctrl) : (s.modCtrl o f).mbx = s.mbx := rfl
@[simp] theorem State.modCtrl_q (s : State) (o : Nat) (f : Ctrl → Ctrl) : (s.modCtrl o f).q = s.q := rfl
@[simp] theorem State.modCtrl_power (s : State) (o : Nat) (f : Ctrl → Ctrl) : (s.modCtrl o f).power = s.power := rfl
@[simp] theorem State.modCtrl_chart (s : State) (o : Nat) (f : Ctrl → Ctrl) : (s.modCtrl o f).chart = s.chart := rfl
@[simp] theorem State.modCtrl_boot (s : State) (o : Nat) (f : Ctrl → Ctrl) : (s.modCtrl o f).boot = s.boot := rfl
@[simp] theorem State.modCtrl_nv (s : State) (o : Nat) (f : Ctrl → Ctrl) : (s.modCtrl o f).nv = s.nv := rfl
@[simp] theorem State.modCtrl_jr (s : State) (o : Nat) (f : Ctrl → Ctrl) : (s.modCtrl o f).jr = s.jr := rfl
@[simp] theorem State.modCtrl_wp (s : State) (o : Nat) (f : Ctrl → Ctrl) : (s.modCtrl o f).wp = s.wp := rfl
@[simp] theorem State.modCtrl_zone (s : State) (o : Nat) (f : Ctrl → Ctrl) : (s.modCtrl o f).zone = s.zone := rfl
@[simp] theorem State.modCtrl_md (s : State) (o : Nat) (f : Ctrl → Ctrl) : (s.modCtrl o f).md = s.md := rfl
@[simp] theorem State.modCtrl_net (s : State) (o : Nat) (f : Ctrl → Ctrl) : (s.modCtrl o f).net = s.net := rfl
@[simp] theorem State.modCtrl_serve (s : State) (o : Nat) (f : Ctrl → Ctrl) : (s.modCtrl o f).serve = s.serve := rfl
@[simp] theorem State.modCtrl_key (s : State) (o : Nat) (f : Ctrl → Ctrl) : (s.modCtrl o f).key = s.key := rfl
@[simp] theorem State.modCtrl_ten (s : State) (o : Nat) (f : Ctrl → Ctrl) : (s.modCtrl o f).ten = s.ten := rfl
@[simp] theorem State.modCtrl_cell (s : State) (o : Nat) (f : Ctrl → Ctrl) : (s.modCtrl o f).cell = s.cell := rfl
@[simp] theorem State.modCtrl_dram (s : State) (o : Nat) (f : Ctrl → Ctrl) : (s.modCtrl o f).dram = s.dram := rfl
@[simp] theorem State.modCtrl_units (s : State) (o : Nat) (f : Ctrl → Ctrl) : (s.modCtrl o f).units = s.units := rfl
@[simp] theorem State.modCtrl_pair (s : State) (o : Nat) (f : Ctrl → Ctrl) : (s.modCtrl o f).pair = s.pair := rfl

/-! ### State.modCtx -/

@[simp] theorem State.modCtx_regs (s : State) (o q : Nat) (f : QCtx → QCtx) : (s.modCtx o q f).regs = s.regs := rfl
@[simp] theorem State.modCtx_latch (s : State) (o q : Nat) (f : QCtx → QCtx) : (s.modCtx o q f).latch = s.latch := rfl
@[simp] theorem State.modCtx_loWrite (s : State) (o q : Nat) (f : QCtx → QCtx) : (s.modCtx o q f).loWrite = s.loWrite := rfl
@[simp] theorem State.modCtx_pending (s : State) (o q : Nat) (f : QCtx → QCtx) : (s.modCtx o q f).pending = s.pending := rfl
@[simp] theorem State.modCtx_out (s : State) (o q : Nat) (f : QCtx → QCtx) : (s.modCtx o q f).out = s.out := rfl
@[simp] theorem State.modCtx_freeCtr (s : State) (o q : Nat) (f : QCtx → QCtx) : (s.modCtx o q f).freeCtr = s.freeCtr := rfl
@[simp] theorem State.modCtx_time (s : State) (o q : Nat) (f : QCtx → QCtx) : (s.modCtx o q f).time = s.time := rfl
@[simp] theorem State.modCtx_evt (s : State) (o q : Nat) (f : QCtx → QCtx) : (s.modCtx o q f).evt = s.evt := rfl
@[simp] theorem State.modCtx_alm (s : State) (o q : Nat) (f : QCtx → QCtx) : (s.modCtx o q f).alm = s.alm := rfl
@[simp] theorem State.modCtx_mbx (s : State) (o q : Nat) (f : QCtx → QCtx) : (s.modCtx o q f).mbx = s.mbx := rfl
@[simp] theorem State.modCtx_host (s : State) (o q : Nat) (f : QCtx → QCtx) : (s.modCtx o q f).host = s.host := rfl
@[simp] theorem State.modCtx_power (s : State) (o q : Nat) (f : QCtx → QCtx) : (s.modCtx o q f).power = s.power := rfl
@[simp] theorem State.modCtx_chart (s : State) (o q : Nat) (f : QCtx → QCtx) : (s.modCtx o q f).chart = s.chart := rfl
@[simp] theorem State.modCtx_boot (s : State) (o q : Nat) (f : QCtx → QCtx) : (s.modCtx o q f).boot = s.boot := rfl
@[simp] theorem State.modCtx_nv (s : State) (o q : Nat) (f : QCtx → QCtx) : (s.modCtx o q f).nv = s.nv := rfl
@[simp] theorem State.modCtx_jr (s : State) (o q : Nat) (f : QCtx → QCtx) : (s.modCtx o q f).jr = s.jr := rfl
@[simp] theorem State.modCtx_wp (s : State) (o q : Nat) (f : QCtx → QCtx) : (s.modCtx o q f).wp = s.wp := rfl
@[simp] theorem State.modCtx_zone (s : State) (o q : Nat) (f : QCtx → QCtx) : (s.modCtx o q f).zone = s.zone := rfl
@[simp] theorem State.modCtx_md (s : State) (o q : Nat) (f : QCtx → QCtx) : (s.modCtx o q f).md = s.md := rfl
@[simp] theorem State.modCtx_net (s : State) (o q : Nat) (f : QCtx → QCtx) : (s.modCtx o q f).net = s.net := rfl
@[simp] theorem State.modCtx_serve (s : State) (o q : Nat) (f : QCtx → QCtx) : (s.modCtx o q f).serve = s.serve := rfl
@[simp] theorem State.modCtx_key (s : State) (o q : Nat) (f : QCtx → QCtx) : (s.modCtx o q f).key = s.key := rfl
@[simp] theorem State.modCtx_ten (s : State) (o q : Nat) (f : QCtx → QCtx) : (s.modCtx o q f).ten = s.ten := rfl
@[simp] theorem State.modCtx_cell (s : State) (o q : Nat) (f : QCtx → QCtx) : (s.modCtx o q f).cell = s.cell := rfl
@[simp] theorem State.modCtx_dram (s : State) (o q : Nat) (f : QCtx → QCtx) : (s.modCtx o q f).dram = s.dram := rfl
@[simp] theorem State.modCtx_units (s : State) (o q : Nat) (f : QCtx → QCtx) : (s.modCtx o q f).units = s.units := rfl
@[simp] theorem State.modCtx_pair (s : State) (o q : Nat) (f : QCtx → QCtx) : (s.modCtx o q f).pair = s.pair := rfl

/-! ### State.modCmd -/

@[simp] theorem State.modCmd_regs (s : State) (r : CmdRef) (f : Cmd → Cmd) : (s.modCmd r f).regs = s.regs := rfl
@[simp] theorem State.modCmd_latch (s : State) (r : CmdRef) (f : Cmd → Cmd) : (s.modCmd r f).latch = s.latch := rfl
@[simp] theorem State.modCmd_loWrite (s : State) (r : CmdRef) (f : Cmd → Cmd) : (s.modCmd r f).loWrite = s.loWrite := rfl
@[simp] theorem State.modCmd_pending (s : State) (r : CmdRef) (f : Cmd → Cmd) : (s.modCmd r f).pending = s.pending := rfl
@[simp] theorem State.modCmd_out (s : State) (r : CmdRef) (f : Cmd → Cmd) : (s.modCmd r f).out = s.out := rfl
@[simp] theorem State.modCmd_freeCtr (s : State) (r : CmdRef) (f : Cmd → Cmd) : (s.modCmd r f).freeCtr = s.freeCtr := rfl
@[simp] theorem State.modCmd_time (s : State) (r : CmdRef) (f : Cmd → Cmd) : (s.modCmd r f).time = s.time := rfl
@[simp] theorem State.modCmd_evt (s : State) (r : CmdRef) (f : Cmd → Cmd) : (s.modCmd r f).evt = s.evt := rfl
@[simp] theorem State.modCmd_alm (s : State) (r : CmdRef) (f : Cmd → Cmd) : (s.modCmd r f).alm = s.alm := rfl
@[simp] theorem State.modCmd_mbx (s : State) (r : CmdRef) (f : Cmd → Cmd) : (s.modCmd r f).mbx = s.mbx := rfl
@[simp] theorem State.modCmd_host (s : State) (r : CmdRef) (f : Cmd → Cmd) : (s.modCmd r f).host = s.host := rfl
@[simp] theorem State.modCmd_power (s : State) (r : CmdRef) (f : Cmd → Cmd) : (s.modCmd r f).power = s.power := rfl
@[simp] theorem State.modCmd_chart (s : State) (r : CmdRef) (f : Cmd → Cmd) : (s.modCmd r f).chart = s.chart := rfl
@[simp] theorem State.modCmd_boot (s : State) (r : CmdRef) (f : Cmd → Cmd) : (s.modCmd r f).boot = s.boot := rfl
@[simp] theorem State.modCmd_nv (s : State) (r : CmdRef) (f : Cmd → Cmd) : (s.modCmd r f).nv = s.nv := rfl
@[simp] theorem State.modCmd_jr (s : State) (r : CmdRef) (f : Cmd → Cmd) : (s.modCmd r f).jr = s.jr := rfl
@[simp] theorem State.modCmd_wp (s : State) (r : CmdRef) (f : Cmd → Cmd) : (s.modCmd r f).wp = s.wp := rfl
@[simp] theorem State.modCmd_zone (s : State) (r : CmdRef) (f : Cmd → Cmd) : (s.modCmd r f).zone = s.zone := rfl
@[simp] theorem State.modCmd_md (s : State) (r : CmdRef) (f : Cmd → Cmd) : (s.modCmd r f).md = s.md := rfl
@[simp] theorem State.modCmd_net (s : State) (r : CmdRef) (f : Cmd → Cmd) : (s.modCmd r f).net = s.net := rfl
@[simp] theorem State.modCmd_serve (s : State) (r : CmdRef) (f : Cmd → Cmd) : (s.modCmd r f).serve = s.serve := rfl
@[simp] theorem State.modCmd_key (s : State) (r : CmdRef) (f : Cmd → Cmd) : (s.modCmd r f).key = s.key := rfl
@[simp] theorem State.modCmd_ten (s : State) (r : CmdRef) (f : Cmd → Cmd) : (s.modCmd r f).ten = s.ten := rfl
@[simp] theorem State.modCmd_cell (s : State) (r : CmdRef) (f : Cmd → Cmd) : (s.modCmd r f).cell = s.cell := rfl
@[simp] theorem State.modCmd_dram (s : State) (r : CmdRef) (f : Cmd → Cmd) : (s.modCmd r f).dram = s.dram := rfl
@[simp] theorem State.modCmd_units (s : State) (r : CmdRef) (f : Cmd → Cmd) : (s.modCmd r f).units = s.units := rfl
@[simp] theorem State.modCmd_pair (s : State) (r : CmdRef) (f : Cmd → Cmd) : (s.modCmd r f).pair = s.pair := rfl

/-! ### State.nextFree -/

@[simp] theorem State.nextFree_regs (s : State)  : (s.nextFree).regs = s.regs := rfl
@[simp] theorem State.nextFree_latch (s : State)  : (s.nextFree).latch = s.latch := rfl
@[simp] theorem State.nextFree_loWrite (s : State)  : (s.nextFree).loWrite = s.loWrite := rfl
@[simp] theorem State.nextFree_pending (s : State)  : (s.nextFree).pending = s.pending := rfl
@[simp] theorem State.nextFree_out (s : State)  : (s.nextFree).out = s.out := rfl
@[simp] theorem State.nextFree_freeCtr (s : State) : (s.nextFree).freeCtr = s.freeCtr + 1 := rfl
@[simp] theorem State.nextFree_time (s : State)  : (s.nextFree).time = s.time := rfl
@[simp] theorem State.nextFree_evt (s : State)  : (s.nextFree).evt = s.evt := rfl
@[simp] theorem State.nextFree_alm (s : State)  : (s.nextFree).alm = s.alm := rfl
@[simp] theorem State.nextFree_mbx (s : State)  : (s.nextFree).mbx = s.mbx := rfl
@[simp] theorem State.nextFree_q (s : State)  : (s.nextFree).q = s.q := rfl
@[simp] theorem State.nextFree_host (s : State)  : (s.nextFree).host = s.host := rfl
@[simp] theorem State.nextFree_power (s : State)  : (s.nextFree).power = s.power := rfl
@[simp] theorem State.nextFree_chart (s : State)  : (s.nextFree).chart = s.chart := rfl
@[simp] theorem State.nextFree_boot (s : State)  : (s.nextFree).boot = s.boot := rfl
@[simp] theorem State.nextFree_nv (s : State)  : (s.nextFree).nv = s.nv := rfl
@[simp] theorem State.nextFree_jr (s : State)  : (s.nextFree).jr = s.jr := rfl
@[simp] theorem State.nextFree_wp (s : State)  : (s.nextFree).wp = s.wp := rfl
@[simp] theorem State.nextFree_zone (s : State)  : (s.nextFree).zone = s.zone := rfl
@[simp] theorem State.nextFree_md (s : State)  : (s.nextFree).md = s.md := rfl
@[simp] theorem State.nextFree_net (s : State)  : (s.nextFree).net = s.net := rfl
@[simp] theorem State.nextFree_serve (s : State)  : (s.nextFree).serve = s.serve := rfl
@[simp] theorem State.nextFree_key (s : State)  : (s.nextFree).key = s.key := rfl
@[simp] theorem State.nextFree_ten (s : State)  : (s.nextFree).ten = s.ten := rfl
@[simp] theorem State.nextFree_cell (s : State)  : (s.nextFree).cell = s.cell := rfl
@[simp] theorem State.nextFree_dram (s : State)  : (s.nextFree).dram = s.dram := rfl
@[simp] theorem State.nextFree_units (s : State)  : (s.nextFree).units = s.units := rfl
@[simp] theorem State.nextFree_pair (s : State)  : (s.nextFree).pair = s.pair := rfl

/-! ### State.finish -/

@[simp] theorem State.finish_regs (s : State) (r : CmdRef) (st : Status) (a b : Nat) : (s.finish r st a b).regs = s.regs := rfl
@[simp] theorem State.finish_latch (s : State) (r : CmdRef) (st : Status) (a b : Nat) : (s.finish r st a b).latch = s.latch := rfl
@[simp] theorem State.finish_loWrite (s : State) (r : CmdRef) (st : Status) (a b : Nat) : (s.finish r st a b).loWrite = s.loWrite := rfl
@[simp] theorem State.finish_pending (s : State) (r : CmdRef) (st : Status) (a b : Nat) : (s.finish r st a b).pending = s.pending := rfl
@[simp] theorem State.finish_out (s : State) (r : CmdRef) (st : Status) (a b : Nat) : (s.finish r st a b).out = s.out := rfl
@[simp] theorem State.finish_freeCtr (s : State) (r : CmdRef) (st : Status) (a b : Nat) : (s.finish r st a b).freeCtr = s.freeCtr := rfl
@[simp] theorem State.finish_time (s : State) (r : CmdRef) (st : Status) (a b : Nat) : (s.finish r st a b).time = s.time := rfl
@[simp] theorem State.finish_evt (s : State) (r : CmdRef) (st : Status) (a b : Nat) : (s.finish r st a b).evt = s.evt := rfl
@[simp] theorem State.finish_alm (s : State) (r : CmdRef) (st : Status) (a b : Nat) : (s.finish r st a b).alm = s.alm := rfl
@[simp] theorem State.finish_mbx (s : State) (r : CmdRef) (st : Status) (a b : Nat) : (s.finish r st a b).mbx = s.mbx := rfl
@[simp] theorem State.finish_host (s : State) (r : CmdRef) (st : Status) (a b : Nat) : (s.finish r st a b).host = s.host := rfl
@[simp] theorem State.finish_power (s : State) (r : CmdRef) (st : Status) (a b : Nat) : (s.finish r st a b).power = s.power := rfl
@[simp] theorem State.finish_chart (s : State) (r : CmdRef) (st : Status) (a b : Nat) : (s.finish r st a b).chart = s.chart := rfl
@[simp] theorem State.finish_boot (s : State) (r : CmdRef) (st : Status) (a b : Nat) : (s.finish r st a b).boot = s.boot := rfl
@[simp] theorem State.finish_nv (s : State) (r : CmdRef) (st : Status) (a b : Nat) : (s.finish r st a b).nv = s.nv := rfl
@[simp] theorem State.finish_jr (s : State) (r : CmdRef) (st : Status) (a b : Nat) : (s.finish r st a b).jr = s.jr := rfl
@[simp] theorem State.finish_wp (s : State) (r : CmdRef) (st : Status) (a b : Nat) : (s.finish r st a b).wp = s.wp := rfl
@[simp] theorem State.finish_zone (s : State) (r : CmdRef) (st : Status) (a b : Nat) : (s.finish r st a b).zone = s.zone := rfl
@[simp] theorem State.finish_md (s : State) (r : CmdRef) (st : Status) (a b : Nat) : (s.finish r st a b).md = s.md := rfl
@[simp] theorem State.finish_net (s : State) (r : CmdRef) (st : Status) (a b : Nat) : (s.finish r st a b).net = s.net := rfl
@[simp] theorem State.finish_serve (s : State) (r : CmdRef) (st : Status) (a b : Nat) : (s.finish r st a b).serve = s.serve := rfl
@[simp] theorem State.finish_key (s : State) (r : CmdRef) (st : Status) (a b : Nat) : (s.finish r st a b).key = s.key := rfl
@[simp] theorem State.finish_ten (s : State) (r : CmdRef) (st : Status) (a b : Nat) : (s.finish r st a b).ten = s.ten := rfl
@[simp] theorem State.finish_cell (s : State) (r : CmdRef) (st : Status) (a b : Nat) : (s.finish r st a b).cell = s.cell := rfl
@[simp] theorem State.finish_dram (s : State) (r : CmdRef) (st : Status) (a b : Nat) : (s.finish r st a b).dram = s.dram := rfl
@[simp] theorem State.finish_units (s : State) (r : CmdRef) (st : Status) (a b : Nat) : (s.finish r st a b).units = s.units := rfl
@[simp] theorem State.finish_pair (s : State) (r : CmdRef) (st : Status) (a b : Nat) : (s.finish r st a b).pair = s.pair := rfl

/-! ### State.hold -/

@[simp] theorem State.hold_regs (s : State) (r : CmdRef) (w : Nat) : (s.hold r w).regs = s.regs := rfl
@[simp] theorem State.hold_latch (s : State) (r : CmdRef) (w : Nat) : (s.hold r w).latch = s.latch := rfl
@[simp] theorem State.hold_loWrite (s : State) (r : CmdRef) (w : Nat) : (s.hold r w).loWrite = s.loWrite := rfl
@[simp] theorem State.hold_pending (s : State) (r : CmdRef) (w : Nat) : (s.hold r w).pending = s.pending := rfl
@[simp] theorem State.hold_out (s : State) (r : CmdRef) (w : Nat) : (s.hold r w).out = s.out := rfl
@[simp] theorem State.hold_freeCtr (s : State) (r : CmdRef) (w : Nat) : (s.hold r w).freeCtr = s.freeCtr := rfl
@[simp] theorem State.hold_time (s : State) (r : CmdRef) (w : Nat) : (s.hold r w).time = s.time := rfl
@[simp] theorem State.hold_evt (s : State) (r : CmdRef) (w : Nat) : (s.hold r w).evt = s.evt := rfl
@[simp] theorem State.hold_alm (s : State) (r : CmdRef) (w : Nat) : (s.hold r w).alm = s.alm := rfl
@[simp] theorem State.hold_mbx (s : State) (r : CmdRef) (w : Nat) : (s.hold r w).mbx = s.mbx := rfl
@[simp] theorem State.hold_host (s : State) (r : CmdRef) (w : Nat) : (s.hold r w).host = s.host := rfl
@[simp] theorem State.hold_power (s : State) (r : CmdRef) (w : Nat) : (s.hold r w).power = s.power := rfl
@[simp] theorem State.hold_chart (s : State) (r : CmdRef) (w : Nat) : (s.hold r w).chart = s.chart := rfl
@[simp] theorem State.hold_boot (s : State) (r : CmdRef) (w : Nat) : (s.hold r w).boot = s.boot := rfl
@[simp] theorem State.hold_nv (s : State) (r : CmdRef) (w : Nat) : (s.hold r w).nv = s.nv := rfl
@[simp] theorem State.hold_jr (s : State) (r : CmdRef) (w : Nat) : (s.hold r w).jr = s.jr := rfl
@[simp] theorem State.hold_wp (s : State) (r : CmdRef) (w : Nat) : (s.hold r w).wp = s.wp := rfl
@[simp] theorem State.hold_zone (s : State) (r : CmdRef) (w : Nat) : (s.hold r w).zone = s.zone := rfl
@[simp] theorem State.hold_md (s : State) (r : CmdRef) (w : Nat) : (s.hold r w).md = s.md := rfl
@[simp] theorem State.hold_net (s : State) (r : CmdRef) (w : Nat) : (s.hold r w).net = s.net := rfl
@[simp] theorem State.hold_serve (s : State) (r : CmdRef) (w : Nat) : (s.hold r w).serve = s.serve := rfl
@[simp] theorem State.hold_key (s : State) (r : CmdRef) (w : Nat) : (s.hold r w).key = s.key := rfl
@[simp] theorem State.hold_ten (s : State) (r : CmdRef) (w : Nat) : (s.hold r w).ten = s.ten := rfl
@[simp] theorem State.hold_cell (s : State) (r : CmdRef) (w : Nat) : (s.hold r w).cell = s.cell := rfl
@[simp] theorem State.hold_dram (s : State) (r : CmdRef) (w : Nat) : (s.hold r w).dram = s.dram := rfl
@[simp] theorem State.hold_units (s : State) (r : CmdRef) (w : Nat) : (s.hold r w).units = s.units := rfl
@[simp] theorem State.hold_pair (s : State) (r : CmdRef) (w : Nat) : (s.hold r w).pair = s.pair := rfl

/-! ### State.updTime -/

@[simp] theorem State.updTime_regs (s : State) (f : TimeState → TimeState) : (s.updTime f).regs = s.regs := rfl
@[simp] theorem State.updTime_latch (s : State) (f : TimeState → TimeState) : (s.updTime f).latch = s.latch := rfl
@[simp] theorem State.updTime_loWrite (s : State) (f : TimeState → TimeState) : (s.updTime f).loWrite = s.loWrite := rfl
@[simp] theorem State.updTime_pending (s : State) (f : TimeState → TimeState) : (s.updTime f).pending = s.pending := rfl
@[simp] theorem State.updTime_out (s : State) (f : TimeState → TimeState) : (s.updTime f).out = s.out := rfl
@[simp] theorem State.updTime_freeCtr (s : State) (f : TimeState → TimeState) : (s.updTime f).freeCtr = s.freeCtr := rfl
@[simp] theorem State.updTime_time (s : State) (f : TimeState → TimeState) : (s.updTime f).time = f s.time := rfl
@[simp] theorem State.updTime_evt (s : State) (f : TimeState → TimeState) : (s.updTime f).evt = s.evt := rfl
@[simp] theorem State.updTime_alm (s : State) (f : TimeState → TimeState) : (s.updTime f).alm = s.alm := rfl
@[simp] theorem State.updTime_mbx (s : State) (f : TimeState → TimeState) : (s.updTime f).mbx = s.mbx := rfl
@[simp] theorem State.updTime_q (s : State) (f : TimeState → TimeState) : (s.updTime f).q = s.q := rfl
@[simp] theorem State.updTime_host (s : State) (f : TimeState → TimeState) : (s.updTime f).host = s.host := rfl
@[simp] theorem State.updTime_power (s : State) (f : TimeState → TimeState) : (s.updTime f).power = s.power := rfl
@[simp] theorem State.updTime_chart (s : State) (f : TimeState → TimeState) : (s.updTime f).chart = s.chart := rfl
@[simp] theorem State.updTime_boot (s : State) (f : TimeState → TimeState) : (s.updTime f).boot = s.boot := rfl
@[simp] theorem State.updTime_nv (s : State) (f : TimeState → TimeState) : (s.updTime f).nv = s.nv := rfl
@[simp] theorem State.updTime_jr (s : State) (f : TimeState → TimeState) : (s.updTime f).jr = s.jr := rfl
@[simp] theorem State.updTime_wp (s : State) (f : TimeState → TimeState) : (s.updTime f).wp = s.wp := rfl
@[simp] theorem State.updTime_zone (s : State) (f : TimeState → TimeState) : (s.updTime f).zone = s.zone := rfl
@[simp] theorem State.updTime_md (s : State) (f : TimeState → TimeState) : (s.updTime f).md = s.md := rfl
@[simp] theorem State.updTime_net (s : State) (f : TimeState → TimeState) : (s.updTime f).net = s.net := rfl
@[simp] theorem State.updTime_serve (s : State) (f : TimeState → TimeState) : (s.updTime f).serve = s.serve := rfl
@[simp] theorem State.updTime_key (s : State) (f : TimeState → TimeState) : (s.updTime f).key = s.key := rfl
@[simp] theorem State.updTime_ten (s : State) (f : TimeState → TimeState) : (s.updTime f).ten = s.ten := rfl
@[simp] theorem State.updTime_cell (s : State) (f : TimeState → TimeState) : (s.updTime f).cell = s.cell := rfl
@[simp] theorem State.updTime_dram (s : State) (f : TimeState → TimeState) : (s.updTime f).dram = s.dram := rfl
@[simp] theorem State.updTime_units (s : State) (f : TimeState → TimeState) : (s.updTime f).units = s.units := rfl
@[simp] theorem State.updTime_pair (s : State) (f : TimeState → TimeState) : (s.updTime f).pair = s.pair := rfl

/-! ### State.updAlm -/

@[simp] theorem State.updAlm_regs (s : State) (f : AlmState → AlmState) : (s.updAlm f).regs = s.regs := rfl
@[simp] theorem State.updAlm_latch (s : State) (f : AlmState → AlmState) : (s.updAlm f).latch = s.latch := rfl
@[simp] theorem State.updAlm_loWrite (s : State) (f : AlmState → AlmState) : (s.updAlm f).loWrite = s.loWrite := rfl
@[simp] theorem State.updAlm_pending (s : State) (f : AlmState → AlmState) : (s.updAlm f).pending = s.pending := rfl
@[simp] theorem State.updAlm_out (s : State) (f : AlmState → AlmState) : (s.updAlm f).out = s.out := rfl
@[simp] theorem State.updAlm_freeCtr (s : State) (f : AlmState → AlmState) : (s.updAlm f).freeCtr = s.freeCtr := rfl
@[simp] theorem State.updAlm_time (s : State) (f : AlmState → AlmState) : (s.updAlm f).time = s.time := rfl
@[simp] theorem State.updAlm_evt (s : State) (f : AlmState → AlmState) : (s.updAlm f).evt = s.evt := rfl
@[simp] theorem State.updAlm_alm (s : State) (f : AlmState → AlmState) : (s.updAlm f).alm = f s.alm := rfl
@[simp] theorem State.updAlm_mbx (s : State) (f : AlmState → AlmState) : (s.updAlm f).mbx = s.mbx := rfl
@[simp] theorem State.updAlm_q (s : State) (f : AlmState → AlmState) : (s.updAlm f).q = s.q := rfl
@[simp] theorem State.updAlm_host (s : State) (f : AlmState → AlmState) : (s.updAlm f).host = s.host := rfl
@[simp] theorem State.updAlm_power (s : State) (f : AlmState → AlmState) : (s.updAlm f).power = s.power := rfl
@[simp] theorem State.updAlm_chart (s : State) (f : AlmState → AlmState) : (s.updAlm f).chart = s.chart := rfl
@[simp] theorem State.updAlm_boot (s : State) (f : AlmState → AlmState) : (s.updAlm f).boot = s.boot := rfl
@[simp] theorem State.updAlm_nv (s : State) (f : AlmState → AlmState) : (s.updAlm f).nv = s.nv := rfl
@[simp] theorem State.updAlm_jr (s : State) (f : AlmState → AlmState) : (s.updAlm f).jr = s.jr := rfl
@[simp] theorem State.updAlm_wp (s : State) (f : AlmState → AlmState) : (s.updAlm f).wp = s.wp := rfl
@[simp] theorem State.updAlm_zone (s : State) (f : AlmState → AlmState) : (s.updAlm f).zone = s.zone := rfl
@[simp] theorem State.updAlm_md (s : State) (f : AlmState → AlmState) : (s.updAlm f).md = s.md := rfl
@[simp] theorem State.updAlm_net (s : State) (f : AlmState → AlmState) : (s.updAlm f).net = s.net := rfl
@[simp] theorem State.updAlm_serve (s : State) (f : AlmState → AlmState) : (s.updAlm f).serve = s.serve := rfl
@[simp] theorem State.updAlm_key (s : State) (f : AlmState → AlmState) : (s.updAlm f).key = s.key := rfl
@[simp] theorem State.updAlm_ten (s : State) (f : AlmState → AlmState) : (s.updAlm f).ten = s.ten := rfl
@[simp] theorem State.updAlm_cell (s : State) (f : AlmState → AlmState) : (s.updAlm f).cell = s.cell := rfl
@[simp] theorem State.updAlm_dram (s : State) (f : AlmState → AlmState) : (s.updAlm f).dram = s.dram := rfl
@[simp] theorem State.updAlm_units (s : State) (f : AlmState → AlmState) : (s.updAlm f).units = s.units := rfl
@[simp] theorem State.updAlm_pair (s : State) (f : AlmState → AlmState) : (s.updAlm f).pair = s.pair := rfl

/-! ### State.updQ -/

@[simp] theorem State.updQ_regs (s : State) (f : QueueState → QueueState) : (s.updQ f).regs = s.regs := rfl
@[simp] theorem State.updQ_latch (s : State) (f : QueueState → QueueState) : (s.updQ f).latch = s.latch := rfl
@[simp] theorem State.updQ_loWrite (s : State) (f : QueueState → QueueState) : (s.updQ f).loWrite = s.loWrite := rfl
@[simp] theorem State.updQ_pending (s : State) (f : QueueState → QueueState) : (s.updQ f).pending = s.pending := rfl
@[simp] theorem State.updQ_out (s : State) (f : QueueState → QueueState) : (s.updQ f).out = s.out := rfl
@[simp] theorem State.updQ_freeCtr (s : State) (f : QueueState → QueueState) : (s.updQ f).freeCtr = s.freeCtr := rfl
@[simp] theorem State.updQ_time (s : State) (f : QueueState → QueueState) : (s.updQ f).time = s.time := rfl
@[simp] theorem State.updQ_evt (s : State) (f : QueueState → QueueState) : (s.updQ f).evt = s.evt := rfl
@[simp] theorem State.updQ_alm (s : State) (f : QueueState → QueueState) : (s.updQ f).alm = s.alm := rfl
@[simp] theorem State.updQ_mbx (s : State) (f : QueueState → QueueState) : (s.updQ f).mbx = s.mbx := rfl
@[simp] theorem State.updQ_q (s : State) (f : QueueState → QueueState) : (s.updQ f).q = f s.q := rfl
@[simp] theorem State.updQ_host (s : State) (f : QueueState → QueueState) : (s.updQ f).host = s.host := rfl
@[simp] theorem State.updQ_power (s : State) (f : QueueState → QueueState) : (s.updQ f).power = s.power := rfl
@[simp] theorem State.updQ_chart (s : State) (f : QueueState → QueueState) : (s.updQ f).chart = s.chart := rfl
@[simp] theorem State.updQ_boot (s : State) (f : QueueState → QueueState) : (s.updQ f).boot = s.boot := rfl
@[simp] theorem State.updQ_nv (s : State) (f : QueueState → QueueState) : (s.updQ f).nv = s.nv := rfl
@[simp] theorem State.updQ_jr (s : State) (f : QueueState → QueueState) : (s.updQ f).jr = s.jr := rfl
@[simp] theorem State.updQ_wp (s : State) (f : QueueState → QueueState) : (s.updQ f).wp = s.wp := rfl
@[simp] theorem State.updQ_zone (s : State) (f : QueueState → QueueState) : (s.updQ f).zone = s.zone := rfl
@[simp] theorem State.updQ_md (s : State) (f : QueueState → QueueState) : (s.updQ f).md = s.md := rfl
@[simp] theorem State.updQ_net (s : State) (f : QueueState → QueueState) : (s.updQ f).net = s.net := rfl
@[simp] theorem State.updQ_serve (s : State) (f : QueueState → QueueState) : (s.updQ f).serve = s.serve := rfl
@[simp] theorem State.updQ_key (s : State) (f : QueueState → QueueState) : (s.updQ f).key = s.key := rfl
@[simp] theorem State.updQ_ten (s : State) (f : QueueState → QueueState) : (s.updQ f).ten = s.ten := rfl
@[simp] theorem State.updQ_cell (s : State) (f : QueueState → QueueState) : (s.updQ f).cell = s.cell := rfl
@[simp] theorem State.updQ_dram (s : State) (f : QueueState → QueueState) : (s.updQ f).dram = s.dram := rfl
@[simp] theorem State.updQ_units (s : State) (f : QueueState → QueueState) : (s.updQ f).units = s.units := rfl
@[simp] theorem State.updQ_pair (s : State) (f : QueueState → QueueState) : (s.updQ f).pair = s.pair := rfl

/-! ### State.updPower -/

@[simp] theorem State.updPower_regs (s : State) (f : PowerState → PowerState) : (s.updPower f).regs = s.regs := rfl
@[simp] theorem State.updPower_latch (s : State) (f : PowerState → PowerState) : (s.updPower f).latch = s.latch := rfl
@[simp] theorem State.updPower_loWrite (s : State) (f : PowerState → PowerState) : (s.updPower f).loWrite = s.loWrite := rfl
@[simp] theorem State.updPower_pending (s : State) (f : PowerState → PowerState) : (s.updPower f).pending = s.pending := rfl
@[simp] theorem State.updPower_out (s : State) (f : PowerState → PowerState) : (s.updPower f).out = s.out := rfl
@[simp] theorem State.updPower_freeCtr (s : State) (f : PowerState → PowerState) : (s.updPower f).freeCtr = s.freeCtr := rfl
@[simp] theorem State.updPower_time (s : State) (f : PowerState → PowerState) : (s.updPower f).time = s.time := rfl
@[simp] theorem State.updPower_evt (s : State) (f : PowerState → PowerState) : (s.updPower f).evt = s.evt := rfl
@[simp] theorem State.updPower_alm (s : State) (f : PowerState → PowerState) : (s.updPower f).alm = s.alm := rfl
@[simp] theorem State.updPower_mbx (s : State) (f : PowerState → PowerState) : (s.updPower f).mbx = s.mbx := rfl
@[simp] theorem State.updPower_q (s : State) (f : PowerState → PowerState) : (s.updPower f).q = s.q := rfl
@[simp] theorem State.updPower_host (s : State) (f : PowerState → PowerState) : (s.updPower f).host = s.host := rfl
@[simp] theorem State.updPower_power (s : State) (f : PowerState → PowerState) : (s.updPower f).power = f s.power := rfl
@[simp] theorem State.updPower_chart (s : State) (f : PowerState → PowerState) : (s.updPower f).chart = s.chart := rfl
@[simp] theorem State.updPower_boot (s : State) (f : PowerState → PowerState) : (s.updPower f).boot = s.boot := rfl
@[simp] theorem State.updPower_nv (s : State) (f : PowerState → PowerState) : (s.updPower f).nv = s.nv := rfl
@[simp] theorem State.updPower_jr (s : State) (f : PowerState → PowerState) : (s.updPower f).jr = s.jr := rfl
@[simp] theorem State.updPower_wp (s : State) (f : PowerState → PowerState) : (s.updPower f).wp = s.wp := rfl
@[simp] theorem State.updPower_zone (s : State) (f : PowerState → PowerState) : (s.updPower f).zone = s.zone := rfl
@[simp] theorem State.updPower_md (s : State) (f : PowerState → PowerState) : (s.updPower f).md = s.md := rfl
@[simp] theorem State.updPower_net (s : State) (f : PowerState → PowerState) : (s.updPower f).net = s.net := rfl
@[simp] theorem State.updPower_serve (s : State) (f : PowerState → PowerState) : (s.updPower f).serve = s.serve := rfl
@[simp] theorem State.updPower_key (s : State) (f : PowerState → PowerState) : (s.updPower f).key = s.key := rfl
@[simp] theorem State.updPower_ten (s : State) (f : PowerState → PowerState) : (s.updPower f).ten = s.ten := rfl
@[simp] theorem State.updPower_cell (s : State) (f : PowerState → PowerState) : (s.updPower f).cell = s.cell := rfl
@[simp] theorem State.updPower_dram (s : State) (f : PowerState → PowerState) : (s.updPower f).dram = s.dram := rfl
@[simp] theorem State.updPower_units (s : State) (f : PowerState → PowerState) : (s.updPower f).units = s.units := rfl
@[simp] theorem State.updPower_pair (s : State) (f : PowerState → PowerState) : (s.updPower f).pair = s.pair := rfl

/-! ### State.updChart -/

@[simp] theorem State.updChart_regs (s : State) (f : ChartState → ChartState) : (s.updChart f).regs = s.regs := rfl
@[simp] theorem State.updChart_latch (s : State) (f : ChartState → ChartState) : (s.updChart f).latch = s.latch := rfl
@[simp] theorem State.updChart_loWrite (s : State) (f : ChartState → ChartState) : (s.updChart f).loWrite = s.loWrite := rfl
@[simp] theorem State.updChart_pending (s : State) (f : ChartState → ChartState) : (s.updChart f).pending = s.pending := rfl
@[simp] theorem State.updChart_out (s : State) (f : ChartState → ChartState) : (s.updChart f).out = s.out := rfl
@[simp] theorem State.updChart_freeCtr (s : State) (f : ChartState → ChartState) : (s.updChart f).freeCtr = s.freeCtr := rfl
@[simp] theorem State.updChart_time (s : State) (f : ChartState → ChartState) : (s.updChart f).time = s.time := rfl
@[simp] theorem State.updChart_evt (s : State) (f : ChartState → ChartState) : (s.updChart f).evt = s.evt := rfl
@[simp] theorem State.updChart_alm (s : State) (f : ChartState → ChartState) : (s.updChart f).alm = s.alm := rfl
@[simp] theorem State.updChart_mbx (s : State) (f : ChartState → ChartState) : (s.updChart f).mbx = s.mbx := rfl
@[simp] theorem State.updChart_q (s : State) (f : ChartState → ChartState) : (s.updChart f).q = s.q := rfl
@[simp] theorem State.updChart_host (s : State) (f : ChartState → ChartState) : (s.updChart f).host = s.host := rfl
@[simp] theorem State.updChart_power (s : State) (f : ChartState → ChartState) : (s.updChart f).power = s.power := rfl
@[simp] theorem State.updChart_chart (s : State) (f : ChartState → ChartState) : (s.updChart f).chart = f s.chart := rfl
@[simp] theorem State.updChart_boot (s : State) (f : ChartState → ChartState) : (s.updChart f).boot = s.boot := rfl
@[simp] theorem State.updChart_nv (s : State) (f : ChartState → ChartState) : (s.updChart f).nv = s.nv := rfl
@[simp] theorem State.updChart_jr (s : State) (f : ChartState → ChartState) : (s.updChart f).jr = s.jr := rfl
@[simp] theorem State.updChart_wp (s : State) (f : ChartState → ChartState) : (s.updChart f).wp = s.wp := rfl
@[simp] theorem State.updChart_zone (s : State) (f : ChartState → ChartState) : (s.updChart f).zone = s.zone := rfl
@[simp] theorem State.updChart_md (s : State) (f : ChartState → ChartState) : (s.updChart f).md = s.md := rfl
@[simp] theorem State.updChart_net (s : State) (f : ChartState → ChartState) : (s.updChart f).net = s.net := rfl
@[simp] theorem State.updChart_serve (s : State) (f : ChartState → ChartState) : (s.updChart f).serve = s.serve := rfl
@[simp] theorem State.updChart_key (s : State) (f : ChartState → ChartState) : (s.updChart f).key = s.key := rfl
@[simp] theorem State.updChart_ten (s : State) (f : ChartState → ChartState) : (s.updChart f).ten = s.ten := rfl
@[simp] theorem State.updChart_cell (s : State) (f : ChartState → ChartState) : (s.updChart f).cell = s.cell := rfl
@[simp] theorem State.updChart_dram (s : State) (f : ChartState → ChartState) : (s.updChart f).dram = s.dram := rfl
@[simp] theorem State.updChart_units (s : State) (f : ChartState → ChartState) : (s.updChart f).units = s.units := rfl
@[simp] theorem State.updChart_pair (s : State) (f : ChartState → ChartState) : (s.updChart f).pair = s.pair := rfl

/-! ### State.updBoot -/

@[simp] theorem State.updBoot_regs (s : State) (f : BootState → BootState) : (s.updBoot f).regs = s.regs := rfl
@[simp] theorem State.updBoot_latch (s : State) (f : BootState → BootState) : (s.updBoot f).latch = s.latch := rfl
@[simp] theorem State.updBoot_loWrite (s : State) (f : BootState → BootState) : (s.updBoot f).loWrite = s.loWrite := rfl
@[simp] theorem State.updBoot_pending (s : State) (f : BootState → BootState) : (s.updBoot f).pending = s.pending := rfl
@[simp] theorem State.updBoot_out (s : State) (f : BootState → BootState) : (s.updBoot f).out = s.out := rfl
@[simp] theorem State.updBoot_freeCtr (s : State) (f : BootState → BootState) : (s.updBoot f).freeCtr = s.freeCtr := rfl
@[simp] theorem State.updBoot_time (s : State) (f : BootState → BootState) : (s.updBoot f).time = s.time := rfl
@[simp] theorem State.updBoot_evt (s : State) (f : BootState → BootState) : (s.updBoot f).evt = s.evt := rfl
@[simp] theorem State.updBoot_alm (s : State) (f : BootState → BootState) : (s.updBoot f).alm = s.alm := rfl
@[simp] theorem State.updBoot_mbx (s : State) (f : BootState → BootState) : (s.updBoot f).mbx = s.mbx := rfl
@[simp] theorem State.updBoot_q (s : State) (f : BootState → BootState) : (s.updBoot f).q = s.q := rfl
@[simp] theorem State.updBoot_host (s : State) (f : BootState → BootState) : (s.updBoot f).host = s.host := rfl
@[simp] theorem State.updBoot_power (s : State) (f : BootState → BootState) : (s.updBoot f).power = s.power := rfl
@[simp] theorem State.updBoot_chart (s : State) (f : BootState → BootState) : (s.updBoot f).chart = s.chart := rfl
@[simp] theorem State.updBoot_boot (s : State) (f : BootState → BootState) : (s.updBoot f).boot = f s.boot := rfl
@[simp] theorem State.updBoot_nv (s : State) (f : BootState → BootState) : (s.updBoot f).nv = s.nv := rfl
@[simp] theorem State.updBoot_jr (s : State) (f : BootState → BootState) : (s.updBoot f).jr = s.jr := rfl
@[simp] theorem State.updBoot_wp (s : State) (f : BootState → BootState) : (s.updBoot f).wp = s.wp := rfl
@[simp] theorem State.updBoot_zone (s : State) (f : BootState → BootState) : (s.updBoot f).zone = s.zone := rfl
@[simp] theorem State.updBoot_md (s : State) (f : BootState → BootState) : (s.updBoot f).md = s.md := rfl
@[simp] theorem State.updBoot_net (s : State) (f : BootState → BootState) : (s.updBoot f).net = s.net := rfl
@[simp] theorem State.updBoot_serve (s : State) (f : BootState → BootState) : (s.updBoot f).serve = s.serve := rfl
@[simp] theorem State.updBoot_key (s : State) (f : BootState → BootState) : (s.updBoot f).key = s.key := rfl
@[simp] theorem State.updBoot_ten (s : State) (f : BootState → BootState) : (s.updBoot f).ten = s.ten := rfl
@[simp] theorem State.updBoot_cell (s : State) (f : BootState → BootState) : (s.updBoot f).cell = s.cell := rfl
@[simp] theorem State.updBoot_dram (s : State) (f : BootState → BootState) : (s.updBoot f).dram = s.dram := rfl
@[simp] theorem State.updBoot_units (s : State) (f : BootState → BootState) : (s.updBoot f).units = s.units := rfl
@[simp] theorem State.updBoot_pair (s : State) (f : BootState → BootState) : (s.updBoot f).pair = s.pair := rfl

/-! ### State.updJr -/

@[simp] theorem State.updJr_regs (s : State) (f : Journal → Journal) : (s.updJr f).regs = s.regs := rfl
@[simp] theorem State.updJr_latch (s : State) (f : Journal → Journal) : (s.updJr f).latch = s.latch := rfl
@[simp] theorem State.updJr_loWrite (s : State) (f : Journal → Journal) : (s.updJr f).loWrite = s.loWrite := rfl
@[simp] theorem State.updJr_pending (s : State) (f : Journal → Journal) : (s.updJr f).pending = s.pending := rfl
@[simp] theorem State.updJr_out (s : State) (f : Journal → Journal) : (s.updJr f).out = s.out := rfl
@[simp] theorem State.updJr_freeCtr (s : State) (f : Journal → Journal) : (s.updJr f).freeCtr = s.freeCtr := rfl
@[simp] theorem State.updJr_time (s : State) (f : Journal → Journal) : (s.updJr f).time = s.time := rfl
@[simp] theorem State.updJr_evt (s : State) (f : Journal → Journal) : (s.updJr f).evt = s.evt := rfl
@[simp] theorem State.updJr_alm (s : State) (f : Journal → Journal) : (s.updJr f).alm = s.alm := rfl
@[simp] theorem State.updJr_mbx (s : State) (f : Journal → Journal) : (s.updJr f).mbx = s.mbx := rfl
@[simp] theorem State.updJr_q (s : State) (f : Journal → Journal) : (s.updJr f).q = s.q := rfl
@[simp] theorem State.updJr_host (s : State) (f : Journal → Journal) : (s.updJr f).host = s.host := rfl
@[simp] theorem State.updJr_power (s : State) (f : Journal → Journal) : (s.updJr f).power = s.power := rfl
@[simp] theorem State.updJr_chart (s : State) (f : Journal → Journal) : (s.updJr f).chart = s.chart := rfl
@[simp] theorem State.updJr_boot (s : State) (f : Journal → Journal) : (s.updJr f).boot = s.boot := rfl
@[simp] theorem State.updJr_nv (s : State) (f : Journal → Journal) : (s.updJr f).nv = s.nv := rfl
@[simp] theorem State.updJr_jr (s : State) (f : Journal → Journal) : (s.updJr f).jr = f s.jr := rfl
@[simp] theorem State.updJr_wp (s : State) (f : Journal → Journal) : (s.updJr f).wp = s.wp := rfl
@[simp] theorem State.updJr_zone (s : State) (f : Journal → Journal) : (s.updJr f).zone = s.zone := rfl
@[simp] theorem State.updJr_md (s : State) (f : Journal → Journal) : (s.updJr f).md = s.md := rfl
@[simp] theorem State.updJr_net (s : State) (f : Journal → Journal) : (s.updJr f).net = s.net := rfl
@[simp] theorem State.updJr_serve (s : State) (f : Journal → Journal) : (s.updJr f).serve = s.serve := rfl
@[simp] theorem State.updJr_key (s : State) (f : Journal → Journal) : (s.updJr f).key = s.key := rfl
@[simp] theorem State.updJr_ten (s : State) (f : Journal → Journal) : (s.updJr f).ten = s.ten := rfl
@[simp] theorem State.updJr_cell (s : State) (f : Journal → Journal) : (s.updJr f).cell = s.cell := rfl
@[simp] theorem State.updJr_dram (s : State) (f : Journal → Journal) : (s.updJr f).dram = s.dram := rfl
@[simp] theorem State.updJr_units (s : State) (f : Journal → Journal) : (s.updJr f).units = s.units := rfl
@[simp] theorem State.updJr_pair (s : State) (f : Journal → Journal) : (s.updJr f).pair = s.pair := rfl

/-! ### State.updWp -/

@[simp] theorem State.updWp_regs (s : State) (f : WriteState → WriteState) : (s.updWp f).regs = s.regs := rfl
@[simp] theorem State.updWp_latch (s : State) (f : WriteState → WriteState) : (s.updWp f).latch = s.latch := rfl
@[simp] theorem State.updWp_loWrite (s : State) (f : WriteState → WriteState) : (s.updWp f).loWrite = s.loWrite := rfl
@[simp] theorem State.updWp_pending (s : State) (f : WriteState → WriteState) : (s.updWp f).pending = s.pending := rfl
@[simp] theorem State.updWp_out (s : State) (f : WriteState → WriteState) : (s.updWp f).out = s.out := rfl
@[simp] theorem State.updWp_freeCtr (s : State) (f : WriteState → WriteState) : (s.updWp f).freeCtr = s.freeCtr := rfl
@[simp] theorem State.updWp_time (s : State) (f : WriteState → WriteState) : (s.updWp f).time = s.time := rfl
@[simp] theorem State.updWp_evt (s : State) (f : WriteState → WriteState) : (s.updWp f).evt = s.evt := rfl
@[simp] theorem State.updWp_alm (s : State) (f : WriteState → WriteState) : (s.updWp f).alm = s.alm := rfl
@[simp] theorem State.updWp_mbx (s : State) (f : WriteState → WriteState) : (s.updWp f).mbx = s.mbx := rfl
@[simp] theorem State.updWp_q (s : State) (f : WriteState → WriteState) : (s.updWp f).q = s.q := rfl
@[simp] theorem State.updWp_host (s : State) (f : WriteState → WriteState) : (s.updWp f).host = s.host := rfl
@[simp] theorem State.updWp_power (s : State) (f : WriteState → WriteState) : (s.updWp f).power = s.power := rfl
@[simp] theorem State.updWp_chart (s : State) (f : WriteState → WriteState) : (s.updWp f).chart = s.chart := rfl
@[simp] theorem State.updWp_boot (s : State) (f : WriteState → WriteState) : (s.updWp f).boot = s.boot := rfl
@[simp] theorem State.updWp_nv (s : State) (f : WriteState → WriteState) : (s.updWp f).nv = s.nv := rfl
@[simp] theorem State.updWp_jr (s : State) (f : WriteState → WriteState) : (s.updWp f).jr = s.jr := rfl
@[simp] theorem State.updWp_wp (s : State) (f : WriteState → WriteState) : (s.updWp f).wp = f s.wp := rfl
@[simp] theorem State.updWp_zone (s : State) (f : WriteState → WriteState) : (s.updWp f).zone = s.zone := rfl
@[simp] theorem State.updWp_md (s : State) (f : WriteState → WriteState) : (s.updWp f).md = s.md := rfl
@[simp] theorem State.updWp_net (s : State) (f : WriteState → WriteState) : (s.updWp f).net = s.net := rfl
@[simp] theorem State.updWp_serve (s : State) (f : WriteState → WriteState) : (s.updWp f).serve = s.serve := rfl
@[simp] theorem State.updWp_key (s : State) (f : WriteState → WriteState) : (s.updWp f).key = s.key := rfl
@[simp] theorem State.updWp_ten (s : State) (f : WriteState → WriteState) : (s.updWp f).ten = s.ten := rfl
@[simp] theorem State.updWp_cell (s : State) (f : WriteState → WriteState) : (s.updWp f).cell = s.cell := rfl
@[simp] theorem State.updWp_dram (s : State) (f : WriteState → WriteState) : (s.updWp f).dram = s.dram := rfl
@[simp] theorem State.updWp_units (s : State) (f : WriteState → WriteState) : (s.updWp f).units = s.units := rfl
@[simp] theorem State.updWp_pair (s : State) (f : WriteState → WriteState) : (s.updWp f).pair = s.pair := rfl

/-! ### State.updZone -/

@[simp] theorem State.updZone_regs (s : State) (f : ZoneState → ZoneState) : (s.updZone f).regs = s.regs := rfl
@[simp] theorem State.updZone_latch (s : State) (f : ZoneState → ZoneState) : (s.updZone f).latch = s.latch := rfl
@[simp] theorem State.updZone_loWrite (s : State) (f : ZoneState → ZoneState) : (s.updZone f).loWrite = s.loWrite := rfl
@[simp] theorem State.updZone_pending (s : State) (f : ZoneState → ZoneState) : (s.updZone f).pending = s.pending := rfl
@[simp] theorem State.updZone_out (s : State) (f : ZoneState → ZoneState) : (s.updZone f).out = s.out := rfl
@[simp] theorem State.updZone_freeCtr (s : State) (f : ZoneState → ZoneState) : (s.updZone f).freeCtr = s.freeCtr := rfl
@[simp] theorem State.updZone_time (s : State) (f : ZoneState → ZoneState) : (s.updZone f).time = s.time := rfl
@[simp] theorem State.updZone_evt (s : State) (f : ZoneState → ZoneState) : (s.updZone f).evt = s.evt := rfl
@[simp] theorem State.updZone_alm (s : State) (f : ZoneState → ZoneState) : (s.updZone f).alm = s.alm := rfl
@[simp] theorem State.updZone_mbx (s : State) (f : ZoneState → ZoneState) : (s.updZone f).mbx = s.mbx := rfl
@[simp] theorem State.updZone_q (s : State) (f : ZoneState → ZoneState) : (s.updZone f).q = s.q := rfl
@[simp] theorem State.updZone_host (s : State) (f : ZoneState → ZoneState) : (s.updZone f).host = s.host := rfl
@[simp] theorem State.updZone_power (s : State) (f : ZoneState → ZoneState) : (s.updZone f).power = s.power := rfl
@[simp] theorem State.updZone_chart (s : State) (f : ZoneState → ZoneState) : (s.updZone f).chart = s.chart := rfl
@[simp] theorem State.updZone_boot (s : State) (f : ZoneState → ZoneState) : (s.updZone f).boot = s.boot := rfl
@[simp] theorem State.updZone_nv (s : State) (f : ZoneState → ZoneState) : (s.updZone f).nv = s.nv := rfl
@[simp] theorem State.updZone_jr (s : State) (f : ZoneState → ZoneState) : (s.updZone f).jr = s.jr := rfl
@[simp] theorem State.updZone_wp (s : State) (f : ZoneState → ZoneState) : (s.updZone f).wp = s.wp := rfl
@[simp] theorem State.updZone_zone (s : State) (f : ZoneState → ZoneState) : (s.updZone f).zone = f s.zone := rfl
@[simp] theorem State.updZone_md (s : State) (f : ZoneState → ZoneState) : (s.updZone f).md = s.md := rfl
@[simp] theorem State.updZone_net (s : State) (f : ZoneState → ZoneState) : (s.updZone f).net = s.net := rfl
@[simp] theorem State.updZone_serve (s : State) (f : ZoneState → ZoneState) : (s.updZone f).serve = s.serve := rfl
@[simp] theorem State.updZone_key (s : State) (f : ZoneState → ZoneState) : (s.updZone f).key = s.key := rfl
@[simp] theorem State.updZone_ten (s : State) (f : ZoneState → ZoneState) : (s.updZone f).ten = s.ten := rfl
@[simp] theorem State.updZone_cell (s : State) (f : ZoneState → ZoneState) : (s.updZone f).cell = s.cell := rfl
@[simp] theorem State.updZone_dram (s : State) (f : ZoneState → ZoneState) : (s.updZone f).dram = s.dram := rfl
@[simp] theorem State.updZone_units (s : State) (f : ZoneState → ZoneState) : (s.updZone f).units = s.units := rfl
@[simp] theorem State.updZone_pair (s : State) (f : ZoneState → ZoneState) : (s.updZone f).pair = s.pair := rfl

/-! ### State.updMd -/

@[simp] theorem State.updMd_regs (s : State) (f : MediaState → MediaState) : (s.updMd f).regs = s.regs := rfl
@[simp] theorem State.updMd_latch (s : State) (f : MediaState → MediaState) : (s.updMd f).latch = s.latch := rfl
@[simp] theorem State.updMd_loWrite (s : State) (f : MediaState → MediaState) : (s.updMd f).loWrite = s.loWrite := rfl
@[simp] theorem State.updMd_pending (s : State) (f : MediaState → MediaState) : (s.updMd f).pending = s.pending := rfl
@[simp] theorem State.updMd_out (s : State) (f : MediaState → MediaState) : (s.updMd f).out = s.out := rfl
@[simp] theorem State.updMd_freeCtr (s : State) (f : MediaState → MediaState) : (s.updMd f).freeCtr = s.freeCtr := rfl
@[simp] theorem State.updMd_time (s : State) (f : MediaState → MediaState) : (s.updMd f).time = s.time := rfl
@[simp] theorem State.updMd_evt (s : State) (f : MediaState → MediaState) : (s.updMd f).evt = s.evt := rfl
@[simp] theorem State.updMd_alm (s : State) (f : MediaState → MediaState) : (s.updMd f).alm = s.alm := rfl
@[simp] theorem State.updMd_mbx (s : State) (f : MediaState → MediaState) : (s.updMd f).mbx = s.mbx := rfl
@[simp] theorem State.updMd_q (s : State) (f : MediaState → MediaState) : (s.updMd f).q = s.q := rfl
@[simp] theorem State.updMd_host (s : State) (f : MediaState → MediaState) : (s.updMd f).host = s.host := rfl
@[simp] theorem State.updMd_power (s : State) (f : MediaState → MediaState) : (s.updMd f).power = s.power := rfl
@[simp] theorem State.updMd_chart (s : State) (f : MediaState → MediaState) : (s.updMd f).chart = s.chart := rfl
@[simp] theorem State.updMd_boot (s : State) (f : MediaState → MediaState) : (s.updMd f).boot = s.boot := rfl
@[simp] theorem State.updMd_nv (s : State) (f : MediaState → MediaState) : (s.updMd f).nv = s.nv := rfl
@[simp] theorem State.updMd_jr (s : State) (f : MediaState → MediaState) : (s.updMd f).jr = s.jr := rfl
@[simp] theorem State.updMd_wp (s : State) (f : MediaState → MediaState) : (s.updMd f).wp = s.wp := rfl
@[simp] theorem State.updMd_zone (s : State) (f : MediaState → MediaState) : (s.updMd f).zone = s.zone := rfl
@[simp] theorem State.updMd_md (s : State) (f : MediaState → MediaState) : (s.updMd f).md = f s.md := rfl
@[simp] theorem State.updMd_net (s : State) (f : MediaState → MediaState) : (s.updMd f).net = s.net := rfl
@[simp] theorem State.updMd_serve (s : State) (f : MediaState → MediaState) : (s.updMd f).serve = s.serve := rfl
@[simp] theorem State.updMd_key (s : State) (f : MediaState → MediaState) : (s.updMd f).key = s.key := rfl
@[simp] theorem State.updMd_ten (s : State) (f : MediaState → MediaState) : (s.updMd f).ten = s.ten := rfl
@[simp] theorem State.updMd_cell (s : State) (f : MediaState → MediaState) : (s.updMd f).cell = s.cell := rfl
@[simp] theorem State.updMd_dram (s : State) (f : MediaState → MediaState) : (s.updMd f).dram = s.dram := rfl
@[simp] theorem State.updMd_units (s : State) (f : MediaState → MediaState) : (s.updMd f).units = s.units := rfl
@[simp] theorem State.updMd_pair (s : State) (f : MediaState → MediaState) : (s.updMd f).pair = s.pair := rfl

/-! ### State.updKey -/

@[simp] theorem State.updKey_regs (s : State) (f : KeyState → KeyState) : (s.updKey f).regs = s.regs := rfl
@[simp] theorem State.updKey_latch (s : State) (f : KeyState → KeyState) : (s.updKey f).latch = s.latch := rfl
@[simp] theorem State.updKey_loWrite (s : State) (f : KeyState → KeyState) : (s.updKey f).loWrite = s.loWrite := rfl
@[simp] theorem State.updKey_pending (s : State) (f : KeyState → KeyState) : (s.updKey f).pending = s.pending := rfl
@[simp] theorem State.updKey_out (s : State) (f : KeyState → KeyState) : (s.updKey f).out = s.out := rfl
@[simp] theorem State.updKey_freeCtr (s : State) (f : KeyState → KeyState) : (s.updKey f).freeCtr = s.freeCtr := rfl
@[simp] theorem State.updKey_time (s : State) (f : KeyState → KeyState) : (s.updKey f).time = s.time := rfl
@[simp] theorem State.updKey_evt (s : State) (f : KeyState → KeyState) : (s.updKey f).evt = s.evt := rfl
@[simp] theorem State.updKey_alm (s : State) (f : KeyState → KeyState) : (s.updKey f).alm = s.alm := rfl
@[simp] theorem State.updKey_mbx (s : State) (f : KeyState → KeyState) : (s.updKey f).mbx = s.mbx := rfl
@[simp] theorem State.updKey_q (s : State) (f : KeyState → KeyState) : (s.updKey f).q = s.q := rfl
@[simp] theorem State.updKey_host (s : State) (f : KeyState → KeyState) : (s.updKey f).host = s.host := rfl
@[simp] theorem State.updKey_power (s : State) (f : KeyState → KeyState) : (s.updKey f).power = s.power := rfl
@[simp] theorem State.updKey_chart (s : State) (f : KeyState → KeyState) : (s.updKey f).chart = s.chart := rfl
@[simp] theorem State.updKey_boot (s : State) (f : KeyState → KeyState) : (s.updKey f).boot = s.boot := rfl
@[simp] theorem State.updKey_nv (s : State) (f : KeyState → KeyState) : (s.updKey f).nv = s.nv := rfl
@[simp] theorem State.updKey_jr (s : State) (f : KeyState → KeyState) : (s.updKey f).jr = s.jr := rfl
@[simp] theorem State.updKey_wp (s : State) (f : KeyState → KeyState) : (s.updKey f).wp = s.wp := rfl
@[simp] theorem State.updKey_zone (s : State) (f : KeyState → KeyState) : (s.updKey f).zone = s.zone := rfl
@[simp] theorem State.updKey_md (s : State) (f : KeyState → KeyState) : (s.updKey f).md = s.md := rfl
@[simp] theorem State.updKey_net (s : State) (f : KeyState → KeyState) : (s.updKey f).net = s.net := rfl
@[simp] theorem State.updKey_serve (s : State) (f : KeyState → KeyState) : (s.updKey f).serve = s.serve := rfl
@[simp] theorem State.updKey_key (s : State) (f : KeyState → KeyState) : (s.updKey f).key = f s.key := rfl
@[simp] theorem State.updKey_ten (s : State) (f : KeyState → KeyState) : (s.updKey f).ten = s.ten := rfl
@[simp] theorem State.updKey_cell (s : State) (f : KeyState → KeyState) : (s.updKey f).cell = s.cell := rfl
@[simp] theorem State.updKey_dram (s : State) (f : KeyState → KeyState) : (s.updKey f).dram = s.dram := rfl
@[simp] theorem State.updKey_units (s : State) (f : KeyState → KeyState) : (s.updKey f).units = s.units := rfl
@[simp] theorem State.updKey_pair (s : State) (f : KeyState → KeyState) : (s.updKey f).pair = s.pair := rfl

/-! ### State.updTen -/

@[simp] theorem State.updTen_regs (s : State) (f : TenantState → TenantState) : (s.updTen f).regs = s.regs := rfl
@[simp] theorem State.updTen_latch (s : State) (f : TenantState → TenantState) : (s.updTen f).latch = s.latch := rfl
@[simp] theorem State.updTen_loWrite (s : State) (f : TenantState → TenantState) : (s.updTen f).loWrite = s.loWrite := rfl
@[simp] theorem State.updTen_pending (s : State) (f : TenantState → TenantState) : (s.updTen f).pending = s.pending := rfl
@[simp] theorem State.updTen_out (s : State) (f : TenantState → TenantState) : (s.updTen f).out = s.out := rfl
@[simp] theorem State.updTen_freeCtr (s : State) (f : TenantState → TenantState) : (s.updTen f).freeCtr = s.freeCtr := rfl
@[simp] theorem State.updTen_time (s : State) (f : TenantState → TenantState) : (s.updTen f).time = s.time := rfl
@[simp] theorem State.updTen_evt (s : State) (f : TenantState → TenantState) : (s.updTen f).evt = s.evt := rfl
@[simp] theorem State.updTen_alm (s : State) (f : TenantState → TenantState) : (s.updTen f).alm = s.alm := rfl
@[simp] theorem State.updTen_mbx (s : State) (f : TenantState → TenantState) : (s.updTen f).mbx = s.mbx := rfl
@[simp] theorem State.updTen_q (s : State) (f : TenantState → TenantState) : (s.updTen f).q = s.q := rfl
@[simp] theorem State.updTen_host (s : State) (f : TenantState → TenantState) : (s.updTen f).host = s.host := rfl
@[simp] theorem State.updTen_power (s : State) (f : TenantState → TenantState) : (s.updTen f).power = s.power := rfl
@[simp] theorem State.updTen_chart (s : State) (f : TenantState → TenantState) : (s.updTen f).chart = s.chart := rfl
@[simp] theorem State.updTen_boot (s : State) (f : TenantState → TenantState) : (s.updTen f).boot = s.boot := rfl
@[simp] theorem State.updTen_nv (s : State) (f : TenantState → TenantState) : (s.updTen f).nv = s.nv := rfl
@[simp] theorem State.updTen_jr (s : State) (f : TenantState → TenantState) : (s.updTen f).jr = s.jr := rfl
@[simp] theorem State.updTen_wp (s : State) (f : TenantState → TenantState) : (s.updTen f).wp = s.wp := rfl
@[simp] theorem State.updTen_zone (s : State) (f : TenantState → TenantState) : (s.updTen f).zone = s.zone := rfl
@[simp] theorem State.updTen_md (s : State) (f : TenantState → TenantState) : (s.updTen f).md = s.md := rfl
@[simp] theorem State.updTen_net (s : State) (f : TenantState → TenantState) : (s.updTen f).net = s.net := rfl
@[simp] theorem State.updTen_serve (s : State) (f : TenantState → TenantState) : (s.updTen f).serve = s.serve := rfl
@[simp] theorem State.updTen_key (s : State) (f : TenantState → TenantState) : (s.updTen f).key = s.key := rfl
@[simp] theorem State.updTen_ten (s : State) (f : TenantState → TenantState) : (s.updTen f).ten = f s.ten := rfl
@[simp] theorem State.updTen_cell (s : State) (f : TenantState → TenantState) : (s.updTen f).cell = s.cell := rfl
@[simp] theorem State.updTen_dram (s : State) (f : TenantState → TenantState) : (s.updTen f).dram = s.dram := rfl
@[simp] theorem State.updTen_units (s : State) (f : TenantState → TenantState) : (s.updTen f).units = s.units := rfl
@[simp] theorem State.updTen_pair (s : State) (f : TenantState → TenantState) : (s.updTen f).pair = s.pair := rfl

/-! ### State.updPair -/

@[simp] theorem State.updPair_regs (s : State) (f : PairState → PairState) : (s.updPair f).regs = s.regs := rfl
@[simp] theorem State.updPair_latch (s : State) (f : PairState → PairState) : (s.updPair f).latch = s.latch := rfl
@[simp] theorem State.updPair_loWrite (s : State) (f : PairState → PairState) : (s.updPair f).loWrite = s.loWrite := rfl
@[simp] theorem State.updPair_pending (s : State) (f : PairState → PairState) : (s.updPair f).pending = s.pending := rfl
@[simp] theorem State.updPair_out (s : State) (f : PairState → PairState) : (s.updPair f).out = s.out := rfl
@[simp] theorem State.updPair_freeCtr (s : State) (f : PairState → PairState) : (s.updPair f).freeCtr = s.freeCtr := rfl
@[simp] theorem State.updPair_time (s : State) (f : PairState → PairState) : (s.updPair f).time = s.time := rfl
@[simp] theorem State.updPair_evt (s : State) (f : PairState → PairState) : (s.updPair f).evt = s.evt := rfl
@[simp] theorem State.updPair_alm (s : State) (f : PairState → PairState) : (s.updPair f).alm = s.alm := rfl
@[simp] theorem State.updPair_mbx (s : State) (f : PairState → PairState) : (s.updPair f).mbx = s.mbx := rfl
@[simp] theorem State.updPair_q (s : State) (f : PairState → PairState) : (s.updPair f).q = s.q := rfl
@[simp] theorem State.updPair_host (s : State) (f : PairState → PairState) : (s.updPair f).host = s.host := rfl
@[simp] theorem State.updPair_power (s : State) (f : PairState → PairState) : (s.updPair f).power = s.power := rfl
@[simp] theorem State.updPair_chart (s : State) (f : PairState → PairState) : (s.updPair f).chart = s.chart := rfl
@[simp] theorem State.updPair_boot (s : State) (f : PairState → PairState) : (s.updPair f).boot = s.boot := rfl
@[simp] theorem State.updPair_nv (s : State) (f : PairState → PairState) : (s.updPair f).nv = s.nv := rfl
@[simp] theorem State.updPair_jr (s : State) (f : PairState → PairState) : (s.updPair f).jr = s.jr := rfl
@[simp] theorem State.updPair_wp (s : State) (f : PairState → PairState) : (s.updPair f).wp = s.wp := rfl
@[simp] theorem State.updPair_zone (s : State) (f : PairState → PairState) : (s.updPair f).zone = s.zone := rfl
@[simp] theorem State.updPair_md (s : State) (f : PairState → PairState) : (s.updPair f).md = s.md := rfl
@[simp] theorem State.updPair_net (s : State) (f : PairState → PairState) : (s.updPair f).net = s.net := rfl
@[simp] theorem State.updPair_serve (s : State) (f : PairState → PairState) : (s.updPair f).serve = s.serve := rfl
@[simp] theorem State.updPair_key (s : State) (f : PairState → PairState) : (s.updPair f).key = s.key := rfl
@[simp] theorem State.updPair_ten (s : State) (f : PairState → PairState) : (s.updPair f).ten = s.ten := rfl
@[simp] theorem State.updPair_cell (s : State) (f : PairState → PairState) : (s.updPair f).cell = s.cell := rfl
@[simp] theorem State.updPair_dram (s : State) (f : PairState → PairState) : (s.updPair f).dram = s.dram := rfl
@[simp] theorem State.updPair_units (s : State) (f : PairState → PairState) : (s.updPair f).units = s.units := rfl
@[simp] theorem State.updPair_pair (s : State) (f : PairState → PairState) : (s.updPair f).pair = f s.pair := rfl

/-! ### State.updNet -/

@[simp] theorem State.updNet_regs (s : State) (f : NetState → NetState) : (s.updNet f).regs = s.regs := rfl
@[simp] theorem State.updNet_latch (s : State) (f : NetState → NetState) : (s.updNet f).latch = s.latch := rfl
@[simp] theorem State.updNet_loWrite (s : State) (f : NetState → NetState) : (s.updNet f).loWrite = s.loWrite := rfl
@[simp] theorem State.updNet_pending (s : State) (f : NetState → NetState) : (s.updNet f).pending = s.pending := rfl
@[simp] theorem State.updNet_out (s : State) (f : NetState → NetState) : (s.updNet f).out = s.out := rfl
@[simp] theorem State.updNet_freeCtr (s : State) (f : NetState → NetState) : (s.updNet f).freeCtr = s.freeCtr := rfl
@[simp] theorem State.updNet_time (s : State) (f : NetState → NetState) : (s.updNet f).time = s.time := rfl
@[simp] theorem State.updNet_evt (s : State) (f : NetState → NetState) : (s.updNet f).evt = s.evt := rfl
@[simp] theorem State.updNet_alm (s : State) (f : NetState → NetState) : (s.updNet f).alm = s.alm := rfl
@[simp] theorem State.updNet_mbx (s : State) (f : NetState → NetState) : (s.updNet f).mbx = s.mbx := rfl
@[simp] theorem State.updNet_q (s : State) (f : NetState → NetState) : (s.updNet f).q = s.q := rfl
@[simp] theorem State.updNet_host (s : State) (f : NetState → NetState) : (s.updNet f).host = s.host := rfl
@[simp] theorem State.updNet_power (s : State) (f : NetState → NetState) : (s.updNet f).power = s.power := rfl
@[simp] theorem State.updNet_chart (s : State) (f : NetState → NetState) : (s.updNet f).chart = s.chart := rfl
@[simp] theorem State.updNet_boot (s : State) (f : NetState → NetState) : (s.updNet f).boot = s.boot := rfl
@[simp] theorem State.updNet_nv (s : State) (f : NetState → NetState) : (s.updNet f).nv = s.nv := rfl
@[simp] theorem State.updNet_jr (s : State) (f : NetState → NetState) : (s.updNet f).jr = s.jr := rfl
@[simp] theorem State.updNet_wp (s : State) (f : NetState → NetState) : (s.updNet f).wp = s.wp := rfl
@[simp] theorem State.updNet_zone (s : State) (f : NetState → NetState) : (s.updNet f).zone = s.zone := rfl
@[simp] theorem State.updNet_md (s : State) (f : NetState → NetState) : (s.updNet f).md = s.md := rfl
@[simp] theorem State.updNet_net (s : State) (f : NetState → NetState) : (s.updNet f).net = f s.net := rfl
@[simp] theorem State.updNet_serve (s : State) (f : NetState → NetState) : (s.updNet f).serve = s.serve := rfl
@[simp] theorem State.updNet_key (s : State) (f : NetState → NetState) : (s.updNet f).key = s.key := rfl
@[simp] theorem State.updNet_ten (s : State) (f : NetState → NetState) : (s.updNet f).ten = s.ten := rfl
@[simp] theorem State.updNet_cell (s : State) (f : NetState → NetState) : (s.updNet f).cell = s.cell := rfl
@[simp] theorem State.updNet_dram (s : State) (f : NetState → NetState) : (s.updNet f).dram = s.dram := rfl
@[simp] theorem State.updNet_units (s : State) (f : NetState → NetState) : (s.updNet f).units = s.units := rfl
@[simp] theorem State.updNet_pair (s : State) (f : NetState → NetState) : (s.updNet f).pair = s.pair := rfl

/-! ### State.updServe -/

@[simp] theorem State.updServe_regs (s : State) (f : ServeState → ServeState) : (s.updServe f).regs = s.regs := rfl
@[simp] theorem State.updServe_latch (s : State) (f : ServeState → ServeState) : (s.updServe f).latch = s.latch := rfl
@[simp] theorem State.updServe_loWrite (s : State) (f : ServeState → ServeState) : (s.updServe f).loWrite = s.loWrite := rfl
@[simp] theorem State.updServe_pending (s : State) (f : ServeState → ServeState) : (s.updServe f).pending = s.pending := rfl
@[simp] theorem State.updServe_out (s : State) (f : ServeState → ServeState) : (s.updServe f).out = s.out := rfl
@[simp] theorem State.updServe_freeCtr (s : State) (f : ServeState → ServeState) : (s.updServe f).freeCtr = s.freeCtr := rfl
@[simp] theorem State.updServe_time (s : State) (f : ServeState → ServeState) : (s.updServe f).time = s.time := rfl
@[simp] theorem State.updServe_evt (s : State) (f : ServeState → ServeState) : (s.updServe f).evt = s.evt := rfl
@[simp] theorem State.updServe_alm (s : State) (f : ServeState → ServeState) : (s.updServe f).alm = s.alm := rfl
@[simp] theorem State.updServe_mbx (s : State) (f : ServeState → ServeState) : (s.updServe f).mbx = s.mbx := rfl
@[simp] theorem State.updServe_q (s : State) (f : ServeState → ServeState) : (s.updServe f).q = s.q := rfl
@[simp] theorem State.updServe_host (s : State) (f : ServeState → ServeState) : (s.updServe f).host = s.host := rfl
@[simp] theorem State.updServe_power (s : State) (f : ServeState → ServeState) : (s.updServe f).power = s.power := rfl
@[simp] theorem State.updServe_chart (s : State) (f : ServeState → ServeState) : (s.updServe f).chart = s.chart := rfl
@[simp] theorem State.updServe_boot (s : State) (f : ServeState → ServeState) : (s.updServe f).boot = s.boot := rfl
@[simp] theorem State.updServe_nv (s : State) (f : ServeState → ServeState) : (s.updServe f).nv = s.nv := rfl
@[simp] theorem State.updServe_jr (s : State) (f : ServeState → ServeState) : (s.updServe f).jr = s.jr := rfl
@[simp] theorem State.updServe_wp (s : State) (f : ServeState → ServeState) : (s.updServe f).wp = s.wp := rfl
@[simp] theorem State.updServe_zone (s : State) (f : ServeState → ServeState) : (s.updServe f).zone = s.zone := rfl
@[simp] theorem State.updServe_md (s : State) (f : ServeState → ServeState) : (s.updServe f).md = s.md := rfl
@[simp] theorem State.updServe_net (s : State) (f : ServeState → ServeState) : (s.updServe f).net = s.net := rfl
@[simp] theorem State.updServe_serve (s : State) (f : ServeState → ServeState) : (s.updServe f).serve = f s.serve := rfl
@[simp] theorem State.updServe_key (s : State) (f : ServeState → ServeState) : (s.updServe f).key = s.key := rfl
@[simp] theorem State.updServe_ten (s : State) (f : ServeState → ServeState) : (s.updServe f).ten = s.ten := rfl
@[simp] theorem State.updServe_cell (s : State) (f : ServeState → ServeState) : (s.updServe f).cell = s.cell := rfl
@[simp] theorem State.updServe_dram (s : State) (f : ServeState → ServeState) : (s.updServe f).dram = s.dram := rfl
@[simp] theorem State.updServe_units (s : State) (f : ServeState → ServeState) : (s.updServe f).units = s.units := rfl
@[simp] theorem State.updServe_pair (s : State) (f : ServeState → ServeState) : (s.updServe f).pair = s.pair := rfl

/-! ### State.updCell -/

@[simp] theorem State.updCell_regs (s : State) (f : CellState → CellState) : (s.updCell f).regs = s.regs := rfl
@[simp] theorem State.updCell_latch (s : State) (f : CellState → CellState) : (s.updCell f).latch = s.latch := rfl
@[simp] theorem State.updCell_loWrite (s : State) (f : CellState → CellState) : (s.updCell f).loWrite = s.loWrite := rfl
@[simp] theorem State.updCell_pending (s : State) (f : CellState → CellState) : (s.updCell f).pending = s.pending := rfl
@[simp] theorem State.updCell_out (s : State) (f : CellState → CellState) : (s.updCell f).out = s.out := rfl
@[simp] theorem State.updCell_freeCtr (s : State) (f : CellState → CellState) : (s.updCell f).freeCtr = s.freeCtr := rfl
@[simp] theorem State.updCell_time (s : State) (f : CellState → CellState) : (s.updCell f).time = s.time := rfl
@[simp] theorem State.updCell_evt (s : State) (f : CellState → CellState) : (s.updCell f).evt = s.evt := rfl
@[simp] theorem State.updCell_alm (s : State) (f : CellState → CellState) : (s.updCell f).alm = s.alm := rfl
@[simp] theorem State.updCell_mbx (s : State) (f : CellState → CellState) : (s.updCell f).mbx = s.mbx := rfl
@[simp] theorem State.updCell_q (s : State) (f : CellState → CellState) : (s.updCell f).q = s.q := rfl
@[simp] theorem State.updCell_host (s : State) (f : CellState → CellState) : (s.updCell f).host = s.host := rfl
@[simp] theorem State.updCell_power (s : State) (f : CellState → CellState) : (s.updCell f).power = s.power := rfl
@[simp] theorem State.updCell_chart (s : State) (f : CellState → CellState) : (s.updCell f).chart = s.chart := rfl
@[simp] theorem State.updCell_boot (s : State) (f : CellState → CellState) : (s.updCell f).boot = s.boot := rfl
@[simp] theorem State.updCell_nv (s : State) (f : CellState → CellState) : (s.updCell f).nv = s.nv := rfl
@[simp] theorem State.updCell_jr (s : State) (f : CellState → CellState) : (s.updCell f).jr = s.jr := rfl
@[simp] theorem State.updCell_wp (s : State) (f : CellState → CellState) : (s.updCell f).wp = s.wp := rfl
@[simp] theorem State.updCell_zone (s : State) (f : CellState → CellState) : (s.updCell f).zone = s.zone := rfl
@[simp] theorem State.updCell_md (s : State) (f : CellState → CellState) : (s.updCell f).md = s.md := rfl
@[simp] theorem State.updCell_net (s : State) (f : CellState → CellState) : (s.updCell f).net = s.net := rfl
@[simp] theorem State.updCell_serve (s : State) (f : CellState → CellState) : (s.updCell f).serve = s.serve := rfl
@[simp] theorem State.updCell_key (s : State) (f : CellState → CellState) : (s.updCell f).key = s.key := rfl
@[simp] theorem State.updCell_ten (s : State) (f : CellState → CellState) : (s.updCell f).ten = s.ten := rfl
@[simp] theorem State.updCell_cell (s : State) (f : CellState → CellState) : (s.updCell f).cell = f s.cell := rfl
@[simp] theorem State.updCell_dram (s : State) (f : CellState → CellState) : (s.updCell f).dram = s.dram := rfl
@[simp] theorem State.updCell_units (s : State) (f : CellState → CellState) : (s.updCell f).units = s.units := rfl
@[simp] theorem State.updCell_pair (s : State) (f : CellState → CellState) : (s.updCell f).pair = s.pair := rfl

/-! ### State.updDram -/

@[simp] theorem State.updDram_regs (s : State) (f : DramState → DramState) : (s.updDram f).regs = s.regs := rfl
@[simp] theorem State.updDram_latch (s : State) (f : DramState → DramState) : (s.updDram f).latch = s.latch := rfl
@[simp] theorem State.updDram_loWrite (s : State) (f : DramState → DramState) : (s.updDram f).loWrite = s.loWrite := rfl
@[simp] theorem State.updDram_pending (s : State) (f : DramState → DramState) : (s.updDram f).pending = s.pending := rfl
@[simp] theorem State.updDram_out (s : State) (f : DramState → DramState) : (s.updDram f).out = s.out := rfl
@[simp] theorem State.updDram_freeCtr (s : State) (f : DramState → DramState) : (s.updDram f).freeCtr = s.freeCtr := rfl
@[simp] theorem State.updDram_time (s : State) (f : DramState → DramState) : (s.updDram f).time = s.time := rfl
@[simp] theorem State.updDram_evt (s : State) (f : DramState → DramState) : (s.updDram f).evt = s.evt := rfl
@[simp] theorem State.updDram_alm (s : State) (f : DramState → DramState) : (s.updDram f).alm = s.alm := rfl
@[simp] theorem State.updDram_mbx (s : State) (f : DramState → DramState) : (s.updDram f).mbx = s.mbx := rfl
@[simp] theorem State.updDram_q (s : State) (f : DramState → DramState) : (s.updDram f).q = s.q := rfl
@[simp] theorem State.updDram_host (s : State) (f : DramState → DramState) : (s.updDram f).host = s.host := rfl
@[simp] theorem State.updDram_power (s : State) (f : DramState → DramState) : (s.updDram f).power = s.power := rfl
@[simp] theorem State.updDram_chart (s : State) (f : DramState → DramState) : (s.updDram f).chart = s.chart := rfl
@[simp] theorem State.updDram_boot (s : State) (f : DramState → DramState) : (s.updDram f).boot = s.boot := rfl
@[simp] theorem State.updDram_nv (s : State) (f : DramState → DramState) : (s.updDram f).nv = s.nv := rfl
@[simp] theorem State.updDram_jr (s : State) (f : DramState → DramState) : (s.updDram f).jr = s.jr := rfl
@[simp] theorem State.updDram_wp (s : State) (f : DramState → DramState) : (s.updDram f).wp = s.wp := rfl
@[simp] theorem State.updDram_zone (s : State) (f : DramState → DramState) : (s.updDram f).zone = s.zone := rfl
@[simp] theorem State.updDram_md (s : State) (f : DramState → DramState) : (s.updDram f).md = s.md := rfl
@[simp] theorem State.updDram_net (s : State) (f : DramState → DramState) : (s.updDram f).net = s.net := rfl
@[simp] theorem State.updDram_serve (s : State) (f : DramState → DramState) : (s.updDram f).serve = s.serve := rfl
@[simp] theorem State.updDram_key (s : State) (f : DramState → DramState) : (s.updDram f).key = s.key := rfl
@[simp] theorem State.updDram_ten (s : State) (f : DramState → DramState) : (s.updDram f).ten = s.ten := rfl
@[simp] theorem State.updDram_cell (s : State) (f : DramState → DramState) : (s.updDram f).cell = s.cell := rfl
@[simp] theorem State.updDram_dram (s : State) (f : DramState → DramState) : (s.updDram f).dram = f s.dram := rfl
@[simp] theorem State.updDram_units (s : State) (f : DramState → DramState) : (s.updDram f).units = s.units := rfl
@[simp] theorem State.updDram_pair (s : State) (f : DramState → DramState) : (s.updDram f).pair = s.pair := rfl

/-! ### State.deliver -/

@[simp] theorem State.deliver_latch (s : State) (n : Nat) : (s.deliver n).latch = s.latch := (State.deliver_keeps ..).parts .latch rfl
@[simp] theorem State.deliver_loWrite (s : State) (n : Nat) : (s.deliver n).loWrite = s.loWrite := (State.deliver_keeps ..).parts .loWrite rfl
@[simp] theorem State.deliver_pending (s : State) (n : Nat) : (s.deliver n).pending = s.pending := (State.deliver_keeps ..).parts .pending rfl
@[simp] theorem State.deliver_freeCtr (s : State) (n : Nat) : (s.deliver n).freeCtr = s.freeCtr := (State.deliver_keeps ..).parts .freeCtr rfl
@[simp] theorem State.deliver_time (s : State) (n : Nat) : (s.deliver n).time = s.time := (State.deliver_keeps ..).parts .time rfl
@[simp] theorem State.deliver_evt (s : State) (n : Nat) : (s.deliver n).evt = s.evt := (State.deliver_keeps ..).parts .evt rfl
@[simp] theorem State.deliver_alm (s : State) (n : Nat) : (s.deliver n).alm = s.alm := (State.deliver_keeps ..).parts .alm rfl
@[simp] theorem State.deliver_mbx (s : State) (n : Nat) : (s.deliver n).mbx = s.mbx := (State.deliver_keeps ..).parts .mbx rfl
@[simp] theorem State.deliver_q (s : State) (n : Nat) : (s.deliver n).q = s.q := (State.deliver_keeps ..).parts .q rfl
@[simp] theorem State.deliver_power (s : State) (n : Nat) : (s.deliver n).power = s.power := (State.deliver_keeps ..).parts .power rfl
@[simp] theorem State.deliver_chart (s : State) (n : Nat) : (s.deliver n).chart = s.chart := (State.deliver_keeps ..).parts .chart rfl
@[simp] theorem State.deliver_boot (s : State) (n : Nat) : (s.deliver n).boot = s.boot := (State.deliver_keeps ..).parts .boot rfl
@[simp] theorem State.deliver_nv (s : State) (n : Nat) : (s.deliver n).nv = s.nv := (State.deliver_keeps ..).parts .nv rfl
@[simp] theorem State.deliver_jr (s : State) (n : Nat) : (s.deliver n).jr = s.jr := (State.deliver_keeps ..).parts .jr rfl
@[simp] theorem State.deliver_wp (s : State) (n : Nat) : (s.deliver n).wp = s.wp := (State.deliver_keeps ..).parts .wp rfl
@[simp] theorem State.deliver_zone (s : State) (n : Nat) : (s.deliver n).zone = s.zone := (State.deliver_keeps ..).parts .zone rfl
@[simp] theorem State.deliver_md (s : State) (n : Nat) : (s.deliver n).md = s.md := (State.deliver_keeps ..).parts .md rfl
@[simp] theorem State.deliver_net (s : State) (n : Nat) : (s.deliver n).net = s.net := (State.deliver_keeps ..).parts .net rfl
@[simp] theorem State.deliver_serve (s : State) (n : Nat) : (s.deliver n).serve = s.serve := (State.deliver_keeps ..).parts .serve rfl
@[simp] theorem State.deliver_key (s : State) (n : Nat) : (s.deliver n).key = s.key := (State.deliver_keeps ..).parts .key rfl
@[simp] theorem State.deliver_ten (s : State) (n : Nat) : (s.deliver n).ten = s.ten := (State.deliver_keeps ..).parts .ten rfl
@[simp] theorem State.deliver_cell (s : State) (n : Nat) : (s.deliver n).cell = s.cell := (State.deliver_keeps ..).parts .cell rfl
@[simp] theorem State.deliver_dram (s : State) (n : Nat) : (s.deliver n).dram = s.dram := (State.deliver_keeps ..).parts .dram rfl
@[simp] theorem State.deliver_units (s : State) (n : Nat) : (s.deliver n).units = s.units := (State.deliver_keeps ..).parts .units rfl
@[simp] theorem State.deliver_pair (s : State) (n : Nat) : (s.deliver n).pair = s.pair := (State.deliver_keeps ..).parts .pair rfl

/-! ### State.event -/

@[simp] theorem State.event_latch (s : State) (n : Nat) (d : List Int) (c : Nat) : (s.event n d c).latch = s.latch := (State.event_keeps ..).parts .latch rfl
@[simp] theorem State.event_loWrite (s : State) (n : Nat) (d : List Int) (c : Nat) : (s.event n d c).loWrite = s.loWrite := (State.event_keeps ..).parts .loWrite rfl
@[simp] theorem State.event_pending (s : State) (n : Nat) (d : List Int) (c : Nat) : (s.event n d c).pending = s.pending := (State.event_keeps ..).parts .pending rfl
@[simp] theorem State.event_freeCtr (s : State) (n : Nat) (d : List Int) (c : Nat) : (s.event n d c).freeCtr = s.freeCtr := (State.event_keeps ..).parts .freeCtr rfl
@[simp] theorem State.event_time (s : State) (n : Nat) (d : List Int) (c : Nat) : (s.event n d c).time = s.time := (State.event_keeps ..).parts .time rfl
@[simp] theorem State.event_mbx (s : State) (n : Nat) (d : List Int) (c : Nat) : (s.event n d c).mbx = s.mbx := (State.event_keeps ..).parts .mbx rfl
@[simp] theorem State.event_q (s : State) (n : Nat) (d : List Int) (c : Nat) : (s.event n d c).q = s.q := (State.event_keeps ..).parts .q rfl
@[simp] theorem State.event_power (s : State) (n : Nat) (d : List Int) (c : Nat) : (s.event n d c).power = s.power := (State.event_keeps ..).parts .power rfl
@[simp] theorem State.event_chart (s : State) (n : Nat) (d : List Int) (c : Nat) : (s.event n d c).chart = s.chart := (State.event_keeps ..).parts .chart rfl
@[simp] theorem State.event_boot (s : State) (n : Nat) (d : List Int) (c : Nat) : (s.event n d c).boot = s.boot := (State.event_keeps ..).parts .boot rfl
@[simp] theorem State.event_nv (s : State) (n : Nat) (d : List Int) (c : Nat) : (s.event n d c).nv = s.nv := (State.event_keeps ..).parts .nv rfl
@[simp] theorem State.event_jr (s : State) (n : Nat) (d : List Int) (c : Nat) : (s.event n d c).jr = s.jr := (State.event_keeps ..).parts .jr rfl
@[simp] theorem State.event_wp (s : State) (n : Nat) (d : List Int) (c : Nat) : (s.event n d c).wp = s.wp := (State.event_keeps ..).parts .wp rfl
@[simp] theorem State.event_zone (s : State) (n : Nat) (d : List Int) (c : Nat) : (s.event n d c).zone = s.zone := (State.event_keeps ..).parts .zone rfl
@[simp] theorem State.event_md (s : State) (n : Nat) (d : List Int) (c : Nat) : (s.event n d c).md = s.md := (State.event_keeps ..).parts .md rfl
@[simp] theorem State.event_net (s : State) (n : Nat) (d : List Int) (c : Nat) : (s.event n d c).net = s.net := (State.event_keeps ..).parts .net rfl
@[simp] theorem State.event_serve (s : State) (n : Nat) (d : List Int) (c : Nat) : (s.event n d c).serve = s.serve := (State.event_keeps ..).parts .serve rfl
@[simp] theorem State.event_key (s : State) (n : Nat) (d : List Int) (c : Nat) : (s.event n d c).key = s.key := (State.event_keeps ..).parts .key rfl
@[simp] theorem State.event_ten (s : State) (n : Nat) (d : List Int) (c : Nat) : (s.event n d c).ten = s.ten := (State.event_keeps ..).parts .ten rfl
@[simp] theorem State.event_cell (s : State) (n : Nat) (d : List Int) (c : Nat) : (s.event n d c).cell = s.cell := (State.event_keeps ..).parts .cell rfl
@[simp] theorem State.event_dram (s : State) (n : Nat) (d : List Int) (c : Nat) : (s.event n d c).dram = s.dram := (State.event_keeps ..).parts .dram rfl
@[simp] theorem State.event_units (s : State) (n : Nat) (d : List Int) (c : Nat) : (s.event n d c).units = s.units := (State.event_keeps ..).parts .units rfl
@[simp] theorem State.event_pair (s : State) (n : Nat) (d : List Int) (c : Nat) : (s.event n d c).pair = s.pair := (State.event_keeps ..).parts .pair rfl

/-! ### State.suppressed -/

@[simp] theorem State.suppressed_latch (s : State) (n : Nat) : (s.suppressed n).latch = s.latch := (State.suppressed_keeps ..).parts .latch rfl
@[simp] theorem State.suppressed_loWrite (s : State) (n : Nat) : (s.suppressed n).loWrite = s.loWrite := (State.suppressed_keeps ..).parts .loWrite rfl
@[simp] theorem State.suppressed_pending (s : State) (n : Nat) : (s.suppressed n).pending = s.pending := (State.suppressed_keeps ..).parts .pending rfl
@[simp] theorem State.suppressed_out (s : State) (n : Nat) : (s.suppressed n).out = s.out := (State.suppressed_keeps ..).parts .out rfl
@[simp] theorem State.suppressed_freeCtr (s : State) (n : Nat) : (s.suppressed n).freeCtr = s.freeCtr := (State.suppressed_keeps ..).parts .freeCtr rfl
@[simp] theorem State.suppressed_time (s : State) (n : Nat) : (s.suppressed n).time = s.time := (State.suppressed_keeps ..).parts .time rfl
@[simp] theorem State.suppressed_alm (s : State) (n : Nat) : (s.suppressed n).alm = s.alm := (State.suppressed_keeps ..).parts .alm rfl
@[simp] theorem State.suppressed_mbx (s : State) (n : Nat) : (s.suppressed n).mbx = s.mbx := (State.suppressed_keeps ..).parts .mbx rfl
@[simp] theorem State.suppressed_q (s : State) (n : Nat) : (s.suppressed n).q = s.q := (State.suppressed_keeps ..).parts .q rfl
@[simp] theorem State.suppressed_host (s : State) (n : Nat) : (s.suppressed n).host = s.host := (State.suppressed_keeps ..).parts .host rfl
@[simp] theorem State.suppressed_power (s : State) (n : Nat) : (s.suppressed n).power = s.power := (State.suppressed_keeps ..).parts .power rfl
@[simp] theorem State.suppressed_chart (s : State) (n : Nat) : (s.suppressed n).chart = s.chart := (State.suppressed_keeps ..).parts .chart rfl
@[simp] theorem State.suppressed_boot (s : State) (n : Nat) : (s.suppressed n).boot = s.boot := (State.suppressed_keeps ..).parts .boot rfl
@[simp] theorem State.suppressed_nv (s : State) (n : Nat) : (s.suppressed n).nv = s.nv := (State.suppressed_keeps ..).parts .nv rfl
@[simp] theorem State.suppressed_jr (s : State) (n : Nat) : (s.suppressed n).jr = s.jr := (State.suppressed_keeps ..).parts .jr rfl
@[simp] theorem State.suppressed_wp (s : State) (n : Nat) : (s.suppressed n).wp = s.wp := (State.suppressed_keeps ..).parts .wp rfl
@[simp] theorem State.suppressed_zone (s : State) (n : Nat) : (s.suppressed n).zone = s.zone := (State.suppressed_keeps ..).parts .zone rfl
@[simp] theorem State.suppressed_md (s : State) (n : Nat) : (s.suppressed n).md = s.md := (State.suppressed_keeps ..).parts .md rfl
@[simp] theorem State.suppressed_net (s : State) (n : Nat) : (s.suppressed n).net = s.net := (State.suppressed_keeps ..).parts .net rfl
@[simp] theorem State.suppressed_serve (s : State) (n : Nat) : (s.suppressed n).serve = s.serve := (State.suppressed_keeps ..).parts .serve rfl
@[simp] theorem State.suppressed_key (s : State) (n : Nat) : (s.suppressed n).key = s.key := (State.suppressed_keeps ..).parts .key rfl
@[simp] theorem State.suppressed_ten (s : State) (n : Nat) : (s.suppressed n).ten = s.ten := (State.suppressed_keeps ..).parts .ten rfl
@[simp] theorem State.suppressed_cell (s : State) (n : Nat) : (s.suppressed n).cell = s.cell := (State.suppressed_keeps ..).parts .cell rfl
@[simp] theorem State.suppressed_dram (s : State) (n : Nat) : (s.suppressed n).dram = s.dram := (State.suppressed_keeps ..).parts .dram rfl
@[simp] theorem State.suppressed_units (s : State) (n : Nat) : (s.suppressed n).units = s.units := (State.suppressed_keeps ..).parts .units rfl
@[simp] theorem State.suppressed_pair (s : State) (n : Nat) : (s.suppressed n).pair = s.pair := (State.suppressed_keeps ..).parts .pair rfl

/-! ### State.eventPer -/

@[simp] theorem State.eventPer_latch (s : State) (n k p : Nat) (d : List Int) : (s.eventPer n k p d).latch = s.latch := (State.eventPer_keeps ..).parts .latch rfl
@[simp] theorem State.eventPer_loWrite (s : State) (n k p : Nat) (d : List Int) : (s.eventPer n k p d).loWrite = s.loWrite := (State.eventPer_keeps ..).parts .loWrite rfl
@[simp] theorem State.eventPer_pending (s : State) (n k p : Nat) (d : List Int) : (s.eventPer n k p d).pending = s.pending := (State.eventPer_keeps ..).parts .pending rfl
@[simp] theorem State.eventPer_freeCtr (s : State) (n k p : Nat) (d : List Int) : (s.eventPer n k p d).freeCtr = s.freeCtr := (State.eventPer_keeps ..).parts .freeCtr rfl
@[simp] theorem State.eventPer_time (s : State) (n k p : Nat) (d : List Int) : (s.eventPer n k p d).time = s.time := (State.eventPer_keeps ..).parts .time rfl
@[simp] theorem State.eventPer_mbx (s : State) (n k p : Nat) (d : List Int) : (s.eventPer n k p d).mbx = s.mbx := (State.eventPer_keeps ..).parts .mbx rfl
@[simp] theorem State.eventPer_q (s : State) (n k p : Nat) (d : List Int) : (s.eventPer n k p d).q = s.q := (State.eventPer_keeps ..).parts .q rfl
@[simp] theorem State.eventPer_power (s : State) (n k p : Nat) (d : List Int) : (s.eventPer n k p d).power = s.power := (State.eventPer_keeps ..).parts .power rfl
@[simp] theorem State.eventPer_chart (s : State) (n k p : Nat) (d : List Int) : (s.eventPer n k p d).chart = s.chart := (State.eventPer_keeps ..).parts .chart rfl
@[simp] theorem State.eventPer_boot (s : State) (n k p : Nat) (d : List Int) : (s.eventPer n k p d).boot = s.boot := (State.eventPer_keeps ..).parts .boot rfl
@[simp] theorem State.eventPer_nv (s : State) (n k p : Nat) (d : List Int) : (s.eventPer n k p d).nv = s.nv := (State.eventPer_keeps ..).parts .nv rfl
@[simp] theorem State.eventPer_jr (s : State) (n k p : Nat) (d : List Int) : (s.eventPer n k p d).jr = s.jr := (State.eventPer_keeps ..).parts .jr rfl
@[simp] theorem State.eventPer_wp (s : State) (n k p : Nat) (d : List Int) : (s.eventPer n k p d).wp = s.wp := (State.eventPer_keeps ..).parts .wp rfl
@[simp] theorem State.eventPer_zone (s : State) (n k p : Nat) (d : List Int) : (s.eventPer n k p d).zone = s.zone := (State.eventPer_keeps ..).parts .zone rfl
@[simp] theorem State.eventPer_md (s : State) (n k p : Nat) (d : List Int) : (s.eventPer n k p d).md = s.md := (State.eventPer_keeps ..).parts .md rfl
@[simp] theorem State.eventPer_net (s : State) (n k p : Nat) (d : List Int) : (s.eventPer n k p d).net = s.net := (State.eventPer_keeps ..).parts .net rfl
@[simp] theorem State.eventPer_serve (s : State) (n k p : Nat) (d : List Int) : (s.eventPer n k p d).serve = s.serve := (State.eventPer_keeps ..).parts .serve rfl
@[simp] theorem State.eventPer_key (s : State) (n k p : Nat) (d : List Int) : (s.eventPer n k p d).key = s.key := (State.eventPer_keeps ..).parts .key rfl
@[simp] theorem State.eventPer_ten (s : State) (n k p : Nat) (d : List Int) : (s.eventPer n k p d).ten = s.ten := (State.eventPer_keeps ..).parts .ten rfl
@[simp] theorem State.eventPer_cell (s : State) (n k p : Nat) (d : List Int) : (s.eventPer n k p d).cell = s.cell := (State.eventPer_keeps ..).parts .cell rfl
@[simp] theorem State.eventPer_dram (s : State) (n k p : Nat) (d : List Int) : (s.eventPer n k p d).dram = s.dram := (State.eventPer_keeps ..).parts .dram rfl
@[simp] theorem State.eventPer_units (s : State) (n k p : Nat) (d : List Int) : (s.eventPer n k p d).units = s.units := (State.eventPer_keeps ..).parts .units rfl
@[simp] theorem State.eventPer_pair (s : State) (n k p : Nat) (d : List Int) : (s.eventPer n k p d).pair = s.pair := (State.eventPer_keeps ..).parts .pair rfl

/-! ### State.eventPerMeridian -/

@[simp] theorem State.eventPerMeridian_latch (s : State) (n k : Nat) (d : List Int) : (s.eventPerMeridian n k d).latch = s.latch := (State.eventPerMeridian_keeps ..).parts .latch rfl
@[simp] theorem State.eventPerMeridian_loWrite (s : State) (n k : Nat) (d : List Int) : (s.eventPerMeridian n k d).loWrite = s.loWrite := (State.eventPerMeridian_keeps ..).parts .loWrite rfl
@[simp] theorem State.eventPerMeridian_pending (s : State) (n k : Nat) (d : List Int) : (s.eventPerMeridian n k d).pending = s.pending := (State.eventPerMeridian_keeps ..).parts .pending rfl
@[simp] theorem State.eventPerMeridian_freeCtr (s : State) (n k : Nat) (d : List Int) : (s.eventPerMeridian n k d).freeCtr = s.freeCtr := (State.eventPerMeridian_keeps ..).parts .freeCtr rfl
@[simp] theorem State.eventPerMeridian_time (s : State) (n k : Nat) (d : List Int) : (s.eventPerMeridian n k d).time = s.time := (State.eventPerMeridian_keeps ..).parts .time rfl
@[simp] theorem State.eventPerMeridian_mbx (s : State) (n k : Nat) (d : List Int) : (s.eventPerMeridian n k d).mbx = s.mbx := (State.eventPerMeridian_keeps ..).parts .mbx rfl
@[simp] theorem State.eventPerMeridian_q (s : State) (n k : Nat) (d : List Int) : (s.eventPerMeridian n k d).q = s.q := (State.eventPerMeridian_keeps ..).parts .q rfl
@[simp] theorem State.eventPerMeridian_power (s : State) (n k : Nat) (d : List Int) : (s.eventPerMeridian n k d).power = s.power := (State.eventPerMeridian_keeps ..).parts .power rfl
@[simp] theorem State.eventPerMeridian_chart (s : State) (n k : Nat) (d : List Int) : (s.eventPerMeridian n k d).chart = s.chart := (State.eventPerMeridian_keeps ..).parts .chart rfl
@[simp] theorem State.eventPerMeridian_boot (s : State) (n k : Nat) (d : List Int) : (s.eventPerMeridian n k d).boot = s.boot := (State.eventPerMeridian_keeps ..).parts .boot rfl
@[simp] theorem State.eventPerMeridian_nv (s : State) (n k : Nat) (d : List Int) : (s.eventPerMeridian n k d).nv = s.nv := (State.eventPerMeridian_keeps ..).parts .nv rfl
@[simp] theorem State.eventPerMeridian_jr (s : State) (n k : Nat) (d : List Int) : (s.eventPerMeridian n k d).jr = s.jr := (State.eventPerMeridian_keeps ..).parts .jr rfl
@[simp] theorem State.eventPerMeridian_wp (s : State) (n k : Nat) (d : List Int) : (s.eventPerMeridian n k d).wp = s.wp := (State.eventPerMeridian_keeps ..).parts .wp rfl
@[simp] theorem State.eventPerMeridian_zone (s : State) (n k : Nat) (d : List Int) : (s.eventPerMeridian n k d).zone = s.zone := (State.eventPerMeridian_keeps ..).parts .zone rfl
@[simp] theorem State.eventPerMeridian_md (s : State) (n k : Nat) (d : List Int) : (s.eventPerMeridian n k d).md = s.md := (State.eventPerMeridian_keeps ..).parts .md rfl
@[simp] theorem State.eventPerMeridian_net (s : State) (n k : Nat) (d : List Int) : (s.eventPerMeridian n k d).net = s.net := (State.eventPerMeridian_keeps ..).parts .net rfl
@[simp] theorem State.eventPerMeridian_serve (s : State) (n k : Nat) (d : List Int) : (s.eventPerMeridian n k d).serve = s.serve := (State.eventPerMeridian_keeps ..).parts .serve rfl
@[simp] theorem State.eventPerMeridian_key (s : State) (n k : Nat) (d : List Int) : (s.eventPerMeridian n k d).key = s.key := (State.eventPerMeridian_keeps ..).parts .key rfl
@[simp] theorem State.eventPerMeridian_ten (s : State) (n k : Nat) (d : List Int) : (s.eventPerMeridian n k d).ten = s.ten := (State.eventPerMeridian_keeps ..).parts .ten rfl
@[simp] theorem State.eventPerMeridian_cell (s : State) (n k : Nat) (d : List Int) : (s.eventPerMeridian n k d).cell = s.cell := (State.eventPerMeridian_keeps ..).parts .cell rfl
@[simp] theorem State.eventPerMeridian_dram (s : State) (n k : Nat) (d : List Int) : (s.eventPerMeridian n k d).dram = s.dram := (State.eventPerMeridian_keeps ..).parts .dram rfl
@[simp] theorem State.eventPerMeridian_units (s : State) (n k : Nat) (d : List Int) : (s.eventPerMeridian n k d).units = s.units := (State.eventPerMeridian_keeps ..).parts .units rfl
@[simp] theorem State.eventPerMeridian_pair (s : State) (n k : Nat) (d : List Int) : (s.eventPerMeridian n k d).pair = s.pair := (State.eventPerMeridian_keeps ..).parts .pair rfl

/-! ### State.msix -/

@[simp] theorem State.msix_regs (s : State) (o v : Nat) : (s.msix o v).regs = s.regs := (State.msix_keeps ..).parts .regs rfl
@[simp] theorem State.msix_latch (s : State) (o v : Nat) : (s.msix o v).latch = s.latch := (State.msix_keeps ..).parts .latch rfl
@[simp] theorem State.msix_loWrite (s : State) (o v : Nat) : (s.msix o v).loWrite = s.loWrite := (State.msix_keeps ..).parts .loWrite rfl
@[simp] theorem State.msix_pending (s : State) (o v : Nat) : (s.msix o v).pending = s.pending := (State.msix_keeps ..).parts .pending rfl
@[simp] theorem State.msix_freeCtr (s : State) (o v : Nat) : (s.msix o v).freeCtr = s.freeCtr := (State.msix_keeps ..).parts .freeCtr rfl
@[simp] theorem State.msix_time (s : State) (o v : Nat) : (s.msix o v).time = s.time := (State.msix_keeps ..).parts .time rfl
@[simp] theorem State.msix_evt (s : State) (o v : Nat) : (s.msix o v).evt = s.evt := (State.msix_keeps ..).parts .evt rfl
@[simp] theorem State.msix_alm (s : State) (o v : Nat) : (s.msix o v).alm = s.alm := (State.msix_keeps ..).parts .alm rfl
@[simp] theorem State.msix_mbx (s : State) (o v : Nat) : (s.msix o v).mbx = s.mbx := (State.msix_keeps ..).parts .mbx rfl
@[simp] theorem State.msix_q (s : State) (o v : Nat) : (s.msix o v).q = s.q := (State.msix_keeps ..).parts .q rfl
@[simp] theorem State.msix_power (s : State) (o v : Nat) : (s.msix o v).power = s.power := (State.msix_keeps ..).parts .power rfl
@[simp] theorem State.msix_chart (s : State) (o v : Nat) : (s.msix o v).chart = s.chart := (State.msix_keeps ..).parts .chart rfl
@[simp] theorem State.msix_boot (s : State) (o v : Nat) : (s.msix o v).boot = s.boot := (State.msix_keeps ..).parts .boot rfl
@[simp] theorem State.msix_nv (s : State) (o v : Nat) : (s.msix o v).nv = s.nv := (State.msix_keeps ..).parts .nv rfl
@[simp] theorem State.msix_jr (s : State) (o v : Nat) : (s.msix o v).jr = s.jr := (State.msix_keeps ..).parts .jr rfl
@[simp] theorem State.msix_wp (s : State) (o v : Nat) : (s.msix o v).wp = s.wp := (State.msix_keeps ..).parts .wp rfl
@[simp] theorem State.msix_zone (s : State) (o v : Nat) : (s.msix o v).zone = s.zone := (State.msix_keeps ..).parts .zone rfl
@[simp] theorem State.msix_md (s : State) (o v : Nat) : (s.msix o v).md = s.md := (State.msix_keeps ..).parts .md rfl
@[simp] theorem State.msix_net (s : State) (o v : Nat) : (s.msix o v).net = s.net := (State.msix_keeps ..).parts .net rfl
@[simp] theorem State.msix_serve (s : State) (o v : Nat) : (s.msix o v).serve = s.serve := (State.msix_keeps ..).parts .serve rfl
@[simp] theorem State.msix_key (s : State) (o v : Nat) : (s.msix o v).key = s.key := (State.msix_keeps ..).parts .key rfl
@[simp] theorem State.msix_ten (s : State) (o v : Nat) : (s.msix o v).ten = s.ten := (State.msix_keeps ..).parts .ten rfl
@[simp] theorem State.msix_cell (s : State) (o v : Nat) : (s.msix o v).cell = s.cell := (State.msix_keeps ..).parts .cell rfl
@[simp] theorem State.msix_dram (s : State) (o v : Nat) : (s.msix o v).dram = s.dram := (State.msix_keeps ..).parts .dram rfl
@[simp] theorem State.msix_units (s : State) (o v : Nat) : (s.msix o v).units = s.units := (State.msix_keeps ..).parts .units rfl
@[simp] theorem State.msix_pair (s : State) (o v : Nat) : (s.msix o v).pair = s.pair := (State.msix_keeps ..).parts .pair rfl

/-! ### State.aen -/

@[simp] theorem State.aen_regs (s : State) (o k i p : Nat) : (s.aen o k i p).regs = s.regs := (State.aen_keeps ..).parts .regs rfl
@[simp] theorem State.aen_latch (s : State) (o k i p : Nat) : (s.aen o k i p).latch = s.latch := (State.aen_keeps ..).parts .latch rfl
@[simp] theorem State.aen_loWrite (s : State) (o k i p : Nat) : (s.aen o k i p).loWrite = s.loWrite := (State.aen_keeps ..).parts .loWrite rfl
@[simp] theorem State.aen_pending (s : State) (o k i p : Nat) : (s.aen o k i p).pending = s.pending := (State.aen_keeps ..).parts .pending rfl
@[simp] theorem State.aen_freeCtr (s : State) (o k i p : Nat) : (s.aen o k i p).freeCtr = s.freeCtr := (State.aen_keeps ..).parts .freeCtr rfl
@[simp] theorem State.aen_time (s : State) (o k i p : Nat) : (s.aen o k i p).time = s.time := (State.aen_keeps ..).parts .time rfl
@[simp] theorem State.aen_evt (s : State) (o k i p : Nat) : (s.aen o k i p).evt = s.evt := (State.aen_keeps ..).parts .evt rfl
@[simp] theorem State.aen_alm (s : State) (o k i p : Nat) : (s.aen o k i p).alm = s.alm := (State.aen_keeps ..).parts .alm rfl
@[simp] theorem State.aen_mbx (s : State) (o k i p : Nat) : (s.aen o k i p).mbx = s.mbx := (State.aen_keeps ..).parts .mbx rfl
@[simp] theorem State.aen_power (s : State) (o k i p : Nat) : (s.aen o k i p).power = s.power := (State.aen_keeps ..).parts .power rfl
@[simp] theorem State.aen_chart (s : State) (o k i p : Nat) : (s.aen o k i p).chart = s.chart := (State.aen_keeps ..).parts .chart rfl
@[simp] theorem State.aen_boot (s : State) (o k i p : Nat) : (s.aen o k i p).boot = s.boot := (State.aen_keeps ..).parts .boot rfl
@[simp] theorem State.aen_nv (s : State) (o k i p : Nat) : (s.aen o k i p).nv = s.nv := (State.aen_keeps ..).parts .nv rfl
@[simp] theorem State.aen_jr (s : State) (o k i p : Nat) : (s.aen o k i p).jr = s.jr := (State.aen_keeps ..).parts .jr rfl
@[simp] theorem State.aen_wp (s : State) (o k i p : Nat) : (s.aen o k i p).wp = s.wp := (State.aen_keeps ..).parts .wp rfl
@[simp] theorem State.aen_zone (s : State) (o k i p : Nat) : (s.aen o k i p).zone = s.zone := (State.aen_keeps ..).parts .zone rfl
@[simp] theorem State.aen_md (s : State) (o k i p : Nat) : (s.aen o k i p).md = s.md := (State.aen_keeps ..).parts .md rfl
@[simp] theorem State.aen_net (s : State) (o k i p : Nat) : (s.aen o k i p).net = s.net := (State.aen_keeps ..).parts .net rfl
@[simp] theorem State.aen_serve (s : State) (o k i p : Nat) : (s.aen o k i p).serve = s.serve := (State.aen_keeps ..).parts .serve rfl
@[simp] theorem State.aen_key (s : State) (o k i p : Nat) : (s.aen o k i p).key = s.key := (State.aen_keeps ..).parts .key rfl
@[simp] theorem State.aen_ten (s : State) (o k i p : Nat) : (s.aen o k i p).ten = s.ten := (State.aen_keeps ..).parts .ten rfl
@[simp] theorem State.aen_cell (s : State) (o k i p : Nat) : (s.aen o k i p).cell = s.cell := (State.aen_keeps ..).parts .cell rfl
@[simp] theorem State.aen_dram (s : State) (o k i p : Nat) : (s.aen o k i p).dram = s.dram := (State.aen_keeps ..).parts .dram rfl
@[simp] theorem State.aen_units (s : State) (o k i p : Nat) : (s.aen o k i p).units = s.units := (State.aen_keeps ..).parts .units rfl
@[simp] theorem State.aen_pair (s : State) (o k i p : Nat) : (s.aen o k i p).pair = s.pair := (State.aen_keeps ..).parts .pair rfl

/-! ### State.aenClear -/

@[simp] theorem State.aenClear_regs (s : State) (o k : Nat) : (s.aenClear o k).regs = s.regs := (State.aenClear_keeps ..).parts .regs rfl
@[simp] theorem State.aenClear_latch (s : State) (o k : Nat) : (s.aenClear o k).latch = s.latch := (State.aenClear_keeps ..).parts .latch rfl
@[simp] theorem State.aenClear_loWrite (s : State) (o k : Nat) : (s.aenClear o k).loWrite = s.loWrite := (State.aenClear_keeps ..).parts .loWrite rfl
@[simp] theorem State.aenClear_pending (s : State) (o k : Nat) : (s.aenClear o k).pending = s.pending := (State.aenClear_keeps ..).parts .pending rfl
@[simp] theorem State.aenClear_freeCtr (s : State) (o k : Nat) : (s.aenClear o k).freeCtr = s.freeCtr := (State.aenClear_keeps ..).parts .freeCtr rfl
@[simp] theorem State.aenClear_time (s : State) (o k : Nat) : (s.aenClear o k).time = s.time := (State.aenClear_keeps ..).parts .time rfl
@[simp] theorem State.aenClear_evt (s : State) (o k : Nat) : (s.aenClear o k).evt = s.evt := (State.aenClear_keeps ..).parts .evt rfl
@[simp] theorem State.aenClear_alm (s : State) (o k : Nat) : (s.aenClear o k).alm = s.alm := (State.aenClear_keeps ..).parts .alm rfl
@[simp] theorem State.aenClear_mbx (s : State) (o k : Nat) : (s.aenClear o k).mbx = s.mbx := (State.aenClear_keeps ..).parts .mbx rfl
@[simp] theorem State.aenClear_power (s : State) (o k : Nat) : (s.aenClear o k).power = s.power := (State.aenClear_keeps ..).parts .power rfl
@[simp] theorem State.aenClear_chart (s : State) (o k : Nat) : (s.aenClear o k).chart = s.chart := (State.aenClear_keeps ..).parts .chart rfl
@[simp] theorem State.aenClear_boot (s : State) (o k : Nat) : (s.aenClear o k).boot = s.boot := (State.aenClear_keeps ..).parts .boot rfl
@[simp] theorem State.aenClear_nv (s : State) (o k : Nat) : (s.aenClear o k).nv = s.nv := (State.aenClear_keeps ..).parts .nv rfl
@[simp] theorem State.aenClear_jr (s : State) (o k : Nat) : (s.aenClear o k).jr = s.jr := (State.aenClear_keeps ..).parts .jr rfl
@[simp] theorem State.aenClear_wp (s : State) (o k : Nat) : (s.aenClear o k).wp = s.wp := (State.aenClear_keeps ..).parts .wp rfl
@[simp] theorem State.aenClear_zone (s : State) (o k : Nat) : (s.aenClear o k).zone = s.zone := (State.aenClear_keeps ..).parts .zone rfl
@[simp] theorem State.aenClear_md (s : State) (o k : Nat) : (s.aenClear o k).md = s.md := (State.aenClear_keeps ..).parts .md rfl
@[simp] theorem State.aenClear_net (s : State) (o k : Nat) : (s.aenClear o k).net = s.net := (State.aenClear_keeps ..).parts .net rfl
@[simp] theorem State.aenClear_serve (s : State) (o k : Nat) : (s.aenClear o k).serve = s.serve := (State.aenClear_keeps ..).parts .serve rfl
@[simp] theorem State.aenClear_key (s : State) (o k : Nat) : (s.aenClear o k).key = s.key := (State.aenClear_keeps ..).parts .key rfl
@[simp] theorem State.aenClear_ten (s : State) (o k : Nat) : (s.aenClear o k).ten = s.ten := (State.aenClear_keeps ..).parts .ten rfl
@[simp] theorem State.aenClear_cell (s : State) (o k : Nat) : (s.aenClear o k).cell = s.cell := (State.aenClear_keeps ..).parts .cell rfl
@[simp] theorem State.aenClear_dram (s : State) (o k : Nat) : (s.aenClear o k).dram = s.dram := (State.aenClear_keeps ..).parts .dram rfl
@[simp] theorem State.aenClear_units (s : State) (o k : Nat) : (s.aenClear o k).units = s.units := (State.aenClear_keeps ..).parts .units rfl
@[simp] theorem State.aenClear_pair (s : State) (o k : Nat) : (s.aenClear o k).pair = s.pair := (State.aenClear_keeps ..).parts .pair rfl

/-! ### State.fatal -/

@[simp] theorem State.fatal_latch (s : State) (o : Nat) : (s.fatal o).latch = s.latch := (State.fatal_keeps ..).parts .latch rfl
@[simp] theorem State.fatal_loWrite (s : State) (o : Nat) : (s.fatal o).loWrite = s.loWrite := (State.fatal_keeps ..).parts .loWrite rfl
@[simp] theorem State.fatal_pending (s : State) (o : Nat) : (s.fatal o).pending = s.pending := (State.fatal_keeps ..).parts .pending rfl
@[simp] theorem State.fatal_freeCtr (s : State) (o : Nat) : (s.fatal o).freeCtr = s.freeCtr := (State.fatal_keeps ..).parts .freeCtr rfl
@[simp] theorem State.fatal_time (s : State) (o : Nat) : (s.fatal o).time = s.time := (State.fatal_keeps ..).parts .time rfl
@[simp] theorem State.fatal_mbx (s : State) (o : Nat) : (s.fatal o).mbx = s.mbx := (State.fatal_keeps ..).parts .mbx rfl
@[simp] theorem State.fatal_q (s : State) (o : Nat) : (s.fatal o).q = s.q := (State.fatal_keeps ..).parts .q rfl
@[simp] theorem State.fatal_power (s : State) (o : Nat) : (s.fatal o).power = s.power := (State.fatal_keeps ..).parts .power rfl
@[simp] theorem State.fatal_chart (s : State) (o : Nat) : (s.fatal o).chart = s.chart := (State.fatal_keeps ..).parts .chart rfl
@[simp] theorem State.fatal_boot (s : State) (o : Nat) : (s.fatal o).boot = s.boot := (State.fatal_keeps ..).parts .boot rfl
@[simp] theorem State.fatal_nv (s : State) (o : Nat) : (s.fatal o).nv = s.nv := (State.fatal_keeps ..).parts .nv rfl
@[simp] theorem State.fatal_jr (s : State) (o : Nat) : (s.fatal o).jr = s.jr := (State.fatal_keeps ..).parts .jr rfl
@[simp] theorem State.fatal_wp (s : State) (o : Nat) : (s.fatal o).wp = s.wp := (State.fatal_keeps ..).parts .wp rfl
@[simp] theorem State.fatal_zone (s : State) (o : Nat) : (s.fatal o).zone = s.zone := (State.fatal_keeps ..).parts .zone rfl
@[simp] theorem State.fatal_md (s : State) (o : Nat) : (s.fatal o).md = s.md := (State.fatal_keeps ..).parts .md rfl
@[simp] theorem State.fatal_net (s : State) (o : Nat) : (s.fatal o).net = s.net := (State.fatal_keeps ..).parts .net rfl
@[simp] theorem State.fatal_serve (s : State) (o : Nat) : (s.fatal o).serve = s.serve := (State.fatal_keeps ..).parts .serve rfl
@[simp] theorem State.fatal_key (s : State) (o : Nat) : (s.fatal o).key = s.key := (State.fatal_keeps ..).parts .key rfl
@[simp] theorem State.fatal_ten (s : State) (o : Nat) : (s.fatal o).ten = s.ten := (State.fatal_keeps ..).parts .ten rfl
@[simp] theorem State.fatal_cell (s : State) (o : Nat) : (s.fatal o).cell = s.cell := (State.fatal_keeps ..).parts .cell rfl
@[simp] theorem State.fatal_dram (s : State) (o : Nat) : (s.fatal o).dram = s.dram := (State.fatal_keeps ..).parts .dram rfl
@[simp] theorem State.fatal_units (s : State) (o : Nat) : (s.fatal o).units = s.units := (State.fatal_keeps ..).parts .units rfl
@[simp] theorem State.fatal_pair (s : State) (o : Nat) : (s.fatal o).pair = s.pair := (State.fatal_keeps ..).parts .pair rfl

/-! ### State.firstError -/

@[simp] theorem State.firstError_latch (s : State) (v : Field) (l : List (Field × Nat)) : (s.firstError v l).latch = s.latch := (State.firstError_keeps ..).parts .latch rfl
@[simp] theorem State.firstError_loWrite (s : State) (v : Field) (l : List (Field × Nat)) : (s.firstError v l).loWrite = s.loWrite := (State.firstError_keeps ..).parts .loWrite rfl
@[simp] theorem State.firstError_pending (s : State) (v : Field) (l : List (Field × Nat)) : (s.firstError v l).pending = s.pending := (State.firstError_keeps ..).parts .pending rfl
@[simp] theorem State.firstError_out (s : State) (v : Field) (l : List (Field × Nat)) : (s.firstError v l).out = s.out := (State.firstError_keeps ..).parts .out rfl
@[simp] theorem State.firstError_freeCtr (s : State) (v : Field) (l : List (Field × Nat)) : (s.firstError v l).freeCtr = s.freeCtr := (State.firstError_keeps ..).parts .freeCtr rfl
@[simp] theorem State.firstError_time (s : State) (v : Field) (l : List (Field × Nat)) : (s.firstError v l).time = s.time := (State.firstError_keeps ..).parts .time rfl
@[simp] theorem State.firstError_evt (s : State) (v : Field) (l : List (Field × Nat)) : (s.firstError v l).evt = s.evt := (State.firstError_keeps ..).parts .evt rfl
@[simp] theorem State.firstError_alm (s : State) (v : Field) (l : List (Field × Nat)) : (s.firstError v l).alm = s.alm := (State.firstError_keeps ..).parts .alm rfl
@[simp] theorem State.firstError_mbx (s : State) (v : Field) (l : List (Field × Nat)) : (s.firstError v l).mbx = s.mbx := (State.firstError_keeps ..).parts .mbx rfl
@[simp] theorem State.firstError_q (s : State) (v : Field) (l : List (Field × Nat)) : (s.firstError v l).q = s.q := (State.firstError_keeps ..).parts .q rfl
@[simp] theorem State.firstError_host (s : State) (v : Field) (l : List (Field × Nat)) : (s.firstError v l).host = s.host := (State.firstError_keeps ..).parts .host rfl
@[simp] theorem State.firstError_power (s : State) (v : Field) (l : List (Field × Nat)) : (s.firstError v l).power = s.power := (State.firstError_keeps ..).parts .power rfl
@[simp] theorem State.firstError_chart (s : State) (v : Field) (l : List (Field × Nat)) : (s.firstError v l).chart = s.chart := (State.firstError_keeps ..).parts .chart rfl
@[simp] theorem State.firstError_boot (s : State) (v : Field) (l : List (Field × Nat)) : (s.firstError v l).boot = s.boot := (State.firstError_keeps ..).parts .boot rfl
@[simp] theorem State.firstError_nv (s : State) (v : Field) (l : List (Field × Nat)) : (s.firstError v l).nv = s.nv := (State.firstError_keeps ..).parts .nv rfl
@[simp] theorem State.firstError_jr (s : State) (v : Field) (l : List (Field × Nat)) : (s.firstError v l).jr = s.jr := (State.firstError_keeps ..).parts .jr rfl
@[simp] theorem State.firstError_wp (s : State) (v : Field) (l : List (Field × Nat)) : (s.firstError v l).wp = s.wp := (State.firstError_keeps ..).parts .wp rfl
@[simp] theorem State.firstError_zone (s : State) (v : Field) (l : List (Field × Nat)) : (s.firstError v l).zone = s.zone := (State.firstError_keeps ..).parts .zone rfl
@[simp] theorem State.firstError_md (s : State) (v : Field) (l : List (Field × Nat)) : (s.firstError v l).md = s.md := (State.firstError_keeps ..).parts .md rfl
@[simp] theorem State.firstError_net (s : State) (v : Field) (l : List (Field × Nat)) : (s.firstError v l).net = s.net := (State.firstError_keeps ..).parts .net rfl
@[simp] theorem State.firstError_serve (s : State) (v : Field) (l : List (Field × Nat)) : (s.firstError v l).serve = s.serve := (State.firstError_keeps ..).parts .serve rfl
@[simp] theorem State.firstError_key (s : State) (v : Field) (l : List (Field × Nat)) : (s.firstError v l).key = s.key := (State.firstError_keeps ..).parts .key rfl
@[simp] theorem State.firstError_ten (s : State) (v : Field) (l : List (Field × Nat)) : (s.firstError v l).ten = s.ten := (State.firstError_keeps ..).parts .ten rfl
@[simp] theorem State.firstError_cell (s : State) (v : Field) (l : List (Field × Nat)) : (s.firstError v l).cell = s.cell := (State.firstError_keeps ..).parts .cell rfl
@[simp] theorem State.firstError_dram (s : State) (v : Field) (l : List (Field × Nat)) : (s.firstError v l).dram = s.dram := (State.firstError_keeps ..).parts .dram rfl
@[simp] theorem State.firstError_units (s : State) (v : Field) (l : List (Field × Nat)) : (s.firstError v l).units = s.units := (State.firstError_keeps ..).parts .units rfl
@[simp] theorem State.firstError_pair (s : State) (v : Field) (l : List (Field × Nat)) : (s.firstError v l).pair = s.pair := (State.firstError_keeps ..).parts .pair rfl

/-! ### State.resetBlock -/

@[simp] theorem State.resetBlock_pending (s : State) (lo hi : Nat) : (s.resetBlock lo hi).pending = s.pending := (State.resetBlock_keeps ..).parts .pending rfl
@[simp] theorem State.resetBlock_out (s : State) (lo hi : Nat) : (s.resetBlock lo hi).out = s.out := (State.resetBlock_keeps ..).parts .out rfl
@[simp] theorem State.resetBlock_freeCtr (s : State) (lo hi : Nat) : (s.resetBlock lo hi).freeCtr = s.freeCtr := (State.resetBlock_keeps ..).parts .freeCtr rfl
@[simp] theorem State.resetBlock_time (s : State) (lo hi : Nat) : (s.resetBlock lo hi).time = s.time := (State.resetBlock_keeps ..).parts .time rfl
@[simp] theorem State.resetBlock_evt (s : State) (lo hi : Nat) : (s.resetBlock lo hi).evt = s.evt := (State.resetBlock_keeps ..).parts .evt rfl
@[simp] theorem State.resetBlock_alm (s : State) (lo hi : Nat) : (s.resetBlock lo hi).alm = s.alm := (State.resetBlock_keeps ..).parts .alm rfl
@[simp] theorem State.resetBlock_mbx (s : State) (lo hi : Nat) : (s.resetBlock lo hi).mbx = s.mbx := (State.resetBlock_keeps ..).parts .mbx rfl
@[simp] theorem State.resetBlock_q (s : State) (lo hi : Nat) : (s.resetBlock lo hi).q = s.q := (State.resetBlock_keeps ..).parts .q rfl
@[simp] theorem State.resetBlock_host (s : State) (lo hi : Nat) : (s.resetBlock lo hi).host = s.host := (State.resetBlock_keeps ..).parts .host rfl
@[simp] theorem State.resetBlock_power (s : State) (lo hi : Nat) : (s.resetBlock lo hi).power = s.power := (State.resetBlock_keeps ..).parts .power rfl
@[simp] theorem State.resetBlock_chart (s : State) (lo hi : Nat) : (s.resetBlock lo hi).chart = s.chart := (State.resetBlock_keeps ..).parts .chart rfl
@[simp] theorem State.resetBlock_boot (s : State) (lo hi : Nat) : (s.resetBlock lo hi).boot = s.boot := (State.resetBlock_keeps ..).parts .boot rfl
@[simp] theorem State.resetBlock_nv (s : State) (lo hi : Nat) : (s.resetBlock lo hi).nv = s.nv := (State.resetBlock_keeps ..).parts .nv rfl
@[simp] theorem State.resetBlock_jr (s : State) (lo hi : Nat) : (s.resetBlock lo hi).jr = s.jr := (State.resetBlock_keeps ..).parts .jr rfl
@[simp] theorem State.resetBlock_wp (s : State) (lo hi : Nat) : (s.resetBlock lo hi).wp = s.wp := (State.resetBlock_keeps ..).parts .wp rfl
@[simp] theorem State.resetBlock_zone (s : State) (lo hi : Nat) : (s.resetBlock lo hi).zone = s.zone := (State.resetBlock_keeps ..).parts .zone rfl
@[simp] theorem State.resetBlock_md (s : State) (lo hi : Nat) : (s.resetBlock lo hi).md = s.md := (State.resetBlock_keeps ..).parts .md rfl
@[simp] theorem State.resetBlock_net (s : State) (lo hi : Nat) : (s.resetBlock lo hi).net = s.net := (State.resetBlock_keeps ..).parts .net rfl
@[simp] theorem State.resetBlock_serve (s : State) (lo hi : Nat) : (s.resetBlock lo hi).serve = s.serve := (State.resetBlock_keeps ..).parts .serve rfl
@[simp] theorem State.resetBlock_key (s : State) (lo hi : Nat) : (s.resetBlock lo hi).key = s.key := (State.resetBlock_keeps ..).parts .key rfl
@[simp] theorem State.resetBlock_ten (s : State) (lo hi : Nat) : (s.resetBlock lo hi).ten = s.ten := (State.resetBlock_keeps ..).parts .ten rfl
@[simp] theorem State.resetBlock_cell (s : State) (lo hi : Nat) : (s.resetBlock lo hi).cell = s.cell := (State.resetBlock_keeps ..).parts .cell rfl
@[simp] theorem State.resetBlock_dram (s : State) (lo hi : Nat) : (s.resetBlock lo hi).dram = s.dram := (State.resetBlock_keeps ..).parts .dram rfl
@[simp] theorem State.resetBlock_units (s : State) (lo hi : Nat) : (s.resetBlock lo hi).units = s.units := (State.resetBlock_keeps ..).parts .units rfl
@[simp] theorem State.resetBlock_pair (s : State) (lo hi : Nat) : (s.resetBlock lo hi).pair = s.pair := (State.resetBlock_keeps ..).parts .pair rfl

end Sys2Proof.Machine
end

