-- ==== Sys2Proof/Laws/Regs.lean ====
section
/-! SUPPORT. Reads and writes of the register table: a read after a write of the same field gives what was written, and a write
leaves every other field alone; an event writes the event and almanac registers only. -/

namespace Sys2Proof.Machine

variable {s t : State} {f g : Field}

theorem Keeps.regsWf {m : Nat} (h : Keeps m s t) (w : s.regsWf) : t.regsWf := h.regs w

theorem State.wr_wf (h : s.regsWf) (f : Field) (v : Nat) : (s.wr f v).regsWf := (State.wr_keeps ..).regs h
theorem State.set_wf (h : s.regsWf) (f : Field) (b : Bool) : (s.set f b).regsWf := (State.set_keeps ..).regs h
theorem State.bump_wf (h : s.regsWf) (f : Field) (n : Nat) : (s.bump f n).regsWf := (State.bump_keeps ..).regs h
theorem State.event_wf (h : s.regsWf) (n : Nat) (d : List Int) (c : Nat) : (s.event n d c).regsWf := (State.event_keeps ..).regs h

/-- Two states with the same register table read alike. -/
theorem State.rd_congr (h : t.regs = s.regs) (f : Field) : t.rd f = s.rd f := by unfold State.rd; rw [h]

theorem State.on_congr (h : t.regs = s.regs) (f : Field) : t.on f = s.on f := by unfold State.on; rw [State.rd_congr h]

/-- A read after a write of the same field. -/
theorem State.rd_wr_self (s : State) (f : Field) (v : Nat) : (s.wr f v).rd f = v % 2 ^ f.width := by
  have := mapGet_mapPut_self s.regs f.key (v % 2 ^ f.width) f.reset
  unfold mapGet at this
  exact this

/-- A write leaves every other field alone. -/
theorem State.rd_wr_ne (s : State) {f g : Field} (v : Nat) (hk : g.key ≠ f.key) : (s.wr f v).rd g = s.rd g := by
  have := mapGet_mapPut_ne s.regs (v % 2 ^ f.width) f.reset g.reset hk
  unfold mapGet at this
  exact this

theorem State.on_set_self (s : State) (f : Field) (b : Bool) : (s.set f b).on f = b := by
  have hw : 1 ≤ f.width := Nat.le_add_left ..
  have h2 : b.toNat % 2 ^ f.width = b.toNat := Nat.mod_eq_of_lt (by
    have := Nat.pow_le_pow_right (n := 2) (by decide) hw
    cases b <;> simp <;> omega)
  unfold State.on State.set
  rw [State.rd_wr_self, h2]
  cases b <;> rfl

theorem State.rd_set_ne (s : State) {f g : Field} (b : Bool) (hk : g.key ≠ f.key) : (s.set f b).rd g = s.rd g :=
  State.rd_wr_ne s _ hk

theorem State.on_set_ne (s : State) {f g : Field} (b : Bool) (hk : g.key ≠ f.key) : (s.set f b).on g = s.on g := by
  unfold State.on; rw [State.rd_set_ne s b hk]

theorem State.on_wr_ne (s : State) {f g : Field} (v : Nat) (hk : g.key ≠ f.key) : (s.wr f v).on g = s.on g := by
  unfold State.on; rw [State.rd_wr_ne s v hk]

theorem State.rd_bump_self (s : State) (f : Field) (n : Nat) :
    (s.bump f n).rd f = min (s.rd f + n) (2 ^ f.width - 1) := by
  unfold State.bump
  rw [State.rd_wr_self, Nat.mod_eq_of_lt]
  have : 0 < 2 ^ f.width := Nat.two_pow_pos _
  omega

theorem State.rd_bump_ne (s : State) {f g : Field} (n : Nat) (hk : g.key ≠ f.key) : (s.bump f n).rd g = s.rd g :=
  State.rd_wr_ne s _ hk

/-- The fields that one occurrence writes. -/
def occurKeys (n : Nat) : List Nat :=
  [Reg.EVT_STATUS_LAST.key, (Reg.EVT_PENDING_BITS.at (n / 32)).key, Reg.ALM_DROPPED_OVERWRITTEN.key, Reg.ALM_DROPPED_DROPPED.key]

/-- The fields that an event writes: its own and those of the EV1120 that may come before it. -/
def eventKeys (n : Nat) : List Nat := occurKeys n ++ occurKeys 1120

theorem State.rd_deliver (s : State) {n : Nat} (hk : g.key ∉ occurKeys n) : (s.deliver n).rd g = s.rd g := by
  unfold State.deliver
  extract_lets a f w b
  have ha : a.regs = s.regs := by
    unfold a
    split <;> rfl
  have hb : b.rd g = s.rd g := by
    unfold b
    rw [State.rd_wr_ne]
    · exact State.rd_congr ha g
    · intro e; apply hk; simp [occurKeys, e, f]
  split
  · split
    · exact State.rd_congr ha g
    · split
      · rw [State.rd_congr (State.msix_regs ..)]
        exact hb
      · exact hb
  · exact State.rd_congr ha g

/-- An occurrence leaves every field alone but those it writes. -/
theorem State.rd_occurs (s : State) {n : Nat} (d : List Int) (c : Nat) (hk : g.key ∉ occurKeys n) :
    (s.occurs n d c).rd g = s.rd g := by
  unfold State.occurs
  extract_lets full t l
  have ht : t.regs = s.regs := rfl
  have hl : l.rd g = s.rd g := by
    unfold l
    simp [occurKeys] at hk
    split
    · split
      · rw [State.rd_bump_ne t _ hk.2.2.1]; exact State.rd_congr ht g
      · rw [State.rd_bump_ne t _ hk.2.2.2]; exact State.rd_congr ht g
    · exact State.rd_congr ht g
  rw [State.rd_deliver _ hk, State.rd_wr_ne, hl]
  intro e; apply hk; simp [occurKeys, e]

/-- An event leaves every field alone but those it writes. -/
theorem State.rd_event (s : State) {n : Nat} {d : List Int} {c : Nat} (hk : g.key ∉ eventKeys n) :
    (s.event n d c).rd g = s.rd g := by
  unfold State.event
  extract_lets l
  simp only [eventKeys, List.mem_append, not_or] at hk
  rw [State.rd_occurs l d c hk.1]
  unfold l
  split
  · rw [State.rd_occurs _ _ _ hk.2]; exact State.rd_congr rfl g
  · rfl

theorem State.on_event (s : State) {n : Nat} {d : List Int} {c : Nat} (hk : g.key ∉ eventKeys n) :
    (s.event n d c).on g = s.on g := by
  unfold State.on; rw [State.rd_event s hk]

end Sys2Proof.Machine
end

