-- ==== Sys2Proof/Laws/Completes.lean ====
section
/-! SUPPORT. How a command completes: while the block is on its effect applies to the state without outputs, and while it is off nothing
happens. -/

namespace Sys2Proof.Machine

variable {i : Instr} {s : State} {φ : State → Prop} {f : State → State}

theorem effect_on (h : s.alive = true) (f : State → State) : effect s f = .next (f s.quiet) := by
  unfold effect; rw [if_pos h]; rfl

theorem effect_off (h : s.alive = false) (f : State → State) : effect s f = .next s.quiet := by
  unfold effect; rw [if_neg (by simp [h])]; rfl

theorem Completes.of_effect (h : s.alive = true) (he : exec i s = effect s f) (hφ : φ (f s.quiet)) : Completes i s φ :=
  ⟨_, by rw [he, effect_on h], hφ⟩

@[simp] theorem State.quiet_alive (s : State) : s.quiet.alive = s.alive := rfl

@[simp] theorem State.quiet_regs (s : State) : s.quiet.regs = s.regs := rfl
@[simp] theorem State.quiet_latch (s : State) : s.quiet.latch = s.latch := rfl
@[simp] theorem State.quiet_loWrite (s : State) : s.quiet.loWrite = s.loWrite := rfl
@[simp] theorem State.quiet_pending (s : State) : s.quiet.pending = s.pending := rfl
@[simp] theorem State.quiet_freeCtr (s : State) : s.quiet.freeCtr = s.freeCtr := rfl
@[simp] theorem State.quiet_time (s : State) : s.quiet.time = s.time := rfl
@[simp] theorem State.quiet_evt (s : State) : s.quiet.evt = s.evt := rfl
@[simp] theorem State.quiet_alm (s : State) : s.quiet.alm = s.alm := rfl
@[simp] theorem State.quiet_mbx (s : State) : s.quiet.mbx = s.mbx := rfl
@[simp] theorem State.quiet_q (s : State) : s.quiet.q = s.q := rfl
@[simp] theorem State.quiet_host (s : State) : s.quiet.host = s.host := rfl
@[simp] theorem State.quiet_power (s : State) : s.quiet.power = s.power := rfl
@[simp] theorem State.quiet_chart (s : State) : s.quiet.chart = s.chart := rfl
@[simp] theorem State.quiet_boot (s : State) : s.quiet.boot = s.boot := rfl
@[simp] theorem State.quiet_nv (s : State) : s.quiet.nv = s.nv := rfl
@[simp] theorem State.quiet_jr (s : State) : s.quiet.jr = s.jr := rfl
@[simp] theorem State.quiet_wp (s : State) : s.quiet.wp = s.wp := rfl
@[simp] theorem State.quiet_zone (s : State) : s.quiet.zone = s.zone := rfl
@[simp] theorem State.quiet_md (s : State) : s.quiet.md = s.md := rfl
@[simp] theorem State.quiet_net (s : State) : s.quiet.net = s.net := rfl
@[simp] theorem State.quiet_serve (s : State) : s.quiet.serve = s.serve := rfl
@[simp] theorem State.quiet_key (s : State) : s.quiet.key = s.key := rfl
@[simp] theorem State.quiet_ten (s : State) : s.quiet.ten = s.ten := rfl
@[simp] theorem State.quiet_cell (s : State) : s.quiet.cell = s.cell := rfl
@[simp] theorem State.quiet_dram (s : State) : s.quiet.dram = s.dram := rfl
@[simp] theorem State.quiet_units (s : State) : s.quiet.units = s.units := rfl
@[simp] theorem State.quiet_pair (s : State) : s.quiet.pair = s.pair := rfl
@[simp] theorem State.quiet_out (s : State) : s.quiet.out = [] := rfl
@[simp] theorem State.quiet_rd (s : State) (f : Field) : s.quiet.rd f = s.rd f := rfl
@[simp] theorem State.quiet_on (s : State) (f : Field) : s.quiet.on f = s.on f := rfl

theorem State.quiet_wf (h : s.regsWf) : s.quiet.regsWf := h

theorem State.unlocked_ok {given want : Nat} (h : given = want) (f : State → State) : s.unlocked given want f = f s := by
  unfold State.unlocked; rw [if_pos h]

theorem State.unlocked_bad {given want : Nat} (h : given ≠ want) (f : State → State) :
    s.unlocked given want f = s.bump Reg.DEV_ACC_ERR_UNLOCK := by
  unfold State.unlocked; rw [if_neg h]

end Sys2Proof.Machine
end

