-- ==== Sys2Proof/Laws/KeepsDram.lean ====
section
/-! SUPPORT. What each operation of Machine/Dram.lean keeps (Laws/Frame.lean). -/

namespace Sys2Proof.Machine

theorem State.fillStart_keeps (s : State) : Keeps 33554433 s (State.fillStart s) := by
  unfold State.fillStart
  refine Keeps.ite ?_ ?_
  · exact .refl _ _
  · extract_lets l1 l2 l3
    have kl3 : Keeps 33554433 s l3 := (State.set_keeps ..).step rfl ((State.set_keeps ..).step rfl (.refl _ _))
    refine Keeps.ite ?_ ?_
    · exact (State.wr_keeps ..).step rfl (.refl _ _)
    · exact (State.updDram_keeps ..).step rfl kl3

theorem State.loadMasks_keeps (s : State) : Keeps 33554433 s (State.loadMasks s) := by
  unfold State.loadMasks
  extract_lets l1 l2
  have kl2 : Keeps 33554433 s l2 := by
    unfold l2
    refine Keeps.foldl ?_ _ ?_
    · intro u3 _ hu3
      exact (State.wr_keeps ..).step rfl hu3
    · exact .refl _ _
  exact (State.set_keeps ..).step rfl ((State.updDram_keeps ..).step rfl kl2)

theorem State.clearGranules_keeps (s : State) : Keeps 33554433 s (State.clearGranules s) := by
  unfold State.clearGranules
  extract_lets l1
  have kl1 : Keeps 33554433 s l1 := (State.updDram_keeps ..).step rfl (.refl _ _)
  exact (State.set_keeps ..).step rfl ((State.set_keeps ..).step rfl kl1)

theorem State.setWord_keeps (s : State) (k : Nat) (x : DramLine) : Keeps 33554432 s (State.setWord s k x) := by
  unfold State.setWord
  exact (State.updDram_keeps ..).step rfl (.refl _ _)

theorem State.reseed_keeps (s : State) (seed : Nat) : Keeps 33554432 s (State.reseed s seed) := by
  unfold State.reseed
  exact (State.updDram_keeps ..).step rfl (.refl _ _)

theorem State.putTest_keeps (s : State) (words : Nat) (data : Nat) (checks : Nat) (check : Nat) : Keeps 1 s (State.putTest s words data checks check) := by
  unfold State.putTest
  extract_lets l1
  have kl1 : Keeps 1 s l1 := by
    unfold l1
    refine Keeps.foldl ?_ _ ?_
    · intro u2 _ hu2
      exact (State.wr_keeps ..).step rfl hu2
    · exact .refl _ _
  refine Keeps.foldl ?_ _ ?_
  · intro u3 _ hu3
    exact (State.wr_keeps ..).step rfl hu3
  · exact kl1

theorem execDramFill_keeps (s : State) : KeepsIn atNext 33554449 s (execDramFill s) := by
  unfold execDramFill
  refine KeepsIn.effect rfl ?_ ?_
  · exact .refl _ _
  · intro u1 hu1
    exact (State.fillStart_keeps ..).step rfl hu1

theorem State.fillEnds_keeps (s : State) : Keeps 33556881 s (State.fillEnds s) := by
  unfold State.fillEnds
  split
  · exact .refl _ _
  · extract_lets l1 l2
    have kl1 : Keeps 33556881 s l1 := (State.updDram_keeps ..).step rfl (.refl _ _)
    have kl2 : Keeps 33556881 s l2 := (State.wr_keeps ..).step rfl ((State.set_keeps ..).step rfl kl1)
    refine Keeps.ite ?_ ?_
    · exact (State.event_keeps ..).step rfl ((State.set_keeps ..).step rfl kl2)
    · exact kl2

theorem State.setLine_keeps (s : State) (l : Nat) (x : DramLine) : Keeps 33554432 s (State.setLine s l x) := by
  unfold State.setLine
  exact (State.updDram_keeps ..).step rfl (.refl _ _)

theorem State.openRow_keeps (s : State) (sub : Nat) (bank : Nat) (row : Nat) : Keeps 100665745 s (State.openRow s sub bank row) := by
  unfold State.openRow
  extract_lets l1 l2 l3 l4 l5 l6 l7 l8 l9
  have kl4 : Keeps 100665745 s l4 := (State.bumpUnits_keeps ..).step rfl (.refl _ _)
  have kl5 : Keeps 100665745 s l5 := (State.updDram_keeps ..).step rfl kl4
  have kl6 : Keeps 100665745 s l6 := (State.emit_keeps ..).step rfl kl5
  have kl8 : Keeps 100665745 s l8 := (State.updDram_keeps ..).step rfl kl6
  refine Keeps.ite ?_ ?_
  · exact kl6
  · refine Keeps.ite ?_ ?_
    · exact kl8
    · refine Keeps.ite ?_ ?_
      · exact (State.updDram_keeps ..).step rfl kl8
      · exact (State.eventPer_keeps ..).step rfl ((State.bump_keeps ..).step rfl kl8)

theorem State.hashApply_keeps (s : State) : Keeps 33556881 s (State.hashApply s) := by
  unfold State.hashApply
  refine Keeps.ite ?_ ?_
  · exact (State.wr_keeps ..).step rfl (.refl _ _)
  · extract_lets l1 l2 l3
    have kl3 : Keeps 33556881 s l3 := (State.wr_keeps ..).step rfl (.refl _ _)
    refine Keeps.ite ?_ ?_
    · exact (State.updDram_keeps ..).step rfl kl3
    · exact (State.event_keeps ..).step rfl kl3

theorem State.testRead_keeps (s : State) (space : Nat) : Keeps 1 s (State.testRead s space) := by
  unfold State.testRead
  extract_lets l1 l2 l3 l4 l5 l6 l7
  have kl4 : Keeps 1 s l4 := (State.putTest_keeps ..).step rfl (.refl _ _)
  have kl7 : Keeps 1 s l7 := (State.putTest_keeps ..).step rfl (.refl _ _)
  refine Keeps.ite ?_ ?_
  · exact (State.wr_keeps ..).step rfl ((State.wr_keeps ..).step rfl kl4)
  · exact (State.wr_keeps ..).step rfl ((State.wr_keeps ..).step rfl kl7)

theorem execDramNrSeedWrite_keeps (seed : Nat) (s : State) : KeepsIn atNext 33554448 s (execDramNrSeedWrite seed s) := by
  unfold execDramNrSeedWrite
  refine KeepsIn.effect rfl ?_ ?_
  · exact .refl _ _
  · intro u1 hu1
    exact (State.reseed_keeps ..).step rfl hu1

theorem State.landWrite_keeps (s : State) (w : DramWrite) : Keeps 33554432 s (State.landWrite s w) := by
  unfold State.landWrite
  exact (State.setLine_keeps ..).step rfl (.refl _ _)

theorem execDramHashApply_keeps (s : State) : KeepsIn atNext 33556881 s (execDramHashApply s) := by
  unfold execDramHashApply
  refine KeepsIn.effect rfl ?_ ?_
  · exact .refl _ _
  · intro u1 hu1
    exact (State.hashApply_keeps ..).step rfl hu1

theorem State.rowOrder_keeps (s : State) (sub : Nat) (l : Nat) : Keeps 100663297 s (State.rowOrder s sub l) := by
  unfold State.rowOrder
  extract_lets l1 l2 l3
  have kl3 : Keeps 100663297 s l3 := by
    unfold l3
    refine Keeps.foldl ?_ _ ?_
    · intro u4 _ hu4
      exact (State.landWrite_keeps ..).step rfl hu4
    · exact .refl _ _
  refine Keeps.ite ?_ ?_
  · exact .refl _ _
  · exact (State.bumpUnits_keeps ..).step rfl ((State.updDram_keeps ..).step rfl kl3)

theorem State.drainWrites_keeps (s : State) : Keeps 33554432 s (State.drainWrites s) := by
  unfold State.drainWrites
  refine Keeps.each ?_ ?_
  · exact .refl _ _
  · intro u1 _ hu1
    split
    · exact hu1
    · exact (State.updDram_keeps ..).step rfl ((State.landWrite_keeps ..).step rfl hu1)

theorem State.testOp_keeps {n₀ : Nat} {s₀ : State} {s : State} {space : Nat} {write : Bool} {f : State → State} (hm : 100663297 ||| n₀ = n₀) (h₀ : Keeps n₀ s₀ s) (hf : ∀ v0, Keeps n₀ s₀ v0 → Keeps n₀ s₀ (f v0)) : Keeps n₀ s₀ (State.testOp s space write f) := by
  unfold State.testOp
  extract_lets l1 l2
  have kl2 : Keeps n₀ s₀ l2 := by
    unfold l2
    refine Keeps.ite ?_ ?_
    · exact (State.rowOrder_keeps ..).step (Keeps.sub rfl hm) h₀
    · exact h₀
  refine Keeps.ite ?_ ?_
  · exact h₀
  · refine Keeps.ite ?_ ?_
    · exact (State.wr_keeps ..).step (Keeps.sub rfl hm) h₀
    · refine Keeps.ite ?_ ?_
      · exact (State.wr_keeps ..).step (Keeps.sub rfl hm) h₀
      · exact hf _ ((State.wr_keeps ..).step (Keeps.sub rfl hm) kl2)

theorem State.queueWrite_keeps (s : State) (sub : Nat) (w : DramWrite) : Keeps 100663297 s (State.queueWrite s sub w) := by
  unfold State.queueWrite
  refine Keeps.ite ?_ ?_
  · extract_lets l1
    have kl1 : Keeps 100663297 s l1 := (State.rowOrder_keeps ..).step rfl (.refl _ _)
    exact (State.updDram_keeps ..).step rfl kl1
  · extract_lets l2
    exact (State.updDram_keeps ..).step rfl (.refl _ _)

theorem State.writeRaw_keeps (s : State) (space : Nat) : Keeps 100665745 s (State.writeRaw s space) := by
  unfold State.writeRaw
  refine State.testOp_keeps rfl ?_ ?_
  · exact .refl _ _
  · intro u1 hu1
    extract_lets l2 l3
    have kl3 : Keeps 100665745 s l3 := by
      unfold l3
      refine Keeps.ite ?_ ?_
      · exact (State.setLine_keeps ..).step rfl hu1
      · exact (State.setWord_keeps ..).step rfl hu1
    exact (State.event_keeps ..).step rfl kl3

theorem State.writeTest_keeps (s : State) (space : Nat) : Keeps 100663297 s (State.writeTest s space) := by
  unfold State.writeTest
  refine State.testOp_keeps rfl ?_ ?_
  · exact .refl _ _
  · intro u1 hu1
    extract_lets l2
    refine Keeps.ite ?_ ?_
    · exact (State.setLine_keeps ..).step rfl hu1
    · exact (State.setWord_keeps ..).step rfl hu1

theorem execWriteRaw_keeps (unlock : Nat) (space : Nat) (s : State) : KeepsIn atNext 100665745 s (execWriteRaw unlock space s) := by
  unfold execWriteRaw
  refine KeepsIn.effect rfl ?_ ?_
  · exact .refl _ _
  · intro u1 hu1
    refine State.unlocked_keeps rfl ?_ ?_
    · exact hu1
    · intro u2 hu2
      exact (State.writeRaw_keeps ..).step rfl hu2

theorem execEccTestWrite_keeps (unlock : Nat) (space : Nat) (s : State) : KeepsIn atNext 100663313 s (execEccTestWrite unlock space s) := by
  unfold execEccTestWrite
  refine KeepsIn.effect rfl ?_ ?_
  · exact .refl _ _
  · intro u1 hu1
    refine State.unlocked_keeps rfl ?_ ?_
    · exact hu1
    · intro u2 hu2
      exact (State.writeTest_keeps ..).step rfl hu2

theorem execReadRaw_keeps (unlock : Nat) (space : Nat) (s : State) : KeepsIn atNext 100663313 s (execReadRaw unlock space s) := by
  unfold execReadRaw
  refine KeepsIn.effect rfl ?_ ?_
  · exact .refl _ _
  · intro u1 hu1
    refine State.unlocked_keeps rfl ?_ ?_
    · exact hu1
    · intro u2 hu2
      refine State.testOp_keeps rfl ?_ ?_
      · exact hu2
      · intro u3 hu3
        exact (State.testRead_keeps ..).step rfl hu3

end Sys2Proof.Machine
end

