-- ==== Sys2Proof/Laws/KeepsPower.lean ====
section
/-! SUPPORT. What each operation of Machine/Power.lean keeps (Laws/Frame.lean). -/

namespace Sys2Proof.Machine

theorem State.trip_keeps (s : State) : Keeps 6545 s (State.trip s) := by
  unfold State.trip
  extract_lets l1 l2 l3 l4
  have kl2 : Keeps 6545 s l2 := (State.event_keeps ..).step rfl (Keeps.set_power rfl (.refl _ _))
  exact Keeps.set_power rfl kl2

theorem State.warnUpdate_keeps (s : State) : Keeps 3473 s (State.warnUpdate s) := by
  unfold State.warnUpdate
  refine Keeps.ite ?_ ?_
  · extract_lets l1
    have kl1 : Keeps 3473 s l1 := (State.event_keeps ..).step rfl ((State.set_keeps ..).step rfl (.refl _ _))
    refine Keeps.each ?_ ?_
    · exact kl1
    · intro u2 _ hu2
      exact (State.aen_keeps ..).step rfl hu2
  · exact .refl _ _

theorem State.psReached_keeps (s : State) : Keeps 7569 s (State.psReached s) := by
  unfold State.psReached
  extract_lets l1 l2 l3 l4 l5
  have kl3 : Keeps 7569 s l3 := (State.wr_keeps ..).step rfl (.refl _ _)
  have kl5 : Keeps 7569 s l5 := Keeps.set_power rfl kl3
  refine Keeps.each ?_ ?_
  · exact (State.event_keeps ..).step rfl kl5
  · intro u6 _ hu6
    exact (State.finish_keeps ..).step rfl hu6

theorem State.askVp_keeps (s : State) (vp : Nat) : Keeps 6545 s (State.askVp s vp) := by
  unfold State.askVp
  refine Keeps.ite ?_ ?_
  · exact (State.wr_keeps ..).step rfl (.refl _ _)
  · refine Keeps.ite ?_ ?_
    · exact (State.event_keeps ..).step rfl ((State.wr_keeps ..).step rfl (.refl _ _))
    · extract_lets l1 l2
      have kl1 : Keeps 6545 s l1 := (State.set_keeps ..).step rfl ((State.wr_keeps ..).step rfl (.refl _ _))
      exact (State.emit_keeps ..).step rfl (Keeps.set_power rfl kl1)

theorem State.modDom_keeps (s : State) (d : Nat) (f : Domain → Domain) : Keeps 4096 s (State.modDom s d f) := by
  unfold State.modDom
  exact Keeps.set_power rfl (.refl _ _)

theorem State.vpWrite_keeps (s : State) (target : Nat) : Keeps 6545 s (State.vpWrite s target) := by
  unfold State.vpWrite
  refine Keeps.ite ?_ ?_
  · exact .refl _ _
  · exact (State.askVp_keeps ..).step rfl (.refl _ _)

theorem State.toOff_keeps (s : State) (d : Nat) : Keeps 4096 s (State.toOff s d) := by
  unfold State.toOff
  exact (State.modDom_keeps ..).step rfl (.refl _ _)

theorem State.domainOn_keeps (s : State) (d : Nat) (ns : Nat) : Keeps 4097 s (State.domainOn s d ns) := by
  unfold State.domainOn
  extract_lets l1 l2 l3 l4
  have kl2 : Keeps 4097 s l2 := (State.modDom_keeps ..).step rfl (.refl _ _)
  have kl3 : Keeps 4097 s l3 := (State.wr_keeps ..).step rfl ((State.wr_keeps ..).step rfl kl2)
  have kl4 : Keeps 4097 s l4 := (State.wr_keeps ..).step rfl ((State.wr_keeps ..).step rfl kl3)
  exact (State.wr_keeps ..).step rfl kl4

theorem State.toRetain_keeps (s : State) (d : Nat) : Keeps 4096 s (State.toRetain s d) := by
  unfold State.toRetain
  exact (State.modDom_keeps ..).step rfl (.refl _ _)

theorem execPwrVpCtrlWrite_keeps (target : Nat) (s : State) : KeepsIn atNext 6545 s (execPwrVpCtrlWrite target s) := by
  unfold execPwrVpCtrlWrite
  refine KeepsIn.effect rfl ?_ ?_
  · exact .refl _ _
  · intro u1 hu1
    exact (State.vpWrite_keeps ..).step rfl hu1

theorem State.askClk_keeps (s : State) (dp : Nat) (core : Nat) : Keeps 6545 s (State.askClk s dp core) := by
  unfold State.askClk
  extract_lets l1 l2 l3 l4
  have kl2 : Keeps 6545 s l2 := (State.wr_keeps ..).step rfl ((State.wr_keeps ..).step rfl (.refl _ _))
  have kl3 : Keeps 6545 s l3 := (State.set_keeps ..).step rfl kl2
  refine Keeps.ite ?_ ?_
  · exact (State.event_keeps ..).step rfl ((State.wr_keeps ..).step rfl (.refl _ _))
  · exact Keeps.set_power rfl kl3

theorem State.clkWrite_keeps (s : State) (dp : Nat) (core : Nat) : Keeps 6545 s (State.clkWrite s dp core) := by
  unfold State.clkWrite
  refine Keeps.ite ?_ ?_
  · exact .refl _ _
  · extract_lets l1 l2
    exact (State.askClk_keeps ..).step rfl (.refl _ _)

theorem execVregTimeout_keeps (s : State) : KeepsIn atNext 7569 s (execVregTimeout s) := by
  unfold execVregTimeout
  refine KeepsIn.effect rfl ?_ ?_
  · exact .refl _ _
  · intro u1 hu1
    refine Keeps.ite ?_ ?_
    · exact hu1
    · extract_lets l2 l3 l4 l5 l6 l7
      have kl2 : Keeps 7569 s l2 := (State.set_keeps ..).step rfl ((State.set_keeps ..).step rfl hu1)
      have kl3 : Keeps 7569 s l3 := (State.wr_keeps ..).step rfl ((State.wr_keeps ..).step rfl kl2)
      have kl5 : Keeps 7569 s l5 := (State.event_keeps ..).step rfl (Keeps.set_power rfl kl3)
      have kl6 : Keeps 7569 s l6 := (State.wr_keeps ..).step rfl kl5
      refine Keeps.ite ?_ ?_
      · exact kl5
      · refine Keeps.ite ?_ ?_
        · exact (State.psReached_keeps ..).step rfl kl5
        · exact Keeps.set_power rfl kl6

theorem State.wake_keeps (s : State) (d : Nat) (cause : Nat) (source : Nat) : Keeps 4096 s (State.wake s d cause source) := by
  unfold State.wake
  split
  · exact (State.modDom_keeps ..).step rfl (.refl _ _)
  · exact (State.modDom_keeps ..).step rfl (.refl _ _)
  · exact .refl _ _

theorem State.setLevel_keeps (s : State) (l : Nat) : Keeps 6545 s (State.setLevel s l) := by
  unfold State.setLevel
  refine Keeps.ite ?_ ?_
  · exact .refl _ _
  · extract_lets l1 l2
    have kl2 : Keeps 6545 s l2 := Keeps.set_power rfl (.refl _ _)
    exact (State.event_keeps ..).step rfl ((State.wr_keeps ..).step rfl kl2)

theorem State.accessFails_keeps (s : State) (a : Access32) : Keeps 2449 s (State.accessFails s a) := by
  unfold State.accessFails
  split
  · exact (State.emit_keeps ..).step rfl ((State.event_keeps ..).step rfl ((State.firstError_keeps ..).step rfl (.refl _ _)))
  · exact (State.event_keeps ..).step rfl ((State.firstError_keeps ..).step rfl (.refl _ _))

theorem execDomainWake_keeps (d : Nat) (source : Nat) (s : State) : KeepsIn atNext 4112 s (execDomainWake d source s) := by
  unfold execDomainWake
  refine KeepsIn.effect rfl ?_ ?_
  · exact .refl _ _
  · intro u1 hu1
    refine Keeps.ite ?_ ?_
    · exact hu1
    · exact (State.wake_keeps ..).step rfl hu1

theorem execPwrClkCtrlWrite_keeps (dp : Nat) (core : Nat) (s : State) : KeepsIn atNext 6545 s (execPwrClkCtrlWrite dp core s) := by
  unfold execPwrClkCtrlWrite
  refine KeepsIn.effect rfl ?_ ?_
  · exact .refl _ _
  · intro u1 hu1
    exact (State.clkWrite_keeps ..).step rfl hu1

theorem execAutoRetainIdle_keeps (d : Nat) (s : State) : KeepsIn atNext 4112 s (execAutoRetainIdle d s) := by
  unfold execAutoRetainIdle
  refine KeepsIn.effect rfl ?_ ?_
  · exact .refl _ _
  · intro u1 hu1
    extract_lets l2
    refine Keeps.ite ?_ ?_
    · exact (State.toRetain_keeps ..).step rfl hu1
    · exact hu1

theorem State.psStep_keeps (s : State) : Keeps 7569 s (State.psStep s) := by
  unfold State.psStep
  refine Keeps.ite ?_ ?_
  · exact .refl _ _
  · extract_lets l1 l2
    refine Keeps.ite ?_ ?_
    · exact (State.askVp_keeps ..).step rfl (.refl _ _)
    · refine Keeps.ite ?_ ?_
      · exact (State.askClk_keeps ..).step rfl (.refl _ _)
      · refine Keeps.ite ?_ ?_
        · exact (State.askVp_keeps ..).step rfl (.refl _ _)
        · exact (State.psReached_keeps ..).step rfl (.refl _ _)

theorem execWakeTimeout_keeps (d : Nat) (s : State) : KeepsIn atNext 6545 s (execWakeTimeout d s) := by
  unfold execWakeTimeout
  refine KeepsIn.effect rfl ?_ ?_
  · exact .refl _ _
  · intro u1 hu1
    refine Keeps.ite ?_ ?_
    · exact hu1
    · extract_lets l2 l3
      have kl3 : Keeps 6545 s l3 := by
        unfold l3
        refine Keeps.each ?_ ?_
        · exact (State.modDom_keeps ..).step rfl hu1
        · intro u4 _ hu4
          exact (State.accessFails_keeps ..).step rfl hu4
      exact (State.event_keeps ..).step rfl ((State.firstError_keeps ..).step rfl kl3)

theorem State.validSample_keeps (s : State) (q : Int) : Keeps 7569 s (State.validSample s q) := by
  unfold State.validSample
  extract_lets l1 l2 l3 l4 l5 l6 l7 l8
  have kl4 : Keeps 7569 s l4 := Keeps.set_power rfl (.refl _ _)
  have kl5 : Keeps 7569 s l5 := (State.wr_keeps ..).step rfl kl4
  have kl6 : Keeps 7569 s l6 := by
    unfold l6
    refine Keeps.ite ?_ ?_
    · exact kl5
    · exact (State.wr_keeps ..).step rfl kl5
  have kl7 : Keeps 7569 s l7 := by
    unfold l7
    refine Keeps.ite ?_ ?_
    · exact (State.wr_keeps ..).step rfl kl6
    · exact kl6
  refine Keeps.ite ?_ ?_
  · exact (State.trip_keeps ..).step rfl kl7
  · refine (State.warnUpdate_keeps ..).step rfl ?_
    refine Keeps.ite ?_ ?_
    · exact (State.setLevel_keeps ..).step rfl kl7
    · exact kl7

theorem State.vregAck_keeps (s : State) : Keeps 7569 s (State.vregAck s) := by
  unfold State.vregAck
  split
  · exact .refl _ _
  · extract_lets l1 l2
    have kl1 : Keeps 7569 s l1 := (State.wr_keeps ..).step rfl ((State.set_keeps ..).step rfl ((State.wr_keeps ..).step rfl (.refl _ _)))
    exact (State.psStep_keeps ..).step rfl (Keeps.set_power rfl kl1)

theorem State.powerExit_keeps (s : State) (source : Nat) : Keeps 6145 s (State.powerExit s source) := by
  unfold State.powerExit
  refine Keeps.ite ?_ ?_
  · exact .refl _ _
  · extract_lets l1 l3 l4
    have kl1 : Keeps 6145 s l1 := by
      unfold l1
      refine Keeps.each ?_ ?_
      · exact .refl _ _
      · intro u2 _ hu2
        refine Keeps.ite ?_ ?_
        · exact hu2
        · exact (State.wake_keeps ..).step rfl hu2
    have kl4 : Keeps 6145 s l4 := Keeps.set_host rfl kl1
    exact (State.wr_keeps ..).step rfl kl4

theorem execThermalLevelExit_keeps (s : State) : KeepsIn atNext 6545 s (execThermalLevelExit s) := by
  unfold execThermalLevelExit
  refine KeepsIn.effect rfl ?_ ?_
  · exact .refl _ _
  · intro u1 hu1
    extract_lets l2 l3
    have kl3 : Keeps 6545 s l3 := by
      unfold l3
      refine Keeps.ite ?_ ?_
      · exact (State.setLevel_keeps ..).step rfl hu1
      · exact hu1
    refine Keeps.ite ?_ ?_
    · exact (State.set_keeps ..).step rfl kl3
    · exact kl3

theorem State.faultySample_keeps (s : State) (kind : Nat) : Keeps 7569 s (State.faultySample s kind) := by
  unfold State.faultySample
  extract_lets l1 l2 l3 l4 l5
  have kl3 : Keeps 7569 s l3 := Keeps.set_power rfl (.refl _ _)
  have kl4 : Keeps 7569 s l4 := (State.wr_keeps ..).step rfl kl3
  have kl5 : Keeps 7569 s l5 := by
    unfold l5
    refine Keeps.ite ?_ ?_
    · exact (State.event_keeps ..).step rfl kl4
    · exact kl4
  exact (State.warnUpdate_keeps ..).step rfl ((State.setLevel_keeps ..).step rfl kl5)

theorem State.pllDone_keeps (s : State) : Keeps 7569 s (State.pllDone s) := by
  unfold State.pllDone
  refine Keeps.ite ?_ ?_
  · exact .refl _ _
  · extract_lets l1 l2
    have kl1 : Keeps 7569 s l1 := (State.wr_keeps ..).step rfl ((State.set_keeps ..).step rfl (.refl _ _))
    exact (State.psStep_keeps ..).step rfl (Keeps.set_power rfl kl1)

theorem State.psChange_keeps (s : State) : Keeps 7569 s (State.psChange s) := by
  unfold State.psChange
  extract_lets l1 l2 l3 l4 l5 l6 l7 l8 l9
  have kl4 : Keeps 7569 s l4 := (State.wr_keeps ..).step rfl (.refl _ _)
  have kl6 : Keeps 7569 s l6 := (State.wr_keeps ..).step rfl ((State.wr_keeps ..).step rfl kl4)
  have kl7 : Keeps 7569 s l7 := by
    unfold l7
    refine Keeps.ite ?_ ?_
    · exact kl6
    · exact (State.wr_keeps ..).step rfl ((State.wr_keeps ..).step rfl kl6)
  refine Keeps.ite ?_ ?_
  · exact .refl _ _
  · refine Keeps.ite ?_ ?_
    · refine Keeps.each ?_ ?_
      · exact Keeps.set_power rfl (.refl _ _)
      · intro u10 _ hu10
        exact (State.finish_keeps ..).step rfl hu10
    · refine Keeps.ite ?_ ?_
      · exact .refl _ _
      · refine Keeps.ite ?_ ?_
        · exact (State.psReached_keeps ..).step rfl (Keeps.set_power rfl kl7)
        · exact (State.psStep_keeps ..).step rfl (Keeps.set_power rfl kl4)

theorem execVregAck_keeps (s : State) : KeepsIn atNext 7569 s (execVregAck s) := by
  unfold execVregAck
  refine KeepsIn.effect rfl ?_ ?_
  · exact .refl _ _
  · intro u1 hu1
    exact (State.vregAck_keeps ..).step rfl hu1

theorem execThermalSample_keeps (x : ThermSample) (s : State) : KeepsIn atNext 7569 s (execThermalSample x s) := by
  unfold execThermalSample
  refine KeepsIn.effect rfl ?_ ?_
  · exact .refl _ _
  · intro u1 hu1
    split
    · exact (State.faultySample_keeps ..).step rfl hu1
    · exact (State.faultySample_keeps ..).step rfl hu1
    · refine Keeps.ite ?_ ?_
      · exact (State.faultySample_keeps ..).step rfl ((State.wr_keeps ..).step rfl hu1)
      · exact (State.validSample_keeps ..).step rfl hu1

theorem execPllRelockDone_keeps (s : State) : KeepsIn atNext 7569 s (execPllRelockDone s) := by
  unfold execPllRelockDone
  refine KeepsIn.effect rfl ?_ ?_
  · exact .refl _ _
  · intro u1 hu1
    exact (State.pllDone_keeps ..).step rfl hu1

theorem execPowerStateChange_keeps (s : State) : KeepsIn atNext 7569 s (execPowerStateChange s) := by
  unfold execPowerStateChange
  refine KeepsIn.effect rfl ?_ ?_
  · exact .refl _ _
  · intro u1 hu1
    exact (State.psChange_keeps ..).step rfl hu1

end Sys2Proof.Machine
end

