-- ==== Sys2Proof/Laws/KeepsSlots.lean ====
section
/-! SUPPORT. What each operation of Machine/Slots.lean keeps (Laws/Frame.lean). -/

namespace Sys2Proof.Machine

theorem State.holdContexts_keeps (s : State) (t : Nat) (n : Nat) : Keeps 2048 s (State.holdContexts s t n) := by
  unfold State.holdContexts
  extract_lets l1
  exact (State.modCtrl_keeps ..).step rfl (.refl _ _)

theorem State.modTen_keeps (s : State) (t : Nat) (f : Tenant → Tenant) : Keeps 8388608 s (State.modTen s t f) := by
  unfold State.modTen
  exact Keeps.set_ten rfl (.refl _ _)

theorem State.modLink_keeps (s : State) (l : Nat) (f : Link → Link) : Keeps 2048 s (State.modLink s l f) := by
  unfold State.modLink
  exact Keeps.set_host rfl (.refl _ _)

end Sys2Proof.Machine
end

