-- ==== Sys2Proof/Laws/KeepsTables.lean ====
section
/-! SUPPORT. What each operation of Machine/Tables.lean keeps (Laws/Frame.lean). -/

namespace Sys2Proof.Machine

theorem State.vendorAen_keeps (s : State) (nsid : Nat) (info : Nat) : Keeps 3088 s (State.vendorAen s nsid info) := by
  unfold State.vendorAen
  refine Keeps.each ?_ ?_
  · exact .refl _ _
  · intro u1 _ hu1
    exact (State.aen_keeps ..).step rfl hu1

theorem State.onNs_keeps {n₀ : Nat} {s₀ : State} {s : State} {r : CmdRef} {nsid : Nat} {f : Ns → State → State} (hm : 1024 ||| n₀ = n₀) (h₀ : Keeps n₀ s₀ s) (hf : ∀ v0 v1, Keeps n₀ s₀ v1 → Keeps n₀ s₀ (f v0 v1)) : Keeps n₀ s₀ (State.onNs s r nsid f) := by
  unfold State.onNs
  split
  · exact (State.finish_keeps ..).step (Keeps.sub rfl hm) h₀
  · refine Keeps.ite ?_ ?_
    · exact (State.finish_keeps ..).step (Keeps.sub rfl hm) h₀
    · refine Keeps.ite ?_ ?_
      · exact (State.finish_keeps ..).step (Keeps.sub rfl hm) h₀
      · exact hf _ _ h₀

theorem State.starting_keeps {n₀ : Nat} {s₀ : State} {s : State} {r : CmdRef} {f : State → State} (hm : 1024 ||| n₀ = n₀) (h₀ : Keeps n₀ s₀ s) (hf : ∀ v0, Keeps n₀ s₀ v0 → Keeps n₀ s₀ (f v0)) : Keeps n₀ s₀ (State.starting s r f) := by
  unfold State.starting
  extract_lets l1
  have kl1 : ∀ v0, Keeps n₀ s₀ v0 → Keeps n₀ s₀ (l1 v0) := by
    unfold l1
    intro u2 hu2
    refine Keeps.ite ?_ ?_
    · exact (State.finish_keeps ..).step (Keeps.sub rfl hm) hu2
    · exact hf _ hu2
  clear_value l1
  split
  · split
    · refine Keeps.ite ?_ ?_
      · exact kl1 _ h₀
      · exact h₀
    · refine Keeps.ite ?_ ?_
      · exact kl1 _ h₀
      · exact h₀
    · exact h₀
  · exact h₀

theorem State.modDie_keeps (s : State) (d : Nat) (f : Die → Die) : Keeps 524288 s (State.modDie s d f) := by
  unfold State.modDie
  exact Keeps.set_md rfl (.refl _ _)

theorem State.opDone_keeps (s : State) (r : CmdRef) : Keeps 1024 s (State.opDone s r) := by
  unfold State.opDone
  refine Keeps.ite ?_ ?_
  · exact .refl _ _
  · exact (State.finish_keeps ..).step rfl (.refl _ _)

theorem State.modNv_keeps (s : State) (f : Nv → Nv) : Keeps 32768 s (State.modNv s f) := by
  unfold State.modNv
  exact Keeps.set_nv rfl (.refl _ _)

theorem State.accept_keeps (s : State) (r : CmdRef) : Keeps 1024 s (State.accept s r) := by
  unfold State.accept
  exact (State.modCmd_keeps ..).step rfl (.refl _ _)

theorem State.afterBatch_keeps (s : State) (r : CmdRef) : Keeps 66560 s (State.afterBatch s r) := by
  unfold State.afterBatch
  extract_lets l1 l2
  have kl1 : Keeps 66560 s l1 := (State.hold_keeps ..).step rfl (.refl _ _)
  exact Keeps.set_jr rfl kl1

theorem State.modNs_keeps (s : State) (nsid : Nat) (f : Ns → Ns) : Keeps 32768 s (State.modNs s nsid f) := by
  unfold State.modNs
  exact (State.modNv_keeps ..).step rfl (.refl _ _)

theorem State.see_keeps (s : State) (owner : Nat) (nsid : Nat) : Keeps 8486912 s (State.see s owner nsid) := by
  unfold State.see
  split
  · extract_lets l1
    have kl1 : Keeps 8486912 s l1 := (State.updJr_keeps ..).step rfl (.refl _ _)
    exact (State.modNv_keeps ..).step rfl ((State.updTen_keeps ..).step rfl kl1)
  · exact .refl _ _

theorem State.modRow_keeps (s : State) (set : Nat) (row : Nat) (f : Row → Row) : Keeps 32768 s (State.modRow s set row f) := by
  unfold State.modRow
  exact (State.modNv_keeps ..).step rfl (.refl _ _)

theorem State.diverge_keeps (s : State) (nsid : Nat) (lba : Nat) (n : Nat) : Keeps 32768 s (State.diverge s nsid lba n) := by
  unfold State.diverge
  extract_lets l1 l2 l3
  exact (State.modNv_keeps ..).step rfl (.refl _ _)

theorem State.deferredError_keeps (s : State) (nsid : Nat) (slba : Nat) (nlb : Nat) (kind : Nat) : Keeps 36241 s (State.deferredError s nsid slba nlb kind) := by
  unfold State.deferredError
  split
  · exact .refl _ _
  · extract_lets l1 l2
    have kl1 : Keeps 36241 s l1 := (State.bump_keeps ..).step rfl ((State.event_keeps ..).step rfl (.refl _ _))
    exact (State.vendorAen_keeps ..).step rfl ((State.modNs_keeps ..).step rfl kl1)

theorem State.modZone_keeps (s : State) (nsid : Nat) (z : Nat) (f : Zone → Zone) : Keeps 32768 s (State.modZone s nsid z f) := by
  unfold State.modZone
  exact (State.modNv_keeps ..).step rfl (.refl _ _)

theorem State.persist_keeps (s : State) (f : Nv → Nv) : Keeps 98304 s (State.persist s f) := by
  unfold State.persist
  exact (State.updJr_keeps ..).step rfl ((State.modNv_keeps ..).step rfl (.refl _ _))

theorem State.lostRange_keeps (s : State) (nsid : Nat) (slba : Nat) (nlb : Nat) (cause : Nat) (column : Nat) (members : Nat) (acked : Bool) : Keeps 36241 s (State.lostRange s nsid slba nlb cause column members acked) := by
  unfold State.lostRange
  split
  · exact (State.bump_keeps ..).step rfl (.refl _ _)
  · extract_lets l1 l2 l3
    have kl1 : Keeps 36241 s l1 := (State.event_keeps ..).step rfl ((State.bump_keeps ..).step rfl (.refl _ _))
    have kl3 : Keeps 36241 s l3 := (State.vendorAen_keeps ..).step rfl ((State.modNs_keeps ..).step rfl kl1)
    refine Keeps.ite ?_ ?_
    · exact (State.deferredError_keeps ..).step rfl kl3
    · exact kl3

theorem State.noteChange_keeps (s : State) (nsid : Nat) (lba : Nat) (n : Nat) : Keeps 32768 s (State.noteChange s nsid lba n) := by
  unfold State.noteChange
  refine Keeps.ite ?_ ?_
  · exact (State.diverge_keeps ..).step rfl (.refl _ _)
  · exact .refl _ _

theorem State.modBlock_keeps (s : State) (d : Nat) (b : Nat) (f : Block → Block) : Keeps 32768 s (State.modBlock s d b f) := by
  unfold State.modBlock
  exact (State.modNv_keeps ..).step rfl (.refl _ _)

end Sys2Proof.Machine
end

