-- ==== Sys2Proof/Laws/KeepsBuffer.lean ====
section
/-! SUPPORT. What each operation of Machine/Buffer.lean keeps (Laws/Frame.lean). -/

namespace Sys2Proof.Machine

theorem State.hotDrop_keeps (s : State) (nsid : Nat) (a : Nat) (n : Nat) : Keeps 262144 s (State.hotDrop s nsid a n) := by
  unfold State.hotDrop
  exact Keeps.set_zone rfl (.refl _ _)

theorem State.hotDropNs_keeps (s : State) (nsid : Nat) : Keeps 262144 s (State.hotDropNs s nsid) := by
  unfold State.hotDropNs
  exact Keeps.set_zone rfl (.refl _ _)

theorem State.advanceWp_keeps (s : State) (nsid : Nat) (z : Nat) : Keeps 32768 s (State.advanceWp s nsid z) := by
  unfold State.advanceWp
  split
  · exact .refl _ _
  · extract_lets l1 l2 l3
    exact (State.modZone_keeps ..).step rfl (.refl _ _)

theorem State.tryComplete_keeps (s : State) (r : CmdRef) : Keeps 1024 s (State.tryComplete s r) := by
  unfold State.tryComplete
  extract_lets l1 l2 l3
  refine Keeps.ite ?_ ?_
  · exact .refl _ _
  · refine Keeps.ite ?_ ?_
    · refine Keeps.ite ?_ ?_
      · exact (State.finish_keeps ..).step rfl (.refl _ _)
      · exact (State.finish_keeps ..).step rfl (.refl _ _)
    · exact .refl _ _

theorem State.wbufUpdate_keeps (s : State) : Keeps 2449 s (State.wbufUpdate s) := by
  unfold State.wbufUpdate
  extract_lets l1 l2 l3
  have kl3 : Keeps 2449 s l3 := (State.set_keeps ..).step rfl ((State.wr_keeps ..).step rfl (.refl _ _))
  refine Keeps.ite ?_ ?_
  · exact (State.event_keeps ..).step rfl kl3
  · exact kl3

theorem State.releaseSets_keeps (s : State) (col : Nat) (sets : List Nat) : Keeps 262144 s (State.releaseSets s col sets) := by
  unfold State.releaseSets
  exact Keeps.set_zone rfl (.refl _ _)

theorem State.zoneErr_keeps (s : State) (check : Nat) (zone : Nat) : Keeps 1 s (State.zoneErr s check zone) := by
  unfold State.zoneErr
  exact (State.firstError_keeps ..).step rfl (.refl _ _)

theorem State.noteCopies_keeps (s : State) (keys : List Nat) (i : Nat) : Keeps 65536 s (State.noteCopies s keys i) := by
  unfold State.noteCopies
  split
  · exact .refl _ _
  · extract_lets l1 l2
    exact Keeps.set_jr rfl (.refl _ _)

theorem State.raiseMark_keeps (s : State) (k : Nat) : Keeps 32768 s (State.raiseMark s k) := by
  unfold State.raiseMark
  split
  · exact (State.modNv_keeps ..).step rfl (.refl _ _)
  · exact .refl _ _

theorem State.wbufStart_keeps (s : State) : Keeps 1 s (State.wbufStart s) := by
  unfold State.wbufStart
  extract_lets l1
  exact (State.set_keeps ..).step rfl ((State.wr_keeps ..).step rfl (.refl _ _))

theorem State.closeZone_keeps (s : State) (nsid : Nat) (z : Nat) : Keeps 294912 s (State.closeZone s nsid z) := by
  unfold State.closeZone
  extract_lets l1 l2
  have kl2 : Keeps 294912 s l2 := by
    unfold l2
    split
    · exact (State.releaseSets_keeps ..).step rfl (.refl _ _)
    · exact .refl _ _
  refine Keeps.ite ?_ ?_
  · exact (State.modZone_keeps ..).step rfl kl2
  · exact (State.modZone_keeps ..).step rfl (.refl _ _)

theorem State.modKey_keeps (s : State) (k : Nat) (f : KeySlot → KeySlot) : Keeps 4194304 s (State.modKey s k f) := by
  unfold State.modKey
  exact Keeps.set_key rfl (.refl _ _)

theorem State.hotInsert_keeps (s : State) (h : HotBlock) : Keeps 262145 s (State.hotInsert s h) := by
  unfold State.hotInsert
  extract_lets l1 l2 l3 l4 l5 l6 l7
  have kl7 : Keeps 262145 s l7 := Keeps.set_zone rfl (.refl _ _)
  refine Keeps.ite ?_ ?_
  · exact .refl _ _
  · exact (State.bump_keeps ..).step rfl kl7

theorem State.commitRange_keeps (s : State) (k : Nat) (w : Wr) : Keeps 163840 s (State.commitRange s k w) := by
  unfold State.commitRange
  extract_lets l1 l2 l3
  have kl1 : Keeps 163840 s l1 := (State.modNv_keeps ..).step rfl (.refl _ _)
  have kl2 : Keeps 163840 s l2 := by
    unfold l2
    split
    · exact (State.modZone_keeps ..).step rfl kl1
    · exact kl1
  exact Keeps.set_wp rfl kl2

theorem State.takeSlot_keeps (s : State) (nsid : Nat) (h : Nat) (n : Ns) : KeepsIn atOptSnd 294912 s (State.takeSlot s nsid h n) := by
  unfold State.takeSlot
  extract_lets l1 l3
  have kl1 : ∀ v0 v1 v2, Keeps 294912 s v0 → KeepsIn atSnd 294912 s (l1 v0 v1 v2) := by
    unfold l1
    intro u2 _ _ hu2
    exact KeepsIn.leafSnd ((State.modNv_keeps ..).step rfl hu2)
  clear_value l1
  have kl3 : ∀ v0 v1, Keeps 294912 s v0 → Keeps 294912 s (l3 v0 v1) := by
    unfold l3
    intro u4 _ hu4
    refine Keeps.ite ?_ ?_
    · exact (State.updZone_keeps ..).step rfl hu4
    · exact hu4
  clear_value l3
  split
  · refine KeepsIn.ite ?_ ?_
    · refine KeepsIn.someSnd ?_
      exact kl1 _ _ _ (.refl _ _)
    · extract_lets l5
      have kl5 : Keeps 294912 s l5 := (State.modNv_keeps ..).step rfl (.refl _ _)
      refine KeepsIn.mapOptSnd ?_
      intro _
      exact kl1 _ _ _ kl5
  · refine KeepsIn.mapOptSnd ?_
    intro _
    exact kl1 _ _ _ (kl3 _ _ (.refl _ _))

theorem State.hotRefresh_keeps (s : State) (nsid : Nat) (blk : Nat) : Keeps 262144 s (State.hotRefresh s nsid blk) := by
  unfold State.hotRefresh
  split
  · exact Keeps.set_zone rfl (.refl _ _)
  · exact .refl _ _

theorem State.reserveKey_keeps (s : State) (k : Nat) (n : Nat) : Keeps 4196753 s (State.reserveKey s k n) := by
  unfold State.reserveKey
  split
  · exact (State.bump_keeps ..).step rfl (.refl _ _)
  · refine Keeps.ite ?_ ?_
    · extract_lets l1 l2
      have kl2 : Keeps 4196753 s l2 := (State.modKey_keeps ..).step rfl (.refl _ _)
      refine Keeps.ite ?_ ?_
      · exact (State.event_keeps ..).step rfl kl2
      · exact kl2
    · extract_lets l3 l4
      have kl3 : Keeps 4196753 s l3 := (State.bump_keeps ..).step rfl (.refl _ _)
      have kl4 : Keeps 4196753 s l4 := (State.modKey_keeps ..).step rfl kl3
      refine Keeps.ite ?_ ?_
      · exact kl4
      · exact (State.event_keeps ..).step rfl kl4

theorem State.voidRange_keeps (s : State) (nsid : Nat) (z : Nat) (off : Nat) (nlb : Nat) : Keeps 35217 s (State.voidRange s nsid z off nlb) := by
  unfold State.voidRange
  extract_lets l1
  have kl1 : Keeps 35217 s l1 := (State.event_keeps ..).step rfl ((State.modZone_keeps ..).step rfl (.refl _ _))
  exact (State.advanceWp_keeps ..).step rfl kl1

theorem State.makeRoom_keeps (explicit : Bool) (l : List ((Nat → Bool) × Nat × Nat)) :
    ∀ (s : State), KeepsIn atOpt 297361 s (State.makeRoom s explicit l) := by
  induction l with
  | nil => exact fun s => KeepsIn.leaf rfl (.refl _ _)
  | cons x l ih =>
    intro s
    unfold State.makeRoom
    refine KeepsIn.ite (ih s) (KeepsIn.ite (KeepsIn.none rfl) ?_)
    split
    · exact (ih _).step rfl ((State.event_keeps ..).step rfl ((State.closeZone_keeps ..).step rfl (.refl _ _)))
    · exact KeepsIn.none rfl

theorem State.takeSlots_keeps (nsid h : Nat) (n : Ns) (l : List Nat) :
    ∀ (s : State), KeepsIn atOptSnd 360448 s (State.takeSlots s nsid h n l) := by
  induction l with
  | nil => exact fun s => KeepsIn.leaf rfl (.refl _ _)
  | cons g l ih =>
    intro s
    unfold State.takeSlots
    split
    · exact KeepsIn.none rfl
    · rename_i slot t e
      have kt : Keeps 360448 s t := KeepsIn.get ((State.takeSlot_keeps ..).step rfl (.refl _ _)) (congrArg atOptSnd e)
      exact KeepsIn.mapOptSnd' ((ih _).step rfl ((State.noteCopies_keeps ..).step rfl kt)) fun x hx => KeepsIn.leaf rfl hx

theorem State.commitAll_keeps (s : State) : Keeps 163840 s (State.commitAll s) := by
  unfold State.commitAll
  extract_lets l1 l2
  have kl2 : Keeps 163840 s l2 := Keeps.set_wp rfl (.refl _ _)
  refine Keeps.each ?_ ?_
  · exact kl2
  · intro u3 _ hu3
    split
    · refine Keeps.ite ?_ ?_
      · exact (State.commitRange_keeps ..).step rfl hu3
      · exact hu3
    · exact hu3

theorem State.dropWrite_keeps (s : State) (p : Wr → Bool) : Keeps 166289 s (State.dropWrite s p) := by
  unfold State.dropWrite
  extract_lets l1 l2 l3
  have kl3 : Keeps 166289 s l3 := Keeps.set_wp rfl (.refl _ _)
  refine Keeps.each ?_ ?_
  · exact kl3
  · intro u4 _ hu4
    split
    · exact (State.voidRange_keeps ..).step rfl hu4
    · exact hu4

theorem State.openZone_keeps (s : State) (nsid : Nat) (z : Nat) (n : Ns) (explicit : Bool) : KeepsIn atOpened 297361 s (State.openZone s nsid z n explicit) := by
  unfold State.openZone
  extract_lets l1 l2
  refine KeepsIn.ite ?_ ?_
  · exact KeepsIn.leafFails (.refl _ _)
  · split
    · exact KeepsIn.leafFails (.refl _ _)
    · rename_i p3 e4
      have kp3 : Keeps 297361 s p3 := by
        refine KeepsIn.get ?_ (congrArg atOpt e4)
        exact (State.makeRoom_keeps ..).step rfl (.refl _ _)
      extract_lets l5 l6
      have kl6 : ∀ v0, Keeps 297361 s v0 → Keeps 297361 s (l6 v0) := by
        unfold l6
        intro u7 hu7
        exact Keeps.set_zone rfl hu7
      clear_value l6
      refine KeepsIn.ite ?_ ?_
      · split
        · exact KeepsIn.leafWaits kp3
        · exact KeepsIn.leafOk (kl6 _ ((State.modZone_keeps ..).step rfl kp3))
      · exact KeepsIn.leafOk (kl6 _ ((State.modZone_keeps ..).step rfl kp3))

end Sys2Proof.Machine
end

