-- ==== Sys2Proof/Laws/KeepsSendq.lean ====
section
/-! SUPPORT. What each operation of Machine/Sendq.lean keeps (Laws/Frame.lean). -/

namespace Sys2Proof.Machine

theorem State.unsend_keeps (s : State) (r : CmdRef) (begun : Bool) : Keeps 1048576 s (State.unsend s r begun) := by
  unfold State.unsend
  exact (State.updNet_keeps ..).step rfl (.refl _ _)

theorem State.modQp_keeps (s : State) (qp : Nat) (f : Qp → Qp) : Keeps 1048576 s (State.modQp s qp f) := by
  unfold State.modQp
  exact (State.updNet_keeps ..).step rfl (.refl _ _)

theorem State.dataCame_keeps (s : State) (r : CmdRef) : Keeps 1048576 s (State.dataCame s r) := by
  unfold State.dataCame
  exact (State.updNet_keeps ..).step rfl (.refl _ _)

theorem State.queueMsgs_keeps (s : State) (qp : Nat) (l : List Msg) : Keeps 1048576 s (State.queueMsgs s qp l) := by
  unfold State.queueMsgs
  exact (State.modQp_keeps ..).step rfl (.refl _ _)

theorem State.queueReadData_keeps (s : State) (r : CmdRef) (blockBytes : Nat) (data : List Nat) : Keeps 1048576 s (State.queueReadData s r blockBytes data) := by
  unfold State.queueReadData
  split
  · exact .refl _ _
  · exact (State.queueMsgs_keeps ..).step rfl (.refl _ _)

theorem State.askData_keeps (s : State) (r : CmdRef) (bytes : Nat) : Keeps 1048576 s (State.askData s r bytes) := by
  unfold State.askData
  split
  · exact .refl _ _
  · refine Keeps.ite ?_ ?_
    · exact .refl _ _
    · exact (State.queueMsgs_keeps ..).step rfl (.refl _ _)

end Sys2Proof.Machine
end

