-- ==== Sys2Proof/Laws/KeepsWrite.lean ====
section
/-! SUPPORT. What each operation of Machine/Write.lean keeps (Laws/Frame.lean). -/

namespace Sys2Proof.Machine

theorem State.mirrorFreed_keeps (s : State) (p : Wr → Bool) : Keeps 134217744 s (State.mirrorFreed s p) := by
  unfold State.mirrorFreed
  extract_lets l1
  refine Keeps.ite ?_ ?_
  · exact .refl _ _
  · exact (State.emit_keeps ..).step rfl ((State.updPair_keeps ..).step rfl (.refl _ _))

theorem State.addWr_keeps (s : State) (w : Wr) : Keeps 131072 s (State.addWr s w) := by
  unfold State.addWr
  exact Keeps.set_wp rfl (.refl _ _)

theorem State.flushDone_keeps (s : State) : Keeps 132096 s (State.flushDone s) := by
  unfold State.flushDone
  extract_lets l1 l2 l3 l4 l5
  have kl2 : Keeps 132096 s l2 := (State.updWp_keeps ..).step rfl (.refl _ _)
  have kl5 : Keeps 132096 s l5 := Keeps.set_wp rfl kl2
  refine Keeps.each ?_ ?_
  · exact kl5
  · intro u6 _ hu6
    exact (State.finish_keeps ..).step rfl hu6

theorem State.flushAlmanac_keeps (s : State) (both : Bool) : Keeps 2449 s (State.flushAlmanac s both) := by
  unfold State.flushAlmanac
  extract_lets l1 l2 l3 l4 l5 l6
  have kl5 : Keeps 2449 s l5 := by
    refine (State.updAlm_keeps fun h => ⟨h.fewer ?_, Nat.le_refl _⟩).step rfl (.refl _ _)
    exact List.take_sublist ..
  have kl6 : Keeps 2449 s l6 :=
    Keeps.ite kl5 (Keeps.ite ((State.set_keeps ..).step rfl kl5) ((State.event_keeps ..).step rfl ((State.set_keeps ..).step rfl kl5)))
  exact Keeps.ite ((State.event_keeps ..).step rfl kl6) kl6

theorem State.dataIn_keeps (s : State) (k : Nat) (w : Wr) (data : List Nat) : Keeps 134709264 s (State.dataIn s k w data) := by
  unfold State.dataIn
  split
  · exact .refl _ _
  · extract_lets l1 l2 l3 l4 l5 l6 l10 l11
    have kl2 : Keeps 134709264 s l2 := Keeps.set_wp rfl (.refl _ _)
    have kl3 : Keeps 134709264 s l3 := (State.modNs_keeps ..).step rfl kl2
    have kl4 : Keeps 134709264 s l4 := (State.noteChange_keeps ..).step rfl kl3
    have kl5 : Keeps 134709264 s l5 := (State.hotDrop_keeps ..).step rfl kl4
    have kl6 : Keeps 134709264 s l6 := by
      unfold l6
      split
      · exact (State.advanceWp_keeps ..).step rfl kl4
      · refine Keeps.ite ?_ ?_
        · exact kl5
        · split
          · rename_i p7 p8 e9
            have kp8 : Keeps 134709264 s p8 := by
              refine KeepsIn.get ?_ (congrArg atOptSnd e9)
              exact (State.takeSlots_keeps ..).step rfl kl5
            exact Keeps.set_wp rfl kp8
          · exact kl5
    have kl10 : Keeps 134709264 s l10 := (State.emit_keeps ..).step rfl kl6
    refine Keeps.ite ?_ ?_
    · exact Keeps.set_pair rfl kl10
    · exact kl6

theorem State.persistBook_keeps (s : State) : Keeps 65536 s (State.persistBook s) := by
  unfold State.persistBook
  refine Keeps.ite ?_ ?_
  · exact (State.updJr_keeps ..).step rfl (.refl _ _)
  · exact .refl _ _

theorem State.unmap_keeps (s : State) (n : Ns) (nsid : Nat) (l : List Nat) : Keeps 425984 s (State.unmap s n nsid l) := by
  unfold State.unmap
  extract_lets l1
  refine Keeps.each ?_ ?_
  · exact .refl _ _
  · intro u2 _ hu2
    extract_lets l3 l4 l5 l6
    have kl3 : Keeps 425984 s l3 := (State.modNv_keeps ..).step rfl hu2
    have kl5 : Keeps 425984 s l5 := Keeps.set_wp rfl kl3
    have kl6 : Keeps 425984 s l6 := (State.modNs_keeps ..).step rfl kl5
    exact (State.noteChange_keeps ..).step rfl ((State.hotDrop_keeps ..).step rfl kl6)

theorem State.closeBatch_keeps (s : State) : Keeps 67985 s (State.closeBatch s) := by
  unfold State.closeBatch
  extract_lets l1 l2 l3 l4
  have kl3 : Keeps 67985 s l3 := Keeps.set_jr rfl (.refl _ _)
  have kl4 : Keeps 67985 s l4 := by
    unfold l4
    refine Keeps.ite ?_ ?_
    · exact (State.emit_keeps ..).step rfl kl3
    · exact kl3
  refine Keeps.ite ?_ ?_
  · exact (State.event_keeps ..).step rfl kl4
  · exact kl4

theorem State.forward_keeps (s : State) (r : CmdRef) (nsid : Nat) (slba : Nat) (nlb : Nat) (kind : ForwardKind) : Keeps 134218768 s (State.forward s r nsid slba nlb kind) := by
  unfold State.forward
  refine Keeps.ite ?_ ?_
  · exact .refl _ _
  · extract_lets l1 l2
    have kl2 : Keeps 134218768 s l2 := (State.updPair_keeps ..).step rfl (.refl _ _)
    exact (State.emit_keeps ..).step rfl ((State.hold_keeps ..).step rfl kl2)

theorem State.awaitErase_keeps (s : State) (k : Nat) (sets : List Nat) : Keeps 262144 s (State.awaitErase s k sets) := by
  unfold State.awaitErase
  exact (State.updZone_keeps ..).step rfl (.refl _ _)

theorem State.secureHeld_keeps (s : State) (k : Nat) (cons : Nat) : Keeps 264593 s (State.secureHeld s k cons) := by
  unfold State.secureHeld
  exact (State.updZone_keeps ..).step rfl ((State.eventPerMeridian_keeps ..).step rfl (.refl _ _))

theorem State.mirrorOp_keeps (s : State) (r : CmdRef) (nsid : Nat) (slba : Nat) (ranges : List (Nat × Nat)) : Keeps 134349840 s (State.mirrorOp s r nsid slba ranges) := by
  unfold State.mirrorOp
  extract_lets l1 l2
  have kl2 : ∀ v0, Keeps 134349840 s v0 → Keeps 134349840 s (l2 v0) := by
    unfold l2
    intro u3 hu3
    exact (State.emit_keeps ..).step rfl ((State.updWp_keeps ..).step rfl hu3)
  clear_value l2
  split
  · exact .refl _ _
  · split
    · exact (State.updPair_keeps ..).step rfl (kl2 _ ((State.modCmd_keeps ..).step rfl (.refl _ _)))
    · exact kl2 _ (.refl _ _)
    · exact kl2 _ (.refl _ _)
    · exact .refl _ _

theorem State.withAna_keeps {n₀ : Nat} {s₀ : State} {s : State} {f : State → State} (hm : 3088 ||| n₀ = n₀) (h₀ : Keeps n₀ s₀ s) (hf : ∀ v0, Keeps n₀ s₀ v0 → Keeps n₀ s₀ (f v0)) : Keeps n₀ s₀ (State.withAna s f) := by
  unfold State.withAna
  extract_lets l1 l2
  have kl2 : Keeps n₀ s₀ l2 := hf _ h₀
  refine Keeps.ite ?_ ?_
  · exact kl2
  · refine Keeps.each ?_ ?_
    · exact kl2
    · intro u3 _ hu3
      exact (State.aen_keeps ..).step (Keeps.sub rfl hm) hu3

theorem State.pairGate_keeps {n₀ : Nat} {s₀ : State} {s : State} {r : CmdRef} {n : Ns} {nsid : Nat} {slba : Nat} {nlb : Nat} {kind : ForwardKind} {f : State → State} (hm : 135398416 ||| n₀ = n₀) (h₀ : Keeps n₀ s₀ s) (hf : ∀ v0, Keeps n₀ s₀ v0 → Keeps n₀ s₀ (f v0)) : Keeps n₀ s₀ (State.pairGate s r n nsid slba nlb kind f) := by
  unfold State.pairGate
  refine Keeps.ite ?_ ?_
  · exact hf _ h₀
  · refine Keeps.ite ?_ ?_
    · exact (State.finish_keeps ..).step (Keeps.sub rfl hm) h₀
    · refine Keeps.ite ?_ ?_
      · exact (State.hold_keeps ..).step (Keeps.sub rfl hm) h₀
      · refine Keeps.ite ?_ ?_
        · refine Keeps.ite ?_ ?_
          · exact (State.finish_keeps ..).step (Keeps.sub rfl hm) h₀
          · exact (State.askData_keeps ..).step (Keeps.sub rfl hm) ((State.forward_keeps ..).step (Keeps.sub rfl hm) h₀)
        · refine Keeps.ite ?_ ?_
          · exact (State.mirrorOp_keeps ..).step (Keeps.sub rfl hm) (hf _ h₀)
          · exact hf _ h₀

theorem State.reserveWrite_keeps (s : State) (r : CmdRef) (n : Ns) (l : List Wr) (u : Nat) : Keeps 139955601 s (State.reserveWrite s r n l u) := by
  unfold State.reserveWrite
  extract_lets l1 l2 l4 l5 l6 l7
  have kl2 : Keeps 139955601 s l2 := by
    unfold l2
    refine (State.accept_keeps ..).step rfl ?_
    refine Keeps.foldl ?_ _ ?_
    · intro u3 _ hu3
      exact (State.addWr_keeps ..).step rfl hu3
    · exact .refl _ _
  have kl5 : Keeps 139955601 s l5 := (State.reserveKey_keeps ..).step rfl kl2
  have kl6 : Keeps 139955601 s l6 := (State.askData_keeps ..).step rfl kl5
  have kl7 : Keeps 139955601 s l7 := by
    unfold l7
    refine Keeps.each ?_ ?_
    · exact kl6
    · intro u8 _ hu8
      split
      · refine Keeps.ite ?_ ?_
        · exact (State.dataIn_keeps ..).step rfl hu8
        · exact hu8
      · exact hu8
  refine Keeps.ite ?_ ?_
  · exact (State.finish_keeps ..).step rfl ((State.dropWrite_keeps ..).step rfl kl5)
  · exact (State.tryComplete_keeps ..).step rfl kl7

theorem State.flushAlone_keeps (s : State) : Keeps 132096 s (State.flushAlone s) := by
  unfold State.flushAlone
  extract_lets l1
  refine (State.flushDone_keeps ..).step rfl ?_
  refine Keeps.each ?_ ?_
  · exact .refl _ _
  · intro u2 _ hu2
    exact (State.tryComplete_keeps ..).step rfl hu2

theorem State.ingressFails_keeps (s : State) (r : CmdRef) (nsid : Nat) (field : Nat) (lba : Nat) : Keeps 134385041 s (State.ingressFails s r nsid field lba) := by
  unfold State.ingressFails
  extract_lets l1 l2 l3 l4
  have kl1 : Keeps 134385041 s l1 := (State.bump_keeps ..).step rfl (.refl _ _)
  have kl2 : Keeps 134385041 s l2 := (State.firstError_keeps ..).step rfl kl1
  have kl3 : Keeps 134385041 s l3 := (State.eventPer_keeps ..).step rfl kl2
  have kl4 : Keeps 134385041 s l4 := (State.updPair_keeps ..).step rfl kl3
  exact (State.finish_keeps ..).step rfl ((State.dropWrite_keeps ..).step rfl kl4)

theorem State.dataReceived_keeps (s : State) (r : CmdRef) (res : DataResult) : Keeps 135761297 s (State.dataReceived s r res) := by
  unfold State.dataReceived
  extract_lets l1 l2 l3
  have kl2 : Keeps 135761297 s l2 := (State.dataCame_keeps ..).step rfl (.refl _ _)
  refine Keeps.ite ?_ ?_
  · exact .refl _ _
  · split
    · refine Keeps.ite ?_ ?_
      · exact (State.emit_keeps ..).step rfl ((State.updPair_keeps ..).step rfl kl2)
      · refine (State.tryComplete_keeps ..).step rfl ?_
        refine Keeps.each ?_ ?_
        · exact kl2
        · intro u4 _ hu4
          exact (State.dataIn_keeps ..).step rfl hu4
    · exact (State.ingressFails_keeps ..).step rfl kl2

theorem State.batchOnFlash_keeps (s : State) (okA : Bool) (okB : Bool) (companion : Bool) : Keeps 139431313 s (State.batchOnFlash s okA okB companion) := by
  unfold State.batchOnFlash
  split
  · exact .refl _ _
  · refine Keeps.ite ?_ ?_
    · exact .refl _ _
    · extract_lets l1 l2 l3 l4 l5 l6 l7 l8 l9 l10 l11 l12 l14 l15 l16 l17 l20 l21 l22 l23 l24 l25 l26 l27 l28 l29 l31 l32
      have kl5 : Keeps 139431313 s l5 := Keeps.set_jr rfl (.refl _ _)
      have kl6 : Keeps 139431313 s l6 := (State.wr_keeps ..).step rfl ((State.wr_keeps ..).step rfl kl5)
      have kl7 : Keeps 139431313 s l7 := (State.wr_keeps ..).step rfl ((State.set_keeps ..).step rfl kl6)
      have kl8 : Keeps 139431313 s l8 := (State.wr_keeps ..).step rfl kl7
      have kl11 : Keeps 139431313 s l11 := Keeps.set_jr rfl kl8
      have kl12 : Keeps 139431313 s l12 := by
        unfold l12
        refine Keeps.each ?_ ?_
        · exact kl11
        · intro u13 _ hu13
          exact (State.opDone_keeps ..).step rfl hu13
      have kl16 : Keeps 139431313 s l16 := Keeps.set_key rfl kl12
      have kl17 : Keeps 139431313 s l17 := by
        unfold l17
        refine Keeps.each ?_ ?_
        · exact kl16
        · intro u18 _ hu18
          extract_lets l19
          have kl19 : Keeps 139431313 s l19 := (State.event_keeps ..).step rfl hu18
          split
          · refine Keeps.ite ?_ ?_
            · exact kl19
            · exact (State.opDone_keeps ..).step rfl kl19
          · exact (State.set_keeps ..).step rfl kl19
      have kl20 : Keeps 139431313 s l20 := by
        unfold l20
        refine (State.flushAlone_keeps ..).step rfl ?_
        refine Keeps.ite ?_ ?_
        · exact (State.updJr_keeps ..).step rfl kl17
        · exact kl17
      have kl21 : Keeps 139431313 s l21 := (State.mirrorFreed_keeps ..).step rfl kl20
      have kl23 : Keeps 139431313 s l23 := (State.updWp_keeps ..).step rfl kl21
      have kl25 : Keeps 139431313 s l25 := (State.modNv_keeps ..).step rfl kl23
      have kl27 : Keeps 139431313 s l27 := Keeps.set_md rfl kl25
      have kl29 : Keeps 139431313 s l29 := by
        unfold l29
        refine Keeps.each ?_ ?_
        · exact kl27
        · intro u30 _ hu30
          exact (State.releaseSets_keeps ..).step rfl hu30
      have kl32 : Keeps 139431313 s l32 := (State.updMd_keeps ..).step rfl kl29
      exact (State.flushAlmanac_keeps ..).step rfl ((State.persistBook_keeps ..).step rfl kl32)

theorem State.secureUnmap_keeps (k : Nat) (n : Ns) (nsid : Nat) (l : List Nat) :
    ∀ (s : State), Keeps 428433 s (State.secureUnmap s k n nsid l) := by
  induction l with
  | nil => exact fun s => (State.updZone_keeps ..).step rfl (.refl _ _)
  | cons i l ih =>
    intro s
    unfold State.secureUnmap
    extract_lets sets
    refine Keeps.ite ?_ ?_
    · exact (State.updZone_keeps ..).step rfl ((State.secureHeld_keeps ..).step rfl (.refl _ _))
    · exact (ih _).step rfl ((State.awaitErase_keeps ..).step rfl ((State.unmap_keeps ..).step rfl (.refl _ _)))

theorem State.deallocate_keeps (s : State) (r : CmdRef) (n : Ns) (nsid : Nat) (ranges : List (Nat × Nat)) : Keeps 494993 s (State.deallocate s r n nsid ranges) := by
  unfold State.deallocate
  extract_lets l1 l2 l3
  have kl2 : Keeps 494993 s l2 := (State.accept_keeps ..).step rfl (.refl _ _)
  refine Keeps.ite ?_ ?_
  · exact (State.secureUnmap_keeps ..).step rfl ((State.updZone_keeps ..).step rfl ((State.hold_keeps ..).step rfl kl2))
  · exact (State.afterBatch_keeps ..).step rfl ((State.unmap_keeps ..).step rfl kl2)

theorem State.zonedWrite_keeps (s : State) (r : CmdRef) (n : Ns) (nsid : Nat) (slba : Nat) (nlb : Nat) (fua : Bool) (k : WriteKind) : Keeps 139955601 s (State.zonedWrite s r n nsid slba nlb fua k) := by
  unfold State.zonedWrite
  extract_lets l1 l2 l3 l4 l5
  have kl5 : ∀ v0, Keeps 139955601 s v0 → Keeps 139955601 s (l5 v0) := by
    unfold l5
    intro u6 hu6
    extract_lets l7
    have kl7 : Keeps 139955601 s l7 := (State.modZone_keeps ..).step rfl hu6
    exact (State.reserveWrite_keeps ..).step rfl kl7
  clear_value l5
  split
  · exact (State.finish_keeps ..).step rfl ((State.zoneErr_keeps ..).step rfl (.refl _ _))
  · refine Keeps.ite ?_ ?_
    · exact (State.hold_keeps ..).step rfl (.refl _ _)
    · refine Keeps.ite ?_ ?_
      · refine (State.hold_keeps ..).step rfl ?_
        refine Keeps.ite ?_ ?_
        · exact (State.raiseMark_keeps ..).step rfl (.refl _ _)
        · exact .refl _ _
      · refine Keeps.ite ?_ ?_
        · split
          · rename_i p8 e9
            have kp8 : Keeps 139955601 s p8 := by
              refine KeepsIn.get ?_ (congrArg atOpened e9)
              exact (State.openZone_keeps ..).step rfl (.refl _ _)
            exact kl5 _ kp8
          · rename_i p10 p11 e12
            have kp11 : Keeps 139955601 s p11 := by
              refine KeepsIn.get ?_ (congrArg atOpened e12)
              exact (State.openZone_keeps ..).step rfl (.refl _ _)
            exact (State.finish_keeps ..).step rfl ((State.zoneErr_keeps ..).step rfl kp11)
          · rename_i p13 e14
            have kp13 : Keeps 139955601 s p13 := by
              refine KeepsIn.get ?_ (congrArg atOpened e14)
              exact (State.openZone_keeps ..).step rfl (.refl _ _)
            extract_lets l15 l16
            have kl15 : Keeps 139955601 s l15 := (State.hold_keeps ..).step rfl kp13
            exact Keeps.set_zone rfl kl15
        · exact kl5 _ (.refl _ _)

theorem execBatchOnFlash_keeps (okA : Bool) (okB : Bool) (companion : Bool) (s : State) : KeepsIn atNext 139431313 s (execBatchOnFlash okA okB companion s) := by
  unfold execBatchOnFlash
  refine KeepsIn.effect rfl ?_ ?_
  · exact .refl _ _
  · intro u1 hu1
    exact (State.batchOnFlash_keeps ..).step rfl hu1

theorem State.convWrite_keeps (s : State) (r : CmdRef) (n : Ns) (nsid : Nat) (slba : Nat) (nlb : Nat) (fua : Bool) (zeroes : Bool) (h : Nat) : Keeps 139955601 s (State.convWrite s r n nsid slba nlb fua zeroes h) := by
  unfold State.convWrite
  refine Keeps.ite ?_ ?_
  · exact (State.finish_keeps ..).step rfl (.refl _ _)
  · refine Keeps.ite ?_ ?_
    · refine (State.hold_keeps ..).step rfl ?_
      refine Keeps.ite ?_ ?_
      · exact (State.raiseMark_keeps ..).step rfl (.refl _ _)
      · exact .refl _ _
    · extract_lets l1 l2 l3
      have kl2 : Keeps 139955601 s l2 := by
        unfold l2
        refine Keeps.ite ?_ ?_
        · exact (State.bump_keeps ..).step rfl (.refl _ _)
        · exact .refl _ _
      exact (State.reserveWrite_keeps ..).step rfl kl2

theorem execWriteDataReceived_keeps (ref : CmdRef) (res : DataResult) (s : State) : KeepsIn atNext 135761297 s (execWriteDataReceived ref res s) := by
  unfold execWriteDataReceived
  refine KeepsIn.effect rfl ?_ ?_
  · exact .refl _ _
  · intro u1 hu1
    exact (State.dataReceived_keeps ..).step rfl hu1

theorem State.deallocCmd_keeps (s : State) (r : CmdRef) (nsid : Nat) (ranges : List (Nat × Nat)) : Keeps 135761297 s (State.deallocCmd s r nsid ranges) := by
  unfold State.deallocCmd
  refine State.starting_keeps rfl ?_ ?_
  · exact .refl _ _
  · intro u1 hu1
    refine State.onNs_keeps rfl ?_ ?_
    · exact hu1
    · intro _ u2 hu2
      refine Keeps.ite ?_ ?_
      · exact (State.finish_keeps ..).step rfl hu2
      · refine Keeps.ite ?_ ?_
        · exact (State.finish_keeps ..).step rfl hu2
        · refine State.pairGate_keeps rfl ?_ ?_
          · exact hu2
          · intro u3 hu3
            refine Keeps.ite ?_ ?_
            · exact (State.finish_keeps ..).step rfl hu3
            · exact (State.deallocate_keeps ..).step rfl hu3

theorem State.writeCmd_keeps (s : State) (r : CmdRef) (nsid : Nat) (slba : Nat) (nlb : Nat) (fua : Bool) (k : WriteKind) (dtype : Nat) (dspec : Nat) : Keeps 148344209 s (State.writeCmd s r nsid slba nlb fua k dtype dspec) := by
  unfold State.writeCmd
  refine State.starting_keeps rfl ?_ ?_
  · exact .refl _ _
  · intro u1 hu1
    refine State.onNs_keeps rfl ?_ ?_
    · exact hu1
    · intro _ u2 hu2
      refine Keeps.ite ?_ ?_
      · exact (State.finish_keeps ..).step rfl ((State.see_keeps ..).step rfl hu2)
      · refine Keeps.ite ?_ ?_
        · exact (State.finish_keeps ..).step rfl hu2
        · refine Keeps.ite ?_ ?_
          · exact (State.finish_keeps ..).step rfl hu2
          · refine Keeps.ite ?_ ?_
            · exact (State.finish_keeps ..).step rfl hu2
            · refine Keeps.ite ?_ ?_
              · exact (State.finish_keeps ..).step rfl hu2
              · refine Keeps.ite ?_ ?_
                · exact (State.finish_keeps ..).step rfl hu2
                · refine State.pairGate_keeps rfl ?_ ?_
                  · exact hu2
                  · intro u3 hu3
                    refine Keeps.ite ?_ ?_
                    · exact (State.zonedWrite_keeps ..).step rfl hu3
                    · exact (State.convWrite_keeps ..).step rfl hu3

theorem execDatasetManagementDeallocate_keeps (ref : CmdRef) (nsid : Nat) (ranges : List (Nat × Nat)) (s : State) : KeepsIn atNext 135761297 s (execDatasetManagementDeallocate ref nsid ranges s) := by
  unfold execDatasetManagementDeallocate
  refine KeepsIn.effect rfl ?_ ?_
  · exact .refl _ _
  · intro u1 hu1
    exact (State.deallocCmd_keeps ..).step rfl hu1

theorem State.zeroesCmd_keeps (s : State) (r : CmdRef) (nsid : Nat) (slba : Nat) (nlb : Nat) (deac : Bool) : Keeps 148344209 s (State.zeroesCmd s r nsid slba nlb deac) := by
  unfold State.zeroesCmd
  refine Keeps.ite ?_ ?_
  · refine State.starting_keeps rfl ?_ ?_
    · exact .refl _ _
    · intro u1 hu1
      refine State.onNs_keeps rfl ?_ ?_
      · exact hu1
      · intro _ u2 hu2
        refine Keeps.ite ?_ ?_
        · exact (State.finish_keeps ..).step rfl ((State.see_keeps ..).step rfl hu2)
        · refine Keeps.ite ?_ ?_
          · exact (State.finish_keeps ..).step rfl hu2
          · refine Keeps.ite ?_ ?_
            · exact (State.finish_keeps ..).step rfl hu2
            · refine State.pairGate_keeps rfl ?_ ?_
              · exact hu2
              · intro u3 hu3
                exact (State.deallocate_keeps ..).step rfl hu3
  · exact (State.writeCmd_keeps ..).step rfl (.refl _ _)

theorem execZoneAppend_keeps (ref : CmdRef) (nsid : Nat) (slba : Nat) (nlb : Nat) (s : State) : KeepsIn atNext 148344209 s (execZoneAppend ref nsid slba nlb s) := by
  unfold execZoneAppend
  refine KeepsIn.effect rfl ?_ ?_
  · exact .refl _ _
  · intro u1 hu1
    exact (State.writeCmd_keeps ..).step rfl hu1

theorem execWriteZeroes_keeps (ref : CmdRef) (nsid : Nat) (slba : Nat) (nlb : Nat) (deac : Bool) (s : State) : KeepsIn atNext 148344209 s (execWriteZeroes ref nsid slba nlb deac s) := by
  unfold execWriteZeroes
  refine KeepsIn.effect rfl ?_ ?_
  · exact .refl _ _
  · intro u1 hu1
    exact (State.zeroesCmd_keeps ..).step rfl hu1

theorem execWrite_keeps (ref : CmdRef) (nsid : Nat) (slba : Nat) (nlb : Nat) (fua : Bool) (dtype : Nat) (dspec : Nat) (s : State) : KeepsIn atNext 148344209 s (execWrite ref nsid slba nlb fua dtype dspec s) := by
  unfold execWrite
  refine KeepsIn.effect rfl ?_ ?_
  · exact .refl _ _
  · intro u1 hu1
    exact (State.writeCmd_keeps ..).step rfl hu1

end Sys2Proof.Machine
end

