-- ==== Sys2Proof/Laws/KeepsZones.lean ====
section
/-! SUPPORT. What each operation of Machine/Zones.lean keeps (Laws/Frame.lean). -/

namespace Sys2Proof.Machine

theorem State.nsAttrWrite_keeps (s : State) (secure : Bool) : Keeps 35217 s (State.nsAttrWrite s secure) := by
  unfold State.nsAttrWrite
  extract_lets l1
  refine Keeps.ite ?_ ?_
  · exact (State.event_keeps ..).step rfl (.refl _ _)
  · exact (State.modNs_keeps ..).step rfl (.refl _ _)

theorem State.hotSizeWrite_keeps (s : State) (request : Nat) : Keeps 2449 s (State.hotSizeWrite s request) := by
  unfold State.hotSizeWrite
  refine Keeps.ite ?_ ?_
  · exact .refl _ _
  · refine Keeps.ite ?_ ?_
    · exact (State.event_keeps ..).step rfl (.refl _ _)
    · extract_lets l1
      have kl1 : Keeps 2449 s l1 := (State.wr_keeps ..).step rfl (.refl _ _)
      refine Keeps.ite ?_ ?_
      · exact (State.set_keeps ..).step rfl kl1
      · exact (State.wr_keeps ..).step rfl kl1

theorem execZoneReport_keeps (ref : CmdRef) (nsid : Nat) (slba : Nat) (s : State) : KeepsIn atNext 1040 s (execZoneReport ref nsid slba s) := by
  unfold execZoneReport
  refine KeepsIn.effect rfl ?_ ?_
  · exact .refl _ _
  · intro u1 hu1
    refine State.starting_keeps rfl ?_ ?_
    · exact hu1
    · intro u2 hu2
      refine State.onNs_keeps rfl ?_ ?_
      · exact hu2
      · intro _ u3 hu3
        refine Keeps.ite ?_ ?_
        · exact (State.finish_keeps ..).step rfl hu3
        · refine Keeps.ite ?_ ?_
          · exact (State.finish_keeps ..).step rfl hu3
          · extract_lets l4 l5 l6
            exact (State.emit_keeps ..).step rfl ((State.finish_keeps ..).step rfl hu3)

theorem State.forgetSet_keeps (s : State) (k : Nat) : Keeps 819200 s (State.forgetSet s k) := by
  unfold State.forgetSet
  extract_lets l1 l2 l3 l4 l5
  have kl2 : Keeps 819200 s l2 := (State.modNv_keeps ..).step rfl (.refl _ _)
  have kl5 : Keeps 819200 s l5 := (State.updMd_keeps ..).step rfl kl2
  refine Keeps.each ?_ ?_
  · exact kl5
  · intro u6 _ hu6
    exact (State.releaseSets_keeps ..).step rfl hu6

theorem execHotCacheShrinkDone_keeps (s : State) : KeepsIn atNext 264593 s (execHotCacheShrinkDone s) := by
  unfold execHotCacheShrinkDone
  refine KeepsIn.effect rfl ?_ ?_
  · exact .refl _ _
  · intro u1 hu1
    refine Keeps.ite ?_ ?_
    · extract_lets l2 l3
      have kl2 : Keeps 264593 s l2 := (State.wr_keeps ..).step rfl hu1
      have kl3 : Keeps 264593 s l3 := (State.updZone_keeps ..).step rfl kl2
      exact (State.event_keeps ..).step rfl ((State.set_keeps ..).step rfl kl3)
    · exact hu1

theorem State.secureRefused_keeps (s : State) (r : CmdRef) : Keeps 1024 s (State.secureRefused s r) := by
  unfold State.secureRefused
  refine State.starting_keeps rfl ?_ ?_
  · exact .refl _ _
  · intro u1 hu1
    exact (State.finish_keeps ..).step rfl hu1

theorem State.secureDone_keeps (s : State) (k : Nat) : Keeps 263168 s (State.secureDone s k) := by
  unfold State.secureDone
  split
  · exact .refl _ _
  · refine Keeps.ite ?_ ?_
    · exact (State.finish_keeps ..).step rfl ((State.updZone_keeps ..).step rfl (.refl _ _))
    · exact .refl _ _

theorem State.clearZone_keeps (s : State) (nsid : Nat) (z : Nat) (n : Ns) : Keeps 950272 s (State.clearZone s nsid z n) := by
  unfold State.clearZone
  extract_lets l1 l2 l3 l4 l5 l6 l7 l8 l9
  have kl3 : Keeps 950272 s l3 := (State.forgetSet_keeps ..).step rfl (.refl _ _)
  have kl4 : Keeps 950272 s l4 := (State.hotDrop_keeps ..).step rfl kl3
  have kl5 : Keeps 950272 s l5 := (State.updWp_keeps ..).step rfl kl4
  have kl6 : Keeps 950272 s l6 := (State.modNv_keeps ..).step rfl kl5
  have kl7 : Keeps 950272 s l7 := (State.modNs_keeps ..).step rfl kl6
  have kl9 : Keeps 950272 s l9 := (State.modZone_keeps ..).step rfl kl7
  exact (State.noteChange_keeps ..).step rfl kl9

theorem execZoneNsAttrWrite_keeps (secure : Bool) (s : State) : KeepsIn atNext 35217 s (execZoneNsAttrWrite secure s) := by
  unfold execZoneNsAttrWrite
  refine KeepsIn.effect rfl ?_ ?_
  · exact .refl _ _
  · intro u1 hu1
    exact (State.nsAttrWrite_keeps ..).step rfl hu1

theorem execZoneHotSizeWrite_keeps (request : Nat) (s : State) : KeepsIn atNext 2449 s (execZoneHotSizeWrite request s) := by
  unfold execZoneHotSizeWrite
  refine KeepsIn.effect rfl ?_ ?_
  · exact .refl _ _
  · intro u1 hu1
    exact (State.hotSizeWrite_keeps ..).step rfl hu1

theorem State.zoneFails_keeps (s : State) (r : CmdRef) (nsid : Nat) (z : Nat) (st : Status) : Keeps 1025 s (State.zoneFails s r nsid z st) := by
  unfold State.zoneFails
  exact (State.finish_keeps ..).step rfl ((State.zoneErr_keeps ..).step rfl (.refl _ _))

theorem State.fillBlocks_keeps (s : State) (col : Nat) (sets : List Nat) : Keeps 32768 s (State.fillBlocks s col sets) := by
  unfold State.fillBlocks
  refine Keeps.each ?_ ?_
  · exact .refl _ _
  · intro u1 _ hu1
    refine Keeps.each ?_ ?_
    · exact hu1
    · intro u2 _ hu2
      exact (State.modBlock_keeps ..).step rfl hu2

theorem execZoneOpenEraseWaitEnd_keeps (nsid : Nat) (zone : Nat) (s : State) : KeepsIn atNext 298385 s (execZoneOpenEraseWaitEnd nsid zone s) := by
  unfold execZoneOpenEraseWaitEnd
  refine KeepsIn.effect rfl ?_ ?_
  · exact .refl _ _
  · intro u1 hu1
    split
    · extract_lets l2 l3
      have kl3 : ∀ v0, Keeps 298385 s v0 → Keeps 298385 s (l3 v0) := by
        unfold l3
        intro u4 hu4
        exact (State.updZone_keeps ..).step rfl hu4
      clear_value l3
      refine Keeps.ite ?_ ?_
      · exact kl3 _ hu1
      · split
        · rename_i p5 e6
          have kp5 : Keeps 298385 s p5 := by
            refine KeepsIn.get ?_ (congrArg atOpened e6)
            exact (State.openZone_keeps ..).step rfl hu1
          refine Keeps.ite ?_ ?_
          · exact (State.finish_keeps ..).step rfl (kl3 _ kp5)
          · exact kl3 _ kp5
        · rename_i p7 p8 e9
          have kp8 : Keeps 298385 s p8 := by
            refine KeepsIn.get ?_ (congrArg atOpened e9)
            exact (State.openZone_keeps ..).step rfl hu1
          exact (State.zoneFails_keeps ..).step rfl (kl3 _ kp8)
        · rename_i p10 e11
          have kp10 : Keeps 298385 s p10 := by
            refine KeepsIn.get ?_ (congrArg atOpened e11)
            exact (State.openZone_keeps ..).step rfl hu1
          exact kp10
    · exact hu1

theorem State.applyReset_keeps (s : State) (k : Nat) (w : ZoneWait) (z : Nat) : Keeps 135237009 s (State.applyReset s k w z) := by
  unfold State.applyReset
  split
  · exact .refl _ _
  · extract_lets l1 l2 l3 l4 l5 l6 l7
    have kl3 : Keeps 135237009 s l3 := (State.clearZone_keeps ..).step rfl (.refl _ _)
    have kl4 : Keeps 135237009 s l4 := by
      unfold l4
      refine Keeps.ite ?_ ?_
      · exact (State.updPair_keeps ..).step rfl kl3
      · exact kl3
    have kl6 : Keeps 135237009 s l6 := by
      unfold l6
      split
      · exact (State.releaseSets_keeps ..).step rfl kl4
      · exact kl4
    have kl7 : Keeps 135237009 s l7 := by
      unfold l7
      refine Keeps.ite ?_ ?_
      · exact (State.updZone_keeps ..).step rfl ((State.awaitErase_keeps ..).step rfl kl4)
      · exact (State.updZone_keeps ..).step rfl kl6
    refine Keeps.ite ?_ ?_
    · exact .refl _ _
    · refine Keeps.ite ?_ ?_
      · exact (State.secureHeld_keeps ..).step rfl (.refl _ _)
      · refine Keeps.ite ?_ ?_
        · exact (State.afterBatch_keeps ..).step rfl ((State.updZone_keeps ..).step rfl kl7)
        · exact kl7

theorem execSecureResetComplete_keeps (ref : CmdRef) (s : State) : KeepsIn atNext 263184 s (execSecureResetComplete ref s) := by
  unfold execSecureResetComplete
  refine KeepsIn.effect rfl ?_ ?_
  · exact .refl _ _
  · intro u1 hu1
    exact (State.secureDone_keeps ..).step rfl hu1

theorem State.zoneSend_keeps {n₀ : Nat} {s₀ : State} {s : State} {r : CmdRef} {nsid : Nat} {slba : Nat} {all : Bool} {a : Nat} {f : Ns → State → State} (hm : 135398417 ||| n₀ = n₀) (h₀ : Keeps n₀ s₀ s) (hf : ∀ v0 v1, Keeps n₀ s₀ v1 → Keeps n₀ s₀ (f v0 v1)) : Keeps n₀ s₀ (State.zoneSend s r nsid slba all a f) := by
  unfold State.zoneSend
  refine State.starting_keeps (Keeps.sub rfl hm) ?_ ?_
  · exact h₀
  · intro u1 hu1
    refine State.onNs_keeps (Keeps.sub rfl hm) ?_ ?_
    · exact hu1
    · intro _ u2 hu2
      refine Keeps.ite ?_ ?_
      · exact (State.finish_keeps ..).step (Keeps.sub rfl hm) hu2
      · refine Keeps.ite ?_ ?_
        · exact (State.finish_keeps ..).step (Keeps.sub rfl hm) hu2
        · refine Keeps.ite ?_ ?_
          · exact (State.zoneFails_keeps ..).step (Keeps.sub rfl hm) hu2
          · refine Keeps.ite ?_ ?_
            · exact (State.finish_keeps ..).step (Keeps.sub rfl hm) hu2
            · refine Keeps.ite ?_ ?_
              · exact hf _ _ hu2
              · refine State.pairGate_keeps (Keeps.sub rfl hm) ?_ ?_
                · exact hu2
                · intro u3 hu3
                  exact hf _ _ hu3

theorem State.openFor_keeps (s : State) (r : CmdRef) (nsid : Nat) (z : Nat) (n : Ns) : Keeps 298385 s (State.openFor s r nsid z n) := by
  unfold State.openFor
  split
  · exact (State.finish_keeps ..).step rfl ((State.modZone_keeps ..).step rfl (.refl _ _))
  · split
    · rename_i p1 e2
      have kp1 : Keeps 298385 s p1 := by
        refine KeepsIn.get ?_ (congrArg atOpened e2)
        exact (State.openZone_keeps ..).step rfl (.refl _ _)
      exact (State.finish_keeps ..).step rfl kp1
    · rename_i p3 p4 e5
      have kp4 : Keeps 298385 s p4 := by
        refine KeepsIn.get ?_ (congrArg atOpened e5)
        exact (State.openZone_keeps ..).step rfl (.refl _ _)
      exact (State.zoneFails_keeps ..).step rfl kp4
    · rename_i p6 e7
      have kp6 : Keeps 298385 s p6 := by
        refine KeepsIn.get ?_ (congrArg atOpened e7)
        exact (State.openZone_keeps ..).step rfl (.refl _ _)
      exact (State.updZone_keeps ..).step rfl ((State.hold_keeps ..).step rfl kp6)
  · split
    · rename_i p8 e9
      have kp8 : Keeps 298385 s p8 := by
        refine KeepsIn.get ?_ (congrArg atOpened e9)
        exact (State.openZone_keeps ..).step rfl (.refl _ _)
      exact (State.finish_keeps ..).step rfl kp8
    · rename_i p10 p11 e12
      have kp11 : Keeps 298385 s p11 := by
        refine KeepsIn.get ?_ (congrArg atOpened e12)
        exact (State.openZone_keeps ..).step rfl (.refl _ _)
      exact (State.zoneFails_keeps ..).step rfl kp11
    · rename_i p13 e14
      have kp13 : Keeps 298385 s p13 := by
        refine KeepsIn.get ?_ (congrArg atOpened e14)
        exact (State.openZone_keeps ..).step rfl (.refl _ _)
      exact (State.updZone_keeps ..).step rfl ((State.hold_keeps ..).step rfl kp13)
  · exact (State.zoneFails_keeps ..).step rfl (.refl _ _)

theorem State.sealFinished_keeps (s : State) (set : Nat) : Keeps 32768 s (State.sealFinished s set) := by
  unfold State.sealFinished
  refine Keeps.ite ?_ ?_
  · exact .refl _ _
  · extract_lets l1
    split
    · extract_lets l2
      refine Keeps.ite ?_ ?_
      · exact (State.fillBlocks_keeps ..).step rfl (.refl _ _)
      · exact .refl _ _
    · exact .refl _ _

theorem State.finishZone_keeps (s : State) (nsid : Nat) (z : Nat) (n : Ns) : Keeps 32768 s (State.finishZone s nsid z n) := by
  unfold State.finishZone
  extract_lets l1 l2
  have kl2 : Keeps 32768 s l2 := by
    unfold l2
    split
    · extract_lets l3 l4
      refine Keeps.ite ?_ ?_
      · exact (State.modZone_keeps ..).step rfl (.refl _ _)
      · exact .refl _ _
    · exact .refl _ _
  split
  · exact (State.modZone_keeps ..).step rfl (.refl _ _)
  · exact (State.sealFinished_keeps ..).step rfl ((State.advanceWp_keeps ..).step rfl ((State.modZone_keeps ..).step rfl kl2))

theorem State.openAll_keeps (r : CmdRef) (nsid : Nat) (n : Ns) (l : List Nat) :
    ∀ (s : State), Keeps 298385 s (State.openAll s r nsid n l) := by
  induction l with
  | nil => exact fun s => (State.finish_keeps ..).step rfl (.refl _ _)
  | cons z l ih =>
    intro s
    have ko : KeepsIn atOpened 298385 s (s.openZone nsid z n true) := (State.openZone_keeps ..).step rfl (.refl _ _)
    unfold State.openAll
    split
    · rename_i t e
      exact (ih t).step rfl (ko.get (congrArg atOpened e))
    · rename_i st t e
      exact (State.zoneFails_keeps ..).step rfl (ko.get (congrArg atOpened e))
    · rename_i t e
      exact (ih t).step rfl (ko.get (congrArg atOpened e))

theorem State.finishCmd_keeps (s : State) (r : CmdRef) (nsid : Nat) (slba : Nat) (all : Bool) : Keeps 135431185 s (State.finishCmd s r nsid slba all) := by
  unfold State.finishCmd
  refine State.zoneSend_keeps rfl ?_ ?_
  · exact .refl _ _
  · intro _ u1 hu1
    refine Keeps.ite ?_ ?_
    · refine (State.finish_keeps ..).step rfl ?_
      refine Keeps.each ?_ ?_
      · exact hu1
      · intro u2 _ hu2
        exact (State.finishZone_keeps ..).step rfl hu2
    · extract_lets l3 l4
      refine Keeps.ite ?_ ?_
      · exact (State.finish_keeps ..).step rfl ((State.finishZone_keeps ..).step rfl hu1)
      · exact (State.zoneFails_keeps ..).step rfl hu1

theorem State.tryReset_keeps (s : State) (k : Nat) : Keeps 135237009 s (State.tryReset s k) := by
  unfold State.tryReset
  split
  · exact .refl _ _
  · extract_lets l1
    have kl1 : Keeps 135237009 s l1 := by
      unfold l1
      split
      · refine Keeps.ite ?_ ?_
        · exact .refl _ _
        · exact (State.secureUnmap_keeps ..).step rfl (.refl _ _)
      · exact .refl _ _
    refine Keeps.each ?_ ?_
    · exact kl1
    · intro u2 _ hu2
      split
      · exact (State.applyReset_keeps ..).step rfl hu2
      · exact hu2

theorem State.closeCmd_keeps (s : State) (r : CmdRef) (nsid : Nat) (slba : Nat) (all : Bool) : Keeps 135693329 s (State.closeCmd s r nsid slba all) := by
  unfold State.closeCmd
  refine State.zoneSend_keeps rfl ?_ ?_
  · exact .refl _ _
  · intro _ u1 hu1
    refine Keeps.ite ?_ ?_
    · refine (State.finish_keeps ..).step rfl ?_
      refine Keeps.each ?_ ?_
      · exact hu1
      · intro u2 _ hu2
        exact (State.closeZone_keeps ..).step rfl hu2
    · extract_lets l3
      refine Keeps.ite ?_ ?_
      · exact (State.finish_keeps ..).step rfl ((State.closeZone_keeps ..).step rfl hu1)
      · exact (State.zoneFails_keeps ..).step rfl hu1

theorem execZoneResetApply_keeps (nsid : Nat) (zone : Nat) (s : State) : KeepsIn atNext 135237009 s (execZoneResetApply nsid zone s) := by
  unfold execZoneResetApply
  refine KeepsIn.effect rfl ?_ ?_
  · exact .refl _ _
  · intro u1 hu1
    extract_lets l2
    refine Keeps.each ?_ ?_
    · exact hu1
    · intro u3 _ hu3
      split
      · exact (State.applyReset_keeps ..).step rfl hu3
      · exact hu3

theorem State.openCmd_keeps (s : State) (r : CmdRef) (nsid : Nat) (slba : Nat) (all : Bool) : Keeps 135695761 s (State.openCmd s r nsid slba all) := by
  unfold State.openCmd
  refine State.zoneSend_keeps rfl ?_ ?_
  · exact .refl _ _
  · intro _ u1 hu1
    refine Keeps.ite ?_ ?_
    · exact (State.openAll_keeps ..).step rfl hu1
    · exact (State.openFor_keeps ..).step rfl hu1

theorem execZoneClose_keeps (ref : CmdRef) (nsid : Nat) (slba : Nat) (all : Bool) (sec : Bool) (s : State) : KeepsIn atNext 135693329 s (execZoneClose ref nsid slba all sec s) := by
  unfold execZoneClose
  refine KeepsIn.effect rfl ?_ ?_
  · exact .refl _ _
  · intro u1 hu1
    refine Keeps.ite ?_ ?_
    · exact (State.secureRefused_keeps ..).step rfl hu1
    · exact (State.closeCmd_keeps ..).step rfl hu1

theorem execZoneFinish_keeps (ref : CmdRef) (nsid : Nat) (slba : Nat) (all : Bool) (sec : Bool) (s : State) : KeepsIn atNext 135431185 s (execZoneFinish ref nsid slba all sec s) := by
  unfold execZoneFinish
  refine KeepsIn.effect rfl ?_ ?_
  · exact .refl _ _
  · intro u1 hu1
    refine Keeps.ite ?_ ?_
    · exact (State.secureRefused_keeps ..).step rfl hu1
    · exact (State.finishCmd_keeps ..).step rfl hu1

theorem execZoneOpen_keeps (ref : CmdRef) (nsid : Nat) (slba : Nat) (all : Bool) (sec : Bool) (s : State) : KeepsIn atNext 135695761 s (execZoneOpen ref nsid slba all sec s) := by
  unfold execZoneOpen
  refine KeepsIn.effect rfl ?_ ?_
  · exact .refl _ _
  · intro u1 hu1
    refine Keeps.ite ?_ ?_
    · exact (State.secureRefused_keeps ..).step rfl hu1
    · exact (State.openCmd_keeps ..).step rfl hu1

theorem State.resetCmd_keeps (s : State) (r : CmdRef) (nsid : Nat) (slba : Nat) (all : Bool) (secure : Bool) (n : Ns) : Keeps 135237009 s (State.resetCmd s r nsid slba all secure n) := by
  unfold State.resetCmd
  extract_lets l1 l2 l3 l4 l5
  refine Keeps.ite ?_ ?_
  · exact (State.zoneFails_keeps ..).step rfl (.refl _ _)
  · refine Keeps.ite ?_ ?_
    · exact (State.finish_keeps ..).step rfl (.refl _ _)
    · exact (State.secureDone_keeps ..).step rfl ((State.tryReset_keeps ..).step rfl ((State.updZone_keeps ..).step rfl ((State.accept_keeps ..).step rfl (.refl _ _))))

theorem State.secureResetCmd_keeps (s : State) (r : CmdRef) (nsid : Nat) (slba : Nat) (all : Bool) : Keeps 136285585 s (State.secureResetCmd s r nsid slba all) := by
  unfold State.secureResetCmd
  refine Keeps.ite ?_ ?_
  · refine State.zoneSend_keeps rfl ?_ ?_
    · exact .refl _ _
    · intro _ u1 hu1
      exact (State.resetCmd_keeps ..).step rfl hu1
  · exact (State.secureRefused_keeps ..).step rfl (.refl _ _)

theorem execSecurePendingLimitWaitEnd_keeps (cons : Nat) (s : State) : KeepsIn atNext 135237009 s (execSecurePendingLimitWaitEnd cons s) := by
  unfold execSecurePendingLimitWaitEnd
  refine KeepsIn.effect rfl ?_ ?_
  · exact .refl _ _
  · intro u1 hu1
    extract_lets l2
    refine Keeps.each ?_ ?_
    · exact hu1
    · intro u3 _ hu3
      exact (State.tryReset_keeps ..).step rfl hu3

theorem State.zoneResetCmd_keeps (s : State) (r : CmdRef) (nsid : Nat) (slba : Nat) (all : Bool) : Keeps 136285585 s (State.zoneResetCmd s r nsid slba all) := by
  unfold State.zoneResetCmd
  refine State.zoneSend_keeps rfl ?_ ?_
  · exact .refl _ _
  · intro _ u1 hu1
    exact (State.resetCmd_keeps ..).step rfl hu1

theorem execSecureReset_keeps (ref : CmdRef) (nsid : Nat) (slba : Nat) (all : Bool) (s : State) : KeepsIn atNext 136285585 s (execSecureReset ref nsid slba all s) := by
  unfold execSecureReset
  refine KeepsIn.effect rfl ?_ ?_
  · exact .refl _ _
  · intro u1 hu1
    exact (State.secureResetCmd_keeps ..).step rfl hu1

theorem execZoneReset_keeps (ref : CmdRef) (nsid : Nat) (slba : Nat) (all : Bool) (s : State) : KeepsIn atNext 136285585 s (execZoneReset ref nsid slba all s) := by
  unfold execZoneReset
  refine KeepsIn.effect rfl ?_ ?_
  · exact .refl _ _
  · intro u1 hu1
    exact (State.zoneResetCmd_keeps ..).step rfl hu1

end Sys2Proof.Machine
end

