-- ==== Sys2Proof/Laws/KeepsBlocks.lean ====
section
/-! SUPPORT. What each operation of Machine/Blocks.lean keeps (Laws/Frame.lean). -/

namespace Sys2Proof.Machine

theorem State.mediaErr_keeps (s : State) (d : Nat) (block : Nat) (page : Nat) (result : Nat) : Keeps 1 s (State.mediaErr s d block page result) := by
  unfold State.mediaErr
  exact (State.firstError_keeps ..).step rfl (.refl _ _)

theorem State.modHealth_keeps (s : State) (m : Nat) (f : Health → Health) : Keeps 32768 s (State.modHealth s m f) := by
  unfold State.modHealth
  exact (State.modNv_keeps ..).step rfl (.refl _ _)

theorem State.consUpdate_keeps (s : State) : Keeps 526737 s (State.consUpdate s) := by
  unfold State.consUpdate
  extract_lets l1 l2 l3 l4 l5
  have kl5 : Keeps 526737 s l5 := (State.wr_keeps ..).step rfl ((State.updMd_keeps ..).step rfl (.refl _ _))
  refine Keeps.each ?_ ?_
  · exact kl5
  · intro u6 _ hu6
    exact (State.event_keeps ..).step rfl hu6

theorem State.markDirty_keeps (s : State) (r : Nat) : Keeps 32768 s (State.markDirty s r) := by
  unfold State.markDirty
  exact (State.modNv_keeps ..).step rfl (.refl _ _)

theorem State.divideDie_keeps (s : State) (c : Chart) (badBlocks : List (Nat × Nat)) (old : Map Block) (fresh : Bool) (blank : Bool) (d : Nat) : Keeps 32768 s (State.divideDie s c badBlocks old fresh blank d) := by
  unfold State.divideDie
  extract_lets l1 l2 l3 l4 l5 l6 l7 l8 l9 l10 l11
  have kl11 : Keeps 32768 s l11 := (State.modNv_keeps ..).step rfl (.refl _ _)
  exact (State.modNv_keeps ..).step rfl kl11

theorem State.chanEvent_keeps (s : State) (d : Nat) (k : Nat) (block : Nat) (page : Nat) (result : Nat) (more : List Int) : Keeps 2449 s (State.chanEvent s d k block page result more) := by
  unfold State.chanEvent
  exact (State.event_keeps ..).step rfl (.refl _ _)

theorem State.clearDirty_keeps (s : State) : Keeps 32768 s (State.clearDirty s) := by
  unfold State.clearDirty
  extract_lets l1 l2 l3
  exact (State.modNv_keeps ..).step rfl (.refl _ _)

theorem State.setReadOnly_keeps (s : State) (b : Bool) : Keeps 98304 s (State.setReadOnly s b) := by
  unfold State.setReadOnly
  exact (State.persist_keeps ..).step rfl (.refl _ _)

theorem State.spareUpdate_keeps (s : State) (d : Nat) : Keeps 626065 s (State.spareUpdate s d) := by
  unfold State.spareUpdate
  refine Keeps.ite ?_ ?_
  · exact .refl _ _
  · extract_lets l1 l2 l3
    have kl2 : Keeps 626065 s l2 := by
      unfold l2
      refine Keeps.ite ?_ ?_
      · exact (State.event_keeps ..).step rfl ((State.updMd_keeps ..).step rfl (.refl _ _))
      · exact .refl _ _
    have kl3 : Keeps 626065 s l3 := (State.event_keeps ..).step rfl ((State.setReadOnly_keeps ..).step rfl kl2)
    refine Keeps.ite ?_ ?_
    · refine Keeps.each ?_ ?_
      · exact kl3
      · intro u4 _ hu4
        exact (State.aen_keeps ..).step rfl hu4
    · exact kl2

theorem State.setBlockSt_keeps (s : State) (d : Nat) (b : Nat) (st : BlockSt) : Keeps 35217 s (State.setBlockSt s d b st) := by
  unfold State.setBlockSt
  extract_lets l1
  have kl1 : Keeps 35217 s l1 := (State.modBlock_keeps ..).step rfl (.refl _ _)
  refine Keeps.ite ?_ ?_
  · exact (State.chanEvent_keeps ..).step rfl kl1
  · exact kl1

theorem State.replaceBlock_keeps (s : State) (d : Nat) (b : Nat) (data : Bool) : Keeps 626065 s (State.replaceBlock s d b data) := by
  unfold State.replaceBlock
  extract_lets l1 l2 l3 l4
  split
  · refine (State.spareUpdate_keeps ..).step rfl ?_
    unfold l2
    split
    · refine Keeps.ite ?_ ?_
      · exact (State.modBlock_keeps ..).step rfl ((State.modBlock_keeps ..).step rfl (.refl _ _))
      · exact .refl _ _
    · exact .refl _ _
  · extract_lets l5 l6 l8
    have kl6 : Keeps 626065 s l6 := by
      unfold l6
      refine Keeps.each ?_ ?_
      · exact .refl _ _
      · intro u7 _ hu7
        exact (State.modBlock_keeps ..).step rfl hu7
    have kl8 : Keeps 626065 s l8 := by
      unfold l8
      unfold l4
      split
      · extract_lets l9
        have kl9 : Keeps 626065 s l9 := (State.modBlock_keeps ..).step rfl (.refl _ _)
        exact (State.modNv_keeps ..).step rfl kl9
      · split
        · exact (State.modNv_keeps ..).step rfl kl6
        · exact .refl _ _
    exact (State.consUpdate_keeps ..).step rfl ((State.spareUpdate_keeps ..).step rfl kl8)

theorem State.repairWaiting_keeps (s : State) (d : Nat) : Keeps 626065 s (State.repairWaiting s d) := by
  unfold State.repairWaiting
  extract_lets l1
  have kl1 : Keeps 626065 s l1 := by
    unfold l1
    refine Keeps.each ?_ ?_
    · exact .refl _ _
    · intro u2 _ hu2
      exact (State.replaceBlock_keeps ..).step rfl hu2
  refine Keeps.each ?_ ?_
  · exact kl1
  · intro u3 _ hu3
    split
    · exact (State.replaceBlock_keeps ..).step rfl hu3
    · exact hu3

theorem State.retire_keeps (s : State) (d : Nat) (b : Nat) (data : Bool) : Keeps 626065 s (State.retire s d b data) := by
  unfold State.retire
  exact (State.replaceBlock_keeps ..).step rfl ((State.setBlockSt_keeps ..).step rfl (.refl _ _))

end Sys2Proof.Machine
end

