-- ==== Sys2Proof/Laws/KeepsDie.lean ====
section
/-! SUPPORT. What each operation of Machine/Die.lean keeps (Laws/Frame.lean). -/

namespace Sys2Proof.Machine

theorem execDeadlinePass_keeps (ch : Nat) (die : Nat) (op : Nat) (s : State) : KeepsIn atNext 524304 s (execDeadlinePass ch die op s) := by
  unfold execDeadlinePass
  refine KeepsIn.effect rfl ?_ ?_
  · exact .refl _ _
  · intro u1 hu1
    exact (State.modDie_keeps ..).step rfl hu1

theorem State.takeSlotOf_keeps (s : State) (d : Nat) (code : Nat) : KeepsIn atOpt 524288 s (State.takeSlotOf s d code) := by
  unfold State.takeSlotOf
  split
  · exact KeepsIn.leafOpt (.refl _ _)
  · extract_lets l1
    split
    · exact KeepsIn.leafOpt ((State.updMd_keeps ..).step rfl (.refl _ _))
    · refine KeepsIn.ite ?_ ?_
      · exact KeepsIn.leafOpt (.refl _ _)
      · exact KeepsIn.none rfl

theorem State.askSlot_keeps (s : State) (d : Nat) (code : Nat) : Keeps 524288 s (State.askSlot s d code) := by
  unfold State.askSlot
  split
  · exact .refl _ _
  · extract_lets l1 l2
    refine Keeps.ite ?_ ?_
    · exact .refl _ _
    · exact (State.updMd_keeps ..).step rfl (.refl _ _)

theorem State.forcedCount_keeps (s : State) (d : Nat) : Keeps 2449 s (State.forcedCount s d) := by
  unfold State.forcedCount
  split
  · refine Keeps.ite ?_ ?_
    · exact (State.eventPerMeridian_keeps ..).step rfl ((State.bump_keeps ..).step rfl (.refl _ _))
    · exact .refl _ _
  · exact .refl _ _

theorem State.takeLane_keeps (s : State) (k : Nat) (j : Job) : Keeps 524288 s (State.takeLane s k j) := by
  unfold State.takeLane
  extract_lets l1
  refine Keeps.ite ?_ ?_
  · exact .refl _ _
  · split
    · exact (State.updMd_keeps ..).step rfl (.refl _ _)
    · exact .refl _ _

theorem execHoldMsReached_keeps (ch : Nat) (die : Nat) (s : State) : KeepsIn atNext 524304 s (execHoldMsReached ch die s) := by
  unfold execHoldMsReached
  refine KeepsIn.effect rfl ?_ ?_
  · exact .refl _ _
  · intro u1 hu1
    exact (State.modDie_keeps ..).step rfl hu1

theorem State.addTok_keeps (s : State) (d : Nat) (x : Nat) (v : Int) : Keeps 524288 s (State.addTok s d x v) := by
  unfold State.addTok
  exact (State.modDie_keeps ..).step rfl (.refl _ _)

theorem State.patchesBack_keeps (s : State) (d : Nat) (o : DieOp) : Keeps 524288 s (State.patchesBack s d o) := by
  unfold State.patchesBack
  split
  · exact (State.updMd_keeps ..).step rfl (.refl _ _)
  · exact .refl _ _

theorem State.complianceUpdate_keeps (s : State) : Keeps 526737 s (State.complianceUpdate s) := by
  unfold State.complianceUpdate
  extract_lets l1 l2
  have kl2 : Keeps 526737 s l2 := (State.updMd_keeps ..).step rfl (.refl _ _)
  refine Keeps.each ?_ ?_
  · exact kl2
  · intro u3 _ hu3
    exact (State.event_keeps ..).step rfl hu3

theorem State.modLedger_keeps (s : State) (owner : Nat) (cons : Nat) (f : Ledger → Ledger) : Keeps 524288 s (State.modLedger s owner cons f) := by
  unfold State.modLedger
  exact (State.updMd_keeps ..).step rfl (.refl _ _)

theorem State.charge_keeps (s : State) (d : Nat) (o : DieOp) (v : Int) : Keeps 524288 s (State.charge s d o v) := by
  unfold State.charge
  refine Keeps.ite ?_ ?_
  · exact .refl _ _
  · extract_lets l1 l2
    have kl2 : Keeps 524288 s l2 := (State.addTok_keeps ..).step rfl (.refl _ _)
    split
    · refine Keeps.ite ?_ ?_
      · exact (State.modLedger_keeps ..).step rfl kl2
      · exact kl2
    · exact kl2

theorem State.releaseSlot_keeps (s : State) (d : Nat) (code : Nat) : Keeps 524288 s (State.releaseSlot s d code) := by
  unfold State.releaseSlot
  split
  · exact .refl _ _
  · extract_lets l1 l2 l3
    refine Keeps.ite ?_ ?_
    · unfold l3
      split
      · exact (State.updMd_keeps ..).step rfl (.refl _ _)
      · exact (State.updMd_keeps ..).step rfl (.refl _ _)
    · exact (State.updMd_keeps ..).step rfl (.refl _ _)

theorem State.enter_keeps (s : State) (d : Nat) (o : DieOp) : KeepsIn atOpt 524288 s (State.enter s d o) := by
  unfold State.enter
  extract_lets l1 l2 l3 l4
  have kl4 : ∀ v0, KeepsIn atOpt 524288 s (l4 v0) := by
    unfold l4
    intro _
    exact KeepsIn.leafOpt ((State.updMd_keeps ..).step rfl ((State.modDie_keeps ..).step rfl (.refl _ _)))
  clear_value l4
  refine KeepsIn.ite ?_ ?_
  · exact KeepsIn.leafOpt ((State.updMd_keeps ..).step rfl ((State.modDie_keeps ..).step rfl (.refl _ _)))
  · refine KeepsIn.ite ?_ ?_
    · exact kl4 _
    · refine KeepsIn.ite ?_ ?_
      · exact kl4 _
      · exact KeepsIn.none rfl

theorem State.learn_keeps (s : State) (d : Nat) (k : OpKind) (us : Nat) : Keeps 524288 s (State.learn s d k us) := by
  unfold State.learn
  exact (State.modDie_keeps ..).step rfl (.refl _ _)

theorem execEraseSuspendDone_keeps (ch : Nat) (die : Nat) (us : Nat) (s : State) : KeepsIn atNext 526737 s (execEraseSuspendDone ch die us s) := by
  unfold execEraseSuspendDone
  refine KeepsIn.effect rfl ?_ ?_
  · exact .refl _ _
  · intro u1 hu1
    extract_lets l2
    split
    · extract_lets l3 l4
      have kl3 : Keeps 526737 s l3 := (State.charge_keeps ..).step rfl hu1
      have kl4 : Keeps 526737 s l4 := (State.modDie_keeps ..).step rfl kl3
      exact (State.complianceUpdate_keeps ..).step rfl ((State.releaseSlot_keeps ..).step rfl ((State.releaseSlot_keeps ..).step rfl kl4))
    · exact hu1

theorem State.startResume_keeps (s : State) (d : Nat) (e : Erase) : Keeps 524288 s (State.startResume s d e) := by
  unfold State.startResume
  extract_lets l1
  have kl1 : Keeps 524288 s l1 := (State.addTok_keeps ..).step rfl (.refl _ _)
  exact (State.modDie_keeps ..).step rfl kl1

theorem State.startSuspend_keeps (s : State) (d : Nat) (e : DieOp) (by_ : DieOp) : Keeps 524289 s (State.startSuspend s d e by_) := by
  unfold State.startSuspend
  extract_lets l1 l2 l3
  have kl2 : Keeps 524289 s l2 := (State.charge_keeps ..).step rfl (.refl _ _)
  exact (State.bump_keeps ..).step rfl ((State.modDie_keeps ..).step rfl kl2)

theorem State.giveLanes_keeps (s : State) : Keeps 524288 s (State.giveLanes s) := by
  unfold State.giveLanes
  refine Keeps.each ?_ ?_
  · exact .refl _ _
  · intro u1 _ hu1
    exact (State.takeLane_keeps ..).step rfl hu1

theorem execEraseResumeDone_keeps (ch : Nat) (die : Nat) (us : Nat) (s : State) : KeepsIn atNext 524305 s (execEraseResumeDone ch die us s) := by
  unfold execEraseResumeDone
  refine KeepsIn.effect rfl ?_ ?_
  · exact .refl _ _
  · intro u1 hu1
    extract_lets l2 l3
    have kl3 : Keeps 524305 s l3 := (State.addTok_keeps ..).step rfl hu1
    split
    · extract_lets l4
      have kl4 : Keeps 524305 s l4 := (State.modDie_keeps ..).step rfl kl3
      refine Keeps.ite ?_ ?_
      · exact kl4
      · exact (State.startSuspend_keeps ..).step rfl kl4
    · exact hu1

theorem State.startOp_keeps (s : State) (d : Nat) (o : DieOp) : Keeps 559505 s (State.startOp s d o) := by
  unfold State.startOp
  extract_lets l1 l2 l3 l4 l5 l6 l8 l9 l10 l11 l13
  have kl1 : Keeps 559505 s l1 := (State.modDie_keeps ..).step rfl (.refl _ _)
  have kl5 : Keeps 559505 s l5 := (State.mediaErr_keeps ..).step rfl ((State.bump_keeps ..).step rfl kl1)
  have kl6 : Keeps 559505 s l6 := by
    unfold l6
    unfold l3
    split
    · refine (State.event_keeps ..).step rfl ?_
      refine Keeps.each ?_ ?_
      · exact kl1
      · intro u7 _ hu7
        exact (State.modBlock_keeps ..).step rfl hu7
    · exact kl1
  have kl10 : Keeps 559505 s l10 := (State.charge_keeps ..).step rfl kl6
  have kl11 : Keeps 559505 s l11 := by
    unfold l11
    refine Keeps.ite ?_ ?_
    · refine Keeps.each ?_ ?_
      · exact kl10
      · intro u12 _ hu12
        exact (State.modBlock_keeps ..).step rfl hu12
    · exact kl10
  refine Keeps.ite ?_ ?_
  · exact (State.patchesBack_keeps ..).step rfl ((State.releaseSlot_keeps ..).step rfl ((State.chanEvent_keeps ..).step rfl kl5))
  · exact (State.modDie_keeps ..).step rfl kl11

theorem State.trySuspend_keeps (s : State) (d : Nat) (o : DieOp) (D : Nat) : KeepsIn atSnd 524289 s (State.trySuspend s d o D) := by
  unfold State.trySuspend
  split
  · refine KeepsIn.ite ?_ ?_
    · exact KeepsIn.leafSnd (.refl _ _)
    · refine KeepsIn.ite ?_ ?_
      · exact KeepsIn.leafSnd ((State.modDie_keeps ..).step rfl (.refl _ _))
      · refine KeepsIn.ite ?_ ?_
        · exact KeepsIn.leafSnd ((State.startSuspend_keeps ..).step rfl (.refl _ _))
        · exact KeepsIn.leafSnd (.refl _ _)
  · exact KeepsIn.leafSnd (.refl _ _)

theorem State.predictJob_keeps (s : State) (d : Nat) (o : DieOp) : Keeps 524289 s (State.predictJob s d o) := by
  unfold State.predictJob
  split
  · refine Keeps.ite ?_ ?_
    · refine KeepsIn.ofSnd ?_
      exact (State.trySuspend_keeps ..).step rfl (.refl _ _)
    · exact .refl _ _
  · exact .refl _ _

theorem State.takePick_keeps (d : Nat) (l : List Pick) : ∀ (s : State), Keeps 559505 s (State.takePick s d l) := by
  induction l with
  | nil => exact fun s => .refl _ _
  | cons x l ih =>
    intro s
    cases x with
    | resume e =>
      unfold State.takePick
      split
      · rename_i t h
        exact (State.startResume_keeps ..).step rfl
          (KeepsIn.get ((State.takeSlotOf_keeps ..).step rfl (.refl _ _)) (congrArg atOpt h))
      · exact (ih _).step rfl ((State.askSlot_keeps ..).step rfl (.refl _ _))
    | op o =>
      unfold State.takePick
      refine Keeps.ite (ih _) ?_
      refine Keeps.ite ((State.startOp_keeps ..).step rfl (.refl _ _)) ?_
      split
      · rename_i t h
        exact (State.startOp_keeps ..).step rfl
          (KeepsIn.get ((State.takeSlotOf_keeps ..).step rfl (.refl _ _)) (congrArg atOpt h))
      · exact (ih _).step rfl ((State.askSlot_keeps ..).step rfl (.refl _ _))

theorem State.sendOp_keeps (s : State) (d : Nat) (o : DieOp) : Keeps 524289 s (State.sendOp s d o) := by
  unfold State.sendOp
  split
  · rename_i p1 e2
    have kp1 : Keeps 524289 s p1 := by
      refine KeepsIn.get ?_ (congrArg atOpt e2)
      exact (State.enter_keeps ..).step rfl (.refl _ _)
    exact (State.predictJob_keeps ..).step rfl kp1
  · exact (State.updMd_keeps ..).step rfl ((State.modDie_keeps ..).step rfl (.refl _ _))

theorem State.sendJob_keeps (s : State) (k : Nat) (j : Job) : Keeps 524289 s (State.sendJob s k j) := by
  unfold State.sendJob
  refine Keeps.each ?_ ?_
  · exact .refl _ _
  · intro u1 _ hu1
    extract_lets l2
    exact (State.sendOp_keeps ..).step rfl hu1

theorem State.refill_keeps (s : State) (d : Nat) : Keeps 524289 s (State.refill s d) := by
  unfold State.refill
  extract_lets l1 l2
  have kl2 : Keeps 524289 s l2 := (State.modDie_keeps ..).step rfl (.refl _ _)
  refine Keeps.each ?_ ?_
  · exact kl2
  · intro u3 _ hu3
    exact (State.sendOp_keeps ..).step rfl hu3

theorem State.dropOps_keeps (s : State) (d : Nat) (p : DieOp → Bool) : Keeps 524289 s (State.dropOps s d p) := by
  unfold State.dropOps
  extract_lets l1 l2
  have kl2 : Keeps 524289 s l2 := (State.modDie_keeps ..).step rfl (.refl _ _)
  refine Keeps.ite ?_ ?_
  · exact .refl _ _
  · refine (State.refill_keeps ..).step rfl ?_
    refine Keeps.each ?_ ?_
    · exact kl2
    · intro u3 _ hu3
      exact (State.releaseSlot_keeps ..).step rfl hu3

theorem State.issue_keeps (s : State) (ch : Nat) (pos : Nat) : Keeps 559505 s (State.issue s ch pos) := by
  unfold State.issue
  extract_lets l1 l2 l3
  have kl3 : Keeps 559505 s l3 := (State.modDie_keeps ..).step rfl (.refl _ _)
  refine Keeps.ite ?_ ?_
  · exact .refl _ _
  · refine Keeps.ite ?_ ?_
    · exact kl3
    · refine Keeps.ite ?_ ?_
      · split
        · exact (State.startOp_keeps ..).step rfl ((State.modDie_keeps ..).step rfl kl3)
        · exact kl3
      · exact (State.refill_keeps ..).step rfl ((State.takePick_keeps ..).step rfl kl3)

theorem execOperationIssue_keeps (ch : Nat) (die : Nat) (s : State) : KeepsIn atNext 559505 s (execOperationIssue ch die s) := by
  unfold execOperationIssue
  refine KeepsIn.effect rfl ?_ ?_
  · exact .refl _ _
  · intro u1 hu1
    exact (State.issue_keeps ..).step rfl hu1

theorem State.startJob_keeps (s : State) (j : Job) : Keeps 528385 s (State.startJob s j) := by
  unfold State.startJob
  extract_lets l1 l2 l3
  have kl2 : Keeps 528385 s l2 := (State.updMd_keeps ..).step rfl (.refl _ _)
  have kl3 : Keeps 528385 s l3 := (State.wake_keeps ..).step rfl ((State.giveLanes_keeps ..).step rfl kl2)
  refine Keeps.ite ?_ ?_
  · exact kl3
  · exact (State.sendJob_keeps ..).step rfl kl3

theorem State.occult_keeps (s : State) (d : Nat) (nsid : Nat) (lba : Nat) (n : Nat) (set : Nat) (row : Nat) (pos : Nat) (o : DieOp) : Keeps 528385 s (State.occult s d nsid lba n set row pos o) := by
  unfold State.occult
  extract_lets l1 l2 l3 l4 l5 l6
  have kl5 : Keeps 528385 s l5 := (State.startJob_keeps ..).step rfl (.refl _ _)
  have kl6 : Keeps 528385 s l6 := (State.bump_keeps ..).step rfl kl5
  split
  · extract_lets l7
    have kl7 : Keeps 528385 s l7 := (State.updMd_keeps ..).step rfl kl6
    exact (State.modLedger_keeps ..).step rfl kl7
  · exact kl6

theorem State.tryOccult_keeps (s : State) (d : Nat) (nsid : Nat) (lba : Nat) (n : Nat) (o : DieOp) : Keeps 530833 s (State.tryOccult s d nsid lba n o) := by
  unfold State.tryOccult
  split
  · extract_lets l1
    refine Keeps.ite ?_ ?_
    · exact (State.occult_keeps ..).step rfl (.refl _ _)
    · refine Keeps.ite ?_ ?_
      · exact (State.eventPerMeridian_keeps ..).step rfl (.refl _ _)
      · exact .refl _ _
  · exact .refl _ _

theorem State.rescue_keeps (s : State) (d : Nat) (nsid : Nat) (lba : Nat) (n : Nat) (o : DieOp) : Keeps 530833 s (State.rescue s d nsid lba n o) := by
  unfold State.rescue
  split
  · refine Keeps.ite ?_ ?_
    · exact .refl _ _
    · extract_lets l1
      have kl1 : KeepsIn atSnd 530833 s l1 := (State.trySuspend_keeps ..).step rfl (.refl _ _)
      clear_value l1
      refine Keeps.ite ?_ ?_
      · refine KeepsIn.ofSnd ?_
        exact kl1
      · refine (State.tryOccult_keeps ..).step rfl (KeepsIn.ofSnd ?_)
        exact kl1
  · exact .refl _ _

end Sys2Proof.Machine
end

