-- ==== Sys2Proof/Laws/KeepsRead.lean ====
section
/-! SUPPORT. What each operation of Machine/Read.lean keeps (Laws/Frame.lean). -/

namespace Sys2Proof.Machine

theorem State.egressFails_keeps (s : State) (nsid : Nat) (field : Nat) (lba : Nat) : KeepsIn atSnd 2449 s (State.egressFails s nsid field lba) := by
  unfold State.egressFails
  extract_lets l1 l2 l3 l4
  have kl2 : Keeps 2449 s l2 := (State.bump_keeps ..).step rfl (.refl _ _)
  have kl3 : Keeps 2449 s l3 := (State.firstError_keeps ..).step rfl kl2
  exact KeepsIn.leafSnd ((State.event_keeps ..).step rfl kl3)

theorem State.errLog_keeps (s : State) (r : CmdRef) (st : Status) : Keeps 2048 s (State.errLog s r st) := by
  unfold State.errLog
  exact (State.modCtrl_keeps ..).step rfl (.refl _ _)

theorem State.setDeadline_keeps (s : State) (r : CmdRef) (nsid : Nat) (cons : Nat) (d : Deadline) : Keeps 525312 s (State.setDeadline s r nsid cons d) := by
  unfold State.setDeadline
  extract_lets l1 l2
  have kl2 : Keeps 525312 s l2 := (State.modCmd_keeps ..).step rfl (.refl _ _)
  split
  · refine Keeps.ite ?_ ?_
    · exact (State.modLedger_keeps ..).step rfl kl2
    · exact kl2
  · exact kl2

theorem State.endRead_keeps (s : State) (r : CmdRef) (st : Status) (data : List Nat) : Keeps 3146768 s (State.endRead s r st data) := by
  unfold State.endRead
  refine Keeps.ite ?_ ?_
  · exact (State.updServe_keeps ..).step rfl (.refl _ _)
  · refine Keeps.ite ?_ ?_
    · exact (State.finish_keeps ..).step rfl (.refl _ _)
    · refine Keeps.ite ?_ ?_
      · exact (State.queueReadData_keeps ..).step rfl ((State.finish_keeps ..).step rfl (.refl _ _))
      · exact (State.emit_keeps ..).step rfl ((State.finish_keeps ..).step rfl (.refl _ _))

theorem State.hotHit_keeps (s : State) (n : Ns) (nsid : Nat) (slba : Nat) (nlb : Nat) (hint : Bool) : Keeps 262145 s (State.hotHit s n nsid slba nlb hint) := by
  unfold State.hotHit
  extract_lets l1 l2 l3 l4 l5
  have kl4 : Keeps 262145 s l4 := (State.updZone_keeps ..).step rfl (.refl _ _)
  have kl5 : Keeps 262145 s l5 := (State.bump_keeps ..).step rfl kl4
  refine Keeps.ite ?_ ?_
  · refine Keeps.each ?_ ?_
    · exact kl5
    · intro u6 _ hu6
      exact (State.hotRefresh_keeps ..).step rfl hu6
  · exact kl5

theorem State.hotFill_keeps (s : State) (j : ReadJob) (lba : Nat) (vals : List Nat) : Keeps 262145 s (State.hotFill s j lba vals) := by
  unfold State.hotFill
  split
  · exact .refl _ _
  · refine Keeps.ite ?_ ?_
    · exact .refl _ _
    · extract_lets l1
      refine Keeps.each ?_ ?_
      · exact .refl _ _
      · intro u2 _ hu2
        exact (State.hotInsert_keeps ..).step rfl hu2

theorem State.missed_keeps (s : State) (owner : Nat) (cons : Nat) : Keeps 526737 s (State.missed s owner cons) := by
  unfold State.missed
  exact (State.eventPer_keeps ..).step rfl ((State.modLedger_keeps ..).step rfl (.refl _ _))

theorem State.readDone_keeps (s : State) (r : CmdRef) (nsid : Nat) (slba : Nat) (data : List Nat) : Keeps 3703824 s (State.readDone s r nsid slba data) := by
  unfold State.readDone
  extract_lets l1 l2 l3 l4 l5
  have kl2 : Keeps 3703824 s l2 := (State.modNv_keeps ..).step rfl (.refl _ _)
  have kl4 : Keeps 3703824 s l4 := by
    unfold l4
    refine Keeps.ite ?_ ?_
    · exact kl2
    · exact (State.emit_keeps ..).step rfl kl2
  have kl5 : Keeps 3703824 s l5 := (State.updMd_keeps ..).step rfl kl4
  exact (State.endRead_keeps ..).step rfl kl5

theorem State.readFails_keeps (s : State) (r : CmdRef) : Keeps 3705872 s (State.readFails s r) := by
  unfold State.readFails
  refine Keeps.ite ?_ ?_
  · exact .refl _ _
  · extract_lets l1 l2
    have kl1 : Keeps 3705872 s l1 := (State.updMd_keeps ..).step rfl (.refl _ _)
    have kl2 : Keeps 3705872 s l2 := (State.modNv_keeps ..).step rfl kl1
    exact (State.errLog_keeps ..).step rfl ((State.endRead_keeps ..).step rfl kl2)

theorem State.fillRead_keeps (s : State) (r : CmdRef) (lba : Nat) (vals : List Nat) : Keeps 3965969 s (State.fillRead s r lba vals) := by
  unfold State.fillRead
  split
  · exact .refl _ _
  · extract_lets l1 l2
    have kl2 : Keeps 3965969 s l2 := (State.hotFill_keeps ..).step rfl (.refl _ _)
    refine Keeps.ite ?_ ?_
    · exact (State.readDone_keeps ..).step rfl kl2
    · exact (State.updMd_keeps ..).step rfl kl2

theorem State.measure_keeps (s : State) (r : CmdRef) : Keeps 526737 s (State.measure s r) := by
  unfold State.measure
  split
  · exact .refl _ _
  · extract_lets l1
    split
    · exact .refl _ _
    · refine Keeps.ite ?_ ?_
      · exact (State.modLedger_keeps ..).step rfl (.refl _ _)
      · exact (State.missed_keeps ..).step rfl (.refl _ _)
    · exact (State.missed_keeps ..).step rfl (.refl _ _)

theorem State.readBlocks_keeps (s : State) (r : CmdRef) (n : Ns) (nsid : Nat) (slba : Nat) (nlb : Nat) (hot : Bool) : Keeps 3968017 s (State.readBlocks s r n nsid slba nlb hot) := by
  unfold State.readBlocks
  refine Keeps.ite ?_ ?_
  · exact (State.endRead_keeps ..).step rfl (.refl _ _)
  · refine Keeps.ite ?_ ?_
    · exact (State.endRead_keeps ..).step rfl (.refl _ _)
    · refine Keeps.ite ?_ ?_
      · exact (State.endRead_keeps ..).step rfl (.refl _ _)
      · extract_lets l1 l2 l3 l4 l5 l6
        have kl1 : Keeps 3968017 s l1 := (State.accept_keeps ..).step rfl (.refl _ _)
        have kl3 : Keeps 3968017 s l3 := (State.hotHit_keeps ..).step rfl kl1
        have kl5 : Keeps 3968017 s l5 := by
          unfold l5
          refine Keeps.ite ?_ ?_
          · exact kl3
          · exact (State.emit_keeps ..).step rfl kl3
        refine Keeps.ite ?_ ?_
        · exact (State.readDone_keeps ..).step rfl kl5
        · refine Keeps.ite ?_ ?_
          · exact (State.errLog_keeps ..).step rfl ((State.endRead_keeps ..).step rfl ((State.modNv_keeps ..).step rfl kl5))
          · exact (State.updMd_keeps ..).step rfl kl5

theorem State.readCmd_keeps (s : State) (r : CmdRef) (nsid : Nat) (slba : Nat) (nlb : Nat) (hot : Bool) : Keeps 3968017 s (State.readCmd s r nsid slba nlb hot) := by
  unfold State.readCmd
  refine State.starting_keeps rfl ?_ ?_
  · exact .refl _ _
  · intro u1 hu1
    refine State.onNs_keeps rfl ?_ ?_
    · exact hu1
    · intro _ u2 hu2
      extract_lets l3
      have kl3 : Keeps 3968017 s l3 := (State.setDeadline_keeps ..).step rfl hu2
      refine Keeps.ite ?_ ?_
      · exact (State.finish_keeps ..).step rfl kl3
      · exact (State.readBlocks_keeps ..).step rfl kl3

theorem execRead_keeps (ref : CmdRef) (nsid : Nat) (slba : Nat) (nlb : Nat) (hot : Bool) (s : State) : KeepsIn atNext 3968017 s (execRead ref nsid slba nlb hot s) := by
  unfold execRead
  refine KeepsIn.effect rfl ?_ ?_
  · exact .refl _ _
  · intro u1 hu1
    exact (State.readCmd_keeps ..).step rfl hu1

end Sys2Proof.Machine
end

