-- ==== Sys2Proof/Laws/KeepsReloc.lean ====
section
/-! SUPPORT. What each operation of Machine/Reloc.lean keeps (Laws/Frame.lean). -/

namespace Sys2Proof.Machine

theorem State.reslot_keeps (s : State) (i : Nat) (u : Ru) : Keeps 131072 s (State.reslot s i u) := by
  unfold State.reslot
  extract_lets l1 l2
  exact (State.updWp_keeps ..).step rfl (.refl _ _)

theorem State.dropJob_keeps (s : State) (k : Nat) : Keeps 524289 s (State.dropJob s k) := by
  unfold State.dropJob
  extract_lets l1 l2
  have kl2 : Keeps 524289 s l2 := (State.updMd_keeps ..).step rfl (.refl _ _)
  refine Keeps.each ?_ ?_
  · exact (State.giveLanes_keeps ..).step rfl kl2
  · intro u3 _ hu3
    exact (State.dropOps_keeps ..).step rfl hu3

theorem State.shiftBook_keeps (s : State) (d : Nat) (b : Nat) (by_ : Int) (source : Nat) : Keeps 524288 s (State.shiftBook s d b by_ source) := by
  unfold State.shiftBook
  extract_lets l1
  exact (State.updMd_keeps ..).step rfl (.refl _ _)

theorem State.loseWords_keeps (s : State) (set : Nat) (row : Nat) (pos : Nat) (mask : Nat) (cause : Nat) (others : List Nat) : Keeps 36241 s (State.loseWords s set row pos mask cause others) := by
  unfold State.loseWords
  extract_lets l1 l2 l3
  refine Keeps.ite ?_ ?_
  · exact (State.bump_keeps ..).step rfl (.refl _ _)
  · refine Keeps.each ?_ ?_
    · exact .refl _ _
    · intro u4 _ hu4
      exact (State.lostRange_keeps ..).step rfl hu4

theorem State.deferWords_keeps (s : State) (set : Nat) (row : Nat) (pos : Nat) (mask : Nat) : Keeps 36241 s (State.deferWords s set row pos mask) := by
  unfold State.deferWords
  refine Keeps.each ?_ ?_
  · exact .refl _ _
  · intro u1 _ hu1
    refine Keeps.ite ?_ ?_
    · exact (State.deferredError_keeps ..).step rfl hu1
    · exact hu1

theorem State.addRowx_keeps (s : State) (l : List Rowx) : Keeps 35217 s (State.addRowx s l) := by
  unfold State.addRowx
  extract_lets l1 l2 l3
  have kl3 : Keeps 35217 s l3 := (State.modNv_keeps ..).step rfl (.refl _ _)
  refine Keeps.ite ?_ ?_
  · exact (State.event_keeps ..).step rfl kl3
  · exact kl3

theorem State.markRefresh_keeps (s : State) (d : Nat) (b : Nat) : Keeps 524288 s (State.markRefresh s d b) := by
  unfold State.markRefresh
  exact (State.updMd_keeps ..).step rfl (.refl _ _)

theorem State.unitGot_keeps (s : State) (set : Nat) (u : Nat × Nat) : Keeps 524288 s (State.unitGot s set u) := by
  unfold State.unitGot
  exact (State.updMd_keeps ..).step rfl (.refl _ _)

theorem State.moveRebuild_keeps (s : State) (set : Nat) (u : Nat × Nat) : Keeps 528385 s (State.moveRebuild s set u) := by
  unfold State.moveRebuild
  extract_lets l1 l2 l3 l4
  refine Keeps.ite ?_ ?_
  · exact .refl _ _
  · exact (State.startJob_keeps ..).step rfl (.refl _ _)

theorem State.addLost_keeps (s : State) (set : Nat) (row : Nat) (poss : List Nat) (mask : Nat) : Keeps 35217 s (State.addLost s set row poss mask) := by
  unfold State.addLost
  exact (State.addRowx_keeps ..).step rfl (.refl _ _)

theorem State.releaseUnit_keeps (s : State) (i : Nat) (u : Ru) : Keeps 294912 s (State.releaseUnit s i u) := by
  unfold State.releaseUnit
  extract_lets l1
  have kl1 : Keeps 294912 s l1 := (State.modNv_keeps ..).step rfl (.refl _ _)
  split
  · refine Keeps.ite ?_ ?_
    · exact (State.updZone_keeps ..).step rfl kl1
    · exact kl1
  · exact kl1

theorem State.histogram_keeps (s : State) (d : Nat) (bin : Nat) : Keeps 32768 s (State.histogram s d bin) := by
  unfold State.histogram
  exact (State.modHealth_keeps ..).step rfl (.refl _ _)

theorem State.placeSet_keeps (s : State) (set : Nat) (col : Nat) (sets : List Nat) (busy : Bool) : Keeps 32768 s (State.placeSet s set col sets busy) := by
  unfold State.placeSet
  refine Keeps.ite ?_ ?_
  · exact (State.modZone_keeps ..).step rfl (.refl _ _)
  · exact (State.modNv_keeps ..).step rfl (.refl _ _)

theorem State.moveRead_keeps (s : State) (set : Nat) (d : Nat) (o : DieOp) : Keeps 524288 s (State.moveRead s set d o) := by
  unfold State.moveRead
  extract_lets l1
  have kl1 : Keeps 524288 s l1 := (State.updMd_keeps ..).step rfl (.refl _ _)
  split
  · extract_lets l2
    refine Keeps.ite ?_ ?_
    · exact (State.unitGot_keeps ..).step rfl ((State.updMd_keeps ..).step rfl kl1)
    · exact kl1
  · exact kl1

theorem State.switchUnit_keeps (s : State) (set : Nat) (r : Reloc) : Keeps 297361 s (State.switchUnit s set r) := by
  unfold State.switchUnit
  extract_lets l1 l2 l3 l4 l5 l6 l7
  have kl7 : Keeps 297361 s l7 := (State.modNv_keeps ..).step rfl (.refl _ _)
  exact (State.updZone_keeps ..).step rfl ((State.addRowx_keeps ..).step rfl kl7)

theorem State.switchZone_keeps (s : State) (set : Nat) (col : Nat) (r : Reloc) : Keeps 32768 s (State.switchZone s set col r) := by
  unfold State.switchZone
  extract_lets l1 l2
  exact (State.modNv_keeps ..).step rfl ((State.placeSet_keeps ..).step rfl (.refl _ _))

theorem State.switchReloc_keeps (s : State) (set : Nat) : Keeps 821649 s (State.switchReloc s set) := by
  unfold State.switchReloc
  split
  · refine Keeps.ite ?_ ?_
    · exact .refl _ _
    · extract_lets l1 l2 l3
      have kl1 : Keeps 821649 s l1 := by
        unfold l1
        refine Keeps.ite ?_ ?_
        · exact (State.switchZone_keeps ..).step rfl (.refl _ _)
        · exact (State.switchUnit_keeps ..).step rfl (.refl _ _)
      have kl3 : Keeps 821649 s l3 := (State.updMd_keeps ..).step rfl kl1
      refine Keeps.ite ?_ ?_
      · exact (State.event_keeps ..).step rfl kl3
      · exact kl3
  · exact .refl _ _

theorem State.relocCheck_keeps (s : State) (set : Nat) : Keeps 821649 s (State.relocCheck s set) := by
  unfold State.relocCheck
  split
  · refine Keeps.ite ?_ ?_
    · exact (State.switchReloc_keeps ..).step rfl (.refl _ _)
    · exact .refl _ _
  · exact .refl _ _

theorem State.relocPass_keeps (s : State) (set : Nat) (u : Nat × Nat) : Keeps 821649 s (State.relocPass s set u) := by
  unfold State.relocPass
  exact (State.relocCheck_keeps ..).step rfl ((State.updMd_keeps ..).step rfl (.refl _ _))

theorem State.beginReloc_keeps (s : State) (set : Nat) (why : Nat) (col : Nat) (sets : List Nat) : Keeps 1018257 s (State.beginReloc s set why col sets) := by
  unfold State.beginReloc
  split
  · exact .refl _ _
  · extract_lets l1 l2
    refine Keeps.ite ?_ ?_
    · exact (State.relocCheck_keeps ..).step rfl ((State.placeSet_keeps ..).step rfl ((State.updMd_keeps ..).step rfl (.refl _ _)))
    · split
      · exact .refl _ _
      · extract_lets l3 l4 l5 l6 l7 l8 l9 l10 l11
        have kl3 : Keeps 1018257 s l3 := by
          unfold l3
          refine Keeps.ite ?_ ?_
          · exact (State.releaseUnit_keeps ..).step rfl (.refl _ _)
          · exact .refl _ _
        have kl4 : Keeps 1018257 s l4 := (State.reslot_keeps ..).step rfl kl3
        have kl9 : Keeps 1018257 s l9 := (State.modNv_keeps ..).step rfl kl4
        have kl10 : Keeps 1018257 s l10 := (State.noteCopies_keeps ..).step rfl kl9
        exact (State.relocCheck_keeps ..).step rfl ((State.updMd_keeps ..).step rfl kl10)

theorem State.startReloc_keeps (s : State) (set : Nat) (why : Nat) : Keeps 1018257 s (State.startReloc s set why) := by
  unfold State.startReloc
  refine Keeps.ite ?_ ?_
  · exact .refl _ _
  · split
    · exact (State.beginReloc_keeps ..).step rfl (.refl _ _)
    · exact .refl _ _

theorem State.startRelocs_keeps (s : State) (set : Nat) (why : Nat) : Keeps 1018257 s (State.startRelocs s set why) := by
  unfold State.startRelocs
  refine Keeps.each ?_ ?_
  · exact .refl _ _
  · intro u1 _ hu1
    exact (State.startReloc_keeps ..).step rfl hu1

theorem State.restartReloc_keeps (s : State) (set : Nat) : Keeps 1018257 s (State.restartReloc s set) := by
  unfold State.restartReloc
  split
  · exact .refl _ _
  · refine Keeps.ite ?_ ?_
    · exact .refl _ _
    · extract_lets l1 l2
      have kl1 : Keeps 1018257 s l1 := (State.updMd_keeps ..).step rfl (.refl _ _)
      have kl2 : Keeps 1018257 s l2 := by
        unfold l2
        refine Keeps.ite ?_ ?_
        · exact kl1
        · exact (State.modNv_keeps ..).step rfl kl1
      exact (State.startReloc_keeps ..).step rfl ((State.releaseSets_keeps ..).step rfl kl2)

theorem State.relocOut_keeps (s : State) (col : Nat) : Keeps 1018257 s (State.relocOut s col) := by
  unfold State.relocOut
  extract_lets l1
  refine Keeps.each ?_ ?_
  · exact .refl _ _
  · intro u2 _ hu2
    refine Keeps.ite ?_ ?_
    · exact (State.restartReloc_keeps ..).step rfl hu2
    · exact (State.relocCheck_keeps ..).step rfl ((State.updMd_keeps ..).step rfl hu2)

end Sys2Proof.Machine
end

