-- ==== Sys2Proof/Laws/KeepsLadder.lean ====
section
/-! SUPPORT. What each operation of Machine/Ladder.lean keeps (Laws/Frame.lean). -/

namespace Sys2Proof.Machine

theorem State.outLost_keeps (s : State) (r : CmdRef) (nsid : Nat) (lba : Nat) (n : Nat) (set : Nat) (row : Nat) (pos : Nat) (other : List Nat) : Keeps 3706257 s (State.outLost s r nsid lba n set row pos other) := by
  unfold State.outLost
  extract_lets l1 l2 l3 l4 l5
  have kl5 : Keeps 3706257 s l5 := (State.addLost_keeps ..).step rfl (.refl _ _)
  refine (State.readFails_keeps ..).step rfl ?_
  refine Keeps.each ?_ ?_
  · exact kl5
  · intro u6 _ hu6
    exact (State.loseWords_keeps ..).step rfl hu6

theorem State.recoverRead_keeps (s : State) (e : Nat) (x : Dec) : Keeps 524289 s (State.recoverRead s e x) := by
  unfold State.recoverRead
  extract_lets l1
  exact (State.sendOp_keeps ..).step rfl (.refl _ _)

theorem State.hallmarkAt_keeps (s : State) (l : Nat × Nat × Nat) : Keeps 2449 s (State.hallmarkAt s l) := by
  unfold State.hallmarkAt
  extract_lets l1 l2
  have kl1 : Keeps 2449 s l1 := (State.bump_keeps ..).step rfl (.refl _ _)
  have kl2 : Keeps 2449 s l2 := (State.firstError_keeps ..).step rfl kl1
  exact (State.event_keeps ..).step rfl kl2

theorem State.rebuildReady_keeps (s : State) (j : Job) (good : Bool) : Keeps 560529 s (State.rebuildReady s j good) := by
  unfold State.rebuildReady
  extract_lets l1 l2
  have kl2 : Keeps 560529 s l2 := by
    unfold l2
    refine Keeps.each ?_ ?_
    · exact .refl _ _
    · intro u3 _ hu3
      extract_lets l4 l5 l6 l7 l8
      have kl8 : Keeps 560529 s l8 := (State.addLost_keeps ..).step rfl hu3
      refine Keeps.ite ?_ ?_
      · exact hu3
      · refine Keeps.each ?_ ?_
        · exact kl8
        · intro u9 _ hu9
          exact (State.loseWords_keeps ..).step rfl hu9
  exact (State.updMd_keeps ..).step rfl kl2

theorem State.ask_keeps (s : State) (a : Ask) : Keeps 134217744 s (State.ask s a) := by
  unfold State.ask
  extract_lets l1
  exact (State.emit_keeps ..).step rfl ((State.updPair_keeps ..).step rfl (.refl _ _))

theorem State.patchFalls_keeps (s : State) (w : Nat) : Keeps 131072 s (State.patchFalls s w) := by
  unfold State.patchFalls
  exact (State.updWp_keeps ..).step rfl (.refl _ _)

theorem State.moveOpen_keeps (s : State) : Keeps 1018257 s (State.moveOpen s) := by
  unfold State.moveOpen
  extract_lets l1 l2
  have kl2 : Keeps 1018257 s l2 := by
    unfold l2
    refine Keeps.each ?_ ?_
    · exact .refl _ _
    · intro u3 _ hu3
      exact (State.relocOut_keeps ..).step rfl hu3
  refine Keeps.each ?_ ?_
  · exact kl2
  · intro u4 _ hu4
    extract_lets l5
    refine Keeps.each ?_ ?_
    · exact hu4
    · intro u6 _ hu6
      exact (State.startReloc_keeps ..).step rfl hu6

theorem State.loseStripe_keeps (s : State) (d : Nat) (x : Dec) (other : List Nat) : Keeps 36241 s (State.loseStripe s d x other) := by
  unfold State.loseStripe
  split
  · exact .refl _ _
  · extract_lets l1 l2 l3 l4
    have kl4 : Keeps 36241 s l4 := (State.addLost_keeps ..).step rfl (.refl _ _)
    refine Keeps.each ?_ ?_
    · exact kl4
    · intro u5 _ hu5
      exact (State.loseWords_keeps ..).step rfl hu5

theorem State.partDone_keeps (s : State) (e : Nat) (part : Nat) : Keeps 524288 s (State.partDone s e part) := by
  unfold State.partDone
  exact (State.updMd_keeps ..).step rfl (.refl _ _)

theorem State.stripeJob_keeps (s : State) (e : Nat) (x : Dec) (set : Nat) (row : Nat) (pos : Nat) (mask : Nat) : Keeps 561153 s (State.stripeJob s e x set row pos mask) := by
  unfold State.stripeJob
  extract_lets l1 l2 l3
  have kl2 : Keeps 561153 s l2 := (State.modHealth_keeps ..).step rfl ((State.bump_keeps ..).step rfl (.refl _ _))
  exact (State.startJob_keeps ..).step rfl kl2

theorem State.modMember_keeps (s : State) (m : Nat) (f : Member → Member) : Keeps 32768 s (State.modMember s m f) := by
  unfold State.modMember
  exact (State.modNv_keeps ..).step rfl (.refl _ _)

theorem State.scrubDone_keeps (s : State) (d : Nat) (b : Nat) (r : ScrubRun) : Keeps 524289 s (State.scrubDone s d b r) := by
  unfold State.scrubDone
  extract_lets l1 l2 l3 l4 l5 l6
  have kl2 : Keeps 524289 s l2 := (State.updMd_keeps ..).step rfl (.refl _ _)
  have kl3 : Keeps 524289 s l3 := by
    unfold l3
    refine Keeps.ite ?_ ?_
    · exact (State.markRefresh_keeps ..).step rfl kl2
    · exact kl2
  have kl4 : Keeps 524289 s l4 := (State.wr_keeps ..).step rfl ((State.bump_keeps ..).step rfl kl3)
  have kl6 : Keeps 524289 s l6 := (State.updMd_keeps ..).step rfl kl4
  refine Keeps.ite ?_ ?_
  · refine Keeps.ite ?_ ?_
    · exact (State.set_keeps ..).step rfl ((State.set_keeps ..).step rfl kl6)
    · exact kl6
  · exact (State.wr_keeps ..).step rfl kl3

theorem State.decodeAll_keeps (s : State) (ch : Nat) (die : Nat) (step : Nat) (o : DieOp) : Keeps 524288 s (State.decodeAll s ch die step o) := by
  unfold State.decodeAll
  extract_lets l1
  refine Keeps.each ?_ ?_
  · exact .refl _ _
  · intro u2 _ hu2
    refine Keeps.ite ?_ ?_
    · exact (State.updMd_keeps ..).step rfl hu2
    · exact hu2

theorem State.assayFails_keeps (s : State) (d : Nat) (o : DieOp) (b : Nat) (set : Nat) : Keeps 1018257 s (State.assayFails s d o b set) := by
  unfold State.assayFails
  extract_lets l1 l2 l3 l4 l5
  have kl2 : Keeps 1018257 s l2 := (State.modHealth_keeps ..).step rfl ((State.mediaErr_keeps ..).step rfl (.refl _ _))
  have kl3 : Keeps 1018257 s l3 := (State.modBlock_keeps ..).step rfl kl2
  have kl4 : Keeps 1018257 s l4 := (State.updMd_keeps ..).step rfl kl3
  have kl5 : Keeps 1018257 s l5 := (State.markRefresh_keeps ..).step rfl ((State.dropOps_keeps ..).step rfl kl4)
  exact (State.restartReloc_keeps ..).step rfl kl5

theorem State.releaseStale_keeps (s : State) (p : Purpose) : Keeps 1024 s (State.releaseStale s p) := by
  unfold State.releaseStale
  split
  · refine Keeps.ite ?_ ?_
    · exact (State.updQ_keeps ..).step rfl (.refl _ _)
    · exact .refl _ _
  · exact .refl _ _

theorem State.assayPage_keeps (s : State) (d : Nat) (o : DieOp) (set : Nat) : Keeps 821649 s (State.assayPage s d o set) := by
  unfold State.assayPage
  extract_lets l1 l2 l4 l5
  have kl2 : Keeps 821649 s l2 := by
    unfold l2
    refine Keeps.ite ?_ ?_
    · exact .refl _ _
    · refine Keeps.each ?_ ?_
      · exact .refl _ _
      · intro u3 _ hu3
        refine Keeps.ite ?_ ?_
        · exact (State.modBlock_keeps ..).step rfl hu3
        · exact hu3
  split
  · exact kl2
  · extract_lets l6 l7 l8 l9
    have kl9 : Keeps 821649 s l9 := (State.updMd_keeps ..).step rfl kl2
    refine Keeps.ite ?_ ?_
    · split
      · refine Keeps.ite ?_ ?_
        · exact (State.relocPass_keeps ..).step rfl kl9
        · exact kl9
      · exact kl9
    · exact kl9

theorem State.endLadder_keeps (s : State) (e : Nat) (x : Dec) : Keeps 524289 s (State.endLadder s e x) := by
  unfold State.endLadder
  extract_lets l1 l2
  have kl1 : Keeps 524289 s l1 := (State.updMd_keeps ..).step rfl (.refl _ _)
  have kl2 : Keeps 524289 s l2 := by
    unfold l2
    refine Keeps.each ?_ ?_
    · exact kl1
    · intro u3 _ hu3
      exact (State.dropJob_keeps ..).step rfl hu3
  exact (State.dropOps_keeps ..).step rfl kl2

theorem State.assayWord_keeps (s : State) (d : Nat) (o : DieOp) (k : Nat) (set : Nat) (bits : Nat) : Keeps 1018257 s (State.assayWord s d o k set bits) := by
  unfold State.assayWord
  extract_lets l1
  refine Keeps.ite ?_ ?_
  · refine Keeps.ite ?_ ?_
    · exact .refl _ _
    · exact (State.assayPage_keeps ..).step rfl (.refl _ _)
  · exact (State.assayFails_keeps ..).step rfl (.refl _ _)

theorem State.opRead_keeps (s : State) (d : Nat) (o : DieOp) : Keeps 655360 s (State.opRead s d o) := by
  unfold State.opRead
  split
  · exact (State.partDone_keeps ..).step rfl (.refl _ _)
  · exact (State.moveRead_keeps ..).step rfl (.refl _ _)
  · exact (State.updMd_keeps ..).step rfl (.refl _ _)
  · exact (State.updWp_keeps ..).step rfl (.refl _ _)
  · exact .refl _ _

theorem State.outFails_keeps (s : State) (r : CmdRef) (nsid : Nat) (lba : Nat) (n : Nat) (set : Nat) (row : Nat) (pos : Nat) (other : List Nat) : Keeps 137923985 s (State.outFails s r nsid lba n set row pos other) := by
  unfold State.outFails
  refine Keeps.ite ?_ ?_
  · exact .refl _ _
  · refine Keeps.ite ?_ ?_
    · exact (State.readFails_keeps ..).step rfl (.refl _ _)
    · refine Keeps.ite ?_ ?_
      · exact (State.ask_keeps ..).step rfl (.refl _ _)
      · exact (State.outLost_keeps ..).step rfl (.refl _ _)

theorem State.scrubNext_keeps (s : State) (d : Nat) (b : Nat) : Keeps 524289 s (State.scrubNext s d b) := by
  unfold State.scrubNext
  split
  · exact .refl _ _
  · refine Keeps.ite ?_ ?_
    · exact (State.updMd_keeps ..).step rfl (.refl _ _)
    · split
      · exact (State.sendOp_keeps ..).step rfl (.refl _ _)
      · refine Keeps.ite ?_ ?_
        · exact (State.scrubDone_keeps ..).step rfl (.refl _ _)
        · extract_lets l1
          exact (State.sendOp_keeps ..).step rfl (.refl _ _)

theorem State.scrubPage_keeps (s : State) (d : Nat) (b : Nat) : Keeps 557057 s (State.scrubPage s d b) := by
  unfold State.scrubPage
  extract_lets l1 l2 l3
  have kl2 : Keeps 557057 s l2 := (State.modHealth_keeps ..).step rfl (.refl _ _)
  exact (State.scrubNext_keeps ..).step rfl ((State.updMd_keeps ..).step rfl kl2)

theorem State.scrubWord_keeps (s : State) (d : Nat) (o : DieOp) (step : Nat) (bits : Nat) : Keeps 557057 s (State.scrubWord s d o step bits) := by
  unfold State.scrubWord
  extract_lets l1 l2 l3 l4
  have kl4 : Keeps 557057 s l4 := (State.updMd_keeps ..).step rfl (.refl _ _)
  refine Keeps.ite ?_ ?_
  · exact kl4
  · exact (State.scrubPage_keeps ..).step rfl kl4

theorem State.readAround_keeps (s : State) (r : CmdRef) (nsid : Nat) (lba : Nat) (n : Nat) (set : Nat) (row : Nat) (pos : Nat) (cls : Nat) (owner : Nat) (dl : Deadline) (base : Nat) : Keeps 137928081 s (State.readAround s r nsid lba n set row pos cls owner dl base) := by
  unfold State.readAround
  extract_lets l1
  refine Keeps.ite ?_ ?_
  · exact (State.outFails_keeps ..).step rfl (.refl _ _)
  · exact (State.startJob_keeps ..).step rfl (.refl _ _)

theorem State.tuneWord_keeps (s : State) (d : Nat) (o : DieOp) (shift : Nat) (bits : Nat) : Keeps 524289 s (State.tuneWord s d o shift bits) := by
  unfold State.tuneWord
  extract_lets l1 l2 l3 l4
  have kl3 : Keeps 524289 s l3 := (State.updMd_keeps ..).step rfl (.refl _ _)
  have kl4 : Keeps 524289 s l4 := (State.updMd_keeps ..).step rfl kl3
  refine Keeps.ite ?_ ?_
  · exact kl3
  · split
    · refine (State.scrubNext_keeps ..).step rfl ?_
      refine Keeps.ite ?_ ?_
      · exact (State.shiftBook_keeps ..).step rfl kl4
      · exact kl4
    · exact kl4

theorem State.wordFails_keeps (s : State) (d : Nat) (x : Dec) : Keeps 3836945 s (State.wordFails s d x) := by
  unfold State.wordFails
  extract_lets l1 l2
  split
  · exact (State.readFails_keeps ..).step rfl (.refl _ _)
  · extract_lets l3
    have kl3 : Keeps 3836945 s l3 := (State.updMd_keeps ..).step rfl (.refl _ _)
    refine Keeps.ite ?_ ?_
    · exact kl3
    · exact (State.opRead_keeps ..).step rfl kl3
  · exact (State.patchFalls_keeps ..).step rfl (.refl _ _)
  · exact (State.scrubWord_keeps ..).step rfl (.refl _ _)
  · refine Keeps.ite ?_ ?_
    · exact .refl _ _
    · exact (State.opRead_keeps ..).step rfl (.refl _ _)

theorem State.wordLost_keeps (s : State) (x : Dec) (lose : Bool) (other : List Nat) : Keeps 3837329 s (State.wordLost s x lose other) := by
  unfold State.wordLost
  extract_lets l1 l2 l3 l4 l5 l6
  have kl3 : Keeps 3837329 s l3 := (State.mediaErr_keeps ..).step rfl ((State.bump_keeps ..).step rfl (.refl _ _))
  have kl4 : Keeps 3837329 s l4 := (State.histogram_keeps ..).step rfl ((State.modHealth_keeps ..).step rfl kl3)
  have kl5 : Keeps 3837329 s l5 := (State.chanEvent_keeps ..).step rfl kl4
  have kl6 : Keeps 3837329 s l6 := by
    unfold l6
    split
    · exact (State.addLost_keeps ..).step rfl ((State.deferWords_keeps ..).step rfl kl5)
    · refine Keeps.ite ?_ ?_
      · exact (State.loseStripe_keeps ..).step rfl kl5
      · exact kl5
  exact (State.wordFails_keeps ..).step rfl ((State.markRefresh_keeps ..).step rfl kl6)

theorem State.wordRead_keeps (s : State) (d : Nat) (x : Dec) (step : Nat) (bits : Nat) : Keeps 4165009 s (State.wordRead s d x step bits) := by
  unfold State.wordRead
  extract_lets l1
  split
  · split
    · extract_lets l2
      have kl2 : Keeps 4165009 s l2 := (State.fillRead_keeps ..).step rfl (.refl _ _)
      refine Keeps.ite ?_ ?_
      · exact kl2
      · refine Keeps.each ?_ ?_
        · exact kl2
        · intro u3 _ hu3
          exact (State.dropJob_keeps ..).step rfl hu3
    · exact .refl _ _
  · exact (State.assayWord_keeps ..).step rfl (.refl _ _)
  · exact (State.scrubWord_keeps ..).step rfl (.refl _ _)
  · exact (State.tuneWord_keeps ..).step rfl (.refl _ _)
  · refine Keeps.ite ?_ ?_
    · exact .refl _ _
    · exact (State.opRead_keeps ..).step rfl (.refl _ _)

theorem State.unrecovered_keeps (s : State) (e : Nat) (x : Dec) (lose : Bool) (other : List Nat) : Keeps 138055057 s (State.unrecovered s e x lose other) := by
  unfold State.unrecovered
  extract_lets l1 l2 l3 l4
  have kl2 : Keeps 138055057 s l2 := (State.endLadder_keeps ..).step rfl (.refl _ _)
  have kl4 : Keeps 138055057 s l4 := by
    unfold l4
    refine Keeps.ite ?_ ?_
    · exact (State.markRefresh_keeps ..).step rfl ((State.chanEvent_keeps ..).step rfl kl2)
    · exact kl2
  split
  · exact (State.wordFails_keeps ..).step rfl ((State.histogram_keeps ..).step rfl kl4)
  · split
    · split
      · refine Keeps.ite ?_ ?_
        · exact (State.ask_keeps ..).step rfl kl2
        · exact (State.wordLost_keeps ..).step rfl kl2
      · exact (State.wordLost_keeps ..).step rfl kl2
    · exact (State.wordLost_keeps ..).step rfl kl2

theorem State.ladderWins_keeps (s : State) (e : Nat) (x : Dec) (step : Nat) (bits : Nat) : Keeps 4165009 s (State.ladderWins s e x step bits) := by
  unfold State.ladderWins
  extract_lets l1 l2 l3 l4 l5 l6
  have kl3 : Keeps 4165009 s l3 := (State.endLadder_keeps ..).step rfl (.refl _ _)
  have kl4 : Keeps 4165009 s l4 := (State.histogram_keeps ..).step rfl kl3
  have kl5 : Keeps 4165009 s l5 := by
    unfold l5
    refine Keeps.ite ?_ ?_
    · exact (State.markRefresh_keeps ..).step rfl ((State.chanEvent_keeps ..).step rfl kl4)
    · exact kl4
  have kl6 : Keeps 4165009 s l6 := by
    unfold l6
    split
    · refine Keeps.ite ?_ ?_
      · exact (State.modBlock_keeps ..).step rfl kl5
      · exact kl5
    · exact kl5
  exact (State.wordRead_keeps ..).step rfl kl6

theorem State.stripeStep_keeps (s : State) (e : Nat) (x : Dec) : Keeps 138059153 s (State.stripeStep s e x) := by
  unfold State.stripeStep
  split
  · exact (State.unrecovered_keeps ..).step rfl (.refl _ _)
  · extract_lets l1 l2 l3
    have kl3 : Keeps 138059153 s l3 := (State.updMd_keeps ..).step rfl (.refl _ _)
    split
    · exact (State.unrecovered_keeps ..).step rfl ((State.modHealth_keeps ..).step rfl ((State.bump_keeps ..).step rfl kl3))
    · refine Keeps.ite ?_ ?_
      · refine Keeps.ite ?_ ?_
        · exact (State.unrecovered_keeps ..).step rfl kl3
        · exact kl3
      · refine Keeps.ite ?_ ?_
        · exact (State.stripeJob_keeps ..).step rfl kl3
        · exact (State.unrecovered_keeps ..).step rfl ((State.modHealth_keeps ..).step rfl ((State.bump_keeps ..).step rfl kl3))

theorem State.softStep_keeps (s : State) (e : Nat) (x : Dec) : Keeps 138059153 s (State.softStep s e x) := by
  unfold State.softStep
  extract_lets l1 l2 l3 l4
  have kl3 : Keeps 138059153 s l3 := (State.modHealth_keeps ..).step rfl ((State.bump_keeps ..).step rfl (.refl _ _))
  have kl4 : Keeps 138059153 s l4 := (State.wake_keeps ..).step rfl ((State.updMd_keeps ..).step rfl kl3)
  refine Keeps.ite ?_ ?_
  · exact (State.stripeStep_keeps ..).step rfl (.refl _ _)
  · exact (State.recoverRead_keeps ..).step rfl ((State.recoverRead_keeps ..).step rfl ((State.recoverRead_keeps ..).step rfl kl4))

theorem State.jobDone_keeps (s : State) (k : Nat) (ok : Bool) (hallmarkOk : Bool) : Keeps 138386833 s (State.jobDone s k ok hallmarkOk) := by
  unfold State.jobDone
  split
  · exact .refl _ _
  · refine Keeps.ite ?_ ?_
    · exact .refl _ _
    · extract_lets l1 l2 l3 l4 l9
      have kl2 : Keeps 138386833 s l2 := by
        unfold l2
        refine Keeps.ite ?_ ?_
        · exact (State.hallmarkAt_keeps ..).step rfl (.refl _ _)
        · exact .refl _ _
      have kl3 : Keeps 138386833 s l3 := (State.giveLanes_keeps ..).step rfl ((State.updMd_keeps ..).step rfl kl2)
      have kl4 : Keeps 138386833 s l4 := by
        unfold l4
        refine Keeps.each ?_ ?_
        · exact kl3
        · intro u5 _ hu5
          extract_lets l6 l7
          refine Keeps.ite ?_ ?_
          · exact hu5
          · refine (State.addLost_keeps ..).step rfl ?_
            refine Keeps.each ?_ ?_
            · exact hu5
            · intro u8 _ hu8
              exact (State.loseWords_keeps ..).step rfl hu8
      have kl9 : Keeps 138386833 s l9 := by
        unfold l9
        refine Keeps.each ?_ ?_
        · exact kl3
        · intro u10 _ hu10
          exact (State.addLost_keeps ..).step rfl ((State.deferWords_keeps ..).step rfl hu10)
      split
      · refine Keeps.ite ?_ ?_
        · extract_lets l11
          have kl11 : Keeps 138386833 s l11 := (State.dropOps_keeps ..).step rfl kl3
          split
          · exact (State.fillRead_keeps ..).step rfl kl11
          · exact kl11
        · exact kl3
      · split
        · exact kl3
        · refine Keeps.ite ?_ ?_
          · exact (State.ladderWins_keeps ..).step rfl kl3
          · refine Keeps.ite ?_ ?_
            · exact kl3
            · exact (State.unrecovered_keeps ..).step rfl kl3
      · refine Keeps.ite ?_ ?_
        · exact (State.fillRead_keeps ..).step rfl kl3
        · split
          · exact kl3
          · exact (State.outFails_keeps ..).step rfl kl3
      · exact (State.unitGot_keeps ..).step rfl kl4
      · exact (State.updMd_keeps ..).step rfl kl9
      · refine Keeps.ite ?_ ?_
        · exact (State.updWp_keeps ..).step rfl kl3
        · exact (State.patchFalls_keeps ..).step rfl kl3
      · exact (State.rebuildReady_keeps ..).step rfl kl3
      · refine Keeps.ite ?_ ?_
        · exact (State.emit_keeps ..).step rfl kl3
        · refine Keeps.ite ?_ ?_
          · exact (State.startJob_keeps ..).step rfl kl3
          · exact (State.emit_keeps ..).step rfl kl3

theorem execCrucibleJobDone_keeps (job : Nat) (ok : Bool) (hallmarkOk : Bool) (s : State) : KeepsIn atNext 138386833 s (execCrucibleJobDone job ok hallmarkOk s) := by
  unfold execCrucibleJobDone
  refine KeepsIn.effect rfl ?_ ?_
  · exact .refl _ _
  · intro u1 hu1
    exact (State.jobDone_keeps ..).step rfl hu1

theorem State.hallmarkFails_keeps (s : State) (e : Nat) (x : Dec) : Keeps 138059153 s (State.hallmarkFails s e x) := by
  unfold State.hallmarkFails
  exact (State.stripeStep_keeps ..).step rfl ((State.hallmarkAt_keeps ..).step rfl (.refl _ _))

theorem State.softDecode_keeps (s : State) (e : Nat) (ok : Bool) (hallmarkOk : Bool) (shift : Int) : Keeps 138386833 s (State.softDecode s e ok hallmarkOk shift) := by
  unfold State.softDecode
  split
  · exact .refl _ _
  · refine Keeps.ite ?_ ?_
    · exact .refl _ _
    · refine Keeps.ite ?_ ?_
      · exact (State.endLadder_keeps ..).step rfl (.refl _ _)
      · refine Keeps.ite ?_ ?_
        · refine Keeps.ite ?_ ?_
          · exact (State.ladderWins_keeps ..).step rfl ((State.shiftBook_keeps ..).step rfl (.refl _ _))
          · exact (State.hallmarkFails_keeps ..).step rfl (.refl _ _)
        · exact (State.stripeStep_keeps ..).step rfl (.refl _ _)

theorem execSoftDecodeDone_keeps (op : Nat) (ok : Bool) (hallmarkOk : Bool) (shift : Int) (s : State) : KeepsIn atNext 138386833 s (execSoftDecodeDone op ok hallmarkOk shift s) := by
  unfold execSoftDecodeDone
  refine KeepsIn.effect rfl ?_ ?_
  · exact .refl _ _
  · intro u1 hu1
    exact (State.softDecode_keeps ..).step rfl hu1

theorem State.withdraw_keeps (s : State) (d : Nat) (o : DieOp) : Keeps 138059153 s (State.withdraw s d o) := by
  unfold State.withdraw
  split
  · split
    · split
      · exact (State.readAround_keeps ..).step rfl (.refl _ _)
      · exact .refl _ _
    · exact .refl _ _
  · exact (State.updMd_keeps ..).step rfl (.refl _ _)
  · split
    · refine Keeps.ite ?_ ?_
      · exact (State.stripeStep_keeps ..).step rfl (.refl _ _)
      · exact .refl _ _
    · exact .refl _ _
  · exact (State.modRow_keeps ..).step rfl (.refl _ _)
  · exact (State.updMd_keeps ..).step rfl (.refl _ _)
  · refine Keeps.ite ?_ ?_
    · split
      · exact (State.moveRebuild_keeps ..).step rfl (.refl _ _)
      · exact .refl _ _
    · exact .refl _ _
  · exact .refl _ _

theorem State.retryStep_keeps (s : State) (e : Nat) (x : Dec) : Keeps 138059153 s (State.retryStep s e x) := by
  unfold State.retryStep
  extract_lets l1 l2 l3 l4 l5 l6 l7
  have kl6 : Keeps 138059153 s l6 := (State.updMd_keeps ..).step rfl (.refl _ _)
  have kl7 : Keeps 138059153 s l7 := by
    unfold l7
    refine Keeps.ite ?_ ?_
    · exact (State.modHealth_keeps ..).step rfl ((State.bump_keeps ..).step rfl kl6)
    · exact .refl _ _
  refine Keeps.ite ?_ ?_
  · exact (State.stripeStep_keeps ..).step rfl (.refl _ _)
  · refine Keeps.ite ?_ ?_
    · exact (State.softStep_keeps ..).step rfl (.refl _ _)
    · exact (State.recoverRead_keeps ..).step rfl ((State.updMd_keeps ..).step rfl kl7)

theorem State.emptyDie_keeps (s : State) (d : Nat) : Keeps 138386833 s (State.emptyDie s d) := by
  unfold State.emptyDie
  extract_lets l1 l2 l3 l4 l5 l6
  have kl3 : Keeps 138386833 s l3 := (State.forcedCount_keeps ..).step rfl (.refl _ _)
  have kl4 : Keeps 138386833 s l4 := (State.modDie_keeps ..).step rfl kl3
  have kl5 : Keeps 138386833 s l5 := (State.updMd_keeps ..).step rfl kl4
  have kl6 : Keeps 138386833 s l6 := by
    unfold l6
    refine Keeps.each ?_ ?_
    · exact kl5
    · intro u7 _ hu7
      exact (State.releaseSlot_keeps ..).step rfl ((State.withdraw_keeps ..).step rfl hu7)
  exact (State.relocOut_keeps ..).step rfl ((State.complianceUpdate_keeps ..).step rfl ((State.releaseSlot_keeps ..).step rfl kl6))

theorem State.hardFails_keeps (s : State) (e : Nat) (x : Dec) : Keeps 138386833 s (State.hardFails s e x) := by
  unfold State.hardFails
  extract_lets l1 l2 l3 l5 l6 l7
  have kl3 : ∀ v0, Keeps 138386833 s v0 → Keeps 138386833 s (l3 v0) := by
    unfold l3
    intro u4 hu4
    exact (State.updMd_keeps ..).step rfl hu4
  clear_value l3
  have kl5 : Keeps 138386833 s l5 := (State.mediaErr_keeps ..).step rfl (.refl _ _)
  have kl7 : Keeps 138386833 s l7 := by
    unfold l7
    refine Keeps.ite ?_ ?_
    · split
      · exact (State.stripeJob_keeps ..).step rfl kl5
      · exact kl5
    · exact kl5
  split
  · exact (State.assayFails_keeps ..).step rfl (kl3 _ (.refl _ _))
  · exact (State.tuneWord_keeps ..).step rfl (kl3 _ (.refl _ _))
  · split
    · exact (State.dropJob_keeps ..).step rfl (kl3 _ kl5)
    · refine Keeps.ite ?_ ?_
      · exact (State.unrecovered_keeps ..).step rfl kl5
      · exact (State.retryStep_keeps ..).step rfl kl7

theorem State.hardDecode_keeps (s : State) (e : Nat) (ok : Bool) (bits : Nat) (hallmarkOk : Bool) : Keeps 138386833 s (State.hardDecode s e ok bits hallmarkOk) := by
  unfold State.hardDecode
  split
  · exact .refl _ _
  · extract_lets l1 l2
    have kl2 : Keeps 138386833 s l2 := by
      unfold l2
      refine Keeps.ite ?_ ?_
      · exact (State.shiftBook_keeps ..).step rfl (.refl _ _)
      · exact .refl _ _
    refine Keeps.ite ?_ ?_
    · exact .refl _ _
    · refine Keeps.ite ?_ ?_
      · exact (State.endLadder_keeps ..).step rfl (.refl _ _)
      · refine Keeps.ite ?_ ?_
        · refine Keeps.ite ?_ ?_
          · exact (State.ladderWins_keeps ..).step rfl kl2
          · exact (State.hallmarkFails_keeps ..).step rfl (.refl _ _)
        · refine Keeps.ite ?_ ?_
          · exact (State.hardFails_keeps ..).step rfl (.refl _ _)
          · exact (State.retryStep_keeps ..).step rfl (.refl _ _)

theorem State.isolate_keeps (s : State) (m : Nat) (cause : Nat) : Keeps 138386833 s (State.isolate s m cause) := by
  unfold State.isolate
  extract_lets l1 l2 l3
  have kl2 : Keeps 138386833 s l2 := (State.event_keeps ..).step rfl ((State.modMember_keeps ..).step rfl (.refl _ _))
  have kl3 : Keeps 138386833 s l3 := by
    unfold l3
    refine Keeps.each ?_ ?_
    · exact kl2
    · intro u4 _ hu4
      exact (State.emptyDie_keeps ..).step rfl hu4
  refine Keeps.ite ?_ ?_
  · exact .refl _ _
  · exact (State.moveOpen_keeps ..).step rfl ((State.consUpdate_keeps ..).step rfl kl3)

theorem execHardDecodeDone_keeps (op : Nat) (ok : Bool) (bits : Nat) (hallmarkOk : Bool) (s : State) : KeepsIn atNext 138386833 s (execHardDecodeDone op ok bits hallmarkOk s) := by
  unfold execHardDecodeDone
  refine KeepsIn.effect rfl ?_ ?_
  · exact .refl _ _
  · intro u1 hu1
    exact (State.hardDecode_keeps ..).step rfl hu1

theorem State.busFault_keeps (s : State) (ch : Nat) : Keeps 138386833 s (State.busFault s ch) := by
  unfold State.busFault
  extract_lets l1
  have kl1 : Keeps 138386833 s l1 := (State.mediaErr_keeps ..).step rfl ((State.set_keeps ..).step rfl (.refl _ _))
  exact (State.isolate_keeps ..).step rfl ((State.event_keeps ..).step rfl kl1)

theorem State.dieFails_keeps (s : State) (d : Nat) : Keeps 138386833 s (State.dieFails s d) := by
  unfold State.dieFails
  refine Keeps.ite ?_ ?_
  · exact .refl _ _
  · extract_lets l1 l2 l3 l4 l5 l6
    have kl1 : Keeps 138386833 s l1 := (State.chanEvent_keeps ..).step rfl ((State.modDie_keeps ..).step rfl (.refl _ _))
    have kl2 : Keeps 138386833 s l2 := (State.emptyDie_keeps ..).step rfl kl1
    have kl4 : Keeps 138386833 s l4 := by
      unfold l4
      refine Keeps.ite ?_ ?_
      · exact kl2
      · exact (State.event_keeps ..).step rfl ((State.updMd_keeps ..).step rfl kl2)
    have kl5 : Keeps 138386833 s l5 := (State.consUpdate_keeps ..).step rfl kl4
    have kl6 : Keeps 138386833 s l6 := by
      unfold l6
      refine Keeps.each ?_ ?_
      · exact kl5
      · intro u7 _ hu7
        exact (State.startRelocs_keeps ..).step rfl hu7
    refine Keeps.ite ?_ ?_
    · exact (State.isolate_keeps ..).step rfl kl1
    · refine Keeps.ite ?_ ?_
      · exact (State.event_keeps ..).step rfl kl6
      · exact kl6

theorem State.pageRead_keeps (s : State) (ch : Nat) (die : Nat) (us : Nat) (linesOk : Bool) : Keeps 138386833 s (State.pageRead s ch die us linesOk) := by
  unfold State.pageRead
  extract_lets l1
  split
  · refine Keeps.ite ?_ ?_
    · exact .refl _ _
    · extract_lets l2 l3 l4 l6
      have kl2 : Keeps 138386833 s l2 := (State.learn_keeps ..).step rfl ((State.charge_keeps ..).step rfl (.refl _ _))
      have kl3 : Keeps 138386833 s l3 := (State.modDie_keeps ..).step rfl kl2
      have kl4 : Keeps 138386833 s l4 := by
        unfold l4
        refine Keeps.each ?_ ?_
        · exact kl3
        · intro u5 _ hu5
          exact (State.modBlock_keeps ..).step rfl hu5
      have kl6 : Keeps 138386833 s l6 := by
        unfold l6
        split
        · exact (State.updMd_keeps ..).step rfl kl4
        · refine Keeps.ite ?_ ?_
          · exact (State.releaseStale_keeps ..).step rfl kl4
          · exact (State.decodeAll_keeps ..).step rfl kl4
      refine Keeps.ite ?_ ?_
      · exact kl6
      · exact (State.busFault_keeps ..).step rfl kl6
  · exact .refl _ _

theorem execPageReadDone_keeps (ch : Nat) (die : Nat) (us : Nat) (linesOk : Bool) (s : State) : KeepsIn atNext 138386833 s (execPageReadDone ch die us linesOk s) := by
  unfold execPageReadDone
  refine KeepsIn.effect rfl ?_ ?_
  · exact .refl _ _
  · intro u1 hu1
    exact (State.pageRead_keeps ..).step rfl hu1

end Sys2Proof.Machine
end

