-- ==== Sys2Proof/Laws/KeepsEntry.lean ====
section
/-! SUPPORT. What each operation of Machine/Entry.lean keeps (Laws/Frame.lean). -/

namespace Sys2Proof.Machine

theorem State.badToMedia_keeps (s : State) (p : Purpose) (lba : Nat) : Keeps 36241 s (State.badToMedia s p lba) := by
  unfold State.badToMedia
  extract_lets l1 l2 l3
  have kl3 : Keeps 36241 s l3 := (State.bump_keeps ..).step rfl (.refl _ _)
  unfold l2
  split
  · exact .refl _ _
  · extract_lets l4 l5 l6 l7
    have kl5 : Keeps 36241 s l5 := (State.firstError_keeps ..).step rfl kl3
    have kl6 : Keeps 36241 s l6 := (State.event_keeps ..).step rfl kl5
    have kl7 : Keeps 36241 s l7 := by
      unfold l7
      split
      · exact (State.addLost_keeps ..).step rfl kl6
      · exact kl6
    refine Keeps.ite ?_ ?_
    · exact (State.emit_keeps ..).step rfl kl5
    · refine Keeps.ite ?_ ?_
      · exact (State.deferredError_keeps ..).step rfl kl7
      · exact kl7

theorem State.patchRoom_keeps (s : State) (d : Nat) : KeepsIn atOptSnd 32768 s (State.patchRoom s d) := by
  unfold State.patchRoom
  split
  · exact KeepsIn.none rfl
  · extract_lets l1 l2 l3
    split
    · exact KeepsIn.leafOptSnd (.refl _ _)
    · split
      · exact KeepsIn.none rfl
      · extract_lets l4 l5
        have kl5 : Keeps 32768 s l5 := (State.modNv_keeps ..).step rfl (.refl _ _)
        split
        · exact KeepsIn.none rfl
        · exact KeepsIn.leafOptSnd kl5

theorem State.patchAround_keeps (s : State) (k : Nat) (parity : Bool) : Keeps 659457 s (State.patchAround s k parity) := by
  unfold State.patchAround
  split
  · exact .refl _ _
  · split
    · extract_lets l1 l2
      refine Keeps.ite ?_ ?_
      · exact .refl _ _
      · refine Keeps.ite ?_ ?_
        · exact (State.startJob_keeps ..).step rfl (.refl _ _)
        · exact (State.patchFalls_keeps ..).step rfl (.refl _ _)
    · exact .refl _ _

theorem State.residue_keeps (s : State) (d : Nat) (b : Nat) : Keeps 264593 s (State.residue s d b) := by
  unfold State.residue
  refine Keeps.ite ?_ ?_
  · exact .refl _ _
  · extract_lets l1 l2
    have kl2 : Keeps 264593 s l2 := (State.bump_keeps ..).step rfl ((State.event_keeps ..).step rfl (.refl _ _))
    exact (State.updZone_keeps ..).step rfl kl2

theorem State.enterRead_keeps (s : State) (d : Nat) (r : DieReq) (ref : CmdRef) (lba : Nat) (n : Nat) : Keeps 137928081 s (State.enterRead s d r ref lba n) := by
  unfold State.enterRead
  split
  · exact .refl _ _
  · split
    · refine Keeps.ite ?_ ?_
      · exact .refl _ _
      · refine Keeps.ite ?_ ?_
        · extract_lets l1
          exact (State.readAround_keeps ..).step rfl (.refl _ _)
        · extract_lets l2 l3
          split
          · exact .refl _ _
          · rename_i p4 e5
            have kp4 : Keeps 137928081 s p4 := by
              refine KeepsIn.get ?_ (congrArg atOpt e5)
              exact (State.enter_keeps ..).step rfl (.refl _ _)
            exact (State.rescue_keeps ..).step rfl kp4
    · exact .refl _ _

theorem State.entryAround_keeps (s : State) (d : Nat) (r : DieReq) : Keeps 138059153 s (State.entryAround s d r) := by
  unfold State.entryAround
  split
  · exact (State.enterRead_keeps ..).step rfl (.refl _ _)
  · refine Keeps.ite ?_ ?_
    · split
      · exact (State.moveRebuild_keeps ..).step rfl (.refl _ _)
      · exact .refl _ _
    · exact .refl _ _
  · refine Keeps.ite ?_ ?_
    · exact (State.patchAround_keeps ..).step rfl (.refl _ _)
    · exact .refl _ _
  · exact .refl _ _

theorem State.moveLacks_keeps (s : State) (d : Nat) (r : DieReq) : Keeps 528385 s (State.moveLacks s d r) := by
  unfold State.moveLacks
  split
  · split
    · split
      · refine Keeps.each ?_ ?_
        · exact .refl _ _
        · intro u1 _ hu1
          exact (State.moveRebuild_keeps ..).step rfl hu1
      · exact .refl _ _
    · exact .refl _ _
  · exact .refl _ _

theorem State.setErased_keeps (s : State) (d : Nat) (k : Nat) : Keeps 327680 s (State.setErased s d k) := by
  unfold State.setErased
  extract_lets l1 l2
  have kl2 : Keeps 327680 s l2 := (State.updJr_keeps ..).step rfl (.refl _ _)
  refine Keeps.ite ?_ ?_
  · exact (State.updZone_keeps ..).step rfl kl2
  · exact .refl _ _

theorem State.programPatches_keeps (s : State) (d : Nat) : Keeps 557057 s (State.programPatches s d) := by
  unfold State.programPatches
  extract_lets l1
  refine Keeps.ite ?_ ?_
  · exact .refl _ _
  · split
    · rename_i p2 p3 e4
      have kp3 : Keeps 557057 s p3 := by
        refine KeepsIn.get ?_ (congrArg atOptSnd e4)
        exact (State.patchRoom_keeps ..).step rfl (.refl _ _)
      extract_lets l5
      have kl5 : Keeps 557057 s l5 := (State.updMd_keeps ..).step rfl kp3
      exact (State.sendOp_keeps ..).step rfl ((State.markDirty_keeps ..).step rfl kl5)
    · exact .refl _ _

theorem State.collectPatch_keeps (s : State) (d : Nat) (k : Nat) (parity : Bool) : Keeps 557057 s (State.collectPatch s d k parity) := by
  unfold State.collectPatch
  extract_lets l1 l2 l3 l4
  have kl4 : Keeps 557057 s l4 := (State.updMd_keeps ..).step rfl (.refl _ _)
  refine Keeps.ite ?_ ?_
  · exact .refl _ _
  · refine Keeps.ite ?_ ?_
    · exact (State.programPatches_keeps ..).step rfl kl4
    · exact kl4

theorem State.eraseEntry_keeps (s : State) (d : Nat) (blocks : List Nat) : Keeps 888209 s (State.eraseEntry s d blocks) := by
  unfold State.eraseEntry
  split
  · exact (State.chanEvent_keeps ..).step rfl ((State.mediaErr_keeps ..).step rfl (.refl _ _))
  · refine Keeps.each ?_ ?_
    · exact .refl _ _
    · intro u1 _ hu1
      exact (State.setErased_keeps ..).step rfl hu1
  · refine Keeps.ite ?_ ?_
    · exact .refl _ _
    · extract_lets l2 l3 l4 l6
      have kl4 : Keeps 888209 s l4 := by
        unfold l4
        refine Keeps.each ?_ ?_
        · exact .refl _ _
        · intro u5 _ hu5
          exact (State.retire_keeps ..).step rfl ((State.residue_keeps ..).step rfl hu5)
      refine Keeps.ite ?_ ?_
      · refine Keeps.each ?_ ?_
        · exact kl4
        · intro u7 _ hu7
          exact (State.setErased_keeps ..).step rfl hu7
      · refine KeepsIn.getD ?_ ?_
        · exact (State.enter_keeps ..).step rfl kl4
        · exact kl4

theorem State.queueEntry_keeps (s : State) (r : DieReq) : Keeps 138386833 s (State.queueEntry s r) := by
  unfold State.queueEntry
  extract_lets l1
  refine Keeps.ite ?_ ?_
  · exact (State.entryAround_keeps ..).step rfl (.refl _ _)
  · split
    · exact (State.enterRead_keeps ..).step rfl (.refl _ _)
    · split
      · extract_lets l2
        refine Keeps.ite ?_ ?_
        · split
          · rename_i p3 e4
            have kp3 : Keeps 138386833 s p3 := by
              refine KeepsIn.get ?_ (congrArg atOpt e4)
              exact (State.enter_keeps ..).step rfl (.refl _ _)
            exact (State.predictJob_keeps ..).step rfl kp3
          · exact .refl _ _
        · exact .refl _ _
      · exact .refl _ _
    · exact (State.eraseEntry_keeps ..).step rfl (.refl _ _)
    · refine Keeps.ite ?_ ?_
      · refine KeepsIn.getD ?_ ?_
        · exact (State.enter_keeps ..).step rfl (.refl _ _)
        · exact .refl _ _
      · refine Keeps.ite ?_ ?_
        · exact (State.moveLacks_keeps ..).step rfl (.refl _ _)
        · refine Keeps.ite ?_ ?_
          · exact .refl _ _
          · extract_lets l5
            have kl5 : Keeps 138386833 s l5 := by
              unfold l5
              split
              · exact (State.badToMedia_keeps ..).step rfl (.refl _ _)
              · exact .refl _ _
            split
            · exact (State.collectPatch_keeps ..).step rfl kl5
            · split
              · exact kl5
              · rename_i p6 e7
                have kp6 : Keeps 138386833 s p6 := by
                  refine KeepsIn.get ?_ (congrArg atOpt e7)
                  exact (State.enter_keeps ..).step rfl kl5
                refine Keeps.ite ?_ ?_
                · exact (State.markDirty_keeps ..).step rfl kp6
                · exact kp6

theorem State.flushPatches_keeps (s : State) : Keeps 557057 s (State.flushPatches s) := by
  unfold State.flushPatches
  refine Keeps.each ?_ ?_
  · exact .refl _ _
  · intro u1 _ hu1
    exact (State.programPatches_keeps ..).step rfl hu1

theorem execDieQueueEntry_keeps (r : DieReq) (s : State) : KeepsIn atNext 138386833 s (execDieQueueEntry r s) := by
  unfold execDieQueueEntry
  refine KeepsIn.effect rfl ?_ ?_
  · exact .refl _ _
  · intro u1 hu1
    exact (State.queueEntry_keeps ..).step rfl hu1

end Sys2Proof.Machine
end

