-- ==== Sys2Proof/Laws/KeepsMedia.lean ====
section
/-! SUPPORT. What each operation of Machine/Media.lean keeps (Laws/Frame.lean). -/

namespace Sys2Proof.Machine

theorem State.advancePages_keeps (s : State) (d : Nat) (o : DieOp) (but : List Nat) : Keeps 32768 s (State.advancePages s d o but) := by
  unfold State.advancePages
  extract_lets l1
  refine Keeps.each ?_ ?_
  · exact .refl _ _
  · intro u2 _ hu2
    exact (State.modBlock_keeps ..).step rfl hu2

theorem execBlockStateTableSnapshot_keeps (s : State) : KeepsIn atNext 65552 s (execBlockStateTableSnapshot s) := by
  unfold execBlockStateTableSnapshot
  refine KeepsIn.effect rfl ?_ ?_
  · exact .refl _ _
  · intro u1 hu1
    exact (State.updJr_keeps ..).step rfl hu1

theorem State.readTimesOut_keeps (s : State) (ch : Nat) (die : Nat) (o : DieOp) : Keeps 138386833 s (State.readTimesOut s ch die o) := by
  unfold State.readTimesOut
  extract_lets l1 l2
  have kl2 : Keeps 138386833 s l2 := (State.decodeAll_keeps ..).step rfl (.refl _ _)
  split
  · split
    · refine Keeps.ite ?_ ?_
      · exact (State.stripeStep_keeps ..).step rfl (.refl _ _)
      · exact .refl _ _
    · exact .refl _ _
  · exact (State.dropJob_keeps ..).step rfl (.refl _ _)
  · refine Keeps.ite ?_ ?_
    · exact (State.releaseStale_keeps ..).step rfl (.refl _ _)
    · refine Keeps.each ?_ ?_
      · exact kl2
      · intro u3 _ hu3
        split
        · refine Keeps.ite ?_ ?_
          · exact (State.hardFails_keeps ..).step rfl hu3
          · exact (State.stripeStep_keeps ..).step rfl hu3
        · exact hu3

theorem State.resetAnswer_keeps (s : State) (ch : Nat) (die : Nat) (answer : Option Bool) : Keeps 138386833 s (State.resetAnswer s ch die answer) := by
  unfold State.resetAnswer
  extract_lets l1
  split
  · exact (State.dieFails_keeps ..).step rfl (.refl _ _)
  · exact (State.modDie_keeps ..).step rfl (.refl _ _)
  · exact (State.busFault_keeps ..).step rfl (.refl _ _)
  · exact .refl _ _

theorem execIdleLevelCheck_keeps (ch : Nat) (ok : Bool) (s : State) : KeepsIn atNext 138386833 s (execIdleLevelCheck ch ok s) := by
  unfold execIdleLevelCheck
  refine KeepsIn.effect rfl ?_ ?_
  · exact .refl _ _
  · intro u1 hu1
    refine Keeps.ite ?_ ?_
    · exact hu1
    · exact (State.busFault_keeps ..).step rfl hu1

theorem State.assayAfter_keeps (s : State) (d : Nat) (o : DieOp) (blocks : List Nat) : Keeps 524289 s (State.assayAfter s d o blocks) := by
  unfold State.assayAfter
  extract_lets l1 l2 l3 l4 l5
  have kl3 : Keeps 524289 s l3 := (State.modDie_keeps ..).step rfl (.refl _ _)
  refine Keeps.ite ?_ ?_
  · exact kl3
  · refine Keeps.each ?_ ?_
    · exact kl3
    · intro u6 _ hu6
      exact (State.sendOp_keeps ..).step rfl hu6

theorem execFullRetrainingDone_keeps (ch : Nat) (ok : Bool) (s : State) : KeepsIn atNext 138386833 s (execFullRetrainingDone ch ok s) := by
  unfold execFullRetrainingDone
  refine KeepsIn.effect rfl ?_ ?_
  · exact .refl _ _
  · intro u1 hu1
    refine Keeps.ite ?_ ?_
    · exact hu1
    · extract_lets l2
      have kl2 : Keeps 138386833 s l2 := (State.updMd_keeps ..).step rfl hu1
      refine Keeps.ite ?_ ?_
      · exact kl2
      · exact (State.busFault_keeps ..).step rfl kl2

theorem State.rebuildPass_keeps (s : State) (set : Nat) (row : Nat) (m : Nat) : Keeps 557057 s (State.rebuildPass s set row m) := by
  unfold State.rebuildPass
  split
  · exact .refl _ _
  · extract_lets l1 l2 l3 l4
    have kl2 : Keeps 557057 s l2 := (State.modRow_keeps ..).step rfl (.refl _ _)
    have kl3 : Keeps 557057 s l3 := (State.modNv_keeps ..).step rfl kl2
    exact (State.wr_keeps ..).step rfl ((State.updMd_keeps ..).step rfl kl3)

theorem State.wpRelease_keeps (s : State) (unlock : Nat) : Keeps 100753 s (State.wpRelease s unlock) := by
  unfold State.wpRelease
  refine State.unlocked_keeps rfl ?_ ?_
  · exact .refl _ _
  · intro u1 hu1
    refine Keeps.ite ?_ ?_
    · exact (State.event_keeps ..).step rfl ((State.setReadOnly_keeps ..).step rfl hu1)
    · exact hu1

theorem State.centreCheck_keeps (s : State) (d : Nat) (temp : Int) : Keeps 524304 s (State.centreCheck s d temp) := by
  unfold State.centreCheck
  split
  · exact (State.updMd_keeps ..).step rfl (.refl _ _)
  · refine Keeps.ite ?_ ?_
    · exact (State.emit_keeps ..).step rfl ((State.updMd_keeps ..).step rfl (.refl _ _))
    · exact .refl _ _

theorem State.patchSlot_keeps (s : State) (cons : Nat) (col : Nat) : KeepsIn atOptSnd 32768 s (State.patchSlot s cons col) := by
  unfold State.patchSlot
  extract_lets l1
  have kl1 : ∀ v0 v1 v2, Keeps 32768 s v0 → KeepsIn atSnd 32768 s (l1 v0 v1 v2) := by
    unfold l1
    intro u2 _ _ hu2
    exact KeepsIn.leafSnd ((State.modNv_keeps ..).step rfl hu2)
  clear_value l1
  split
  · refine KeepsIn.someSnd ?_
    exact kl1 _ _ _ (.refl _ _)
  · refine KeepsIn.mapOptSnd ?_
    intro _
    exact kl1 _ _ _ (.refl _ _)

theorem State.programFails_keeps (s : State) (d : Nat) (o : DieOp) (failed : List Nat) (result : Nat) : Keeps 626065 s (State.programFails s d o failed result) := by
  unfold State.programFails
  extract_lets l1 l2 l3
  have kl2 : Keeps 626065 s l2 := (State.modHealth_keeps ..).step rfl (.refl _ _)
  have kl3 : Keeps 626065 s l3 := (State.patchesBack_keeps ..).step rfl ((State.chanEvent_keeps ..).step rfl ((State.mediaErr_keeps ..).step rfl kl2))
  refine Keeps.each ?_ ?_
  · exact kl3
  · intro u4 _ hu4
    extract_lets l5 l6 l7
    have kl7 : Keeps 626065 s l7 := (State.retire_keeps ..).step rfl hu4
    unfold l5
    split
    · refine Keeps.ite ?_ ?_
      · exact kl7
      · exact (State.deferWords_keeps ..).step rfl kl7
    · exact kl7

theorem State.flashTemp_keeps (s : State) (ch : Nat) (die : Nat) (temp : Int) : Keeps 564625 s (State.flashTemp s ch die temp) := by
  unfold State.flashTemp
  extract_lets l1 l2 l3 l4 l5 l6 l7 l8 l9 l10 l11
  have kl3 : Keeps 564625 s l3 := (State.centreCheck_keeps ..).step rfl ((State.modDie_keeps ..).step rfl (.refl _ _))
  have kl5 : Keeps 564625 s l5 := Keeps.set_power rfl kl3
  have kl7 : Keeps 564625 s l7 := (State.modHealth_keeps ..).step rfl kl5
  have kl11 : Keeps 564625 s l11 := by
    unfold l11
    refine Keeps.ite ?_ ?_
    · exact (State.event_keeps ..).step rfl (Keeps.set_power rfl kl7)
    · refine Keeps.ite ?_ ?_
      · exact Keeps.set_power rfl kl7
      · exact kl7
  exact (State.warnUpdate_keeps ..).step rfl kl11

theorem State.recentred_keeps (s : State) (ch : Nat) (ok : Bool) : Keeps 526737 s (State.recentred s ch ok) := by
  unfold State.recentred
  extract_lets l1 l2 l3
  have kl1 : Keeps 526737 s l1 := (State.bump_keeps ..).step rfl (.refl _ _)
  have kl3 : Keeps 526737 s l3 := (State.updMd_keeps ..).step rfl kl1
  refine Keeps.ite ?_ ?_
  · exact kl3
  · exact (State.event_keeps ..).step rfl ((State.updMd_keeps ..).step rfl kl3)

theorem State.erased_keeps (s : State) (d : Nat) (sets : List Nat) : Keeps 888209 s (State.erased s d sets) := by
  unfold State.erased
  refine (State.wbufUpdate_keeps ..).step rfl ((State.repairWaiting_keeps ..).step rfl ?_)
  refine Keeps.each ?_ ?_
  · exact .refl _ _
  · intro u1 _ hu1
    exact (State.setErased_keeps ..).step rfl hu1

theorem execMediaWpCtrlRelease_keeps (unlock : Nat) (s : State) : KeepsIn atNext 100753 s (execMediaWpCtrlRelease unlock s) := by
  unfold execMediaWpCtrlRelease
  refine KeepsIn.effect rfl ?_ ?_
  · exact .refl _ _
  · intro u1 hu1
    exact (State.wpRelease_keeps ..).step rfl hu1

theorem State.scrubRead_keeps (s : State) (ch : Nat) (die : Nat) (block : Nat) (probes : List Nat) : Keeps 524289 s (State.scrubRead s ch die block probes) := by
  unfold State.scrubRead
  extract_lets l1 l2 l3
  refine Keeps.ite ?_ ?_
  · exact .refl _ _
  · exact (State.scrubNext_keeps ..).step rfl ((State.updMd_keeps ..).step rfl (.refl _ _))

theorem State.rawWrite_keeps (s : State) (enable : Bool) : Keeps 35217 s (State.rawWrite s enable) := by
  unfold State.rawWrite
  extract_lets l1 l2
  have kl2 : Keeps 35217 s l2 := by
    unfold l2
    refine Keeps.each ?_ ?_
    · exact .refl _ _
    · intro u3 _ hu3
      exact (State.setBlockSt_keeps ..).step rfl ((State.modBlock_keeps ..).step rfl hu3)
  refine Keeps.ite ?_ ?_
  · exact .refl _ _
  · refine Keeps.ite ?_ ?_
    · refine Keeps.ite ?_ ?_
      · exact (State.event_keeps ..).step rfl ((State.set_keeps ..).step rfl ((State.set_keeps ..).step rfl (.refl _ _)))
      · exact .refl _ _
    · exact (State.event_keeps ..).step rfl ((State.set_keeps ..).step rfl ((State.set_keeps ..).step rfl kl2))

theorem State.patchGranule_keeps (s : State) (k : Nat) (w : Wr) (cons : Nat) : Keeps 756113 s (State.patchGranule s k w cons) := by
  unfold State.patchGranule
  split
  · exact .refl _ _
  · extract_lets l1 l2
    split
    · exact .refl _ _
    · rename_i p3 p4 e5
      have kp4 : Keeps 756113 s p4 := by
        refine KeepsIn.get ?_ (congrArg atOptSnd e5)
        exact (State.patchSlot_keeps ..).step rfl (.refl _ _)
      extract_lets l6 l7 l8 l9 l10 l11 l12
      have kl7 : Keeps 756113 s l7 := (State.modNv_keeps ..).step rfl kp4
      have kl8 : Keeps 756113 s l8 := (State.addRowx_keeps ..).step rfl kl7
      have kl10 : Keeps 756113 s l10 := (State.noteCopies_keeps ..).step rfl kl8
      have kl11 : Keeps 756113 s l11 := (State.updWp_keeps ..).step rfl kl10
      exact (State.bump_keeps ..).step rfl ((State.updMd_keeps ..).step rfl kl11)

theorem execScrubMidpoint_keeps (s : State) : KeepsIn atNext 526737 s (execScrubMidpoint s) := by
  unfold execScrubMidpoint
  refine KeepsIn.effect rfl ?_ ?_
  · exact .refl _ _
  · intro u1 hu1
    refine Keeps.ite ?_ ?_
    · extract_lets l2
      have kl2 : Keeps 526737 s l2 := (State.set_keeps ..).step rfl ((State.set_keeps ..).step rfl hu1)
      refine Keeps.ite ?_ ?_
      · exact kl2
      · exact (State.event_keeps ..).step rfl ((State.updMd_keeps ..).step rfl kl2)
    · exact hu1

theorem execScrubRead_keeps (ch : Nat) (die : Nat) (block : Nat) (lower : Nat) (upper : Nat) (between : List Nat) (s : State) : KeepsIn atNext 524305 s (execScrubRead ch die block lower upper between s) := by
  unfold execScrubRead
  refine KeepsIn.effect rfl ?_ ?_
  · exact .refl _ _
  · intro u1 hu1
    exact (State.scrubRead_keeps ..).step rfl hu1

theorem State.eraseEnds_keeps (s : State) (d : Nat) (b : Nat) (ok : Bool) (assayOk : Bool) : Keeps 888209 s (State.eraseEnds s d b ok assayOk) := by
  unfold State.eraseEnds
  extract_lets l1 l2 l4 l5 l6 l7
  have kl2 : ∀ v0, Keeps 888209 s v0 → Keeps 888209 s (l2 v0) := by
    unfold l2
    intro u3 hu3
    refine Keeps.ite ?_ ?_
    · exact (State.retire_keeps ..).step rfl ((State.residue_keeps ..).step rfl hu3)
    · exact (State.setBlockSt_keeps ..).step rfl hu3
  clear_value l2
  have kl5 : Keeps 888209 s l5 := (State.modBlock_keeps ..).step rfl (.refl _ _)
  have kl6 : Keeps 888209 s l6 := (State.modBlock_keeps ..).step rfl kl5
  have kl7 : Keeps 888209 s l7 := (State.modHealth_keeps ..).step rfl (.refl _ _)
  refine Keeps.ite ?_ ?_
  · refine Keeps.ite ?_ ?_
    · exact kl2 _ ((State.modHealth_keeps ..).step rfl ((State.mediaErr_keeps ..).step rfl kl5))
    · refine Keeps.ite ?_ ?_
      · exact (State.retire_keeps ..).step rfl kl6
      · exact kl6
  · exact kl2 _ ((State.chanEvent_keeps ..).step rfl ((State.mediaErr_keeps ..).step rfl kl7))

theorem State.wearMove_keeps (s : State) (set : Nat) (cons : Nat) : Keeps 1018257 s (State.wearMove s set cons) := by
  unfold State.wearMove
  extract_lets l1
  unfold l1
  split
  · exact .refl _ _
  · extract_lets l2
    exact (State.beginReloc_keeps ..).step rfl (.refl _ _)

theorem State.unitPass_keeps (s : State) (d : Nat) (o : DieOp) (set : Nat) (row : Nat) (pos : Nat) : Keeps 32768 s (State.unitPass s d o set row pos) := by
  unfold State.unitPass
  split
  · exact .refl _ _
  · extract_lets l1
    exact (State.modRow_keeps ..).step rfl (.refl _ _)

theorem State.opEnds_keeps (s : State) (d : Nat) (o : DieOp) (us : Nat) : Keeps 526737 s (State.opEnds s d o us) := by
  unfold State.opEnds
  extract_lets l1 l2
  have kl1 : Keeps 526737 s l1 := (State.learn_keeps ..).step rfl ((State.charge_keeps ..).step rfl (.refl _ _))
  have kl2 : Keeps 526737 s l2 := (State.modDie_keeps ..).step rfl kl1
  exact (State.complianceUpdate_keeps ..).step rfl ((State.releaseSlot_keeps ..).step rfl ((State.releaseSlot_keeps ..).step rfl kl2))

theorem execRecentre_keeps (ch : Nat) (ok : Bool) (s : State) : KeepsIn atNext 526737 s (execRecentre ch ok s) := by
  unfold execRecentre
  refine KeepsIn.effect rfl ?_ ?_
  · exact .refl _ _
  · intro u1 hu1
    exact (State.recentred_keeps ..).step rfl hu1

theorem execFlashTemperatureRead_keeps (ch : Nat) (die : Nat) (temp : Int) (s : State) : KeepsIn atNext 564625 s (execFlashTemperatureRead ch die temp s) := by
  unfold execFlashTemperatureRead
  refine KeepsIn.effect rfl ?_ ?_
  · exact .refl _ _
  · intro u1 hu1
    refine Keeps.ite ?_ ?_
    · exact (State.flashTemp_keeps ..).step rfl hu1
    · exact hu1

theorem State.eraseDone_keeps (s : State) (ch : Nat) (die : Nat) (us : Nat) (failed : List Nat) (assayBad : List Nat) : Keeps 888209 s (State.eraseDone s ch die us failed assayBad) := by
  unfold State.eraseDone
  extract_lets l1 l2
  have kl2 : Keeps 888209 s l2 := (State.forcedCount_keeps ..).step rfl (.refl _ _)
  split
  · refine Keeps.ite ?_ ?_
    · exact .refl _ _
    · extract_lets l3 l4 l5
      have kl4 : Keeps 888209 s l4 := (State.modDie_keeps ..).step rfl ((State.opEnds_keeps ..).step rfl kl2)
      have kl5 : Keeps 888209 s l5 := by
        unfold l5
        refine Keeps.each ?_ ?_
        · exact kl4
        · intro u6 _ hu6
          exact (State.eraseEnds_keeps ..).step rfl hu6
      exact (State.erased_keeps ..).step rfl kl5
  · exact .refl _ _

theorem execDieResetTimeout_keeps (die : Nat × Nat) (answer : Option Bool) (s : State) : KeepsIn atNext 138386833 s (execDieResetTimeout die answer s) := by
  unfold execDieResetTimeout
  refine KeepsIn.effect rfl ?_ ?_
  · exact .refl _ _
  · intro u1 hu1
    exact (State.resetAnswer_keeps ..).step rfl hu1

theorem execMediaRawCtrlWrite_keeps (enable : Bool) (s : State) : KeepsIn atNext 35217 s (execMediaRawCtrlWrite enable s) := by
  unfold execMediaRawCtrlWrite
  refine KeepsIn.effect rfl ?_ ?_
  · exact .refl _ _
  · intro u1 hu1
    exact (State.rawWrite_keeps ..).step rfl hu1

theorem State.wearCheck_keeps (s : State) : Keeps 1018257 s (State.wearCheck s) := by
  unfold State.wearCheck
  refine Keeps.ite ?_ ?_
  · exact .refl _ _
  · extract_lets l1 l2 l3 l4
    refine Keeps.ite ?_ ?_
    · split
      · exact .refl _ _
      · extract_lets l5
        exact (State.wearMove_keeps ..).step rfl (.refl _ _)
    · exact .refl _ _

theorem execEraseDone_keeps (ch : Nat) (die : Nat) (us : Nat) (failed : List Nat) (assayBad : List Nat) (s : State) : KeepsIn atNext 888209 s (execEraseDone ch die us failed assayBad s) := by
  unfold execEraseDone
  refine KeepsIn.effect rfl ?_ ?_
  · exact .refl _ _
  · intro u1 hu1
    exact (State.eraseDone_keeps ..).step rfl hu1

theorem State.patchCheck_keeps (s : State) (k : Nat) : Keeps 756113 s (State.patchCheck s k) := by
  unfold State.patchCheck
  split
  · exact .refl _ _
  · extract_lets l1
    refine Keeps.ite ?_ ?_
    · refine Keeps.ite ?_ ?_
      · refine (State.bump_keeps ..).step rfl ?_
        refine Keeps.each ?_ ?_
        · exact .refl _ _
        · intro u2 _ hu2
          exact (State.patchFalls_keeps ..).step rfl hu2
      · refine (State.commitAll_keeps ..).step rfl ?_
        refine Keeps.each ?_ ?_
        · exact .refl _ _
        · intro u3 _ hu3
          exact (State.patchGranule_keeps ..).step rfl hu3
    · exact .refl _ _

theorem State.timeout_keeps (s : State) (ch : Nat) (die : Nat) : Keeps 138386833 s (State.timeout s ch die) := by
  unfold State.timeout
  extract_lets l1 l2 l3
  unfold l2
  split
  · exact .refl _ _
  · extract_lets l4 l5 l6 l7 l8 l9 l10 l12
    have kl5 : Keeps 138386833 s l5 := (State.chanEvent_keeps ..).step rfl ((State.mediaErr_keeps ..).step rfl (.refl _ _))
    have kl6 : Keeps 138386833 s l6 := by
      unfold l6
      refine Keeps.ite ?_ ?_
      · exact (State.forcedCount_keeps ..).step rfl kl5
      · exact kl5
    have kl7 : Keeps 138386833 s l7 := (State.releaseSlot_keeps ..).step rfl ((State.releaseSlot_keeps ..).step rfl kl6)
    have kl8 : Keeps 138386833 s l8 := (State.modDie_keeps ..).step rfl kl7
    have kl10 : Keeps 138386833 s l10 := by
      unfold l10
      split
      · exact (State.readTimesOut_keeps ..).step rfl kl8
      · refine (State.erased_keeps ..).step rfl ?_
        refine Keeps.each ?_ ?_
        · exact kl8
        · intro u11 _ hu11
          exact (State.eraseEnds_keeps ..).step rfl hu11
      · exact (State.programFails_keeps ..).step rfl kl8
    have kl12 : Keeps 138386833 s l12 := (State.complianceUpdate_keeps ..).step rfl kl10
    refine Keeps.ite ?_ ?_
    · exact (State.dieFails_keeps ..).step rfl kl12
    · exact kl12

theorem execOperationTimeout_keeps (ch : Nat) (die : Nat) (s : State) : KeepsIn atNext 138386833 s (execOperationTimeout ch die s) := by
  unfold execOperationTimeout
  refine KeepsIn.effect rfl ?_ ?_
  · exact .refl _ _
  · intro u1 hu1
    exact (State.timeout_keeps ..).step rfl hu1

theorem execWearLevelCheck_keeps (s : State) : KeepsIn atNext 1018257 s (execWearLevelCheck s) := by
  unfold execWearLevelCheck
  refine KeepsIn.effect rfl ?_ ?_
  · exact .refl _ _
  · intro u1 hu1
    exact (State.wearCheck_keeps ..).step rfl hu1

theorem State.patchChecks_keeps (s : State) : Keeps 756113 s (State.patchChecks s) := by
  unfold State.patchChecks
  refine Keeps.each ?_ ?_
  · exact .refl _ _
  · intro u1 _ hu1
    exact (State.patchCheck_keeps ..).step rfl hu1

theorem State.patchPass_keeps (s : State) (k : Nat) (parity : Bool) : Keeps 756113 s (State.patchPass s k parity) := by
  unfold State.patchPass
  exact (State.patchChecks_keeps ..).step rfl ((State.updWp_keeps ..).step rfl (.refl _ _))

theorem State.programPass_keeps (s : State) (d : Nat) (o : DieOp) : Keeps 756113 s (State.programPass s d o) := by
  unfold State.programPass
  split
  · exact (State.sealFinished_keeps ..).step rfl ((State.commitAll_keeps ..).step rfl ((State.unitPass_keeps ..).step rfl (.refl _ _)))
  · refine Keeps.each ?_ ?_
    · exact .refl _ _
    · intro u1 _ hu1
      exact (State.patchPass_keeps ..).step rfl hu1
  · extract_lets l2 l3
    refine Keeps.ite ?_ ?_
    · exact .refl _ _
    · exact (State.commitAll_keeps ..).step rfl ((State.updWp_keeps ..).step rfl (.refl _ _))
  · split
    · exact (State.updMd_keeps ..).step rfl (.refl _ _)
    · exact .refl _ _
  · exact (State.updMd_keeps ..).step rfl (.refl _ _)
  · exact (State.rebuildPass_keeps ..).step rfl (.refl _ _)
  · exact .refl _ _

theorem State.programDone_keeps (s : State) (ch : Nat) (die : Nat) (us : Nat) (failed : List Nat) : Keeps 757137 s (State.programDone s ch die us failed) := by
  unfold State.programDone
  extract_lets l1
  split
  · refine Keeps.ite ?_ ?_
    · exact .refl _ _
    · extract_lets l2 l3 l4
      have kl3 : Keeps 757137 s l3 := (State.advancePages_keeps ..).step rfl ((State.opEnds_keeps ..).step rfl (.refl _ _))
      have kl4 : Keeps 757137 s l4 := by
        unfold l4
        refine Keeps.ite ?_ ?_
        · exact (State.programPass_keeps ..).step rfl kl3
        · exact (State.programFails_keeps ..).step rfl kl3
      exact (State.assayAfter_keeps ..).step rfl kl4
  · exact .refl _ _

theorem execProgramDone_keeps (ch : Nat) (die : Nat) (us : Nat) (failed : List Nat) (s : State) : KeepsIn atNext 757137 s (execProgramDone ch die us failed s) := by
  unfold execProgramDone
  refine KeepsIn.effect rfl ?_ ?_
  · exact .refl _ _
  · intro u1 hu1
    exact (State.programDone_keeps ..).step rfl hu1

end Sys2Proof.Machine
end

