-- ==== Sys2Proof/Laws/KeepsFlush.lean ====
section
/-! SUPPORT. What each operation of Machine/Flush.lean keeps (Laws/Frame.lean). -/

namespace Sys2Proof.Machine

theorem State.flushRest_keeps (s : State) (set : Nat) (row : Nat) (l : List Nat) : Keeps 524289 s (State.flushRest s set row l) := by
  unfold State.flushRest
  extract_lets l1 l2 l3
  refine Keeps.each ?_ ?_
  · exact .refl _ _
  · intro u4 _ hu4
    extract_lets l5
    split
    · refine Keeps.ite ?_ ?_
      · exact hu4
      · exact (State.sendOp_keeps ..).step rfl hu4
    · exact hu4

theorem State.flushUnits_keeps (s : State) (set : Nat) (row : Nat) : Keeps 557057 s (State.flushUnits s set row) := by
  unfold State.flushUnits
  split
  · exact .refl _ _
  · refine Keeps.each ?_ ?_
    · exact .refl _ _
    · intro u1 _ hu1
      extract_lets l2 l3 l4
      refine Keeps.ite ?_ ?_
      · exact hu1
      · exact (State.markDirty_keeps ..).step rfl ((State.sendOp_keeps ..).step rfl hu1)

theorem State.duskErase_keeps (s : State) : Keeps 888209 s (State.duskErase s) := by
  unfold State.duskErase
  refine Keeps.ite ?_ ?_
  · exact .refl _ _
  · refine Keeps.each ?_ ?_
    · exact .refl _ _
    · intro u1 _ hu1
      refine Keeps.ite ?_ ?_
      · exact hu1
      · exact (State.eraseEntry_keeps ..).step rfl hu1

theorem State.flushSend_keeps (s : State) : Keeps 557057 s (State.flushSend s) := by
  unfold State.flushSend
  extract_lets l1 l2
  refine Keeps.each ?_ ?_
  · exact .refl _ _
  · intro u3 _ hu3
    split
    · exact (State.flushRest_keeps ..).step rfl ((State.flushUnits_keeps ..).step rfl hu3)
    · exact hu3

theorem State.flushCmd_keeps (s : State) (r : CmdRef) (nsid : Nat) : Keeps 9143297 s (State.flushCmd s r nsid) := by
  unfold State.flushCmd
  refine State.starting_keeps rfl ?_ ?_
  · exact .refl _ _
  · intro u1 hu1
    extract_lets l2 l3
    have kl3 : ∀ v0, Keeps 9143297 s v0 → Keeps 9143297 s (l3 v0) := by
      unfold l3
      intro u4 hu4
      refine Keeps.ite ?_ ?_
      · refine (State.finish_keeps ..).step rfl ?_
        refine Keeps.foldl ?_ _ ?_
        · intro u5 _ hu5
          exact (State.see_keeps ..).step rfl hu5
        · exact hu4
      · extract_lets l6 l7 l8
        have kl8 : Keeps 9143297 s l8 := (State.accept_keeps ..).step rfl hu4
        refine Keeps.ite ?_ ?_
        · exact (State.finish_keeps ..).step rfl kl8
        · exact (State.flushSend_keeps ..).step rfl ((State.updWp_keeps ..).step rfl kl8)
    clear_value l3
    refine Keeps.ite ?_ ?_
    · exact kl3 _ hu1
    · refine State.onNs_keeps rfl ?_ ?_
      · exact hu1
      · intro _ u9 hu9
        exact kl3 _ hu9

theorem execFlush_keeps (ref : CmdRef) (nsid : Nat) (s : State) : KeepsIn atNext 9143313 s (execFlush ref nsid s) := by
  unfold execFlush
  refine KeepsIn.effect rfl ?_ ?_
  · exact .refl _ _
  · intro u1 hu1
    exact (State.flushCmd_keeps ..).step rfl hu1

end Sys2Proof.Machine
end

