-- ==== Sys2Proof/Laws/KeepsMembers.lean ====
section
/-! SUPPORT. What each operation of Machine/Members.lean keeps (Laws/Frame.lean). -/

namespace Sys2Proof.Machine

theorem State.channelTrained_keeps (s : State) (c : Chart) (ch : Nat) (rates : List (Nat × Nat)) : Keeps 2449 s (State.channelTrained s c ch rates) := by
  unfold State.channelTrained
  extract_lets l1 l2
  have kl2 : Keeps 2449 s l2 := (State.set_keeps ..).step rfl ((State.wr_keeps ..).step rfl (.refl _ _))
  refine Keeps.ite ?_ ?_
  · exact (State.event_keeps ..).step rfl kl2
  · exact kl2

theorem State.startRebuild_keeps (s : State) : Keeps 559505 s (State.startRebuild s) := by
  unfold State.startRebuild
  split
  · extract_lets l1 l2
    have kl2 : Keeps 559505 s l2 := (State.updMd_keeps ..).step rfl ((State.modMember_keeps ..).step rfl (.refl _ _))
    exact (State.event_keeps ..).step rfl ((State.wr_keeps ..).step rfl ((State.wr_keeps ..).step rfl kl2))
  · exact .refl _ _

theorem State.leaveQueue_keeps (s : State) (m : Nat) : Keeps 559505 s (State.leaveQueue s m) := by
  unfold State.leaveQueue
  extract_lets l1 l2
  have kl2 : Keeps 559505 s l2 := (State.updMd_keeps ..).step rfl (.refl _ _)
  refine Keeps.ite ?_ ?_
  · exact (State.startRebuild_keeps ..).step rfl kl2
  · exact kl2

theorem State.takeNew_keeps (s : State) (m : Nat) : Keeps 32768 s (State.takeNew s m) := by
  unfold State.takeNew
  extract_lets l1 l2
  refine Keeps.each ?_ ?_
  · exact .refl _ _
  · intro u3 _ hu3
    split
    · extract_lets l4 l5 l6
      have kl6 : Keeps 32768 s l6 := (State.placeSet_keeps ..).step rfl hu3
      exact (State.modMember_keeps ..).step rfl kl6
    · exact hu3

theorem State.patchWords_keeps (s : State) (set : Nat) (row : Nat) (pos : Nat) (mask : Nat) : Keeps 35217 s (State.patchWords s set row pos mask) := by
  unfold State.patchWords
  split
  · extract_lets l1 l2
    refine Keeps.each ?_ ?_
    · exact .refl _ _
    · intro u3 _ hu3
      split
      · rename_i p4 p5 e6
        have kp5 : Keeps 35217 s p5 := by
          refine KeepsIn.get ?_ (congrArg atOptSnd e6)
          exact (State.patchSlot_keeps ..).step rfl hu3
        exact (State.addRowx_keeps ..).step rfl ((State.modNv_keeps ..).step rfl kp5)
      · exact hu3
  · exact .refl _ _

theorem State.cruResult_keeps (s : State) (r : Nat) : Keeps 1 s (State.cruResult s r) := by
  unfold State.cruResult
  exact (State.wr_keeps ..).step rfl (.refl _ _)

theorem State.rebuilt_keeps (s : State) (m : Nat) : Keeps 626065 s (State.rebuilt s m) := by
  unfold State.rebuilt
  refine Keeps.ite ?_ ?_
  · exact .refl _ _
  · refine Keeps.ite ?_ ?_
    · exact .refl _ _
    · extract_lets l1 l2 l3
      have kl1 : Keeps 626065 s l1 := (State.event_keeps ..).step rfl ((State.modMember_keeps ..).step rfl ((State.takeNew_keeps ..).step rfl (.refl _ _)))
      have kl2 : Keeps 626065 s l2 := (State.updMd_keeps ..).step rfl kl1
      have kl3 : Keeps 626065 s l3 := by
        unfold l3
        refine Keeps.each ?_ ?_
        · exact kl2
        · intro u4 _ hu4
          exact (State.spareUpdate_keeps ..).step rfl hu4
      exact (State.leaveQueue_keeps ..).step rfl ((State.consUpdate_keeps ..).step rfl kl3)

theorem State.memberInsert_keeps (s : State) (unlock : Nat) (m : Nat) : Keeps 36865 s (State.memberInsert s unlock m) := by
  unfold State.memberInsert
  refine State.unlocked_keeps rfl ?_ ?_
  · exact .refl _ _
  · intro u1 hu1
    refine Keeps.ite ?_ ?_
    · exact (State.cruResult_keeps ..).step rfl hu1
    · refine Keeps.ite ?_ ?_
      · exact (State.cruResult_keeps ..).step rfl hu1
      · exact (State.wake_keeps ..).step rfl ((State.modMember_keeps ..).step rfl ((State.cruResult_keeps ..).step rfl hu1))

theorem execMemberInsert_keeps (unlock : Nat) (m : Nat) (s : State) : KeepsIn atNext 36881 s (execMemberInsert unlock m s) := by
  unfold execMemberInsert
  refine KeepsIn.effect rfl ?_ ?_
  · exact .refl _ _
  · intro u1 hu1
    exact (State.memberInsert_keeps ..).step rfl hu1

theorem State.memberFail_keeps (s : State) (unlock : Nat) (m : Nat) (force : Bool) : Keeps 138386833 s (State.memberFail s unlock m force) := by
  unfold State.memberFail
  refine State.unlocked_keeps rfl ?_ ?_
  · exact .refl _ _
  · intro u1 hu1
    refine Keeps.ite ?_ ?_
    · exact (State.cruResult_keeps ..).step rfl hu1
    · refine Keeps.ite ?_ ?_
      · exact (State.cruResult_keeps ..).step rfl hu1
      · refine Keeps.ite ?_ ?_
        · exact (State.cruResult_keeps ..).step rfl hu1
        · exact (State.isolate_keeps ..).step rfl ((State.cruResult_keeps ..).step rfl hu1)

theorem State.rebuildUnit_keeps (s : State) (m : Nat) (set : Nat) (row : Nat) (col : Nat) : Keeps 528385 s (State.rebuildUnit s m set row col) := by
  unfold State.rebuildUnit
  extract_lets l1 l2
  have kl2 : ∀ v0, Keeps 528385 s v0 → Keeps 528385 s (l2 v0) := by
    unfold l2
    intro u3 hu3
    exact (State.updMd_keeps ..).step rfl hu3
  clear_value l2
  refine Keeps.ite ?_ ?_
  · exact (State.startJob_keeps ..).step rfl (kl2 _ (.refl _ _))
  · refine Keeps.ite ?_ ?_
    · exact (State.updMd_keeps ..).step rfl (kl2 _ (.refl _ _))
    · exact .refl _ _

theorem State.freshMember_keeps (s : State) (m : Nat) (rates : List (Nat × Nat)) (badBlocks : List (Nat × Nat)) : Keeps 559505 s (State.freshMember s m rates badBlocks) := by
  unfold State.freshMember
  extract_lets l1 l2 l3 l5 l6 l7
  have kl2 : Keeps 559505 s l2 := (State.modNv_keeps ..).step rfl (.refl _ _)
  have kl3 : Keeps 559505 s l3 := by
    unfold l3
    refine Keeps.each ?_ ?_
    · exact kl2
    · intro u4 _ hu4
      exact (State.divideDie_keeps ..).step rfl ((State.modDie_keeps ..).step rfl hu4)
  have kl6 : Keeps 559505 s l6 := (State.modNv_keeps ..).step rfl kl3
  have kl7 : Keeps 559505 s l7 := (State.updMd_keeps ..).step rfl kl6
  refine Keeps.each ?_ ?_
  · exact kl7
  · intro u8 _ hu8
    exact (State.channelTrained_keeps ..).step rfl ((State.set_keeps ..).step rfl hu8)

theorem execMemberFail_keeps (unlock : Nat) (m : Nat) (force : Bool) (s : State) : KeepsIn atNext 138386833 s (execMemberFail unlock m force s) := by
  unfold execMemberFail
  refine KeepsIn.effect rfl ?_ ?_
  · exact .refl _ _
  · intro u1 hu1
    exact (State.memberFail_keeps ..).step rfl hu1

theorem execRebuildComplete_keeps (m : Nat) (s : State) : KeepsIn atNext 626065 s (execRebuildComplete m s) := by
  unfold execRebuildComplete
  refine KeepsIn.effect rfl ?_ ?_
  · exact .refl _ _
  · intro u1 hu1
    exact (State.rebuilt_keeps ..).step rfl hu1

theorem State.parityPatch_keeps (s : State) (set : Nat) (row : Nat) : Keeps 35217 s (State.parityPatch s set row) := by
  unfold State.parityPatch
  extract_lets l1
  exact (State.patchWords_keeps ..).step rfl (.refl _ _)

theorem State.isolated_keeps (s : State) (m : Nat) : Keeps 564625 s (State.isolated s m) := by
  unfold State.isolated
  refine Keeps.ite ?_ ?_
  · exact .refl _ _
  · extract_lets l1 l2
    have kl1 : Keeps 564625 s l1 := (State.toOff_keeps ..).step rfl ((State.modMember_keeps ..).step rfl (.refl _ _))
    have kl2 : Keeps 564625 s l2 := (State.event_keeps ..).step rfl ((State.leaveQueue_keeps ..).step rfl kl1)
    refine Keeps.each ?_ ?_
    · exact kl2
    · intro u3 _ hu3
      exact (State.aen_keeps ..).step rfl hu3

theorem State.rebuildRow_keeps (s : State) (m : Nat) (set : Nat) (row : Nat) : Keeps 561153 s (State.rebuildRow s m set row) := by
  unfold State.rebuildRow
  refine Keeps.ite ?_ ?_
  · exact .refl _ _
  · split
    · exact .refl _ _
    · refine Keeps.ite ?_ ?_
      · exact .refl _ _
      · extract_lets l1 l2 l3
        refine Keeps.ite ?_ ?_
        · exact (State.rebuildUnit_keeps ..).step rfl (.refl _ _)
        · split
          · exact .refl _ _
          · extract_lets l4
            exact (State.rebuildUnit_keeps ..).step rfl ((State.placeSet_keeps ..).step rfl (.refl _ _))

theorem execRebuildRow_keeps (m : Nat) (set : Nat) (row : Nat) (s : State) : KeepsIn atNext 561169 s (execRebuildRow m set row s) := by
  unfold execRebuildRow
  refine KeepsIn.effect rfl ?_ ?_
  · exact .refl _ _
  · intro u1 hu1
    exact (State.rebuildRow_keeps ..).step rfl hu1

theorem State.resyncRow_keeps (s : State) (set : Nat) (row : Nat) (found : Nat) (pos : Nat) : Keeps 35217 s (State.resyncRow s set row found pos) := by
  unfold State.resyncRow
  extract_lets l1 l2 l3 l4
  have kl3 : Keeps 35217 s l3 := (State.event_keeps ..).step rfl ((State.addRowx_keeps ..).step rfl (.refl _ _))
  have kl4 : Keeps 35217 s l4 := (State.modRow_keeps ..).step rfl kl3
  refine Keeps.ite ?_ ?_
  · exact (State.modRow_keeps ..).step rfl (.refl _ _)
  · refine Keeps.ite ?_ ?_
    · refine Keeps.each ?_ ?_
      · exact kl4
      · intro u5 _ hu5
        split
        · refine Keeps.ite ?_ ?_
          · exact (State.voidRange_keeps ..).step rfl hu5
          · exact hu5
        · exact hu5
    · refine Keeps.ite ?_ ?_
      · exact (State.modRow_keeps ..).step rfl (.refl _ _)
      · refine Keeps.ite ?_ ?_
        · exact (State.event_keeps ..).step rfl ((State.modRow_keeps ..).step rfl ((State.parityPatch_keeps ..).step rfl (.refl _ _)))
        · exact .refl _ _

theorem State.memberTrained_keeps (s : State) (m : Nat) (ok : Bool) (found : Option (List (Nat × Nat) × List (Nat × Nat))) : Keeps 563601 s (State.memberTrained s m ok found) := by
  unfold State.memberTrained
  refine Keeps.ite ?_ ?_
  · exact .refl _ _
  · refine Keeps.ite ?_ ?_
    · extract_lets l1 l2 l3
      have kl1 : Keeps 563601 s l1 := (State.freshMember_keeps ..).step rfl ((State.event_keeps ..).step rfl (.refl _ _))
      have kl2 : Keeps 563601 s l2 := (State.modMember_keeps ..).step rfl kl1
      have kl3 : Keeps 563601 s l3 := (State.updMd_keeps ..).step rfl kl2
      refine Keeps.ite ?_ ?_
      · exact (State.startRebuild_keeps ..).step rfl kl3
      · exact kl3
    · extract_lets l4
      have kl4 : Keeps 563601 s l4 := (State.modMember_keeps ..).step rfl (.refl _ _)
      exact (State.event_keeps ..).step rfl ((State.toOff_keeps ..).step rfl kl4)

theorem execIsolationComplete_keeps (m : Nat) (s : State) : KeepsIn atNext 564625 s (execIsolationComplete m s) := by
  unfold execIsolationComplete
  refine KeepsIn.effect rfl ?_ ?_
  · exact .refl _ _
  · intro u1 hu1
    exact (State.isolated_keeps ..).step rfl hu1

theorem State.resyncRegion_keeps (s : State) (region : Nat) (rows : List (Nat × Nat)) : Keeps 559505 s (State.resyncRegion s region rows) := by
  unfold State.resyncRegion
  refine Keeps.ite ?_ ?_
  · exact .refl _ _
  · extract_lets l1 l3 l4 l5
    have kl1 : Keeps 559505 s l1 := by
      unfold l1
      refine Keeps.each ?_ ?_
      · exact .refl _ _
      · intro u2 _ hu2
        exact (State.resyncRow_keeps ..).step rfl hu2
    have kl4 : Keeps 559505 s l4 := (State.updMd_keeps ..).step rfl kl1
    have kl5 : Keeps 559505 s l5 := by
      unfold l5
      refine Keeps.each ?_ ?_
      · exact kl4
      · intro u6 _ hu6
        exact (State.sendJob_keeps ..).step rfl hu6
    refine Keeps.ite ?_ ?_
    · exact (State.event_keeps ..).step rfl ((State.updMd_keeps ..).step rfl kl5)
    · exact kl5

theorem execMemberTrainingDone_keeps (m : Nat) (ok : Bool) (found : Option (List (Nat × Nat) × List (Nat × Nat))) (s : State) : KeepsIn atNext 563601 s (execMemberTrainingDone m ok found s) := by
  unfold execMemberTrainingDone
  refine KeepsIn.effect rfl ?_ ?_
  · exact .refl _ _
  · intro u1 hu1
    exact (State.memberTrained_keeps ..).step rfl hu1

theorem execResyncRegion_keeps (region : Nat) (rows : List (Nat × Nat)) (s : State) : KeepsIn atNext 559505 s (execResyncRegion region rows s) := by
  unfold execResyncRegion
  refine KeepsIn.effect rfl ?_ ?_
  · exact .refl _ _
  · intro u1 hu1
    exact (State.resyncRegion_keeps ..).step rfl hu1

end Sys2Proof.Machine
end

