-- ==== Sys2Proof/Laws/KeepsKeys.lean ====
section
/-! SUPPORT. What each operation of Machine/Keys.lean keeps (Laws/Frame.lean). -/

namespace Sys2Proof.Machine

theorem State.bindNs_keeps (s : State) (nsid : Nat) (k : Nat) : Keeps 294912 s (State.bindNs s nsid k) := by
  unfold State.bindNs
  extract_lets l1
  have kl1 : Keeps 294912 s l1 := (State.hotDropNs_keeps ..).step rfl ((State.modNs_keeps ..).step rfl (.refl _ _))
  split
  · exact (State.modNv_keeps ..).step rfl kl1
  · exact kl1

theorem State.clearKey_keeps (s : State) (k : Nat) : Keeps 4196753 s (State.clearKey s k) := by
  unfold State.clearKey
  refine Keeps.ite ?_ ?_
  · exact .refl _ _
  · exact (State.event_keeps ..).step rfl ((State.updKey_keeps ..).step rfl (.refl _ _))

theorem State.zeroWrap_keeps (s : State) : Keeps 1 s (State.zeroWrap s) := by
  unfold State.zeroWrap
  refine Keeps.foldl ?_ _ ?_
  · intro u1 _ hu1
    exact (State.wr_keeps ..).step rfl hu1
  · exact .refl _ _

theorem State.nsBind_keeps (s : State) (k : Nat) : Keeps 297361 s (State.nsBind s k) := by
  unfold State.nsBind
  extract_lets l1 l2 l4
  have kl2 : ∀ v0 v1, Keeps 297361 s v0 → Keeps 297361 s (l2 v0 v1) := by
    unfold l2
    intro u3 _ hu3
    exact (State.wr_keeps ..).step rfl hu3
  clear_value l2
  refine Keeps.ite ?_ ?_
  · exact kl2 _ _ (.refl _ _)
  · refine Keeps.ite ?_ ?_
    · exact kl2 _ _ (.refl _ _)
    · refine Keeps.ite ?_ ?_
      · exact kl2 _ _ (.refl _ _)
      · refine Keeps.ite ?_ ?_
        · exact kl2 _ _ (.refl _ _)
        · exact kl2 _ _ ((State.event_keeps ..).step rfl ((State.bindNs_keeps ..).step rfl (.refl _ _)))

theorem State.drbgKey_keeps (s : State) : KeepsIn atSnd 4194336 s (State.drbgKey s) := by
  unfold State.drbgKey
  exact KeepsIn.leafSnd ((State.updKey_keeps ..).step rfl ((State.nextFree_keeps ..).step rfl (.refl _ _)))

theorem State.putLimit_keeps (s : State) (l : KeyLimit) (v : Nat) : Keeps 1 s (State.putLimit s l v) := by
  unfold State.putLimit
  split
  · exact (State.wr_keeps ..).step rfl (.refl _ _)
  · exact (State.wr_keeps ..).step rfl ((State.wr_keeps ..).step rfl (.refl _ _))
  · exact (State.wr_keeps ..).step rfl ((State.wr_keeps ..).step rfl (.refl _ _))

theorem State.limitLower_keeps (s : State) (l : KeyLimit) (v : Nat) : Keeps 2449 s (State.limitLower s l v) := by
  unfold State.limitLower
  refine Keeps.ite ?_ ?_
  · exact .refl _ _
  · refine Keeps.ite ?_ ?_
    · exact (State.event_keeps ..).step rfl (.refl _ _)
    · exact (State.event_keeps ..).step rfl ((State.putLimit_keeps ..).step rfl (.refl _ _))

theorem State.putKey_keeps (s : State) (k : Nat) (kind : KeyKind) (owner : Nat) (key : Nat) : Keeps 4229521 s (State.putKey s k kind owner key) := by
  unfold State.putKey
  extract_lets l1 l2
  have kl1 : Keeps 4229521 s l1 := (State.updKey_keeps ..).step rfl (.refl _ _)
  have kl2 : Keeps 4229521 s l2 := by
    unfold l2
    refine Keeps.ite ?_ ?_
    · exact kl1
    · exact (State.modNv_keeps ..).step rfl kl1
  exact (State.event_keeps ..).step rfl kl2

theorem State.endThese_keeps (s : State) (nsid : Nat) (l : List CmdRef) (st : Status) : Keeps 138347536 s (State.endThese s nsid l st) := by
  unfold State.endThese
  extract_lets l1 l2 l3 l4 l5
  have kl1 : Keeps 138347536 s l1 := (State.updWp_keeps ..).step rfl (.refl _ _)
  have kl2 : Keeps 138347536 s l2 := (State.updMd_keeps ..).step rfl kl1
  have kl3 : Keeps 138347536 s l3 := (State.updZone_keeps ..).step rfl kl2
  have kl4 : Keeps 138347536 s l4 := (State.updJr_keeps ..).step rfl kl3
  have kl5 : Keeps 138347536 s l5 := (State.updPair_keeps ..).step rfl kl4
  refine Keeps.each ?_ ?_
  · exact kl5
  · intro u6 _ hu6
    exact (State.endRead_keeps ..).step rfl hu6

theorem State.keyResult_keeps (s : State) (k : Nat) (r : Nat) : Keeps 1 s (State.keyResult s k r) := by
  unfold State.keyResult
  exact (State.wr_keeps ..).step rfl ((State.wr_keeps ..).step rfl (.refl _ _))

theorem State.clearOwnerKeys_keeps (s : State) (owner : Nat) : Keeps 4196753 s (State.clearOwnerKeys s owner) := by
  unfold State.clearOwnerKeys
  refine Keeps.each ?_ ?_
  · exact .refl _ _
  · intro u1 _ hu1
    exact (State.clearKey_keeps ..).step rfl hu1

theorem execKeyLimitWrite_keeps (which : KeyLimit) (value : Nat) (s : State) : KeepsIn atNext 2449 s (execKeyLimitWrite which value s) := by
  unfold execKeyLimitWrite
  refine KeepsIn.effect rfl ?_ ?_
  · exact .refl _ _
  · intro u1 hu1
    exact (State.limitLower_keeps ..).step rfl hu1

theorem State.endCommands_keeps (s : State) (nsid : Nat) (st : Status) : Keeps 138347536 s (State.endCommands s nsid st) := by
  unfold State.endCommands
  extract_lets l1 l2
  have kl2 : Keeps 138347536 s l2 := (State.updWp_keeps ..).step rfl (.refl _ _)
  exact (State.endThese_keeps ..).step rfl kl2

theorem State.alarm_keeps (s : State) (f : Field) (ev : Nat) : Keeps 142577041 s (State.alarm s f ev) := by
  unfold State.alarm
  extract_lets l1 l3 l4 l5
  have kl1 : Keeps 142577041 s l1 := by
    unfold l1
    refine Keeps.each ?_ ?_
    · exact .refl _ _
    · intro u2 _ hu2
      exact (State.finish_keeps ..).step rfl hu2
  have kl3 : Keeps 142577041 s l3 := (State.updKey_keeps ..).step rfl kl1
  have kl4 : Keeps 142577041 s l4 := (State.set_keeps ..).step rfl ((State.set_keeps ..).step rfl kl3)
  have kl5 : Keeps 142577041 s l5 := (State.event_keeps ..).step rfl ((State.set_keeps ..).step rfl ((State.set_keeps ..).step rfl ((State.set_keeps ..).step rfl kl4)))
  refine Keeps.each ?_ ?_
  · exact kl5
  · intro u6 _ hu6
    extract_lets l7
    have kl7 : Keeps 142577041 s l7 := (State.dropWrite_keeps ..).step rfl hu6
    exact (State.endThese_keeps ..).step rfl kl7

theorem execKeyNsBind_keeps (slot : Nat) (s : State) : KeepsIn atNext 297361 s (execKeyNsBind slot s) := by
  unfold execKeyNsBind
  refine KeepsIn.effect rfl ?_ ?_
  · exact .refl _ _
  · intro u1 hu1
    exact (State.nsBind_keeps ..).step rfl hu1

theorem State.keyClear_keeps (s : State) : Keeps 4196753 s (State.keyClear s) := by
  unfold State.keyClear
  refine Keeps.ite ?_ ?_
  · exact .refl _ _
  · extract_lets l1
    refine Keeps.ite ?_ ?_
    · exact (State.keyResult_keeps ..).step rfl (.refl _ _)
    · refine Keeps.ite ?_ ?_
      · exact (State.keyResult_keeps ..).step rfl (.refl _ _)
      · exact (State.keyResult_keeps ..).step rfl ((State.clearKey_keeps ..).step rfl (.refl _ _))

theorem State.discardNs_keeps (s : State) (nsid : Nat) : Keeps 138380304 s (State.discardNs s nsid) := by
  unfold State.discardNs
  split
  · exact .refl _ _
  · extract_lets l1 l2 l3 l7
    have kl1 : Keeps 138380304 s l1 := (State.endCommands_keeps ..).step rfl (.refl _ _)
    have kl2 : Keeps 138380304 s l2 := (State.updWp_keeps ..).step rfl kl1
    have kl3 : Keeps 138380304 s l3 := by
      unfold l3
      refine Keeps.each ?_ ?_
      · exact kl2
      · intro u4 _ hu4
        extract_lets l5 l6
        have kl6 : Keeps 138380304 s l6 := by
          unfold l6
          split
          · exact (State.releaseSets_keeps ..).step rfl hu4
          · exact hu4
        exact (State.clearZone_keeps ..).step rfl kl6
    have kl7 : Keeps 138380304 s l7 := (State.modNv_keeps ..).step rfl kl3
    exact (State.hotDropNs_keeps ..).step rfl ((State.updJr_keeps ..).step rfl kl7)

theorem execGlitchDetectorTrip_keeps (kind : Glitch) (s : State) : KeepsIn atNext 142577041 s (execGlitchDetectorTrip kind s) := by
  unfold execGlitchDetectorTrip
  refine KeepsIn.effect rfl ?_ ?_
  · exact .refl _ _
  · intro u1 hu1
    refine Keeps.ite ?_ ?_
    · exact hu1
    · split
      · exact (State.alarm_keeps ..).step rfl hu1
      · exact (State.alarm_keeps ..).step rfl hu1
      · exact (State.alarm_keeps ..).step rfl hu1

theorem execTamper_keeps (s : State) : KeepsIn atNext 142593425 s (execTamper s) := by
  unfold execTamper
  refine KeepsIn.effect rfl ?_ ?_
  · exact .refl _ _
  · intro u1 hu1
    exact (State.alarm_keeps ..).step rfl ((State.updBoot_keeps ..).step rfl hu1)

theorem execKeyClear_keeps (s : State) : KeepsIn atNext 4196753 s (execKeyClear s) := by
  unfold execKeyClear
  refine KeepsIn.effect rfl ?_ ?_
  · exact .refl _ _
  · intro u1 hu1
    exact (State.keyClear_keeps ..).step rfl hu1

theorem State.forcedChange_keeps (s : State) (k : Nat) (ref : Option CmdRef) : Keeps 142574609 s (State.forcedChange s k ref) := by
  unfold State.forcedChange
  extract_lets l1
  have kl1 : Keeps 142574609 s l1 := by
    unfold l1
    refine Keeps.each ?_ ?_
    · exact .refl _ _
    · intro u2 _ hu2
      exact (State.discardNs_keeps ..).step rfl hu2
  refine (State.updKey_keeps ..).step rfl ?_
  refine Keeps.when ?_ ?_
  · exact kl1
  · intro u3 hu3
    exact (State.set_keeps ..).step rfl hu3

theorem State.keyAccepted_keeps (s : State) (k : Nat) (kind : Nat) (owner : Nat) (key : Nat) : Keeps 142577041 s (State.keyAccepted s k kind owner key) := by
  unfold State.keyAccepted
  extract_lets l1 l2
  have kl2 : Keeps 142577041 s l2 := (State.keyResult_keeps ..).step rfl ((State.putKey_keeps ..).step rfl (.refl _ _))
  refine Keeps.ite ?_ ?_
  · exact (State.forcedChange_keeps ..).step rfl kl2
  · exact kl2

theorem State.keyLoad_keeps (s : State) (kind : Nat) (owner : Nat) (force : Bool) : Keeps 142577041 s (State.keyLoad s kind owner force) := by
  unfold State.keyLoad
  refine Keeps.ite ?_ ?_
  · exact .refl _ _
  · extract_lets l1 l2 l3 l4 l5 l6
    have kl3 : Keeps 142577041 s l3 := (State.wr_keeps ..).step rfl (.refl _ _)
    have kl6 : Keeps 142577041 s l6 := (State.zeroWrap_keeps ..).step rfl kl3
    refine Keeps.ite ?_ ?_
    · exact (State.keyResult_keeps ..).step rfl kl6
    · split
      · exact (State.event_keeps ..).step rfl ((State.bump_keeps ..).step rfl ((State.keyResult_keeps ..).step rfl kl6))
      · exact (State.keyAccepted_keeps ..).step rfl kl6

theorem execKeyLoad_keeps (kind : Nat) (owner : Nat) (force : Bool) (s : State) : KeepsIn atNext 142577041 s (execKeyLoad kind owner force s) := by
  unfold execKeyLoad
  refine KeepsIn.effect rfl ?_ ?_
  · exact .refl _ _
  · intro u1 hu1
    exact (State.keyLoad_keeps ..).step rfl hu1

theorem State.keyGenerate_keeps (s : State) (kind : Nat) (owner : Nat) (force : Bool) : Keeps 142577073 s (State.keyGenerate s kind owner force) := by
  unfold State.keyGenerate
  refine Keeps.ite ?_ ?_
  · exact .refl _ _
  · extract_lets l1 l2 l3 l4 l5
    have kl3 : Keeps 142577073 s l3 := (State.wr_keeps ..).step rfl (.refl _ _)
    have kl5 : KeepsIn atSnd 142577073 s l5 := (State.drbgKey_keeps ..).step rfl kl3
    clear_value l5
    refine Keeps.ite ?_ ?_
    · exact (State.keyResult_keeps ..).step rfl kl3
    · refine (State.keyAccepted_keeps ..).step rfl (KeepsIn.ofSnd ?_)
      exact kl5

theorem execKeyGenerate_keeps (kind : Nat) (owner : Nat) (force : Bool) (s : State) : KeepsIn atNext 142577073 s (execKeyGenerate kind owner force s) := by
  unfold execKeyGenerate
  refine KeepsIn.effect rfl ?_ ?_
  · exact .refl _ _
  · intro u1 hu1
    exact (State.keyGenerate_keeps ..).step rfl hu1

end Sys2Proof.Machine
end

