-- ==== Sys2Proof/Laws/KeepsMeridian.lean ====
section
/-! SUPPORT. What each operation of Machine/Meridian.lean keeps (Laws/Frame.lean). -/

namespace Sys2Proof.Machine

theorem State.markNext_keeps (s : State) : Keeps 32768 s (State.markNext s) := by
  unfold State.markNext
  extract_lets l1 l2 l3 l4 l5
  refine Keeps.each ?_ ?_
  · exact .refl _ _
  · intro u6 _ hu6
    exact (State.markDirty_keeps ..).step rfl hu6

theorem State.sweepUnit_keeps (s : State) (i : Nat) (u : Ru) : Keeps 1018257 s (State.sweepUnit s i u) := by
  unfold State.sweepUnit
  extract_lets l1 l2 l3 l4
  have kl3 : Keeps 1018257 s l3 := by
    unfold l3
    refine Keeps.ite ?_ ?_
    · exact (State.releaseUnit_keeps ..).step rfl (.refl _ _)
    · exact .refl _ _
  have kl4 : Keeps 1018257 s l4 := (State.forgetSet_keeps ..).step rfl ((State.releaseSets_keeps ..).step rfl kl3)
  refine Keeps.ite ?_ ?_
  · exact .refl _ _
  · refine Keeps.ite ?_ ?_
    · exact kl3
    · refine Keeps.ite ?_ ?_
      · refine Keeps.ite ?_ ?_
        · exact (State.startRelocs_keeps ..).step rfl kl3
        · exact kl3
      · refine Keeps.ite ?_ ?_
        · exact kl3
        · exact (State.modNv_keeps ..).step rfl kl4

theorem State.putShares_keeps (s : State) (l : List Nat) : Keeps 1 s (State.putShares s l) := by
  unfold State.putShares
  extract_lets l1 l2
  have kl1 : Keeps 1 s l1 := (State.wr_keeps ..).step rfl ((State.wr_keeps ..).step rfl ((State.wr_keeps ..).step rfl (.refl _ _)))
  have kl2 : Keeps 1 s l2 := (State.wr_keeps ..).step rfl ((State.wr_keeps ..).step rfl ((State.wr_keeps ..).step rfl kl1))
  exact (State.wr_keeps ..).step rfl ((State.wr_keeps ..).step rfl kl2)

theorem State.advanceMseq_keeps (s : State) : Keeps 64 s (State.advanceMseq s) := by
  unfold State.advanceMseq
  exact (State.updTime_keeps ..).step rfl (.refl _ _)

theorem State.startRefresh_keeps (s : State) (set : Nat) : Keeps 1018257 s (State.startRefresh s set) := by
  unfold State.startRefresh
  extract_lets l1
  refine Keeps.ite ?_ ?_
  · exact .refl _ _
  · exact (State.startRelocs_keeps ..).step rfl (.refl _ _)

theorem State.startRefreshes_keeps (s : State) : Keeps 1018257 s (State.startRefreshes s) := by
  unfold State.startRefreshes
  extract_lets l1 l2
  have kl1 : Keeps 1018257 s l1 := (State.updMd_keeps ..).step rfl (.refl _ _)
  have kl2 : Keeps 1018257 s l2 := by
    unfold l2
    refine Keeps.each ?_ ?_
    · exact kl1
    · intro u3 _ hu3
      exact (State.startRefresh_keeps ..).step rfl hu3
  refine Keeps.each ?_ ?_
  · exact kl2
  · intro u4 _ hu4
    split
    · exact (State.startRefresh_keeps ..).step rfl hu4
    · exact hu4

theorem State.sweepUnits_keeps (s : State) : Keeps 1018257 s (State.sweepUnits s) := by
  unfold State.sweepUnits
  refine Keeps.each ?_ ?_
  · exact .refl _ _
  · intro u1 _ hu1
    exact (State.sweepUnit_keeps ..).step rfl hu1

theorem State.predictorMeridian_keeps (s : State) : Keeps 526737 s (State.predictorMeridian s) := by
  unfold State.predictorMeridian
  extract_lets l1
  have kl1 : Keeps 526737 s l1 := (State.updMd_keeps ..).step rfl (.refl _ _)
  refine Keeps.ite ?_ ?_
  · exact (State.event_keeps ..).step rfl kl1
  · exact kl1

theorem State.applyHome_keeps (s : State) (j : Nat) (want : Nat) : Keeps 134220177 s (State.applyHome s j want) := by
  unfold State.applyHome
  extract_lets l1 l2 l3 l4 l5
  have kl4 : Keeps 134220177 s l4 := (State.wr_keeps ..).step rfl (.refl _ _)
  have kl5 : Keeps 134220177 s l5 := (State.updPair_keeps ..).step rfl kl4
  refine Keeps.each ?_ ?_
  · exact kl5
  · intro u6 _ hu6
    exact (State.event_keeps ..).step rfl hu6

theorem State.secureWaiting_keeps (s : State) : Keeps 2449 s (State.secureWaiting s) := by
  unfold State.secureWaiting
  extract_lets l1
  refine Keeps.each ?_ ?_
  · exact .refl _ _
  · intro u2 _ hu2
    exact (State.eventPerMeridian_keeps ..).step rfl hu2

theorem State.resumeTenants_keeps (s : State) : Keeps 8388608 s (State.resumeTenants s) := by
  unfold State.resumeTenants
  exact (State.updTen_keeps ..).step rfl (.refl _ _)

theorem State.placeWrites_keeps (s : State) : Keeps 491520 s (State.placeWrites s) := by
  unfold State.placeWrites
  refine Keeps.each ?_ ?_
  · exact .refl _ _
  · intro u1 _ hu1
    split
    · exact hu1
    · split
      · rename_i p2 p3 e4
        have kp3 : Keeps 491520 s p3 := by
          refine KeepsIn.get ?_ (congrArg atOptSnd e4)
          exact (State.takeSlots_keeps ..).step rfl hu1
        exact Keeps.set_wp rfl kp3
      · exact hu1

theorem State.refreshTokens_keeps (s : State) : Keeps 524288 s (State.refreshTokens s) := by
  unfold State.refreshTokens
  extract_lets l1 l2
  refine Keeps.each ?_ ?_
  · exact .refl _ _
  · intro u3 _ hu3
    exact (State.modDie_keeps ..).step rfl hu3

theorem State.applyQuantum_keeps (s : State) : Keeps 1024 s (State.applyQuantum s) := by
  unfold State.applyQuantum
  exact (State.updQ_keeps ..).step rfl (.refl _ _)

theorem State.applyWeight_keeps (s : State) (owner : Nat) (w : Nat) : Keeps 3473 s (State.applyWeight s owner w) := by
  unfold State.applyWeight
  refine Keeps.ite ?_ ?_
  · exact .refl _ _
  · extract_lets l1
    have kl1 : Keeps 3473 s l1 := (State.updQ_keeps ..).step rfl (.refl _ _)
    exact (State.event_keeps ..).step rfl kl1

theorem State.freeSpace_keeps (s : State) : Keeps 1018257 s (State.freeSpace s) := by
  unfold State.freeSpace
  refine Keeps.ite ?_ ?_
  · exact .refl _ _
  · refine Keeps.each ?_ ?_
    · exact .refl _ _
    · intro u1 _ hu1
      refine Keeps.ite ?_ ?_
      · exact hu1
      · split
        · exact (State.startReloc_keeps ..).step rfl hu1
        · exact hu1

theorem State.lendDie_keeps (s : State) (d : Nat) (old : List (Int × Bool)) : Keeps 524289 s (State.lendDie s d old) := by
  unfold State.lendDie
  refine Keeps.each ?_ ?_
  · exact .refl _ _
  · intro u1 _ hu1
    extract_lets l2
    refine Keeps.ite ?_ ?_
    · exact hu1
    · split
      · exact hu1
      · extract_lets l3
        exact (State.bump_keeps ..).step rfl ((State.addTok_keeps ..).step rfl hu1)

theorem State.applyMode_keeps (s : State) (k : Nat) : Keeps 526737 s (State.applyMode s k) := by
  unfold State.applyMode
  extract_lets l1 l2
  have kl2 : Keeps 526737 s l2 := (State.updMd_keeps ..).step rfl (.refl _ _)
  refine Keeps.ite ?_ ?_
  · exact .refl _ _
  · exact (State.event_keeps ..).step rfl kl2

theorem State.periodEnd_keeps (s : State) : Keeps 2513 s (State.periodEnd s) := by
  unfold State.periodEnd
  extract_lets l1 l2
  have kl2 : Keeps 2513 s l2 := by
    unfold l2
    refine Keeps.ite ?_ ?_
    · exact (State.event_keeps ..).step rfl (.refl _ _)
    · exact .refl _ _
  exact (State.updTime_keeps ..).step rfl kl2

theorem State.applyShares_keeps (s : State) : Keeps 526737 s (State.applyShares s) := by
  unfold State.applyShares
  refine Keeps.ite ?_ ?_
  · exact .refl _ _
  · extract_lets l1 l2 l3 l4
    have kl1 : Keeps 526737 s l1 := (State.set_keeps ..).step rfl (.refl _ _)
    have kl4 : Keeps 526737 s l4 := (State.wr_keeps ..).step rfl kl1
    refine Keeps.ite ?_ ?_
    · exact (State.event_keeps ..).step rfl ((State.updMd_keeps ..).step rfl kl4)
    · exact (State.event_keeps ..).step rfl ((State.putShares_keeps ..).step rfl kl4)

theorem State.consLedgers_keeps (s : State) (k : Nat) : Keeps 524288 s (State.consLedgers s k) := by
  unfold State.consLedgers
  extract_lets l1 l2 l3 l4 l5
  exact (State.updMd_keeps ..).step rfl (.refl _ _)

theorem State.applyHomes_keeps (s : State) : Keeps 134221201 s (State.applyHomes s) := by
  unfold State.applyHomes
  refine State.withAna_keeps rfl ?_ ?_
  · exact .refl _ _
  · intro u1 hu1
    refine Keeps.each ?_ ?_
    · exact hu1
    · intro u2 _ hu2
      exact (State.applyHome_keeps ..).step rfl hu2

theorem State.applyModes_keeps (s : State) : Keeps 526737 s (State.applyModes s) := by
  unfold State.applyModes
  refine (State.complianceUpdate_keeps ..).step rfl ?_
  refine Keeps.each ?_ ?_
  · exact .refl _ _
  · intro u1 _ hu1
    exact (State.applyMode_keeps ..).step rfl hu1

theorem State.applyWeights_keeps (s : State) : Keeps 3473 s (State.applyWeights s) := by
  unfold State.applyWeights
  refine Keeps.each ?_ ?_
  · exact .refl _ _
  · intro u1 _ hu1
    exact (State.applyWeight_keeps ..).step rfl hu1

theorem State.refreshLedgers_keeps (s : State) : Keeps 524288 s (State.refreshLedgers s) := by
  unfold State.refreshLedgers
  refine Keeps.each ?_ ?_
  · exact .refl _ _
  · intro u1 _ hu1
    exact (State.consLedgers_keeps ..).step rfl hu1

theorem State.fullGrants_keeps (s : State) : Keeps 524288 s (State.fullGrants s) := by
  unfold State.fullGrants
  extract_lets l1
  have kl1 : Keeps 524288 s l1 := (State.updMd_keeps ..).step rfl (.refl _ _)
  exact (State.refreshLedgers_keeps ..).step rfl ((State.refreshTokens_keeps ..).step rfl kl1)

theorem State.tokenRefresh_keeps (s : State) : Keeps 524289 s (State.tokenRefresh s) := by
  unfold State.tokenRefresh
  extract_lets l1 l2
  have kl2 : Keeps 524289 s l2 := (State.refreshLedgers_keeps ..).step rfl ((State.refreshTokens_keeps ..).step rfl ((State.updMd_keeps ..).step rfl (.refl _ _)))
  refine Keeps.each ?_ ?_
  · exact kl2
  · intro u3 _ hu3
    exact (State.lendDie_keeps ..).step rfl hu3

theorem State.divide_keeps (s : State) : Keeps 135237009 s (State.divide s) := by
  unfold State.divide
  extract_lets l1 l2 l3
  have kl1 : Keeps 135237009 s l1 := (State.applyModes_keeps ..).step rfl ((State.applyShares_keeps ..).step rfl ((State.applyWeights_keeps ..).step rfl ((State.applyQuantum_keeps ..).step rfl (.refl _ _))))
  have kl2 : Keeps 135237009 s l2 := by
    unfold l2
    refine Keeps.ite ?_ ?_
    · exact kl1
    · exact (State.tokenRefresh_keeps ..).step rfl kl1
  have kl3 : Keeps 135237009 s l3 := (State.applyHomes_keeps ..).step rfl ((State.predictorMeridian_keeps ..).step rfl kl2)
  refine Keeps.ite ?_ ?_
  · exact (State.closeBatch_keeps ..).step rfl ((State.markNext_keeps ..).step rfl ((State.clearDirty_keeps ..).step rfl ((State.duskErase_keeps ..).step rfl ((State.flushSend_keeps ..).step rfl ((State.flushPatches_keeps ..).step rfl ((State.patchChecks_keeps ..).step rfl ((State.placeWrites_keeps ..).step rfl ((State.sweepUnits_keeps ..).step rfl ((State.freeSpace_keeps ..).step rfl ((State.startRefreshes_keeps ..).step rfl kl3))))))))))
  · exact kl3

theorem State.meridian_keeps (s : State) : Keeps 143625681 s (State.meridian s) := by
  unfold State.meridian
  exact (State.resumeTenants_keeps ..).step rfl ((State.secureWaiting_keeps ..).step rfl ((State.divide_keeps ..).step rfl ((State.advanceMseq_keeps ..).step rfl ((State.periodEnd_keeps ..).step rfl (.refl _ _)))))

end Sys2Proof.Machine
end

