-- ==== Sys2Proof/Laws/KeepsQueue.lean ====
section
/-! SUPPORT. What each operation of Machine/Queue.lean keeps (Laws/Frame.lean). -/

namespace Sys2Proof.Machine

theorem State.qcountStart_keeps (s : State) (slot : Nat) (countM1 : Nat) : Keeps 1025 s (State.qcountStart s slot countM1) := by
  unfold State.qcountStart
  refine Keeps.ite ?_ ?_
  · exact .refl _ _
  · extract_lets l1 l2
    have kl1 : Keeps 1025 s l1 := (State.set_keeps ..).step rfl (.refl _ _)
    exact Keeps.set_q rfl kl1

theorem execAggregationTimeExpiry_keeps (owner : Nat) (vector : Nat) (s : State) : KeepsIn atNext 2064 s (execAggregationTimeExpiry owner vector s) := by
  unfold execAggregationTimeExpiry
  refine KeepsIn.effect rfl ?_ ?_
  · exact .refl _ _
  · intro u1 hu1
    refine Keeps.ite ?_ ?_
    · exact (State.msix_keeps ..).step rfl ((State.modCtrl_keeps ..).step rfl hu1)
    · exact hu1

theorem execQcountChange_keeps (slot : Nat) (countM1 : Nat) (s : State) : KeepsIn atNext 1041 s (execQcountChange slot countM1 s) := by
  unfold execQcountChange
  refine KeepsIn.effect rfl ?_ ?_
  · exact .refl _ _
  · intro u1 hu1
    exact (State.qcountStart_keeps ..).step rfl hu1

theorem State.visit_keeps (s : State) (c : Nat) : Keeps 1024 s (State.visit s c) := by
  unfold State.visit
  extract_lets l1 l2 l3
  exact Keeps.set_q rfl (.refl _ _)

theorem State.poolMarks_keeps (s : State) (before : Nat × Nat) : Keeps 2449 s (State.poolMarks s before) := by
  unfold State.poolMarks
  extract_lets l1
  have kl1 : Keeps 2449 s l1 := by
    unfold l1
    refine Keeps.ite ?_ ?_
    · exact (State.event_keeps ..).step rfl (.refl _ _)
    · exact .refl _ _
  refine Keeps.ite ?_ ?_
  · exact (State.event_keeps ..).step rfl kl1
  · exact kl1

theorem State.badDoorbell_keeps (s : State) (kind : Nat) (owner : Nat) (qid : Nat) : Keeps 3473 s (State.badDoorbell s kind owner qid) := by
  unfold State.badDoorbell
  extract_lets l1 l2
  have kl1 : Keeps 3473 s l1 := (State.bump_keeps ..).step rfl (.refl _ _)
  have kl2 : Keeps 3473 s l2 := (State.firstError_keeps ..).step rfl kl1
  exact (State.aen_keeps ..).step rfl ((State.event_keeps ..).step rfl kl2)

theorem State.thirdTier_keeps (s : State) (owner : Nat) : KeepsIn atOptSnd 1024 s (State.thirdTier s owner) := by
  unfold State.thirdTier
  extract_lets l1 l2 l4 l5 l6 l11 l12
  have kl2 : ∀ v0 v1 v2, Keeps 1024 s v0 → KeepsIn atOptSnd 1024 s (l2 v0 v1 v2) := by
    unfold l2
    intro u3 _ _ hu3
    refine KeepsIn.mapOptSnd ?_
    intro _
    exact KeepsIn.leafSnd (Keeps.set_q rfl hu3)
  clear_value l2
  have kl6 : ∀ v0 v1 v2, Keeps 1024 s v0 → KeepsIn atOptSnd 1024 s (l6 v0 v1 v2) := by
    unfold l6
    intro u7 _ _ hu7
    refine KeepsIn.mapOptSnd' ?_ ?_
    · exact kl2 _ _ _ hu7
    · intro p8 hp8
      refine KeepsIn.leafSnd ?_
      extract_lets l9 l10
      have kl9 : Keeps 1024 s l9 := hp8
      exact Keeps.set_q rfl kl9
  clear_value l6
  have kl12 : Keeps 1024 s l12 := Keeps.set_q rfl (.refl _ _)
  refine KeepsIn.ite ?_ ?_
  · exact KeepsIn.leafOptSnd (.refl _ _)
  · refine KeepsIn.ite ?_ ?_
    · exact kl2 _ _ _ (.refl _ _)
    · refine KeepsIn.ite ?_ ?_
      · exact kl2 _ _ _ (.refl _ _)
      · split
        · exact kl6 _ _ _ (.refl _ _)
        · split
          · exact KeepsIn.none rfl
          · exact kl6 _ _ _ kl12

theorem execStampSweep_keeps (s : State) : KeepsIn atNext 3473 s (execStampSweep s) := by
  unfold execStampSweep
  refine KeepsIn.effect rfl ?_ ?_
  · exact .refl _ _
  · intro u1 hu1
    extract_lets l2 l3 l4 l5 l6
    have kl6 : Keeps 3473 s l6 := Keeps.set_q rfl hu1
    refine Keeps.each ?_ ?_
    · exact kl6
    · intro u7 _ hu7
      exact (State.event_keeps ..).step rfl hu7

theorem State.sendPending_keeps (s : State) (o : Nat) : Keeps 2064 s (State.sendPending s o) := by
  unfold State.sendPending
  extract_lets l1
  exact (State.emit_keeps ..).step rfl ((State.modCtrl_keeps ..).step rfl (.refl _ _))

theorem State.lookup_keeps (s : State) (k : Nat) : Keeps 67109889 s (State.lookup s k) := by
  unfold State.lookup
  refine Keeps.ite ?_ ?_
  · exact (State.bumpUnits_keeps ..).step rfl (.refl _ _)
  · exact (State.updQ_keeps ..).step rfl ((State.bumpUnits_keeps ..).step rfl (.refl _ _))

theorem execCqFullWaitExpiry_keeps (owner : Nat) (cqid : Nat) (s : State) : KeepsIn atNext 3473 s (execCqFullWaitExpiry owner cqid s) := by
  unfold execCqFullWaitExpiry
  refine KeepsIn.effect rfl ?_ ?_
  · exact .refl _ _
  · intro u1 hu1
    refine Keeps.ite ?_ ?_
    · exact hu1
    · exact (State.event_keeps ..).step rfl ((State.modCtx_keeps ..).step rfl hu1)

theorem State.doorbell_keeps (s : State) (owner : Nat) (qid : Nat) (a3 : CtxWait) : Keeps 3473 s (State.doorbell s owner qid a3) := by
  unfold State.doorbell
  split
  · extract_lets l1
    refine Keeps.ite ?_ ?_
    · exact (State.modCtx_keeps ..).step rfl (.refl _ _)
    · exact (State.badDoorbell_keeps ..).step rfl (.refl _ _)
  · extract_lets l2
    refine Keeps.ite ?_ ?_
    · exact (State.modCtx_keeps ..).step rfl (.refl _ _)
    · exact (State.badDoorbell_keeps ..).step rfl (.refl _ _)

theorem State.completionInterrupt_keeps (s : State) (owner : Nat) (cqid : Nat) (vector : Nat) (ok : Bool) : Keeps 2064 s (State.completionInterrupt s owner cqid vector ok) := by
  unfold State.completionInterrupt
  extract_lets l1 l2 l3 l4
  refine Keeps.ite ?_ ?_
  · exact (State.modCtrl_keeps ..).step rfl (.refl _ _)
  · exact (State.msix_keeps ..).step rfl ((State.modCtrl_keeps ..).step rfl (.refl _ _))

theorem execQcountChangeDone_keeps (s : State) : KeepsIn atNext 3505 s (execQcountChangeDone s) := by
  unfold execQcountChangeDone
  refine KeepsIn.effect rfl ?_ ?_
  · exact .refl _ _
  · intro u1 hu1
    split
    · exact hu1
    · extract_lets l2 l3 l4 l5 l6 l7
      have kl4 : Keeps 3505 s l4 := Keeps.set_q rfl hu1
      have kl5 : Keeps 3505 s l5 := by
        unfold l5
        refine Keeps.ite ?_ ?_
        · exact (State.holdContexts_keeps ..).step rfl kl4
        · exact kl4
      have kl6 : Keeps 3505 s l6 := (State.wr_keeps ..).step rfl ((State.set_keeps ..).step rfl kl5)
      have kl7 : Keeps 3505 s l7 := (State.wr_keeps ..).step rfl ((State.wr_keeps ..).step rfl kl6)
      refine Keeps.ite ?_ ?_
      · exact (State.event_keeps ..).step rfl ((State.aen_keeps ..).step rfl ((State.nextFree_keeps ..).step rfl kl7))
      · exact (State.event_keeps ..).step rfl kl7

theorem State.issueFetch_keeps (s : State) (owner : Nat) (qid : Nat) : Keeps 67109905 s (State.issueFetch s owner qid) := by
  unfold State.issueFetch
  extract_lets l1
  exact (State.emit_keeps ..).step rfl ((State.modCtx_keeps ..).step rfl ((State.lookup_keeps ..).step rfl (.refl _ _)))

theorem State.startCommand_keeps (s : State) (owner : Nat) (qid : Nat) (st : Option Stamp) (e : Sqe) : Keeps 1024 s (State.startCommand s owner qid st e) := by
  unfold State.startCommand
  extract_lets l1 l2 l3 l4 l5 l6 l7 l8 l9
  have kl9 : Keeps 1024 s l9 := Keeps.set_q rfl (.refl _ _)
  refine Keeps.ite ?_ ?_
  · exact (State.finish_keeps ..).step rfl kl9
  · refine Keeps.ite ?_ ?_
    · exact kl9
    · exact (State.finish_keeps ..).step rfl kl9

theorem State.limitWrite_keeps (s : State) (slot : Nat) (v : Nat) : Keeps 3473 s (State.limitWrite s slot v) := by
  unfold State.limitWrite
  refine Keeps.ite ?_ ?_
  · exact .refl _ _
  · refine Keeps.ite ?_ ?_
    · exact Keeps.set_q rfl (.refl _ _)
    · exact (State.event_keeps ..).step rfl (.refl _ _)

theorem State.writeBackCtx_keeps (s : State) (k : Nat) : Keeps 1024 s (State.writeBackCtx s k) := by
  unfold State.writeBackCtx
  split
  · exact (State.updQ_keeps ..).step rfl (.refl _ _)
  · exact .refl _ _

theorem State.cache_keeps (s : State) (k : Nat) : Keeps 1024 s (State.cache s k) := by
  unfold State.cache
  refine Keeps.ite ?_ ?_
  · exact .refl _ _
  · refine Keeps.ite ?_ ?_
    · exact (State.updQ_keeps ..).step rfl (.refl _ _)
    · split
      · exact (State.updQ_keeps ..).step rfl ((State.writeBackCtx_keeps ..).step rfl (.refl _ _))
      · exact .refl _ _

theorem State.fetched_keeps (s : State) (owner : Nat) (qid : Nat) (entries : Option (List Sqe)) : Keeps 3473 s (State.fetched s owner qid entries) := by
  unfold State.fetched
  extract_lets l1 l2 l3 l4
  refine Keeps.ite ?_ ?_
  · exact .refl _ _
  · split
    · exact (State.fatal_keeps ..).step rfl ((State.event_keeps ..).step rfl ((State.modCtx_keeps ..).step rfl (.refl _ _)))
    · extract_lets l5 l6 l7 l8 l10 l11 l12 l13 l14
      have kl6 : Keeps 3473 s l6 := by
        unfold l6
        refine Keeps.ite ?_ ?_
        · exact Keeps.set_q rfl (.refl _ _)
        · exact .refl _ _
      have kl8 : Keeps 3473 s l8 := by
        unfold l8
        refine Keeps.each ?_ ?_
        · exact kl6
        · intro u9 _ hu9
          exact (State.startCommand_keeps ..).step rfl hu9
      have kl11 : Keeps 3473 s l11 := (State.modCtx_keeps ..).step rfl kl8
      have kl13 : Keeps 3473 s l13 := by
        unfold l13
        refine Keeps.ite ?_ ?_
        · exact kl11
        · exact Keeps.set_q rfl kl11
      have kl14 : Keeps 3473 s l14 := (State.poolMarks_keeps ..).step rfl kl13
      refine Keeps.ite ?_ ?_
      · exact (State.eventPerMeridian_keeps ..).step rfl kl14
      · exact kl14

theorem State.maskWrite_keeps (s : State) (o : Nat) (w : MsixWrite) : Keeps 2064 s (State.maskWrite s o w) := by
  unfold State.maskWrite
  refine Keeps.ite ?_ ?_
  · exact .refl _ _
  · split
    · refine Keeps.ite ?_ ?_
      · exact .refl _ _
      · exact (State.sendPending_keeps ..).step rfl ((State.modCtrl_keeps ..).step rfl (.refl _ _))
    · exact (State.sendPending_keeps ..).step rfl ((State.modCtrl_keeps ..).step rfl (.refl _ _))

theorem State.doorbellIn_keeps (s : State) (owner : Nat) (qid : Nat) (w : CtxWait) (exists_ : Bool) : Keeps 67116433 s (State.doorbellIn s owner qid w exists_) := by
  unfold State.doorbellIn
  refine Keeps.ite ?_ ?_
  · exact .refl _ _
  · extract_lets l1 l2 l3
    have kl2 : Keeps 67116433 s l2 := (State.powerExit_keeps ..).step rfl (.refl _ _)
    refine Keeps.ite ?_ ?_
    · exact (State.bump_keeps ..).step rfl (.refl _ _)
    · refine Keeps.ite ?_ ?_
      · exact (State.badDoorbell_keeps ..).step rfl (.refl _ _)
      · refine Keeps.ite ?_ ?_
        · exact (State.badDoorbell_keeps ..).step rfl (.refl _ _)
        · refine Keeps.ite ?_ ?_
          · exact (State.doorbell_keeps ..).step rfl ((State.lookup_keeps ..).step rfl kl2)
          · exact (State.updQ_keeps ..).step rfl ((State.lookup_keeps ..).step rfl kl2)

theorem execVectorUnmask_keeps (fn : Fn) (w : MsixWrite) (s : State) : KeepsIn atNext 2064 s (execVectorUnmask fn w s) := by
  unfold execVectorUnmask
  refine KeepsIn.effect rfl ?_ ?_
  · exact .refl _ _
  · intro u1 hu1
    exact (State.maskWrite_keeps ..).step rfl hu1

theorem execCqHeadDoorbell_keeps (owner : Nat) (qid : Nat) (head : Nat) (s : State) : KeepsIn atNext 67116433 s (execCqHeadDoorbell owner qid head s) := by
  unfold execCqHeadDoorbell
  refine KeepsIn.effect rfl ?_ ?_
  · exact .refl _ _
  · intro u1 hu1
    extract_lets l2
    have kl2 : Keeps 67116433 s l2 := (State.doorbellIn_keeps ..).step rfl hu1
    refine Keeps.ite ?_ ?_
    · exact (State.modCtx_keeps ..).step rfl kl2
    · exact kl2

theorem execQengTenLimitWrite_keeps (slot : Nat) (limit : Nat) (s : State) : KeepsIn atNext 3473 s (execQengTenLimitWrite slot limit s) := by
  unfold execQengTenLimitWrite
  refine KeepsIn.effect rfl ?_ ?_
  · exact .refl _ _
  · intro u1 hu1
    exact (State.limitWrite_keeps ..).step rfl hu1

theorem State.round_keeps (l : List Nat) : ∀ (s : State), KeepsIn atOpt 67109905 s (State.round s l) := by
  induction l with
  | nil => exact fun s => KeepsIn.none rfl
  | cons c l ih =>
    intro s
    unfold State.round
    extract_lets t
    have kt : Keeps 67109905 s t := (State.visit_keeps ..).step rfl (.refl _ _)
    refine KeepsIn.ite ?_ ?_
    · exact KeepsIn.mapOpt' ((State.thirdTier_keeps ..).step rfl kt) fun x hx => (State.issueFetch_keeps ..).step rfl hx
    · split
      · rename_i u e
        exact KeepsIn.leaf rfl ((KeepsIn.get (ih t) (congrArg atOpt e)).step rfl kt)
      · exact KeepsIn.leaf rfl kt

theorem execContextFill_keeps (owner : Nat) (qid : Nat) (s : State) : KeepsIn atNext 3473 s (execContextFill owner qid s) := by
  unfold execContextFill
  refine KeepsIn.effect rfl ?_ ?_
  · exact .refl _ _
  · intro u1 hu1
    extract_lets l2 l3 l4
    have kl4 : Keeps 3473 s l4 := (State.updQ_keeps ..).step rfl ((State.cache_keeps ..).step rfl hu1)
    refine Keeps.ite ?_ ?_
    · exact hu1
    · refine Keeps.each ?_ ?_
      · exact kl4
      · intro u5 _ hu5
        exact (State.doorbell_keeps ..).step rfl hu5

theorem State.writeBackAll_keeps (s : State) : Keeps 1024 s (State.writeBackAll s) := by
  unfold State.writeBackAll
  refine Keeps.each ?_ ?_
  · exact .refl _ _
  · intro u1 _ hu1
    exact (State.writeBackCtx_keeps ..).step rfl hu1

theorem execSqTailDoorbell_keeps (owner : Nat) (qid : Nat) (tail : Nat) (s : State) : KeepsIn atNext 67116433 s (execSqTailDoorbell owner qid tail s) := by
  unfold execSqTailDoorbell
  refine KeepsIn.effect rfl ?_ ?_
  · exact .refl _ _
  · intro u1 hu1
    exact (State.doorbellIn_keeps ..).step rfl hu1

theorem execFetchReadComplete_keeps (owner : Nat) (qid : Nat) (entries : Option (List Sqe)) (s : State) : KeepsIn atNext 3473 s (execFetchReadComplete owner qid entries s) := by
  unfold execFetchReadComplete
  refine KeepsIn.effect rfl ?_ ?_
  · exact .refl _ _
  · intro u1 hu1
    exact (State.fetched_keeps ..).step rfl hu1

theorem State.fetchOne_keeps (s : State) : Keeps 67109905 s (State.fetchOne s) := by
  unfold State.fetchOne
  extract_lets first src has l
  split
  · extract_lets t
    have kt : Keeps 67109905 s t := Keeps.set_q rfl (.refl _ _)
    exact (State.issueFetch_keeps ..).step rfl kt
  · refine Keeps.ite ?_ ?_
    · split
      · rename_i r e
        have kr : Keeps 67109905 s r.2 := KeepsIn.get ((State.thirdTier_keeps ..).step rfl (.refl _ _)) (congrArg atOptSnd e)
        exact (State.issueFetch_keeps ..).step rfl kr
      · exact .refl _ _
    · exact KeepsIn.getD ((State.round_keeps ..).step rfl (.refl _ _)) (.refl _ _)

theorem execFetch_keeps (s : State) : KeepsIn atNext 67109905 s (execFetch s) := by
  unfold execFetch
  refine KeepsIn.effect rfl ?_ ?_
  · exact .refl _ _
  · intro u1 hu1
    exact (State.fetchOne_keeps ..).step rfl hu1

end Sys2Proof.Machine
end

