-- ==== Sys2Proof/Laws/KeepsCells.lean ====
section
/-! SUPPORT. What each operation of Machine/Cells.lean keeps (Laws/Frame.lean). -/

namespace Sys2Proof.Machine

theorem State.cellMarks_keeps (s : State) (p : Nat) (g : Nat) (r : Nat) : Keeps 16779665 s (State.cellMarks s p g r) := by
  unfold State.cellMarks
  extract_lets l1 l2 l3 l4
  have kl3 : Keeps 16779665 s l3 := (State.updCell_keeps ..).step rfl (.refl _ _)
  have kl4 : Keeps 16779665 s l4 := by
    unfold l4
    refine Keeps.ite ?_ ?_
    · exact (State.event_keeps ..).step rfl kl3
    · exact kl3
  refine Keeps.ite ?_ ?_
  · exact (State.event_keeps ..).step rfl kl4
  · exact kl4

theorem State.setWholeQueue_keeps (s : State) (p : Nat) (l : List WholeWait) : Keeps 16777216 s (State.setWholeQueue s p l) := by
  unfold State.setWholeQueue
  exact (State.updCell_keeps ..).step rfl (.refl _ _)

theorem State.cellsReset_keeps (s : State) : Keeps 16777217 s (State.cellsReset s) := by
  unfold State.cellsReset
  exact (State.wr_keeps ..).step rfl ((State.updCell_keeps ..).step rfl (.refl _ _))

theorem execWholeBufferHold_keeps (pool : Nat) (s : State) : KeepsIn atNext 16779665 s (execWholeBufferHold pool s) := by
  unfold execWholeBufferHold
  refine KeepsIn.effect rfl ?_ ?_
  · exact .refl _ _
  · intro u1 hu1
    refine Keeps.ite ?_ ?_
    · exact hu1
    · exact (State.event_keeps ..).step rfl ((State.bump_keeps ..).step rfl ((State.updCell_keeps ..).step rfl hu1))

theorem State.freeOne_keeps (s : State) (h : Nat) : Keeps 16777216 s (State.freeOne s h) := by
  unfold State.freeOne
  extract_lets l1
  exact (State.updCell_keeps ..).step rfl (.refl _ _)

theorem State.cellRefuse_keeps (s : State) (kind : Nat) (requester : Nat) (h : Nat) : Keeps 2449 s (State.cellRefuse s kind requester h) := by
  unfold State.cellRefuse
  extract_lets l1 l2 l3
  have kl1 : Keeps 2449 s l1 := (State.bump_keeps ..).step rfl (.refl _ _)
  have kl2 : Keeps 2449 s l2 := (State.firstError_keeps ..).step rfl kl1
  split
  · exact (State.eventPer_keeps ..).step rfl kl2
  · exact (State.eventPer_keeps ..).step rfl kl2

theorem State.withdrawCell_keeps (s : State) (h : Nat) (requester : Nat) : Keeps 16779665 s (State.withdrawCell s h requester) := by
  unfold State.withdrawCell
  extract_lets l1 l2 l3 l4
  have kl1 : Keeps 16779665 s l1 := (State.updCell_keeps ..).step rfl (.refl _ _)
  have kl2 : Keeps 16779665 s l2 := (State.bump_keeps ..).step rfl ((State.bump_keeps ..).step rfl kl1)
  have kl4 : Keeps 16779665 s l4 := (State.firstError_keeps ..).step rfl kl2
  exact (State.eventPer_keeps ..).step rfl kl4

theorem State.fellBack_keeps (s : State) (p : Nat) : Keeps 67108865 s (State.fellBack s p) := by
  unfold State.fellBack
  exact (State.bumpUnits_keeps ..).step rfl (.refl _ _)

theorem State.headServed_keeps (s : State) (p : Nat) : Keeps 16777216 s (State.headServed s p) := by
  unfold State.headServed
  exact (State.updCell_keeps ..).step rfl ((State.setWholeQueue_keeps ..).step rfl (.refl _ _))

theorem State.takeCell_keeps (s : State) (p : Nat) (fromReserve : Bool) (next : Nat) (fill : Nat) : KeepsIn atOptSnd 16779665 s (State.takeCell s p fromReserve next fill) := by
  unfold State.takeCell
  split
  · exact KeepsIn.none rfl
  · extract_lets l1 l2 l3 l4
    have kl4 : Keeps 16779665 s l4 := (State.updCell_keeps ..).step rfl (.refl _ _)
    exact KeepsIn.leafOptSnd ((State.cellMarks_keeps ..).step rfl kl4)

theorem State.allocate_keeps (reserve : Bool) (l : List Nat) :
    ∀ (s : State), KeepsIn atOptSnd 83888529 s (State.allocate s reserve l) := by
  induction l with
  | nil => exact fun s => KeepsIn.none rfl
  | cons p l ih =>
    intro s
    unfold State.allocate
    extract_lets take
    have kt : KeepsIn atOptSnd 83888529 s take :=
      KeepsIn.ite ((State.takeCell_keeps ..).step rfl (.refl _ _))
        (KeepsIn.ite ((State.takeCell_keeps ..).step rfl (.refl _ _)) (KeepsIn.none rfl))
    clear_value take
    split
    · exact kt
    · exact (ih _).step rfl (Keeps.ite (.refl _ _) ((State.fellBack_keeps ..).step rfl (.refl _ _)))

theorem State.walk_keeps (release : Bool) (requester fuel : Nat) :
    ∀ (s : State) (bad : Option Nat) (h : Nat), KeepsIn atFst 16779665 s (State.walk s release requester bad fuel h) := by
  induction fuel with
  | zero => exact fun s _ _ => KeepsIn.leaf rfl (.refl _ _)
  | succ fuel ih =>
    intro s bad h
    unfold State.walk
    refine KeepsIn.ite (KeepsIn.leaf rfl (.refl _ _)) ?_
    refine KeepsIn.ite (KeepsIn.leaf rfl ((State.cellRefuse_keeps ..).step rfl (.refl _ _))) ?_
    refine KeepsIn.ite (KeepsIn.leaf rfl ((State.withdrawCell_keeps ..).step rfl (.refl _ _))) ?_
    split
    · exact KeepsIn.leaf rfl ((State.cellRefuse_keeps ..).step rfl (.refl _ _))
    · refine KeepsIn.ite ?_ ?_
      · extract_lets t
        have kt : Keeps 16779665 s t := Keeps.ite ((State.freeOne_keeps ..).step rfl (.refl _ _))
          ((State.updCell_keeps ..).step rfl (.refl _ _))
        exact (ih _ _ _).step rfl kt
      · refine KeepsIn.ite (KeepsIn.leaf rfl ((State.cellRefuse_keeps ..).step rfl (.refl _ _))) ?_
        extract_lets t
        have kt : Keeps 16779665 s t := (State.updCell_keeps ..).step rfl (.refl _ _)
        exact (ih _ _ _).step rfl kt

theorem State.leavePoolQueue_keeps (s : State) (p : Nat) (i : Nat) : Keeps 16777216 s (State.leavePoolQueue s p i) := by
  unfold State.leavePoolQueue
  refine Keeps.ite ?_ ?_
  · exact (State.headServed_keeps ..).step rfl (.refl _ _)
  · exact (State.setWholeQueue_keeps ..).step rfl (.refl _ _)

theorem State.takeChain_keeps (p : Nat) (reserve : Bool) (k : Nat) :
    ∀ (s : State) (next bytes : Nat), KeepsIn atSnd 16779665 s (State.takeChain s p reserve next bytes k) := by
  induction k with
  | zero => exact fun s _ _ => KeepsIn.leaf rfl (.refl _ _)
  | succ k ih =>
    intro s next bytes
    unfold State.takeChain
    extract_lets fill
    split
    · rename_i h t e
      exact (ih t _ _).step rfl (KeepsIn.get ((State.takeCell_keeps ..).step rfl (.refl _ _)) (congrArg atOptSnd e))
    · exact KeepsIn.leaf rfl (.refl _ _)

theorem execCellAllocate_keeps (requester : Nat) (reserve : Bool) (pool : Nat) (s : State) : KeepsIn atNext 83888529 s (execCellAllocate requester reserve pool s) := by
  unfold execCellAllocate
  refine KeepsIn.effect rfl ?_ ?_
  · exact .refl _ _
  · intro u1 hu1
    split
    · rename_i p2 p3 e4
      have kp3 : Keeps 83888529 s p3 := by
        refine KeepsIn.get ?_ (congrArg atOptSnd e4)
        exact (State.allocate_keeps ..).step rfl hu1
      exact (State.emit_keeps ..).step rfl kp3
    · exact (State.bumpUnits_keeps ..).step rfl hu1

theorem State.wholeBuffer_keeps (s : State) (p : Nat) (n : Nat) (reserve : Bool) (head : Bool) (bytes : Nat) : KeepsIn atOptSnd 83888529 s (State.wholeBuffer s p n reserve head bytes) := by
  unfold State.wholeBuffer
  refine KeepsIn.ite ?_ ?_
  · refine KeepsIn.someSnd ?_
    exact (State.takeChain_keeps ..).step rfl (.refl _ _)
  · refine KeepsIn.ite ?_ ?_
    · refine KeepsIn.someSnd ?_
      exact (State.takeChain_keeps ..).step rfl ((State.fellBack_keeps ..).step rfl (.refl _ _))
    · exact KeepsIn.none rfl

theorem State.serveGeneral_keeps (p fuel : Nat) : ∀ (s : State), Keeps 83888529 s (State.serveGeneral s p fuel) := by
  induction fuel with
  | zero => exact fun s => .refl _ _
  | succ fuel ih =>
    intro s
    unfold State.serveGeneral
    split
    · exact .refl _ _
    · refine Keeps.ite (.refl _ _) ?_
      split
      · rename_i h t e
        have kt : Keeps 83888529 s t := KeepsIn.get ((State.wholeBuffer_keeps ..).step rfl (.refl _ _)) (congrArg atOptSnd e)
        exact (ih _).step rfl ((State.emit_keeps ..).step rfl ((State.headServed_keeps ..).step rfl kt))
      · exact .refl _ _

theorem State.serveReserve_keeps (p fuel : Nat) : ∀ (s : State), Keeps 83888529 s (State.serveReserve s p fuel) := by
  induction fuel with
  | zero => exact fun s => .refl _ _
  | succ fuel ih =>
    intro s
    unfold State.serveReserve
    split
    · exact .refl _ _
    · extract_lets w
      split
      · rename_i h t e
        have kt : Keeps 83888529 s t := KeepsIn.get ((State.wholeBuffer_keeps ..).step rfl (.refl _ _)) (congrArg atOptSnd e)
        exact (ih _).step rfl ((State.emit_keeps ..).step rfl ((State.leavePoolQueue_keeps ..).step rfl kt))
      · exact .refl _ _

theorem execWholeBufferAllocate_keeps (requester : Nat) (reserve : Bool) (pool : Nat) (cells : Nat) (s : State) : KeepsIn atNext 83888529 s (execWholeBufferAllocate requester reserve pool cells s) := by
  unfold execWholeBufferAllocate
  refine KeepsIn.effect rfl ?_ ?_
  · exact .refl _ _
  · intro u1 hu1
    refine Keeps.ite ?_ ?_
    · exact hu1
    · extract_lets l2 l3
      split
      · rename_i p4 p5 e6
        have kp5 : Keeps 83888529 s p5 := by
          refine KeepsIn.get ?_ (congrArg atOptSnd e6)
          refine KeepsIn.ite ?_ ?_
          · exact KeepsIn.none rfl
          · exact (State.wholeBuffer_keeps ..).step rfl hu1
        exact (State.emit_keeps ..).step rfl kp5
      · exact (State.bumpUnits_keeps ..).step rfl ((State.setWholeQueue_keeps ..).step rfl hu1)

theorem State.serveQueue_keeps (s : State) (p : Nat) (n : Nat) : Keeps 83888529 s (State.serveQueue s p n) := by
  unfold State.serveQueue
  exact (State.serveGeneral_keeps ..).step rfl ((State.serveReserve_keeps ..).step rfl (.refl _ _))

theorem State.cellsFreed_keeps (s : State) : Keeps 83888529 s (State.cellsFreed s) := by
  unfold State.cellsFreed
  refine Keeps.each ?_ ?_
  · exact .refl _ _
  · intro u1 _ hu1
    exact (State.serveQueue_keeps ..).step rfl hu1

theorem State.releaseChain_keeps (s : State) (requester : Nat) (h : Nat) : Keeps 83888529 s (State.releaseChain s requester h) := by
  unfold State.releaseChain
  refine (State.cellsFreed_keeps ..).step rfl (KeepsIn.ofFst ?_)
  exact (State.walk_keeps ..).step rfl (.refl _ _)

end Sys2Proof.Machine
end

