-- ==== Sys2Proof/Laws/KeepsServe.lean ====
section
/-! SUPPORT. What each operation of Machine/Serve.lean keeps (Laws/Frame.lean). -/

namespace Sys2Proof.Machine

theorem State.atStep_keeps {n₀ : Nat} {s₀ : State} {s : State} {r : CmdRef} {f : Run1 → Nat → ServeStep → State} (_hm : 0 ||| n₀ = n₀) (h₀ : Keeps n₀ s₀ s) (hf : ∀ v0 v1 v2, Keeps n₀ s₀ (f v0 v1 v2)) : Keeps n₀ s₀ (State.atStep s r f) := by
  unfold State.atStep
  split
  · exact h₀
  · refine Keeps.ite ?_ ?_
    · exact hf _ _ _
    · exact h₀

theorem execServeSlotLoad_keeps (slot : Nat) (owner : Nat) (s : State) : KeepsIn atNext 2099601 s (execServeSlotLoad slot owner s) := by
  unfold execServeSlotLoad
  refine KeepsIn.effect rfl ?_ ?_
  · exact .refl _ _
  · intro u1 hu1
    extract_lets l2 l3 l4
    have kl4 : Keeps 2099601 s l4 := (State.wr_keeps ..).step rfl hu1
    refine Keeps.ite ?_ ?_
    · exact (State.wr_keeps ..).step rfl kl4
    · split
      · exact (State.wr_keeps ..).step rfl kl4
      · refine Keeps.ite ?_ ?_
        · exact (State.event_keeps ..).step rfl ((State.wr_keeps ..).step rfl ((State.updServe_keeps ..).step rfl kl4))
        · exact (State.wr_keeps ..).step rfl kl4

theorem execServeSlotClear_keeps (slot : Nat) (s : State) : KeepsIn atNext 2099601 s (execServeSlotClear slot s) := by
  unfold execServeSlotClear
  refine KeepsIn.effect rfl ?_ ?_
  · exact .refl _ _
  · intro u1 hu1
    exact (State.event_keeps ..).step rfl ((State.wr_keeps ..).step rfl ((State.wr_keeps ..).step rfl ((State.updServe_keeps ..).step rfl hu1)))

theorem State.allocBufs_keeps (head : Option Nat) (l : List Nat) :
    ∀ (s : State), KeepsIn atInl 83888529 s (State.allocBufs s head l) := by
  induction l with
  | nil => exact fun s => KeepsIn.leaf rfl (.refl _ _)
  | cons n l ih =>
    intro s
    unfold State.allocBufs
    split
    · rename_i h; cases h
    · rename_i h; cases h
      split
      · rename_i cs t e
        exact KeepsIn.leaf rfl ((ih s).get (congrArg atInl e))
      · exact KeepsIn.none rfl
    · rename_i h; cases h
      extract_lets p mine got
      have kg : KeepsIn atOptSnd 83888529 s got :=
        KeepsIn.ite ((State.wholeBuffer_keeps ..).step rfl (.refl _ _)) (KeepsIn.none rfl)
      clear_value got
      split
      · exact KeepsIn.none rfl
      · rename_i h t
        have kt : Keeps 83888529 s t := kg.get rfl
        split
        · rename_i cs u e'
          exact KeepsIn.leaf rfl (((ih t).get (congrArg atInl e')).step rfl kt)
        · exact KeepsIn.none rfl

theorem State.dropRun_keeps (s : State) (r : CmdRef) : Keeps 87558545 s (State.dropRun s r) := by
  unfold State.dropRun
  extract_lets l1 l2 l3 l4 l5 l6 l7
  have kl2 : Keeps 87558545 s l2 := (State.unsend_keeps ..).step rfl (.refl _ _)
  have kl4 : Keeps 87558545 s l4 := (State.updServe_keeps ..).step rfl kl2
  have kl5 : Keeps 87558545 s l5 := (State.updMd_keeps ..).step rfl kl4
  have kl6 : Keeps 87558545 s l6 := (State.updCell_keeps ..).step rfl kl5
  have kl7 : Keeps 87558545 s l7 := (State.updCell_keeps ..).step rfl kl6
  refine (State.cellsFreed_keeps ..).step rfl ?_
  refine Keeps.each ?_ ?_
  · exact kl7
  · intro u8 _ hu8
    refine Keeps.ite ?_ ?_
    · exact hu8
    · refine KeepsIn.ofFst ?_
      exact (State.walk_keeps ..).step rfl hu8

theorem State.modRun_keeps (s : State) (r : CmdRef) (f : Run1 → Run1) : Keeps 2097152 s (State.modRun s r f) := by
  unfold State.modRun
  exact (State.updServe_keeps ..).step rfl (.refl _ _)

theorem State.stepDone_keeps (s : State) (r : CmdRef) : Keeps 2097152 s (State.stepDone s r) := by
  unfold State.stepDone
  exact (State.modRun_keeps ..).step rfl (.refl _ _)

theorem State.giveBuffers_keeps (s : State) (r : CmdRef) : Keeps 85986705 s (State.giveBuffers s r) := by
  unfold State.giveBuffers
  split
  · exact .refl _ _
  · refine Keeps.ite ?_ ?_
    · exact .refl _ _
    · extract_lets l1 l2 l3
      have kl2 : Keeps 85986705 s l2 := (State.bumpUnits_keeps ..).step rfl (.refl _ _)
      have kl3 : Keeps 85986705 s l3 := by
        unfold l3
        unfold l1
        split
        · exact (State.headServed_keeps ..).step rfl kl2
        · exact kl2
      split
      · rename_i p4 p5 e6
        have kp5 : Keeps 85986705 s p5 := by
          refine KeepsIn.get ?_ (congrArg atInl e6)
          exact (State.allocBufs_keeps ..).step rfl (.refl _ _)
        extract_lets l7
        have kl7 : Keeps 85986705 s l7 := by
          unfold l7
          unfold l1
          split
          · exact (State.headServed_keeps ..).step rfl kp5
          · exact kp5
        exact (State.accept_keeps ..).step rfl ((State.modRun_keeps ..).step rfl kl7)
      · refine Keeps.ite ?_ ?_
        · exact kl2
        · exact (State.setWholeQueue_keeps ..).step rfl kl3

theorem State.setBuf_keeps (s : State) (r : CmdRef) (b : Nat) (v : Nat) : Keeps 2097152 s (State.setBuf s r b v) := by
  unfold State.setBuf
  exact (State.modRun_keeps ..).step rfl (.refl _ _)

theorem State.serveStop_keeps (s : State) (r : CmdRef) : Keeps 87558545 s (State.serveStop s r) := by
  unfold State.serveStop
  refine Keeps.ite ?_ ?_
  · exact (State.dropRun_keeps ..).step rfl (.refl _ _)
  · exact (State.event_keeps ..).step rfl ((State.dropRun_keeps ..).step rfl (.refl _ _))

theorem State.measureGather_keeps (s : State) (r : CmdRef) (last : Bool) : Keeps 2623889 s (State.measureGather s r last) := by
  unfold State.measureGather
  split
  · extract_lets l1
    refine Keeps.ite ?_ ?_
    · exact .refl _ _
    · exact (State.modRun_keeps ..).step rfl ((State.measure_keeps ..).step rfl (.refl _ _))
  · exact .refl _ _

theorem State.emitStep_keeps (s : State) (r : CmdRef) : Keeps 2097152 s (State.emitStep s r) := by
  unfold State.emitStep
  refine State.atStep_keeps rfl ?_ ?_
  · exact .refl _ _
  · intro _ _ _
    split
    · exact (State.stepDone_keeps ..).step rfl ((State.setBuf_keeps ..).step rfl (.refl _ _))
    · exact .refl _ _

theorem execEmit_keeps (ref : CmdRef) (s : State) : KeepsIn atNext 2097168 s (execEmit ref s) := by
  unfold execEmit
  refine KeepsIn.effect rfl ?_ ?_
  · exact .refl _ _
  · intro u1 hu1
    exact (State.emitStep_keeps ..).step rfl hu1

theorem State.serveFails_keeps (s : State) (r : CmdRef) (st : Status) (ev : Nat) (pos : Nat) (op : Nat) : Keeps 87559569 s (State.serveFails s r st ev pos op) := by
  unfold State.serveFails
  extract_lets l1 l2 l3
  have kl1 : Keeps 87559569 s l1 := by
    unfold l1
    refine Keeps.ite ?_ ?_
    · exact (State.measureGather_keeps ..).step rfl (.refl _ _)
    · exact .refl _ _
  have kl2 : Keeps 87559569 s l2 := (State.firstError_keeps ..).step rfl kl1
  have kl3 : Keeps 87559569 s l3 := (State.finish_keeps ..).step rfl ((State.event_keeps ..).step rfl ((State.bump_keeps ..).step rfl kl2))
  exact (State.dropRun_keeps ..).step rfl kl3

theorem State.gatherNext_keeps (s : State) (r : CmdRef) (nsid : Nat) (hot : Bool) : Keeps 3968401 s (State.gatherNext s r nsid hot) := by
  unfold State.gatherNext
  split
  · exact .refl _ _
  · split
    · exact .refl _ _
    · exact (State.stepDone_keeps ..).step rfl ((State.measureGather_keeps ..).step rfl (.refl _ _))
    · split
      · exact (State.endRead_keeps ..).step rfl (.refl _ _)
      · refine Keeps.ite ?_ ?_
        · exact (State.endRead_keeps ..).step rfl (.refl _ _)
        · refine Keeps.ite ?_ ?_
          · exact (State.endRead_keeps ..).step rfl (.refl _ _)
          · exact (State.readBlocks_keeps ..).step rfl (.refl _ _)

theorem State.gatherTake_keeps (s : State) (r : CmdRef) (x : Run1) (pos : Nat) (b : Nat) (nsid : Nat) (hot : Bool) (egress : Option (Nat × Nat)) : Keeps 121408913 s (State.gatherTake s r x pos b nsid hot egress) := by
  unfold State.gatherTake
  split
  · exact .refl _ _
  · extract_lets l1 l2 l3 l4 l5
    have kl1 : Keeps 121408913 s l1 := (State.updServe_keeps ..).step rfl (.refl _ _)
    have kl4 : Keeps 121408913 s l4 := (State.setBuf_keeps ..).step rfl kl1
    have kl5 : Keeps 121408913 s l5 := (State.modRun_keeps ..).step rfl kl4
    refine Keeps.ite ?_ ?_
    · exact (State.serveFails_keeps ..).step rfl kl1
    · split
      · extract_lets l6
        have kl6 : KeepsIn atSnd 121408913 s l6 := (State.egressFails_keeps ..).step rfl ((State.updDram_keeps ..).step rfl kl1)
        clear_value l6
        refine (State.serveFails_keeps ..).step rfl (KeepsIn.ofSnd ?_)
        exact kl6
      · exact (State.gatherNext_keeps ..).step rfl kl5

theorem State.sendStep_keeps (s : State) (r : CmdRef) : Keeps 87559569 s (State.sendStep s r) := by
  unfold State.sendStep
  refine State.atStep_keeps rfl ?_ ?_
  · exact .refl _ _
  · intro _ _ _
    split
    · extract_lets l1 l2
      refine Keeps.ite ?_ ?_
      · exact (State.serveFails_keeps ..).step rfl (.refl _ _)
      · split
        · exact (State.serveFails_keeps ..).step rfl (.refl _ _)
        · refine Keeps.ite ?_ ?_
          · exact .refl _ _
          · exact (State.modRun_keeps ..).step rfl ((State.queueMsgs_keeps ..).step rfl (.refl _ _))
    · exact .refl _ _

theorem State.gather_keeps (s : State) (r : CmdRef) (egress : Option (Nat × Nat)) : Keeps 121408913 s (State.gather s r egress) := by
  unfold State.gather
  refine State.atStep_keeps rfl ?_ ?_
  · exact .refl _ _
  · intro _ _ _
    split
    · split
      · exact (State.gatherTake_keeps ..).step rfl (.refl _ _)
      · extract_lets l1 l2 l3 l4
        have kl2 : Keeps 121408913 s l2 := (State.modRun_keeps ..).step rfl (.refl _ _)
        have kl3 : Keeps 121408913 s l3 := (State.setDeadline_keeps ..).step rfl kl2
        have kl4 : Keeps 121408913 s l4 := (State.gatherNext_keeps ..).step rfl kl3
        refine Keeps.ite ?_ ?_
        · exact (State.serveFails_keeps ..).step rfl (.refl _ _)
        · split
          · exact (State.gatherTake_keeps ..).step rfl kl4
          · exact kl4
    · exact .refl _ _

theorem State.serveStart_keeps (s : State) (r : CmdRef) (e : Nat) (slot : Option Nat) (len : Nat) (words : List Nat) : Keeps 87563665 s (State.serveStart s r e slot len words) := by
  unfold State.serveStart
  extract_lets l1
  have kl1 : Keeps 87563665 s l1 := (State.updServe_keeps ..).step rfl (.refl _ _)
  split
  · exact (State.serveFails_keeps ..).step rfl kl1
  · refine Keeps.ite ?_ ?_
    · exact (State.giveBuffers_keeps ..).step rfl ((State.wake_keeps ..).step rfl ((State.updServe_keeps ..).step rfl kl1))
    · exact (State.serveFails_keeps ..).step rfl kl1

theorem State.cipherStep_keeps (s : State) (r : CmdRef) : Keeps 91753873 s (State.cipherStep s r) := by
  unfold State.cipherStep
  refine State.atStep_keeps rfl ?_ ?_
  · exact .refl _ _
  · intro _ _ _
    split
    · extract_lets l1 l2
      unfold l2
      split
      · exact (State.serveFails_keeps ..).step rfl (.refl _ _)
      · refine Keeps.ite ?_ ?_
        · exact (State.serveFails_keeps ..).step rfl (.refl _ _)
        · extract_lets l3 l4 l5
          have kl4 : Keeps 91753873 s l4 := (State.reserveKey_keeps ..).step rfl (.refl _ _)
          refine Keeps.ite ?_ ?_
          · exact (State.serveFails_keeps ..).step rfl kl4
          · exact (State.stepDone_keeps ..).step rfl ((State.setBuf_keeps ..).step rfl kl4)
    · exact .refl _ _

theorem State.postStep_keeps (s : State) (r : CmdRef) : Keeps 87559569 s (State.postStep s r) := by
  unfold State.postStep
  refine State.atStep_keeps rfl ?_ ?_
  · exact .refl _ _
  · intro _ _ _
    split
    · refine Keeps.ite ?_ ?_
      · exact (State.serveFails_keeps ..).step rfl (.refl _ _)
      · refine Keeps.ite ?_ ?_
        · exact .refl _ _
        · exact (State.dropRun_keeps ..).step rfl ((State.finish_keeps ..).step rfl ((State.bumpUnits_keeps ..).step rfl (.refl _ _)))
    · exact .refl _ _

theorem State.serveCmd_keeps (s : State) (r : CmdRef) (slot : Option Nat) (len : Nat) (words : List Nat) : Keeps 87563665 s (State.serveCmd s r slot len words) := by
  unfold State.serveCmd
  refine State.starting_keeps rfl ?_ ?_
  · exact .refl _ _
  · intro u1 hu1
    refine Keeps.ite ?_ ?_
    · exact hu1
    · split
      · exact (State.serveStart_keeps ..).step rfl hu1
      · exact (State.hold_keeps ..).step rfl ((State.updServe_keeps ..).step rfl hu1)

theorem State.openSealed_keeps (s : State) (r : CmdRef) : Keeps 91753873 s (State.openSealed s r) := by
  unfold State.openSealed
  refine State.atStep_keeps rfl ?_ ?_
  · exact .refl _ _
  · intro _ _ _
    split
    · extract_lets l1 l2 l3 l4 l5
      have kl3 : Keeps 91753873 s l3 := (State.reserveKey_keeps ..).step rfl (.refl _ _)
      refine Keeps.ite ?_ ?_
      · exact (State.serveFails_keeps ..).step rfl (.refl _ _)
      · refine Keeps.ite ?_ ?_
        · exact (State.serveFails_keeps ..).step rfl kl3
        · split
          · exact (State.stepDone_keeps ..).step rfl ((State.setBuf_keeps ..).step rfl kl3)
          · exact (State.serveFails_keeps ..).step rfl ((State.setBuf_keeps ..).step rfl kl3)
    · exact .refl _ _

theorem execServe_keeps (ref : CmdRef) (slot : Option Nat) (len : Nat) (words : List Nat) (s : State) : KeepsIn atNext 87563665 s (execServe ref slot len words s) := by
  unfold execServe
  refine KeepsIn.effect rfl ?_ ?_
  · exact .refl _ _
  · intro u1 hu1
    exact (State.serveCmd_keeps ..).step rfl hu1

theorem execSend_keeps (ref : CmdRef) (s : State) : KeepsIn atNext 87559569 s (execSend ref s) := by
  unfold execSend
  refine KeepsIn.effect rfl ?_ ?_
  · exact .refl _ _
  · intro u1 hu1
    exact (State.sendStep_keeps ..).step rfl hu1

theorem execGather_keeps (ref : CmdRef) (egress : Option (Nat × Nat)) (s : State) : KeepsIn atNext 121408913 s (execGather ref egress s) := by
  unfold execGather
  refine KeepsIn.effect rfl ?_ ?_
  · exact .refl _ _
  · intro u1 hu1
    exact (State.gather_keeps ..).step rfl hu1

theorem execServeContextWaitEnd_keeps (ref : CmdRef) (s : State) : KeepsIn atNext 87563665 s (execServeContextWaitEnd ref s) := by
  unfold execServeContextWaitEnd
  refine KeepsIn.effect rfl ?_ ?_
  · exact .refl _ _
  · intro u1 hu1
    refine Keeps.ite ?_ ?_
    · exact (State.giveBuffers_keeps ..).step rfl hu1
    · split
      · exact (State.serveCmd_keeps ..).step rfl hu1
      · exact hu1

theorem execCipher_keeps (ref : CmdRef) (s : State) : KeepsIn atNext 91753873 s (execCipher ref s) := by
  unfold execCipher
  refine KeepsIn.effect rfl ?_ ?_
  · exact .refl _ _
  · intro u1 hu1
    exact (State.cipherStep_keeps ..).step rfl hu1

theorem execPost_keeps (ref : CmdRef) (s : State) : KeepsIn atNext 87559569 s (execPost ref s) := by
  unfold execPost
  refine KeepsIn.effect rfl ?_ ?_
  · exact .refl _ _
  · intro u1 hu1
    exact (State.postStep_keeps ..).step rfl hu1

theorem execOpenStep_keeps (ref : CmdRef) (s : State) : KeepsIn atNext 91753873 s (execOpenStep ref s) := by
  unfold execOpenStep
  refine KeepsIn.effect rfl ?_ ?_
  · exact .refl _ _
  · intro u1 hu1
    exact (State.openSealed_keeps ..).step rfl hu1

end Sys2Proof.Machine
end

