-- ==== Sys2Proof/Laws/KeepsTenants.lean ====
section
/-! SUPPORT. What each operation of Machine/Tenants.lean keeps (Laws/Frame.lean). -/

namespace Sys2Proof.Machine

theorem State.endReads_keeps (s : State) (l : List CmdRef) (f : CmdRef → CmdRef) : Keeps 524289 s (State.endReads s l f) := by
  unfold State.endReads
  extract_lets l1 l2 l3 l5
  have kl3 : Keeps 524289 s l3 := by
    unfold l3
    refine Keeps.each ?_ ?_
    · exact .refl _ _
    · intro u4 _ hu4
      exact (State.dropJob_keeps ..).step rfl hu4
  have kl5 : Keeps 524289 s l5 := (State.updMd_keeps ..).step rfl kl3
  refine Keeps.each ?_ ?_
  · exact kl5
  · intro u6 _ hu6
    extract_lets l7
    have kl7 : Keeps 524289 s l7 := (State.dropOps_keeps ..).step rfl hu6
    exact (State.modDie_keeps ..).step rfl kl7

theorem State.voidEclipse_keeps (s : State) (t : Nat) : Keeps 8391057 s (State.voidEclipse s t) := by
  unfold State.voidEclipse
  extract_lets l1
  have kl1 : Keeps 8391057 s l1 := by
    unfold l1
    refine Keeps.ite ?_ ?_
    · exact (State.event_keeps ..).step rfl ((State.set_keeps ..).step rfl ((State.wr_keeps ..).step rfl (.refl _ _)))
    · refine Keeps.ite ?_ ?_
      · exact (State.set_keeps ..).step rfl (.refl _ _)
      · exact .refl _ _
  exact (State.modTen_keeps ..).step rfl kl1

theorem State.restoredCmd_keeps (s : State) (t : Nat) (sqid : Nat) (cid : Nat) (p : Phase) : Keeps 1024 s (State.restoredCmd s t sqid cid p) := by
  unfold State.restoredCmd
  extract_lets l1 l2
  exact (State.updQ_keeps ..).step rfl (.refl _ _)

theorem State.increment_keeps (s : State) (t : Nat) : Keeps 8388609 s (State.increment s t) := by
  unfold State.increment
  exact (State.bump_keeps ..).step rfl ((State.modTen_keeps ..).step rfl (.refl _ _))

theorem State.eclResult_keeps (s : State) (t : Nat) (r : Nat) : Keeps 1 s (State.eclResult s t r) := by
  unfold State.eclResult
  exact (State.set_keeps ..).step rfl ((State.wr_keeps ..).step rfl (.refl _ _))

theorem execEclipseRecordWritten_keeps (slot : Nat) (dmaOk : Bool) (s : State) : KeepsIn atNext 8391057 s (execEclipseRecordWritten slot dmaOk s) := by
  unfold execEclipseRecordWritten
  refine KeepsIn.effect rfl ?_ ?_
  · exact .refl _ _
  · intro u1 hu1
    extract_lets l2 l3 l4
    have kl4 : Keeps 8391057 s l4 := (State.modTen_keeps ..).step rfl hu1
    refine Keeps.ite ?_ ?_
    · refine Keeps.ite ?_ ?_
      · exact (State.event_keeps ..).step rfl ((State.eclResult_keeps ..).step rfl ((State.wr_keeps ..).step rfl kl4))
      · exact (State.eclResult_keeps ..).step rfl kl4
    · exact hu1

theorem execResume_keeps (slot : Nat) (s : State) : KeepsIn atNext 8388625 s (execResume slot s) := by
  unfold execResume
  refine KeepsIn.effect rfl ?_ ?_
  · exact .refl _ _
  · intro u1 hu1
    refine Keeps.ite ?_ ?_
    · exact hu1
    · refine Keeps.ite ?_ ?_
      · exact (State.eclResult_keeps ..).step rfl ((State.modTen_keeps ..).step rfl hu1)
      · exact (State.eclResult_keeps ..).step rfl hu1

theorem State.withAttach_keeps (s : State) (owner : Nat) (l : List Nat) : Keeps 32768 s (State.withAttach s owner l) := by
  unfold State.withAttach
  refine Keeps.each ?_ ?_
  · exact .refl _ _
  · intro u1 _ hu1
    refine Keeps.ite ?_ ?_
    · exact hu1
    · exact (State.modNv_keeps ..).step rfl hu1

theorem execTenNqnWrite_keeps (slot : Nat) (hash : Nat) (s : State) : KeepsIn atNext 32784 s (execTenNqnWrite slot hash s) := by
  unfold execTenNqnWrite
  refine KeepsIn.effect rfl ?_ ?_
  · exact .refl _ _
  · intro u1 hu1
    refine Keeps.ite ?_ ?_
    · exact hu1
    · exact (State.modNv_keeps ..).step rfl hu1

theorem State.wipeController_keeps (s : State) (owner : Nat) : Keeps 3072 s (State.wipeController s owner) := by
  unfold State.wipeController
  extract_lets l1
  have kl1 : Keeps 3072 s l1 := (State.updQ_keeps ..).step rfl (.refl _ _)
  exact (State.modCtrl_keeps ..).step rfl kl1

theorem State.returnSqps_keeps (s : State) (owner : Nat) : Keeps 1048592 s (State.returnSqps s owner) := by
  unfold State.returnSqps
  extract_lets l1 l2
  have kl2 : Keeps 1048592 s l2 := (State.emit_keeps ..).step rfl (.refl _ _)
  exact (State.updNet_keeps ..).step rfl kl2

theorem State.deactivate_keeps (s : State) (t : Nat) : Keeps 13633937 s (State.deactivate s t) := by
  unfold State.deactivate
  extract_lets l1 l2
  have kl1 : Keeps 13633937 s l1 := (State.modTen_keeps ..).step rfl (.refl _ _)
  have kl2 : Keeps 13633937 s l2 := (State.modCtrl_keeps ..).step rfl kl1
  exact (State.event_keeps ..).step rfl ((State.returnSqps_keeps ..).step rfl ((State.clearOwnerKeys_keeps ..).step rfl kl2))

theorem State.endZoneOps_keeps (s : State) (l : List CmdRef) (f : CmdRef → CmdRef) : Keeps 262144 s (State.endZoneOps s l f) := by
  unfold State.endZoneOps
  extract_lets l1 l2
  exact (State.updZone_keeps ..).step rfl (.refl _ _)

theorem execTenWeightWrite_keeps (slot : Nat) (weight : Nat) (s : State) : KeepsIn atNext 1040 s (execTenWeightWrite slot weight s) := by
  unfold execTenWeightWrite
  refine KeepsIn.effect rfl ?_ ?_
  · exact .refl _ _
  · intro u1 hu1
    refine Keeps.ite ?_ ?_
    · exact hu1
    · exact (State.updQ_keeps ..).step rfl hu1

theorem State.endWrites_keeps (s : State) (l : List CmdRef) (f : CmdRef → CmdRef) : Keeps 166289 s (State.endWrites s l f) := by
  unfold State.endWrites
  extract_lets l1 l2
  have kl1 : Keeps 166289 s l1 := (State.dropWrite_keeps ..).step rfl (.refl _ _)
  exact (State.updWp_keeps ..).step rfl kl1

theorem State.writeRecord_keeps (s : State) (t : Nat) : Keeps 8389649 s (State.writeRecord s t) := by
  unfold State.writeRecord
  extract_lets l1 l2 l3 l4
  have kl1 : Keeps 8389649 s l1 := (State.writeBackAll_keeps ..).step rfl (.refl _ _)
  have kl3 : Keeps 8389649 s l3 := (State.modTen_keeps ..).step rfl kl1
  refine Keeps.ite ?_ ?_
  · exact (State.eclResult_keeps ..).step rfl ((State.modTen_keeps ..).step rfl kl3)
  · exact (State.emit_keeps ..).step rfl kl3

theorem execEclipse_keeps (slot : Nat) (force : Bool) (link : Nat) (s : State) : KeepsIn atNext 8389649 s (execEclipse slot force link s) := by
  unfold execEclipse
  refine KeepsIn.effect rfl ?_ ?_
  · exact .refl _ _
  · intro u1 hu1
    refine Keeps.ite ?_ ?_
    · exact hu1
    · refine Keeps.ite ?_ ?_
      · exact (State.eclResult_keeps ..).step rfl hu1
      · refine Keeps.ite ?_ ?_
        · exact (State.set_keeps ..).step rfl ((State.modTen_keeps ..).step rfl hu1)
        · refine Keeps.ite ?_ ?_
          · exact (State.writeRecord_keeps ..).step rfl ((State.set_keeps ..).step rfl ((State.modTen_keeps ..).step rfl hu1))
          · exact (State.eclResult_keeps ..).step rfl hu1

theorem State.activate_keeps (s : State) (t : Nat) (path : Nat) : Keeps 8391057 s (State.activate s t path) := by
  unfold State.activate
  extract_lets l1 l2 l3 l4
  have kl3 : Keeps 8391057 s l3 := (State.increment_keeps ..).step rfl (.refl _ _)
  have kl4 : Keeps 8391057 s l4 := (State.modTen_keeps ..).step rfl kl3
  refine Keeps.ite ?_ ?_
  · exact (State.event_keeps ..).step rfl ((State.fatal_keeps ..).step rfl (.refl _ _))
  · exact (State.event_keeps ..).step rfl ((State.modCtrl_keeps ..).step rfl ((State.holdContexts_keeps ..).step rfl kl4))

theorem execRestore_keeps (slot : Nat) (link : Nat) (s : State) : KeepsIn atNext 8388625 s (execRestore slot link s) := by
  unfold execRestore
  refine KeepsIn.effect rfl ?_ ?_
  · exact .refl _ _
  · intro u1 hu1
    refine Keeps.ite ?_ ?_
    · exact hu1
    · refine Keeps.ite ?_ ?_
      · extract_lets l2
        exact (State.emit_keeps ..).step rfl ((State.set_keeps ..).step rfl ((State.modTen_keeps ..).step rfl hu1))
      · exact (State.eclResult_keeps ..).step rfl hu1

theorem State.endWork_keeps (s : State) (owner : Nat) (p : Cmd → Bool) : KeepsIn atSnd 226483601 s (State.endWork s owner p) := by
  unfold State.endWork
  extract_lets l1 l2 l3 l4 l6 l8 l9 l10 l11 l12 l13 l14 l15 l16
  have kl4 : Keeps 226483601 s l4 := by
    unfold l4
    refine Keeps.each ?_ ?_
    · exact .refl _ _
    · intro u5 _ hu5
      exact (State.serveStop_keeps ..).step rfl hu5
  have kl6 : Keeps 226483601 s l6 := by
    unfold l6
    refine Keeps.each ?_ ?_
    · exact kl4
    · intro u7 _ hu7
      exact (State.unsend_keeps ..).step rfl hu7
  have kl8 : Keeps 226483601 s l8 := (State.endZoneOps_keeps ..).step rfl ((State.endWrites_keeps ..).step rfl ((State.endReads_keeps ..).step rfl kl6))
  have kl9 : Keeps 226483601 s l9 := (State.updJr_keeps ..).step rfl kl8
  have kl10 : Keeps 226483601 s l10 := (State.updPair_keeps ..).step rfl kl9
  have kl11 : Keeps 226483601 s l11 := (State.updPower_keeps ..).step rfl kl10
  have kl12 : Keeps 226483601 s l12 := (State.updKey_keeps ..).step rfl kl11
  have kl13 : Keeps 226483601 s l13 := (State.updBoot_keeps ..).step rfl kl12
  have kl15 : Keeps 226483601 s l15 := (State.updQ_keeps ..).step rfl kl13
  have kl16 : Keeps 226483601 s l16 := (State.modCtrl_keeps ..).step rfl kl15
  exact KeepsIn.leafSnd kl16

theorem State.applyRecord_keeps (s : State) (t : Nat) (r : EclRecord) : Keeps 8490385 s (State.applyRecord s t r) := by
  unfold State.applyRecord
  extract_lets l1 l2 l3 l5 l6 l7 l9 l11 l12 l13
  have kl1 : Keeps 8490385 s l1 := (State.wipeController_keeps ..).step rfl (.refl _ _)
  have kl2 : Keeps 8490385 s l2 := (State.updQ_keeps ..).step rfl kl1
  have kl3 : Keeps 8490385 s l3 := by
    unfold l3
    refine Keeps.foldl ?_ _ ?_
    · intro u4 _ hu4
      exact (State.cache_keeps ..).step rfl hu4
    · exact kl2
  have kl5 : Keeps 8490385 s l5 := (State.modCtrl_keeps ..).step rfl ((State.holdContexts_keeps ..).step rfl kl3)
  have kl7 : Keeps 8490385 s l7 := by
    unfold l7
    refine Keeps.each ?_ ?_
    · exact kl5
    · intro u8 _ hu8
      exact (State.restoredCmd_keeps ..).step rfl hu8
  have kl9 : Keeps 8490385 s l9 := by
    unfold l9
    refine Keeps.each ?_ ?_
    · exact kl7
    · intro u10 _ hu10
      exact (State.restoredCmd_keeps ..).step rfl hu10
  have kl11 : Keeps 8490385 s l11 := (State.poolMarks_keeps ..).step rfl kl9
  have kl12 : Keeps 8490385 s l12 := (State.withAttach_keeps ..).step rfl kl11
  have kl13 : Keeps 8490385 s l13 := by
    unfold l13
    refine Keeps.each ?_ ?_
    · exact kl12
    · intro u14 _ hu14
      extract_lets l15
      have kl15 : Keeps 8490385 s l15 := (State.see_keeps ..).step rfl hu14
      refine Keeps.ite ?_ ?_
      · exact (State.updTen_keeps ..).step rfl kl15
      · exact kl15
  exact (State.modTen_keeps ..).step rfl kl13

theorem State.resetController_keeps (s : State) (owner : Nat) : KeepsIn atSnd 234872209 s (State.resetController s owner) := by
  unfold State.resetController
  extract_lets l1 l2 l3 l4
  have kl1 : Keeps 234872209 s l1 := by
    unfold l1
    refine Keeps.ite ?_ ?_
    · exact (State.voidEclipse_keeps ..).step rfl (.refl _ _)
    · exact .refl _ _
  have kl2 : KeepsIn atSnd 234872209 s l2 := (State.endWork_keeps ..).step rfl kl1
  clear_value l2
  have kl3 : Keeps 234872209 s l3 := by
    unfold l3
    refine KeepsIn.ofSnd ?_
    exact kl2
  have kl4 : Keeps 234872209 s l4 := by
    unfold l4
    refine Keeps.ite ?_ ?_
    · exact (State.bump_keeps ..).step rfl ((State.increment_keeps ..).step rfl kl3)
    · exact kl3
  exact KeepsIn.leafSnd ((State.wipeController_keeps ..).step rfl kl4)

theorem execEclipseDrainDone_keeps (slot : Nat) (s : State) : KeepsIn atNext 8389649 s (execEclipseDrainDone slot s) := by
  unfold execEclipseDrainDone
  refine KeepsIn.effect rfl ?_ ?_
  · exact .refl _ _
  · intro u1 hu1
    refine Keeps.ite ?_ ?_
    · exact (State.writeRecord_keeps ..).step rfl hu1
    · exact hu1

theorem execRestoreRecordRead_keeps (slot : Nat) (rec : Option (List Nat)) (s : State) : KeepsIn atNext 8490385 s (execRestoreRecordRead slot rec s) := by
  unfold execRestoreRecordRead
  refine KeepsIn.effect rfl ?_ ?_
  · exact .refl _ _
  · intro u1 hu1
    refine Keeps.ite ?_ ?_
    · exact hu1
    · extract_lets l2
      have kl2 : ∀ v0, Keeps 8490385 s (l2 v0) := by
        unfold l2
        intro _
        exact (State.event_keeps ..).step rfl ((State.eclResult_keeps ..).step rfl ((State.modTen_keeps ..).step rfl hu1))
      clear_value l2
      split
      · exact kl2 _
      · extract_lets l3 l4
        refine Keeps.ite ?_ ?_
        · exact kl2 _
        · refine Keeps.ite ?_ ?_
          · exact kl2 _
          · exact (State.event_keeps ..).step rfl ((State.eclResult_keeps ..).step rfl ((State.wr_keeps ..).step rfl ((State.applyRecord_keeps ..).step rfl hu1)))

theorem execRelease_keeps (slot : Nat) (s : State) : KeepsIn atNext 234872209 s (execRelease slot s) := by
  unfold execRelease
  refine KeepsIn.effect rfl ?_ ?_
  · exact .refl _ _
  · intro u1 hu1
    refine Keeps.ite ?_ ?_
    · exact hu1
    · refine Keeps.ite ?_ ?_
      · extract_lets l2 l3
        have kl2 : Keeps 234872209 s l2 := by
          unfold l2
          refine (State.deactivate_keeps ..).step rfl ?_
          refine (State.wipeController_keeps ..).step rfl (KeepsIn.ofSnd ?_)
          exact (State.endWork_keeps ..).step rfl hu1
        have kl3 : Keeps 234872209 s l3 := (State.modTen_keeps ..).step rfl kl2
        exact (State.eclResult_keeps ..).step rfl ((State.fatal_keeps ..).step rfl kl3)
      · exact (State.eclResult_keeps ..).step rfl hu1

theorem State.forceEclipse_keeps (s : State) (t : Nat) : Keeps 234872209 s (State.forceEclipse s t) := by
  unfold State.forceEclipse
  extract_lets l1 l2 l3 l4 l5 l6 l7
  have kl3 : Keeps 234872209 s l3 := (State.modTen_keeps ..).step rfl (.refl _ _)
  have kl4 : KeepsIn atSnd 234872209 s l4 := (State.endWork_keeps ..).step rfl kl3
  clear_value l4
  have kl5 : Keeps 234872209 s l5 := by
    unfold l5
    refine (State.bump_keeps ..).step rfl ?_
    refine (State.increment_keeps ..).step rfl (KeepsIn.ofSnd ?_)
    exact kl4
  have kl7 : Keeps 234872209 s l7 := (State.updQ_keeps ..).step rfl kl5
  exact (State.writeRecord_keeps ..).step rfl kl7

theorem execTenEclTimeout_keeps (slot : Nat) (s : State) : KeepsIn atNext 234872209 s (execTenEclTimeout slot s) := by
  unfold execTenEclTimeout
  refine KeepsIn.effect rfl ?_ ?_
  · exact .refl _ _
  · intro u1 hu1
    refine Keeps.ite ?_ ?_
    · refine Keeps.ite ?_ ?_
      · exact (State.forceEclipse_keeps ..).step rfl hu1
      · exact (State.event_keeps ..).step rfl ((State.eclResult_keeps ..).step rfl ((State.modTen_keeps ..).step rfl hu1))
    · exact hu1

theorem State.retireSlot_keeps (s : State) (t : Nat) : Keeps 234872209 s (State.retireSlot s t) := by
  unfold State.retireSlot
  refine Keeps.ite ?_ ?_
  · exact .refl _ _
  · refine (State.deactivate_keeps ..).step rfl (KeepsIn.ofSnd ?_)
    exact (State.resetController_keeps ..).step rfl (.refl _ _)

end Sys2Proof.Machine
end

