-- ==== Sys2Proof/Laws/KeepsFunctions.lean ====
section
/-! SUPPORT. What each operation of Machine/Functions.lean keeps (Laws/Frame.lean). -/

namespace Sys2Proof.Machine

theorem State.retireVfs_keeps (s : State) (l : Nat) : Keeps 234872209 s (State.retireVfs s l) := by
  unfold State.retireVfs
  refine Keeps.each ?_ ?_
  · exact .refl _ _
  · intro u1 _ hu1
    exact (State.retireSlot_keeps ..).step rfl hu1

theorem State.openControllers_keeps (s : State) : Keeps 2048 s (State.openControllers s) := by
  unfold State.openControllers
  refine Keeps.ite ?_ ?_
  · refine Keeps.each ?_ ?_
    · exact .refl _ _
    · intro u1 _ hu1
      exact (State.modCtrl_keeps ..).step rfl hu1
  · exact .refl _ _

theorem State.endAssociation_keeps (s : State) (owner : Nat) : Keeps 234872209 s (State.endAssociation s owner) := by
  unfold State.endAssociation
  split
  · exact .refl _ _
  · extract_lets l1 l2 l3 l4
    have kl1 : Keeps 234872209 s l1 := (State.emit_keeps ..).step rfl (.refl _ _)
    have kl2 : Keeps 234872209 s l2 := (State.updNet_keeps ..).step rfl kl1
    have kl3 : Keeps 234872209 s l3 := (State.event_keeps ..).step rfl kl2
    have kl4 : KeepsIn atSnd 234872209 s l4 := (State.resetController_keeps ..).step rfl kl3
    clear_value l4
    refine (State.deactivate_keeps ..).step rfl ?_
    refine (State.event_keeps ..).step rfl (KeepsIn.ofSnd ?_)
    exact kl4

theorem State.controllerReset_keeps (s : State) (owner : Nat) : Keeps 234872209 s (State.controllerReset s owner) := by
  unfold State.controllerReset
  extract_lets l1 l2
  have kl2 : KeepsIn atSnd 234872209 s l2 := (State.resetController_keeps ..).step rfl (.refl _ _)
  clear_value l2
  refine Keeps.ite ?_ ?_
  · exact .refl _ _
  · refine Keeps.ite ?_ ?_
    · exact (State.endAssociation_keeps ..).step rfl (.refl _ _)
    · refine Keeps.ite ?_ ?_
      · refine (State.event_keeps ..).step rfl ?_
        refine (State.modTen_keeps ..).step rfl (KeepsIn.ofSnd ?_)
        exact kl2
      · refine KeepsIn.ofSnd ?_
        exact kl2

theorem State.dataFails_keeps (s : State) (r : CmdRef) (st : Status) : Keeps 87985553 s (State.dataFails s r st) := by
  unfold State.dataFails
  refine Keeps.ite ?_ ?_
  · extract_lets l1 l2
    have kl1 : Keeps 87985553 s l1 := (State.dropWrite_keeps ..).step rfl (.refl _ _)
    have kl2 : Keeps 87985553 s l2 := (State.updMd_keeps ..).step rfl kl1
    exact (State.dropRun_keeps ..).step rfl ((State.finish_keeps ..).step rfl ((State.updZone_keeps ..).step rfl kl2))
  · exact .refl _ _

theorem State.resetMsix_keeps (s : State) (owner : Nat) : Keeps 2048 s (State.resetMsix s owner) := by
  unfold State.resetMsix
  exact (State.modCtrl_keeps ..).step rfl (.refl _ _)

theorem State.modCfg_keeps (s : State) (link : Nat) (v : Nat) (f : FnCfg → FnCfg) : Keeps 2048 s (State.modCfg s link v f) := by
  unfold State.modCfg
  exact Keeps.set_host rfl (.refl _ _)

theorem State.resetCfg_keeps (s : State) (owner : Nat) : Keeps 2049 s (State.resetCfg s owner) := by
  unfold State.resetCfg
  extract_lets l1 l2
  have kl2 : Keeps 2049 s l2 := Keeps.set_host rfl (.refl _ _)
  refine Keeps.ite ?_ ?_
  · exact kl2
  · exact (State.set_keeps ..).step rfl ((State.modLink_keeps ..).step rfl kl2)

theorem State.ccEnable_keeps (s : State) (owner : Nat) (asqs : Nat) (acqs : Nat) (ams : Nat) (asq : Nat) (acq : Nat) : Keeps 3473 s (State.ccEnable s owner asqs acqs ams asq acq) := by
  unfold State.ccEnable
  extract_lets l1 l2 l3 l4
  have kl2 : Keeps 3473 s l2 := (State.modCtrl_keeps ..).step rfl (.refl _ _)
  have kl4 : Keeps 3473 s l4 := (State.cache_keeps ..).step rfl ((State.modCtx_keeps ..).step rfl kl2)
  refine Keeps.ite ?_ ?_
  · exact .refl _ _
  · refine Keeps.ite ?_ ?_
    · refine Keeps.ite ?_ ?_
      · exact (State.modCtrl_keeps ..).step rfl kl2
      · exact (State.modCtrl_keeps ..).step rfl kl2
    · refine Keeps.ite ?_ ?_
      · exact (State.fatal_keeps ..).step rfl kl2
      · refine Keeps.ite ?_ ?_
        · exact (State.modCtrl_keeps ..).step rfl kl4
        · exact (State.modCtrl_keeps ..).step rfl kl4

theorem State.flrComplete_keeps (s : State) (fn : Fn) : Keeps 8390656 s (State.flrComplete s fn) := by
  unfold State.flrComplete
  extract_lets l1 l2
  have kl2 : Keeps 8390656 s l2 := (State.modCtrl_keeps ..).step rfl (.refl _ _)
  refine Keeps.ite ?_ ?_
  · refine Keeps.ite ?_ ?_
    · exact (State.modTen_keeps ..).step rfl kl2
    · exact kl2
  · exact .refl _ _

theorem execFlrComplete_keeps (fn : Fn) (s : State) : KeepsIn atNext 8390672 s (execFlrComplete fn s) := by
  unfold execFlrComplete
  refine KeepsIn.effect rfl ?_ ?_
  · exact .refl _ _
  · intro u1 hu1
    exact (State.flrComplete_keeps ..).step rfl hu1

theorem State.recoveryManager_keeps (s : State) (l : Nat) : Keeps 18833 s (State.recoveryManager s l) := by
  unfold State.recoveryManager
  extract_lets l1
  have kl1 : Keeps 18833 s l1 := (State.updBoot_keeps ..).step rfl (.refl _ _)
  refine Keeps.ite ?_ ?_
  · exact kl1
  · exact (State.event_keeps ..).step rfl kl1

theorem State.configured_keeps {n₀ : Nat} {s₀ : State} {s : State} {link : Nat} {f : State → State} (hm : 16 ||| n₀ = n₀) (h₀ : Keeps n₀ s₀ s) (hf : ∀ v0, Keeps n₀ s₀ v0 → Keeps n₀ s₀ (f v0)) : Keeps n₀ s₀ (State.configured s link f) := by
  unfold State.configured
  refine Keeps.ite ?_ ?_
  · exact hf _ h₀
  · exact (State.emit_keeps ..).step (Keeps.sub rfl hm) h₀

theorem execControllerReset_keeps (owner : Nat) (s : State) : KeepsIn atNext 234872209 s (execControllerReset owner s) := by
  unfold execControllerReset
  refine KeepsIn.effect rfl ?_ ?_
  · exact .refl _ _
  · intro u1 hu1
    exact (State.controllerReset_keeps ..).step rfl hu1

theorem State.linkZero_keeps (s : State) (l : Nat) : Keeps 1 s (State.linkZero s l) := by
  unfold State.linkZero
  extract_lets l1 l2
  have kl1 : Keeps 1 s l1 := (State.wr_keeps ..).step rfl ((State.set_keeps ..).step rfl (.refl _ _))
  have kl2 : Keeps 1 s l2 := (State.set_keeps ..).step rfl ((State.wr_keeps ..).step rfl kl1)
  exact (State.set_keeps ..).step rfl ((State.set_keeps ..).step rfl kl2)

theorem execPerstDeassert_keeps (port : Nat) (s : State) : KeepsIn atNext 16400 s (execPerstDeassert port s) := by
  unfold execPerstDeassert
  refine KeepsIn.effect rfl ?_ ?_
  · exact .refl _ _
  · intro u1 hu1
    refine Keeps.ite ?_ ?_
    · exact hu1
    · exact (State.updBoot_keeps ..).step rfl hu1

theorem State.cfgWrite_keeps (s : State) (link : Nat) (w : CfgWrite) : Keeps 2049 s (State.cfgWrite s link w) := by
  unfold State.cfgWrite
  extract_lets l1 l2
  split
  · refine Keeps.ite ?_ ?_
    · exact (State.modLink_keeps ..).step rfl (.refl _ _)
    · exact .refl _ _
  · refine Keeps.ite ?_ ?_
    · exact .refl _ _
    · refine Keeps.ite ?_ ?_
      · exact (State.modCfg_keeps ..).step rfl (.refl _ _)
      · refine Keeps.ite ?_ ?_
        · exact (State.modCfg_keeps ..).step rfl (.refl _ _)
        · exact .refl _ _
  · refine Keeps.ite ?_ ?_
    · exact (State.modCfg_keeps ..).step rfl (.refl _ _)
    · exact .refl _ _
  · refine Keeps.ite ?_ ?_
    · exact (State.set_keeps ..).step rfl (.refl _ _)
    · exact .refl _ _
  · refine Keeps.ite ?_ ?_
    · exact (State.modCfg_keeps ..).step rfl (.refl _ _)
    · exact .refl _ _

theorem execVfEnable_keeps (link : Nat) (s : State) : KeepsIn atNext 8391057 s (execVfEnable link s) := by
  unfold execVfEnable
  refine KeepsIn.effect rfl ?_ ?_
  · exact .refl _ _
  · intro u1 hu1
    refine State.configured_keeps rfl ?_ ?_
    · exact hu1
    · intro u2 hu2
      refine Keeps.ite ?_ ?_
      · exact hu2
      · extract_lets l3 l4
        have kl4 : Keeps 8391057 s l4 := (State.modLink_keeps ..).step rfl hu2
        refine Keeps.each ?_ ?_
        · exact kl4
        · intro u5 _ hu5
          exact (State.activate_keeps ..).step rfl hu5

theorem State.closeVfs_keeps (s : State) (l : Nat) : Keeps 8390657 s (State.closeVfs s l) := by
  unfold State.closeVfs
  extract_lets l1
  have kl1 : Keeps 8390657 s l1 := by
    unfold l1
    refine Keeps.each ?_ ?_
    · exact .refl _ _
    · intro u2 _ hu2
      extract_lets l3 l4
      have kl4 : Keeps 8390657 s l4 := (State.resetCfg_keeps ..).step rfl ((State.modCtrl_keeps ..).step rfl hu2)
      refine Keeps.ite ?_ ?_
      · exact (State.modTen_keeps ..).step rfl kl4
      · exact kl4
  exact (State.modLink_keeps ..).step rfl kl1

theorem State.flrVf_keeps (s : State) (l : Nat) (v : Nat) : Keeps 234872209 s (State.flrVf s l v) := by
  unfold State.flrVf
  extract_lets l1 l2 l3 l4
  have kl2 : Keeps 234872209 s l2 := (State.resetCfg_keeps ..).step rfl (.refl _ _)
  have kl3 : Keeps 234872209 s l3 := by
    unfold l3
    refine (State.resetMsix_keeps ..).step rfl (KeepsIn.ofSnd ?_)
    exact (State.resetController_keeps ..).step rfl kl2
  have kl4 : Keeps 234872209 s l4 := by
    unfold l4
    refine Keeps.ite ?_ ?_
    · exact (State.resetMsix_keeps ..).step rfl kl2
    · refine Keeps.ite ?_ ?_
      · exact (State.modCtrl_keeps ..).step rfl ((State.modTen_keeps ..).step rfl kl2)
      · refine Keeps.ite ?_ ?_
        · exact (State.modTen_keeps ..).step rfl kl3
        · exact kl3
  exact (State.event_keeps ..).step rfl ((State.bump_keeps ..).step rfl kl4)

theorem State.aerLog_keeps (s : State) (owner : Nat) (bit : Nat) : Keeps 2048 s (State.aerLog s owner bit) := by
  unfold State.aerLog
  extract_lets l1
  exact (State.modCfg_keeps ..).step rfl (.refl _ _)

theorem execNumvfsWrite_keeps (link : Nat) (w : CfgWrite) (s : State) : KeepsIn atNext 2065 s (execNumvfsWrite link w s) := by
  unfold execNumvfsWrite
  refine KeepsIn.effect rfl ?_ ?_
  · exact .refl _ _
  · intro u1 hu1
    refine State.configured_keeps rfl ?_ ?_
    · exact hu1
    · intro u2 hu2
      exact (State.cfgWrite_keeps ..).step rfl hu2

theorem execCcEnable_keeps (owner : Nat) (asqs : Nat) (acqs : Nat) (ams : Nat) (asq : Nat) (acq : Nat) (s : State) : KeepsIn atNext 3473 s (execCcEnable owner asqs acqs ams asq acq s) := by
  unfold execCcEnable
  refine KeepsIn.effect rfl ?_ ?_
  · exact .refl _ _
  · intro u1 hu1
    exact (State.ccEnable_keeps ..).step rfl hu1

theorem State.flrPf_keeps (s : State) (l : Nat) : Keeps 234872209 s (State.flrPf s l) := by
  unfold State.flrPf
  extract_lets l1 l2
  have kl1 : Keeps 234872209 s l1 := (State.retireVfs_keeps ..).step rfl (.refl _ _)
  have kl2 : Keeps 234872209 s l2 := by
    unfold l2
    refine (State.resetCfg_keeps ..).step rfl ((State.closeVfs_keeps ..).step rfl ?_)
    refine (State.resetMsix_keeps ..).step rfl (KeepsIn.ofSnd ?_)
    exact (State.resetController_keeps ..).step rfl kl1
  exact (State.event_keeps ..).step rfl ((State.bump_keeps ..).step rfl kl2)

theorem State.flr_keeps (s : State) (fn : Fn) : Keeps 234872209 s (State.flr s fn) := by
  unfold State.flr
  refine Keeps.ite ?_ ?_
  · exact .refl _ _
  · split
    · exact (State.flrPf_keeps ..).step rfl (.refl _ _)
    · exact (State.flrVf_keeps ..).step rfl (.refl _ _)

theorem State.nonFatal_keeps (s : State) (link : Nat) (owner : Nat) (bit : Nat) : Keeps 2449 s (State.nonFatal s link owner bit) := by
  unfold State.nonFatal
  exact (State.event_keeps ..).step rfl ((State.bump_keeps ..).step rfl ((State.aerLog_keeps ..).step rfl (.refl _ _)))

theorem State.linkUp_keeps (s : State) (l : Nat) (gen : Nat) (width : Nat) (flit : Bool) (tag10 : Bool) : Keeps 18833 s (State.linkUp s l gen width flit tag10) := by
  unfold State.linkUp
  refine Keeps.ite ?_ ?_
  · exact .refl _ _
  · refine Keeps.ite ?_ ?_
    · exact (State.event_keeps ..).step rfl (.refl _ _)
    · extract_lets l1 l2 l3 l4 l5 l6 l7 l8 l9
      have kl4 : Keeps 18833 s l4 := (State.wr_keeps ..).step rfl ((State.set_keeps ..).step rfl (.refl _ _))
      have kl5 : Keeps 18833 s l5 := (State.set_keeps ..).step rfl ((State.wr_keeps ..).step rfl kl4)
      have kl6 : Keeps 18833 s l6 := (State.set_keeps ..).step rfl ((State.set_keeps ..).step rfl kl5)
      have kl7 : Keeps 18833 s l7 := by
        unfold l7
        refine Keeps.ite ?_ ?_
        · exact (State.bump_keeps ..).step rfl kl6
        · exact kl6
      have kl8 : Keeps 18833 s l8 := by
        unfold l8
        refine Keeps.ite ?_ ?_
        · exact (State.recoveryManager_keeps ..).step rfl kl7
        · exact kl7
      have kl9 : Keeps 18833 s l9 := (State.event_keeps ..).step rfl kl8
      refine Keeps.ite ?_ ?_
      · exact (State.event_keeps ..).step rfl kl9
      · exact kl9

theorem State.vfDisable_keeps (s : State) (l : Nat) : Keeps 234872209 s (State.vfDisable s l) := by
  unfold State.vfDisable
  exact (State.closeVfs_keeps ..).step rfl ((State.retireVfs_keeps ..).step rfl (.refl _ _))

theorem State.resetLink_keeps (s : State) (l : Nat) : Keeps 234872209 s (State.resetLink s l) := by
  unfold State.resetLink
  refine (State.flrPf_keeps ..).step rfl ?_
  refine Keeps.each ?_ ?_
  · exact .refl _ _
  · intro u1 _ hu1
    exact (State.flrVf_keeps ..).step rfl hu1

theorem State.completionTimeout_keeps (s : State) (link : Nat) (what : ReqKind) : Keeps 87985553 s (State.completionTimeout s link what) := by
  unfold State.completionTimeout
  refine Keeps.ite ?_ ?_
  · exact .refl _ _
  · extract_lets l1 l2
    have kl1 : Keeps 87985553 s l1 := (State.aerLog_keeps ..).step rfl (.refl _ _)
    have kl2 : Keeps 87985553 s l2 := by
      unfold l2
      split
      · exact (State.dataFails_keeps ..).step rfl kl1
      · exact (State.fetched_keeps ..).step rfl kl1
      · exact (State.fatal_keeps ..).step rfl kl1
      · exact (State.fatal_keeps ..).step rfl kl1
    exact (State.event_keeps ..).step rfl ((State.bump_keeps ..).step rfl kl2)

theorem execVfDisable_keeps (link : Nat) (s : State) : KeepsIn atNext 234872209 s (execVfDisable link s) := by
  unfold execVfDisable
  refine KeepsIn.effect rfl ?_ ?_
  · exact .refl _ _
  · intro u1 hu1
    refine State.configured_keeps rfl ?_ ?_
    · exact hu1
    · intro u2 hu2
      refine Keeps.ite ?_ ?_
      · exact (State.vfDisable_keeps ..).step rfl hu2
      · exact hu2

theorem execPoisonedTlp_keeps (link : Nat) (what : TlpError) (s : State) : KeepsIn atNext 87985553 s (execPoisonedTlp link what s) := by
  unfold execPoisonedTlp
  refine KeepsIn.effect rfl ?_ ?_
  · exact .refl _ _
  · intro u1 hu1
    split
    · exact (State.nonFatal_keeps ..).step rfl ((State.dataFails_keeps ..).step rfl hu1)
    · exact (State.nonFatal_keeps ..).step rfl ((State.dataFails_keeps ..).step rfl hu1)
    · exact (State.nonFatal_keeps ..).step rfl hu1
    · extract_lets l2
      exact (State.bump_keeps ..).step rfl ((State.modCfg_keeps ..).step rfl hu1)

theorem execFunctionLevelReset_keeps (fn : Fn) (s : State) : KeepsIn atNext 234872209 s (execFunctionLevelReset fn s) := by
  unfold execFunctionLevelReset
  refine KeepsIn.effect rfl ?_ ?_
  · exact .refl _ _
  · intro u1 hu1
    refine State.configured_keeps rfl ?_ ?_
    · exact hu1
    · intro u2 hu2
      exact (State.flr_keeps ..).step rfl hu2

theorem execLinkUp_keeps (link : Nat) (gen : Nat) (width : Nat) (flit : Bool) (tag10 : Bool) (s : State) : KeepsIn atNext 18833 s (execLinkUp link gen width flit tag10 s) := by
  unfold execLinkUp
  refine KeepsIn.effect rfl ?_ ?_
  · exact .refl _ _
  · intro u1 hu1
    exact (State.linkUp_keeps ..).step rfl hu1

theorem execHotReset_keeps (link : Nat) (s : State) : KeepsIn atNext 234872209 s (execHotReset link s) := by
  unfold execHotReset
  refine KeepsIn.effect rfl ?_ ?_
  · exact .refl _ _
  · intro u1 hu1
    refine Keeps.ite ?_ ?_
    · exact (State.resetLink_keeps ..).step rfl hu1
    · exact hu1

theorem State.perstAssert_keeps (s : State) (port : Nat) : Keeps 234872209 s (State.perstAssert s port) := by
  unfold State.perstAssert
  extract_lets l1 l2 l3 l5 l7
  have kl3 : Keeps 234872209 s l3 := by
    unfold l3
    refine Keeps.each ?_ ?_
    · exact .refl _ _
    · intro u4 _ hu4
      exact (State.resetLink_keeps ..).step rfl hu4
  have kl5 : Keeps 234872209 s l5 := by
    unfold l5
    refine Keeps.each ?_ ?_
    · exact kl3
    · intro u6 _ hu6
      exact (State.event_keeps ..).step rfl hu6
  have kl7 : Keeps 234872209 s l7 := by
    unfold l7
    refine Keeps.each ?_ ?_
    · exact kl5
    · intro u8 _ hu8
      exact (State.modLink_keeps ..).step rfl ((State.linkZero_keeps ..).step rfl hu8)
  exact (State.updBoot_keeps ..).step rfl kl7

theorem execLinkDown_keeps (link : Nat) (s : State) : KeepsIn atNext 234872209 s (execLinkDown link s) := by
  unfold execLinkDown
  refine KeepsIn.effect rfl ?_ ?_
  · exact .refl _ _
  · intro u1 hu1
    refine Keeps.ite ?_ ?_
    · exact (State.event_keeps ..).step rfl ((State.linkZero_keeps ..).step rfl ((State.resetLink_keeps ..).step rfl hu1))
    · exact hu1

theorem execCompletionTimeout_keeps (link : Nat) (what : ReqKind) (s : State) : KeepsIn atNext 87985553 s (execCompletionTimeout link what s) := by
  unfold execCompletionTimeout
  refine KeepsIn.effect rfl ?_ ?_
  · exact .refl _ _
  · intro u1 hu1
    exact (State.completionTimeout_keeps ..).step rfl hu1

theorem execPerstAssert_keeps (port : Nat) (s : State) : KeepsIn atNext 234872209 s (execPerstAssert port s) := by
  unfold execPerstAssert
  refine KeepsIn.effect rfl ?_ ?_
  · exact .refl _ _
  · intro u1 hu1
    refine Keeps.ite ?_ ?_
    · exact hu1
    · exact (State.perstAssert_keeps ..).step rfl hu1

end Sys2Proof.Machine
end

