-- ==== Sys2Proof/Laws/KeepsTime.lean ====
section
/-! SUPPORT. What each operation of Machine/Time.lean keeps (Laws/Frame.lean). -/

namespace Sys2Proof.Machine

theorem State.sourceLost_keeps (s : State) : Keeps 2513 s (State.sourceLost s) := by
  unfold State.sourceLost
  extract_lets l1 l2 l3
  have kl1 : Keeps 2513 s l1 := (State.updTime_keeps ..).step rfl (.refl _ _)
  split
  · exact (State.event_keeps ..).step rfl (Keeps.set_time rfl kl1)
  · refine Keeps.ite ?_ ?_
    · exact Keeps.set_time rfl kl1
    · refine Keeps.ite ?_ ?_
      · exact Keeps.set_time rfl kl1
      · exact (State.event_keeps ..).step rfl (Keeps.set_time rfl kl1)
  · exact kl1

theorem execPtpDelayResp_keeps (m : Nat) (domain : Nat) (delay : Nat) (s : State) : KeepsIn atNext 80 s (execPtpDelayResp m domain delay s) := by
  unfold execPtpDelayResp
  refine KeepsIn.effect rfl ?_ ?_
  · exact .refl _ _
  · intro u1 hu1
    refine Keeps.ite ?_ ?_
    · exact hu1
    · exact Keeps.set_time rfl hu1

theorem State.modPps_keeps (s : State) (f : Pps → Pps) : Keeps 64 s (State.modPps s f) := by
  unfold State.modPps
  exact Keeps.set_time rfl (.refl _ _)

theorem execPtpDelayReq_keeps (s : State) : KeepsIn atNext 80 s (execPtpDelayReq s) := by
  unfold execPtpDelayReq
  refine KeepsIn.effect rfl ?_ ?_
  · exact .refl _ _
  · intro u1 hu1
    refine Keeps.ite ?_ ?_
    · exact hu1
    · exact (State.emit_keeps ..).step rfl (Keeps.set_time rfl hu1)

theorem execMeridian_keeps (s : State) : KeepsIn atNext 143625681 s (execMeridian s) := by
  unfold execMeridian
  refine KeepsIn.effect rfl ?_ ?_
  · exact .refl _ _
  · intro u1 hu1
    refine Keeps.ite ?_ ?_
    · exact (State.meridian_keeps ..).step rfl hu1
    · exact hu1

theorem State.sourceHeard_keeps (s : State) : Keeps 64 s (State.sourceHeard s) := by
  unfold State.sourceHeard
  extract_lets l1 l2 l3
  split
  · exact .refl _ _
  · exact Keeps.set_time rfl (.refl _ _)

theorem State.ptpDown_keeps (s : State) : Keeps 2513 s (State.ptpDown s) := by
  unfold State.ptpDown
  exact (State.sourceLost_keeps ..).step rfl ((State.updTime_keeps ..).step rfl (.refl _ _))

theorem State.discipline_keeps (s : State) (o : Int) : Keeps 96 s (State.discipline s o) :=
  ⟨fun p hp => by cases p <;> first | rfl | exact absurd hp (by decide), id, Nat.le_succ _, fun h => ⟨h, Nat.le_refl _⟩⟩

theorem execSlewTimeout_keeps (s : State) : KeepsIn atNext 2513 s (execSlewTimeout s) := by
  unfold execSlewTimeout
  refine KeepsIn.effect rfl ?_ ?_
  · exact .refl _ _
  · intro u1 hu1
    refine Keeps.ite ?_ ?_
    · exact hu1
    · exact (State.event_keeps ..).step rfl (Keeps.set_time rfl hu1)

theorem execAcquireTimeout_keeps (s : State) : KeepsIn atNext 2513 s (execAcquireTimeout s) := by
  unfold execAcquireTimeout
  refine KeepsIn.effect rfl ?_ ?_
  · exact .refl _ _
  · intro u1 hu1
    refine Keeps.ite ?_ ?_
    · exact (State.sourceLost_keeps ..).step rfl hu1
    · exact hu1

theorem State.edgeRejected_keeps (s : State) (o : Int) : Keeps 2449 s (State.edgeRejected s o) := by
  unfold State.edgeRejected
  exact (State.event_keeps ..).step rfl ((State.bump_keeps ..).step rfl (.refl _ _))

theorem State.selectMaster_keeps (s : State) (l : List PtpMaster) : Keeps 2513 s (State.selectMaster s l) := by
  unfold State.selectMaster
  extract_lets l1 l2 l3 l4 l5
  have kl3 : Keeps 2513 s l3 := Keeps.set_time rfl (.refl _ _)
  split
  · exact (State.sourceHeard_keeps ..).step rfl (Keeps.set_time rfl kl3)
  · refine Keeps.ite ?_ ?_
    · exact kl3
    · extract_lets l6
      have kl6 : Keeps 2513 s l6 := Keeps.set_time rfl kl3
      exact (State.sourceHeard_keeps ..).step rfl ((State.event_keeps ..).step rfl kl6)
  · exact (State.sourceLost_keeps ..).step rfl (Keeps.set_time rfl kl3)
  · exact kl3

theorem State.dropAnchor_keeps (s : State) : Keeps 64 s (State.dropAnchor s) := by
  unfold State.dropAnchor
  exact (State.modPps_keeps ..).step rfl (.refl _ _)

theorem execHoldoverTimeout_keeps (s : State) : KeepsIn atNext 2513 s (execHoldoverTimeout s) := by
  unfold execHoldoverTimeout
  refine KeepsIn.effect rfl ?_ ?_
  · exact .refl _ _
  · intro u1 hu1
    refine Keeps.ite ?_ ?_
    · exact hu1
    · extract_lets l2 l3 l4
      have kl3 : Keeps 2513 s l3 := Keeps.set_time rfl hu1
      refine Keeps.ite ?_ ?_
      · exact (State.event_keeps ..).step rfl (Keeps.set_time rfl kl3)
      · exact kl3

theorem State.shiftDeadlines_keeps (s : State) (by_ : Int) : Keeps 525312 s (State.shiftDeadlines s by_) := by
  unfold State.shiftDeadlines
  extract_lets l1
  have kl1 : Keeps 525312 s l1 := (State.updQ_keeps ..).step rfl (.refl _ _)
  exact (State.updMd_keeps ..).step rfl kl1

theorem State.todJudge_keeps (s : State) (next : Bool) (v : TodVerdict) : Keeps 64 s (State.todJudge s next v) := by
  unfold State.todJudge
  exact (State.modPps_keeps ..).step rfl (.refl _ _)

theorem execPpsWindowClose_keeps (s : State) : KeepsIn atNext 80 s (execPpsWindowClose s) := by
  unfold execPpsWindowClose
  refine KeepsIn.effect rfl ?_ ?_
  · exact .refl _ _
  · intro u1 hu1
    refine Keeps.ite ?_ ?_
    · exact (State.modPps_keeps ..).step rfl hu1
    · exact hu1

theorem State.stepClock_keeps (s : State) (want : Int) : Keeps 143625681 s (State.stepClock s want) := by
  unfold State.stepClock
  extract_lets l1 l2 l3 l4 l5 l6 l7 l8 l9 l10
  have kl4 : Keeps 143625681 s l4 := Keeps.set_time rfl (.refl _ _)
  have kl5 : Keeps 143625681 s l5 := (State.event_keeps ..).step rfl ((State.bump_keeps ..).step rfl kl4)
  have kl6 : Keeps 143625681 s l6 := (State.shiftDeadlines_keeps ..).step rfl kl5
  have kl8 : Keeps 143625681 s l8 := Keeps.set_time rfl kl6
  have kl9 : Keeps 143625681 s l9 := (State.meridian_keeps ..).step rfl kl8
  refine Keeps.ite ?_ ?_
  · exact kl6
  · refine Keeps.ite ?_ ?_
    · exact Keeps.set_time rfl kl9
    · refine Keeps.ite ?_ ?_
      · exact Keeps.set_time rfl kl6
      · exact kl6

theorem State.masterSilent_keeps (s : State) : Keeps 2513 s (State.masterSilent s) := by
  unfold State.masterSilent
  split
  · exact .refl _ _
  · exact (State.selectMaster_keeps ..).step rfl ((State.event_keeps ..).step rfl (.refl _ _))

theorem State.judgingEnd_keeps (s : State) : Keeps 2513 s (State.judgingEnd s) := by
  unfold State.judgingEnd
  refine Keeps.ite ?_ ?_
  · exact .refl _ _
  · extract_lets l1 l2 l3 l4
    have kl2 : Keeps 2513 s l2 := (State.event_keeps ..).step rfl ((State.bump_keeps ..).step rfl (.refl _ _))
    have kl3 : Keeps 2513 s l3 := (State.modPps_keeps ..).step rfl kl2
    have kl4 : Keeps 2513 s l4 := by
      unfold l4
      refine Keeps.ite ?_ ?_
      · exact .refl _ _
      · refine Keeps.ite ?_ ?_
        · exact (State.dropAnchor_keeps ..).step rfl kl3
        · refine Keeps.ite ?_ ?_
          · exact (State.sourceLost_keeps ..).step rfl ((State.modPps_keeps ..).step rfl kl3)
          · exact kl3
    exact (State.modPps_keeps ..).step rfl kl4

theorem execPtpAnnounce_keeps (m : PtpMaster) (s : State) : KeepsIn atNext 2513 s (execPtpAnnounce m s) := by
  unfold execPtpAnnounce
  refine KeepsIn.effect rfl ?_ ?_
  · exact .refl _ _
  · intro u1 hu1
    refine Keeps.ite ?_ ?_
    · exact hu1
    · exact (State.selectMaster_keeps ..).step rfl hu1

theorem execJudgingIntervalEnd_keeps (s : State) : KeepsIn atNext 2513 s (execJudgingIntervalEnd s) := by
  unfold execJudgingIntervalEnd
  refine KeepsIn.effect rfl ?_ ?_
  · exact .refl _ _
  · intro u1 hu1
    exact (State.judgingEnd_keeps ..).step rfl hu1

theorem execAnnounceReceiptTimeout_keeps (s : State) : KeepsIn atNext 2513 s (execAnnounceReceiptTimeout s) := by
  unfold execAnnounceReceiptTimeout
  refine KeepsIn.effect rfl ?_ ?_
  · exact .refl _ _
  · intro u1 hu1
    refine Keeps.ite ?_ ?_
    · exact (State.masterSilent_keeps ..).step rfl hu1
    · exact hu1

theorem State.stepOffset_keeps (s : State) (o : Int) : Keeps 143625681 s (State.stepOffset s o) := by
  unfold State.stepOffset
  extract_lets l1
  have kl1 : Keeps 143625681 s l1 := (State.stepClock_keeps ..).step rfl (.refl _ _)
  exact (State.updTime_keeps ..).step rfl kl1

theorem State.qualify_keeps (s : State) (o : Int) : Keeps 143625681 s (State.qualify s o) := by
  unfold State.qualify
  extract_lets l1 l2 l3 l4 l5 l6
  have kl2 : Keeps 143625681 s l2 := by
    unfold l2
    refine Keeps.ite ?_ ?_
    · exact (State.stepClock_keeps ..).step rfl (.refl _ _)
    · exact .refl _ _
  exact (State.event_keeps ..).step rfl (Keeps.set_time rfl kl2)

theorem execPtpSyncTimeout_keeps (s : State) : KeepsIn atNext 2513 s (execPtpSyncTimeout s) := by
  unfold execPtpSyncTimeout
  refine KeepsIn.effect rfl ?_ ?_
  · exact .refl _ _
  · intro u1 hu1
    refine Keeps.ite ?_ ?_
    · exact (State.masterSilent_keeps ..).step rfl hu1
    · exact hu1

theorem State.edgeOutside_keeps (s : State) (o : Int) (w : Nat) : Keeps 143625681 s (State.edgeOutside s o w) := by
  unfold State.edgeOutside
  extract_lets l1 l2 l3 l4 l5
  have kl3 : Keeps 143625681 s l3 := Keeps.set_time rfl (.refl _ _)
  have kl4 : Keeps 143625681 s l4 := (State.edgeRejected_keeps ..).step rfl ((State.modPps_keeps ..).step rfl kl3)
  have kl5 : Keeps 143625681 s l5 := (State.modPps_keeps ..).step rfl ((State.stepOffset_keeps ..).step rfl kl4)
  refine Keeps.ite ?_ ?_
  · exact (State.dropAnchor_keeps ..).step rfl kl4
  · refine Keeps.ite ?_ ?_
    · split
      · exact (State.sourceHeard_keeps ..).step rfl kl5
      · exact (State.sourceHeard_keeps ..).step rfl kl5
      · exact kl5
    · exact kl4

theorem State.todMessage_keeps (s : State) (m : Tod) : Keeps 143625681 s (State.todMessage s m) := by
  unfold State.todMessage
  extract_lets l1 l2 l3
  have kl3 : Keeps 143625681 s l3 := (State.modPps_keeps ..).step rfl (.refl _ _)
  refine Keeps.ite ?_ ?_
  · exact .refl _ _
  · refine Keeps.ite ?_ ?_
    · exact (State.event_keeps ..).step rfl ((State.bump_keeps ..).step rfl (.refl _ _))
    · refine Keeps.ite ?_ ?_
      · exact (State.todJudge_keeps ..).step rfl ((State.event_keeps ..).step rfl ((State.bump_keeps ..).step rfl (.refl _ _)))
      · split
        · exact (State.modPps_keeps ..).step rfl kl3
        · extract_lets l4 l5 l6 l7 l8
          have kl7 : Keeps 143625681 s l7 := (State.todJudge_keeps ..).step rfl ((State.event_keeps ..).step rfl ((State.bump_keeps ..).step rfl kl3))
          have kl8 : Keeps 143625681 s l8 := (State.stepClock_keeps ..).step rfl kl7
          refine Keeps.ite ?_ ?_
          · exact (State.modPps_keeps ..).step rfl ((State.todJudge_keeps ..).step rfl kl3)
          · refine Keeps.ite ?_ ?_
            · exact (State.modPps_keeps ..).step rfl kl8
            · exact (State.modPps_keeps ..).step rfl kl7

theorem State.ptpSample_keeps (s : State) (o : Int) : Keeps 143625713 s (State.ptpSample s o) := by
  unfold State.ptpSample
  extract_lets l1 l2 l3 l4 l5 l6 l7 l8 l9 l10 l11 l12 l13
  have kl2 : Keeps 143625713 s l2 := Keeps.set_time rfl (.refl _ _)
  have kl3 : Keeps 143625713 s l3 := (State.discipline_keeps ..).step rfl kl2
  have kl6 : Keeps 143625713 s l6 := (State.stepClock_keeps ..).step rfl kl2
  have kl9 : Keeps 143625713 s l9 := (State.stepOffset_keeps ..).step rfl kl2
  split
  · refine Keeps.ite ?_ ?_
    · exact (State.qualify_keeps ..).step rfl kl2
    · exact Keeps.set_time rfl kl3
  · refine Keeps.ite ?_ ?_
    · exact Keeps.set_time rfl kl6
    · refine Keeps.ite ?_ ?_
      · exact Keeps.set_time rfl kl3
      · refine Keeps.ite ?_ ?_
        · exact Keeps.set_time rfl kl9
        · exact Keeps.set_time rfl kl2
  · exact kl2

theorem State.edgeAccepted_keeps (s : State) (p : Prediction) (o : Int) : Keeps 143625713 s (State.edgeAccepted s p o) := by
  unfold State.edgeAccepted
  extract_lets l1 l2 l3 l4 l5 l6
  have kl1 : Keeps 143625713 s l1 := (State.modPps_keeps ..).step rfl (.refl _ _)
  have kl3 : Keeps 143625713 s l3 := (State.stepClock_keeps ..).step rfl kl1
  have kl5 : Keeps 143625713 s l5 := (State.qualify_keeps ..).step rfl kl1
  have kl6 : Keeps 143625713 s l6 := (State.modPps_keeps ..).step rfl ((State.discipline_keeps ..).step rfl kl1)
  split
  · refine Keeps.ite ?_ ?_
    · exact Keeps.set_time rfl kl3
    · exact (State.discipline_keeps ..).step rfl kl1
  · refine Keeps.ite ?_ ?_
    · refine Keeps.ite ?_ ?_
      · exact (State.modPps_keeps ..).step rfl kl5
      · exact (State.modPps_keeps ..).step rfl ((State.discipline_keeps ..).step rfl kl1)
    · refine Keeps.ite ?_ ?_
      · exact (State.dropAnchor_keeps ..).step rfl kl6
      · exact kl6
  · exact (State.modPps_keeps ..).step rfl ((State.discipline_keeps ..).step rfl ((State.sourceHeard_keeps ..).step rfl kl1))
  · exact (State.modPps_keeps ..).step rfl ((State.discipline_keeps ..).step rfl ((State.sourceHeard_keeps ..).step rfl kl1))
  · exact kl1

theorem execTodMessage_keeps (t : Tod) (s : State) : KeepsIn atNext 143625681 s (execTodMessage t s) := by
  unfold execTodMessage
  refine KeepsIn.effect rfl ?_ ?_
  · exact .refl _ _
  · intro u1 hu1
    exact (State.todMessage_keeps ..).step rfl hu1

theorem execPtpFollowUp_keeps (m : Nat) (domain : Nat) (offset : Int) (s : State) : KeepsIn atNext 143625713 s (execPtpFollowUp m domain offset s) := by
  unfold execPtpFollowUp
  refine KeepsIn.effect rfl ?_ ?_
  · exact .refl _ _
  · intro u1 hu1
    refine Keeps.ite ?_ ?_
    · exact hu1
    · exact (State.ptpSample_keeps ..).step rfl (Keeps.set_time rfl hu1)

theorem execPtpSync_keeps (m : Nat) (domain : Nat) (offset : Int) (twoStep : Bool) (s : State) : KeepsIn atNext 143625713 s (execPtpSync m domain offset twoStep s) := by
  unfold execPtpSync
  refine KeepsIn.effect rfl ?_ ?_
  · exact .refl _ _
  · intro u1 hu1
    refine Keeps.ite ?_ ?_
    · exact hu1
    · refine Keeps.ite ?_ ?_
      · exact Keeps.set_time rfl hu1
      · exact (State.ptpSample_keeps ..).step rfl hu1

theorem State.ppsEdge_keeps (s : State) (ns : Nat) : Keeps 143625713 s (State.ppsEdge s ns) := by
  unfold State.ppsEdge
  extract_lets l1 l2 l3
  have kl2 : Keeps 143625713 s l2 := (State.modPps_keeps ..).step rfl (.refl _ _)
  refine Keeps.ite ?_ ?_
  · exact .refl _ _
  · split
    · split
      · exact kl2
      · exact (State.modPps_keeps ..).step rfl ((State.sourceHeard_keeps ..).step rfl kl2)
    · extract_lets l4
      refine Keeps.ite ?_ ?_
      · exact (State.edgeRejected_keeps ..).step rfl kl2
      · refine Keeps.ite ?_ ?_
        · exact (State.edgeAccepted_keeps ..).step rfl kl2
        · exact (State.edgeOutside_keeps ..).step rfl kl2

theorem execPpsEdge_keeps (ns : Nat) (s : State) : KeepsIn atNext 143625713 s (execPpsEdge ns s) := by
  unfold execPpsEdge
  refine KeepsIn.effect rfl ?_ ?_
  · exact .refl _ _
  · intro u1 hu1
    exact (State.ppsEdge_keeps ..).step rfl hu1

end Sys2Proof.Machine
end

