-- ==== Sys2Proof/Laws/KeepsNet.lean ====
section
/-! SUPPORT. What each operation of Machine/Net.lean keeps (Laws/Frame.lean). -/

namespace Sys2Proof.Machine

theorem State.addrAttr_keeps (s : State) (attr : Nat) : Keeps 1 s (State.addrAttr s attr) := by
  unfold State.addrAttr
  extract_lets l1
  have kl1 : Keeps 1 s l1 := (State.wr_keeps ..).step rfl ((State.wr_keeps ..).step rfl (.refl _ _))
  refine Keeps.ite ?_ ?_
  · exact (State.wr_keeps ..).step rfl kl1
  · exact kl1

theorem State.addrCommit_keeps (s : State) (attr : Nat) : Keeps 1048577 s (State.addrCommit s attr) := by
  unfold State.addrCommit
  extract_lets l1 l2 l3 l4 l5 l6
  have kl1 : Keeps 1048577 s l1 := (State.addrAttr_keeps ..).step rfl (.refl _ _)
  exact (State.updNet_keeps ..).step rfl kl1

theorem State.sqpResult_keeps (s : State) (r : Nat) : Keeps 1 s (State.sqpResult s r) := by
  unfold State.sqpResult
  exact (State.set_keeps ..).step rfl ((State.wr_keeps ..).step rfl (.refl _ _))

theorem State.sqpIdle_keeps (s : State) (h : Nat) : Keeps 1048576 s (State.sqpIdle s h) := by
  unfold State.sqpIdle
  extract_lets l1
  exact (State.updNet_keeps ..).step rfl (.refl _ _)

theorem execSqpPeerAccept_keeps (handle : Nat) (s : State) : KeepsIn atNext 1051025 s (execSqpPeerAccept handle s) := by
  unfold execSqpPeerAccept
  refine KeepsIn.effect rfl ?_ ?_
  · exact .refl _ _
  · intro u1 hu1
    extract_lets l2
    refine Keeps.ite ?_ ?_
    · exact hu1
    · refine Keeps.ite ?_ ?_
      · exact (State.event_keeps ..).step rfl ((State.sqpResult_keeps ..).step rfl ((State.updNet_keeps ..).step rfl hu1))
      · exact (State.sqpResult_keeps ..).step rfl ((State.sqpIdle_keeps ..).step rfl ((State.emit_keeps ..).step rfl hu1))

theorem State.sendAck_keeps (s : State) (k : Nat) : Keeps 1048592 s (State.sendAck s k) := by
  unfold State.sendAck
  split
  · exact .refl _ _
  · refine Keeps.ite ?_ ?_
    · exact .refl _ _
    · exact (State.emit_keeps ..).step rfl ((State.modQp_keeps ..).step rfl (.refl _ _))

theorem execAckSend_keeps (qp : Nat) (s : State) : KeepsIn atNext 1048592 s (execAckSend qp s) := by
  unfold execAckSend
  refine KeepsIn.effect rfl ?_ ?_
  · exact .refl _ _
  · intro u1 hu1
    exact (State.sendAck_keeps ..).step rfl hu1

theorem execRnrRetryTimerExpiry_keeps (qp : Nat) (s : State) : KeepsIn atNext 1048592 s (execRnrRetryTimerExpiry qp s) := by
  unfold execRnrRetryTimerExpiry
  refine KeepsIn.effect rfl ?_ ?_
  · exact .refl _ _
  · intro u1 hu1
    split
    · exact hu1
    · refine Keeps.ite ?_ ?_
      · exact (State.emit_keeps ..).step rfl ((State.modQp_keeps ..).step rfl hu1)
      · exact hu1

theorem State.notifyCe_keeps (s : State) (k : Nat) : Keeps 68157457 s (State.notifyCe s k) := by
  unfold State.notifyCe
  split
  · exact .refl _ _
  · extract_lets l1 l2
    have kl2 : Keeps 68157457 s l2 := (State.modQp_keeps ..).step rfl (.refl _ _)
    refine Keeps.ite ?_ ?_
    · exact .refl _ _
    · exact (State.emit_keeps ..).step rfl ((State.bumpUnits_keeps ..).step rfl kl2)

theorem State.sqpRefused_keeps (s : State) (h : Nat) : Keeps 1048577 s (State.sqpRefused s h) := by
  unfold State.sqpRefused
  refine Keeps.ite ?_ ?_
  · exact (State.sqpResult_keeps ..).step rfl ((State.sqpIdle_keeps ..).step rfl (.refl _ _))
  · exact .refl _ _

theorem State.sqpError_keeps (s : State) (handle : Nat) : Keeps 87559569 s (State.sqpError s handle) := by
  unfold State.sqpError
  extract_lets l1
  have kl1 : Keeps 87559569 s l1 := (State.updNet_keeps ..).step rfl (.refl _ _)
  refine Keeps.each ?_ ?_
  · exact kl1
  · intro u2 _ hu2
    extract_lets l3
    split
    · refine Keeps.ite ?_ ?_
      · exact (State.serveFails_keeps ..).step rfl hu2
      · exact hu2
    · refine Keeps.ite ?_ ?_
      · exact (State.serveFails_keeps ..).step rfl hu2
      · exact hu2
    · exact hu2

theorem execArpRequest_keeps (p : Nat) (addr : Nat) (s : State) : KeepsIn atNext 16 s (execArpRequest p addr s) := by
  unfold execArpRequest
  refine KeepsIn.effect rfl ?_ ?_
  · exact .refl _ _
  · intro u1 hu1
    refine Keeps.ite ?_ ?_
    · exact (State.emit_keeps ..).step rfl hu1
    · exact hu1

theorem State.sqpDestroy_keeps (s : State) : Keeps 87559569 s (State.sqpDestroy s) := by
  unfold State.sqpDestroy
  extract_lets l1 l2
  refine Keeps.ite ?_ ?_
  · exact .refl _ _
  · refine Keeps.ite ?_ ?_
    · exact (State.sqpResult_keeps ..).step rfl ((State.sqpIdle_keeps ..).step rfl ((State.sqpError_keeps ..).step rfl ((State.emit_keeps ..).step rfl (.refl _ _))))
    · exact (State.sqpResult_keeps ..).step rfl (.refl _ _)

theorem execKeepAliveExpiry_keeps (owner : Nat) (s : State) : KeepsIn atNext 234872209 s (execKeepAliveExpiry owner s) := by
  unfold execKeepAliveExpiry
  refine KeepsIn.effect rfl ?_ ?_
  · exact .refl _ _
  · intro u1 hu1
    split
    · exact hu1
    · refine Keeps.ite ?_ ?_
      · exact hu1
      · exact (State.endAssociation_keeps ..).step rfl hu1

theorem execKeepAlive_keeps (ref : CmdRef) (s : State) : KeepsIn atNext 1049616 s (execKeepAlive ref s) := by
  unfold execKeepAlive
  refine KeepsIn.effect rfl ?_ ?_
  · exact .refl _ _
  · intro u1 hu1
    refine State.starting_keeps rfl ?_ ?_
    · exact hu1
    · intro u2 hu2
      split
      · exact (State.finish_keeps ..).step rfl hu2
      · exact (State.finish_keeps ..).step rfl ((State.updNet_keeps ..).step rfl hu2)

theorem State.answer_keeps (s : State) (qp : Nat) (st : Status) (cntlid : Nat) : Keeps 16 s (State.answer s qp st cntlid) := by
  unfold State.answer
  exact (State.emit_keeps ..).step rfl (.refl _ _)

theorem State.modPort_keeps (s : State) (p : Nat) (f : NetPort → NetPort) : Keeps 1048576 s (State.modPort s p f) := by
  unfold State.modPort
  exact (State.updNet_keeps ..).step rfl (.refl _ _)

theorem State.receiveSend_keeps (s : State) (k : Nat) (psn : Nat) : Keeps 1048592 s (State.receiveSend s k psn) := by
  unfold State.receiveSend
  split
  · exact .refl _ _
  · refine Keeps.ite ?_ ?_
    · exact .refl _ _
    · refine Keeps.ite ?_ ?_
      · exact (State.emit_keeps ..).step rfl (.refl _ _)
      · extract_lets l1
        have kl1 : Keeps 1048592 s l1 := (State.modQp_keeps ..).step rfl (.refl _ _)
        refine Keeps.ite ?_ ?_
        · exact (State.sendAck_keeps ..).step rfl kl1
        · exact kl1

theorem State.setRate_keeps (s : State) (k : Nat) (rate : Nat) : Keeps 1051025 s (State.setRate s k rate) := by
  unfold State.setRate
  split
  · exact .refl _ _
  · extract_lets l1 l2 l3
    have kl3 : Keeps 1051025 s l3 := (State.modQp_keeps ..).step rfl (.refl _ _)
    refine Keeps.ite ?_ ?_
    · exact (State.eventPer_keeps ..).step rfl kl3
    · exact kl3

theorem execSqpPeerReject_keeps (handle : Nat) (s : State) : KeepsIn atNext 1048593 s (execSqpPeerReject handle s) := by
  unfold execSqpPeerReject
  refine KeepsIn.effect rfl ?_ ?_
  · exact .refl _ _
  · intro u1 hu1
    exact (State.sqpRefused_keeps ..).step rfl hu1

theorem execCnp_keeps (qp : Nat) (s : State) : KeepsIn atNext 68159889 s (execCnp qp s) := by
  unfold execCnp
  refine KeepsIn.effect rfl ?_ ?_
  · exact .refl _ _
  · intro u1 hu1
    split
    · exact hu1
    · extract_lets l2 l3 l4
      have kl2 : Keeps 68159889 s l2 := (State.bumpUnits_keeps ..).step rfl hu1
      have kl4 : Keeps 68159889 s l4 := (State.modQp_keeps ..).step rfl kl2
      refine Keeps.ite ?_ ?_
      · exact kl2
      · exact (State.setRate_keeps ..).step rfl kl4

theorem execSqpDestroy_keeps (s : State) : KeepsIn atNext 87559569 s (execSqpDestroy s) := by
  unfold execSqpDestroy
  refine KeepsIn.effect rfl ?_ ?_
  · exact .refl _ _
  · intro u1 hu1
    exact (State.sqpDestroy_keeps ..).step rfl hu1

theorem State.resumePrio_keeps (s : State) (p : Nat) (prio : Nat) : Keeps 1048576 s (State.resumePrio s p prio) := by
  unfold State.resumePrio
  exact (State.modPort_keeps ..).step rfl (.refl _ _)

theorem State.advance_keeps (s : State) (k : Nat) (d : Nat) : Keeps 1048576 s (State.advance s k d) := by
  unfold State.advance
  exact (State.modQp_keeps ..).step rfl (.refl _ _)

theorem State.capsule_keeps (s : State) (owner : Nat) (qid : Nat) (e : Sqe) : Keeps 68165009 s (State.capsule s owner qid e) := by
  unfold State.capsule
  split
  · exact .refl _ _
  · extract_lets l1 l2 l3 l4 l5 l6 l7 l8
    have kl2 : Keeps 68165009 s l2 := (State.modQp_keeps ..).step rfl (.refl _ _)
    have kl3 : Keeps 68165009 s l3 := (State.emit_keeps ..).step rfl kl2
    have kl4 : Keeps 68165009 s l4 := (State.powerExit_keeps ..).step rfl (.refl _ _)
    have kl7 : Keeps 68165009 s l7 := (State.updQ_keeps ..).step rfl kl4
    refine Keeps.ite ?_ ?_
    · exact .refl _ _
    · refine Keeps.ite ?_ ?_
      · exact (State.eventPer_keeps ..).step rfl ((State.bump_keeps ..).step rfl kl3)
      · refine Keeps.ite ?_ ?_
        · exact (State.doorbell_keeps ..).step rfl ((State.lookup_keeps ..).step rfl kl7)
        · exact (State.updQ_keeps ..).step rfl ((State.lookup_keeps ..).step rfl kl7)

theorem State.netDown_keeps (s : State) (p : Nat) : Keeps 1051089 s (State.netDown s p) := by
  unfold State.netDown
  refine Keeps.ite ?_ ?_
  · exact .refl _ _
  · extract_lets l1
    have kl1 : Keeps 1051089 s l1 := (State.event_keeps ..).step rfl ((State.bump_keeps ..).step rfl ((State.modPort_keeps ..).step rfl (.refl _ _)))
    refine Keeps.ite ?_ ?_
    · exact (State.ptpDown_keeps ..).step rfl kl1
    · exact kl1

theorem State.qpError_keeps (s : State) (k : Nat) : Keeps 234872209 s (State.qpError s k) := by
  unfold State.qpError
  split
  · exact .refl _ _
  · extract_lets l1
    have kl1 : Keeps 234872209 s l1 := (State.event_keeps ..).step rfl ((State.modQp_keeps ..).step rfl (.refl _ _))
    split
    · exact (State.endAssociation_keeps ..).step rfl kl1
    · exact (State.sqpError_keeps ..).step rfl kl1
    · exact (State.updNet_keeps ..).step rfl kl1

theorem execRateIncreaseTimer_keeps (qp : Nat) (s : State) : KeepsIn atNext 1051025 s (execRateIncreaseTimer qp s) := by
  unfold execRateIncreaseTimer
  refine KeepsIn.effect rfl ?_ ?_
  · exact .refl _ _
  · intro u1 hu1
    split
    · exact hu1
    · refine Keeps.ite ?_ ?_
      · exact hu1
      · extract_lets l2 l3 l4
        have kl4 : Keeps 1051025 s l4 := (State.modQp_keeps ..).step rfl hu1
        exact (State.setRate_keeps ..).step rfl kl4

theorem execNetAddrCommit_keeps (attr : Nat) (s : State) : KeepsIn atNext 1048593 s (execNetAddrCommit attr s) := by
  unfold execNetAddrCommit
  refine KeepsIn.effect rfl ?_ ?_
  · exact .refl _ _
  · intro u1 hu1
    exact (State.addrCommit_keeps ..).step rfl hu1

theorem State.newQp_keeps (s : State) (p : Nat) (pmtu : Nat) (use : QpUse) : Keeps 1048576 s (State.newQp s p pmtu use) := by
  unfold State.newQp
  extract_lets l1
  exact (State.updNet_keeps ..).step rfl (.refl _ _)

theorem execSqpConnectTimeout_keeps (handle : Nat) (s : State) : KeepsIn atNext 1048593 s (execSqpConnectTimeout handle s) := by
  unfold execSqpConnectTimeout
  refine KeepsIn.effect rfl ?_ ?_
  · exact .refl _ _
  · intro u1 hu1
    exact (State.sqpRefused_keeps ..).step rfl hu1

theorem State.fabricQueue_keeps (s : State) (owner : Nat) (qid : Nat) (m1 : Nat) (qp : Nat) : Keeps 1049600 s (State.fabricQueue s owner qid m1 qp) := by
  unfold State.fabricQueue
  extract_lets l1 l2
  have kl2 : Keeps 1049600 s l2 := (State.cache_keeps ..).step rfl ((State.modCtx_keeps ..).step rfl (.refl _ _))
  exact (State.modQp_keeps ..).step rfl kl2

theorem execNeighborSolicitation_keeps (p : Nat) (addr : Nat) (s : State) : KeepsIn atNext 16 s (execNeighborSolicitation p addr s) := by
  unfold execNeighborSolicitation
  refine KeepsIn.effect rfl ?_ ?_
  · exact .refl _ _
  · intro u1 hu1
    refine Keeps.ite ?_ ?_
    · exact (State.emit_keeps ..).step rfl hu1
    · exact hu1

theorem execPfcFrame_keeps (p : Nat) (prio : Nat) (quanta : Nat) (s : State) : KeepsIn atNext 1048593 s (execPfcFrame p prio quanta s) := by
  unfold execPfcFrame
  refine KeepsIn.effect rfl ?_ ?_
  · exact .refl _ _
  · intro u1 hu1
    refine Keeps.ite ?_ ?_
    · exact hu1
    · extract_lets l2
      have kl2 : Keeps 1048593 s l2 := (State.bump_keeps ..).step rfl hu1
      refine Keeps.ite ?_ ?_
      · exact kl2
      · refine Keeps.ite ?_ ?_
        · exact (State.resumePrio_keeps ..).step rfl kl2
        · exact (State.modPort_keeps ..).step rfl kl2

theorem State.flowControl_keeps (s : State) (p : Nat) (prio : Nat) (occupancy : Nat) : Keeps 1048593 s (State.flowControl s p prio occupancy) := by
  unfold State.flowControl
  refine Keeps.ite ?_ ?_
  · exact .refl _ _
  · extract_lets l1
    refine Keeps.ite ?_ ?_
    · exact (State.emit_keeps ..).step rfl ((State.bump_keeps ..).step rfl ((State.modPort_keeps ..).step rfl (.refl _ _)))
    · refine Keeps.ite ?_ ?_
      · exact (State.emit_keeps ..).step rfl ((State.bump_keeps ..).step rfl ((State.modPort_keeps ..).step rfl (.refl _ _)))
      · exact .refl _ _

theorem execPfcPauseTimeout_keeps (p : Nat) (prio : Nat) (s : State) : KeepsIn atNext 1051025 s (execPfcPauseTimeout p prio s) := by
  unfold execPfcPauseTimeout
  refine KeepsIn.effect rfl ?_ ?_
  · exact .refl _ _
  · intro u1 hu1
    extract_lets l2
    refine Keeps.ite ?_ ?_
    · exact (State.event_keeps ..).step rfl ((State.modPort_keeps ..).step rfl hu1)
    · exact hu1

theorem execPauseQuantaExpiry_keeps (p : Nat) (prio : Nat) (s : State) : KeepsIn atNext 1048592 s (execPauseQuantaExpiry p prio s) := by
  unfold execPauseQuantaExpiry
  refine KeepsIn.effect rfl ?_ ?_
  · exact .refl _ _
  · intro u1 hu1
    refine Keeps.ite ?_ ?_
    · exact hu1
    · exact (State.resumePrio_keeps ..).step rfl hu1

theorem State.rocePacket_keeps (s : State) (k : RocePacket) : Keeps 68159889 s (State.rocePacket s k) := by
  unfold State.rocePacket
  refine Keeps.ite ?_ ?_
  · exact .refl _ _
  · refine Keeps.ite ?_ ?_
    · exact (State.bump_keeps ..).step rfl (.refl _ _)
    · extract_lets l1 l2 l3
      have kl2 : Keeps 68159889 s l2 := (State.flowControl_keeps ..).step rfl (.refl _ _)
      have kl3 : Keeps 68159889 s l3 := by
        unfold l3
        split
        · refine Keeps.ite ?_ ?_
          · exact (State.notifyCe_keeps ..).step rfl kl2
          · exact kl2
        · exact kl2
      refine Keeps.ite ?_ ?_
      · exact (State.event_keeps ..).step rfl ((State.bump_keeps ..).step rfl (.refl _ _))
      · split
        · exact (State.receiveSend_keeps ..).step rfl kl3
        · refine Keeps.ite ?_ ?_
          · exact (State.emit_keeps ..).step rfl kl3
          · exact kl3
        · refine Keeps.ite ?_ ?_
          · exact (State.emit_keeps ..).step rfl kl3
          · exact kl3
        · exact kl3

theorem execNetLinkUp_keeps (p : Nat) (s : State) : KeepsIn atNext 1051025 s (execNetLinkUp p s) := by
  unfold execNetLinkUp
  refine KeepsIn.effect rfl ?_ ?_
  · exact .refl _ _
  · intro u1 hu1
    refine Keeps.ite ?_ ?_
    · exact hu1
    · exact (State.event_keeps ..).step rfl ((State.modPort_keeps ..).step rfl hu1)

theorem execConnectionRequest_keeps (p : Nat) (hostNqn : Nat) (qid : Nat) (s : State) : KeepsIn atNext 1048592 s (execConnectionRequest p hostNqn qid s) := by
  unfold execConnectionRequest
  refine KeepsIn.effect rfl ?_ ?_
  · exact .refl _ _
  · intro u1 hu1
    refine Keeps.ite ?_ ?_
    · exact (State.emit_keeps ..).step rfl ((State.newQp_keeps ..).step rfl hu1)
    · exact (State.emit_keeps ..).step rfl hu1

theorem execAck_keeps (qp : Nat) (psn : Nat) (s : State) : KeepsIn atNext 1048592 s (execAck qp psn s) := by
  unfold execAck
  refine KeepsIn.effect rfl ?_ ?_
  · exact .refl _ _
  · intro u1 hu1
    split
    · exact hu1
    · refine Keeps.ite ?_ ?_
      · exact (State.advance_keeps ..).step rfl hu1
      · exact hu1

theorem State.sqpConnect_keeps (s : State) (owner : Nat) : Keeps 1048593 s (State.sqpConnect s owner) := by
  unfold State.sqpConnect
  extract_lets l1 l2 l3 l4 l5 l6 l7
  have kl4 : Keeps 1048593 s l4 := by
    unfold l4
    refine Keeps.ite ?_ ?_
    · exact (State.sqpIdle_keeps ..).step rfl (.refl _ _)
    · exact .refl _ _
  have kl6 : Keeps 1048593 s l6 := (State.newQp_keeps ..).step rfl kl4
  have kl7 : Keeps 1048593 s l7 := (State.updNet_keeps ..).step rfl kl6
  refine Keeps.ite ?_ ?_
  · exact .refl _ _
  · refine Keeps.ite ?_ ?_
    · exact (State.sqpResult_keeps ..).step rfl (.refl _ _)
    · refine Keeps.ite ?_ ?_
      · exact (State.sqpResult_keeps ..).step rfl (.refl _ _)
      · refine Keeps.ite ?_ ?_
        · exact (State.sqpResult_keeps ..).step rfl (.refl _ _)
        · refine Keeps.ite ?_ ?_
          · exact (State.sqpResult_keeps ..).step rfl kl4
          · exact (State.emit_keeps ..).step rfl ((State.set_keeps ..).step rfl kl7)

theorem execRnrNak_keeps (qp : Nat) (timer : Nat) (s : State) : KeepsIn atNext 234872209 s (execRnrNak qp timer s) := by
  unfold execRnrNak
  refine KeepsIn.effect rfl ?_ ?_
  · exact .refl _ _
  · intro u1 hu1
    split
    · exact hu1
    · refine Keeps.ite ?_ ?_
      · exact hu1
      · refine Keeps.ite ?_ ?_
        · exact (State.qpError_keeps ..).step rfl hu1
        · exact (State.emit_keeps ..).step rfl ((State.modQp_keeps ..).step rfl hu1)

theorem State.retransmit_keeps (s : State) (k : Nat) : Keeps 234872209 s (State.retransmit s k) := by
  unfold State.retransmit
  split
  · exact .refl _ _
  · refine Keeps.ite ?_ ?_
    · exact .refl _ _
    · refine Keeps.ite ?_ ?_
      · exact (State.qpError_keeps ..).step rfl (.refl _ _)
      · exact (State.emit_keeps ..).step rfl ((State.bump_keeps ..).step rfl ((State.modQp_keeps ..).step rfl (.refl _ _)))

theorem execNetLinkDown_keeps (p : Nat) (s : State) : KeepsIn atNext 1051089 s (execNetLinkDown p s) := by
  unfold execNetLinkDown
  refine KeepsIn.effect rfl ?_ ?_
  · exact .refl _ _
  · intro u1 hu1
    exact (State.netDown_keeps ..).step rfl hu1

theorem execCapsule_keeps (owner : Nat) (qid : Nat) (e : Sqe) (s : State) : KeepsIn atNext 68165009 s (execCapsule owner qid e s) := by
  unfold execCapsule
  refine KeepsIn.effect rfl ?_ ?_
  · exact .refl _ _
  · intro u1 hu1
    exact (State.capsule_keeps ..).step rfl hu1

theorem execSqpConnect_keeps (owner : Nat) (s : State) : KeepsIn atNext 1048593 s (execSqpConnect owner s) := by
  unfold execSqpConnect
  refine KeepsIn.effect rfl ?_ ?_
  · exact .refl _ _
  · intro u1 hu1
    exact (State.sqpConnect_keeps ..).step rfl hu1

theorem execRocePacket_keeps (k : RocePacket) (s : State) : KeepsIn atNext 68159889 s (execRocePacket k s) := by
  unfold execRocePacket
  refine KeepsIn.effect rfl ?_ ?_
  · exact .refl _ _
  · intro u1 hu1
    exact (State.rocePacket_keeps ..).step rfl hu1

theorem State.connectAdmin_keeps (s : State) (c : ConnectReq) (p : Nat) : Keeps 9440657 s (State.connectAdmin s c p) := by
  unfold State.connectAdmin
  extract_lets l1
  refine Keeps.ite ?_ ?_
  · exact (State.answer_keeps ..).step rfl (.refl _ _)
  · refine Keeps.ite ?_ ?_
    · exact (State.answer_keeps ..).step rfl (.refl _ _)
    · refine Keeps.ite ?_ ?_
      · exact (State.answer_keeps ..).step rfl (.refl _ _)
      · split
        · exact (State.answer_keeps ..).step rfl (.refl _ _)
        · extract_lets l2 l3 l4
          have kl2 : Keeps 9440657 s l2 := (State.activate_keeps ..).step rfl (.refl _ _)
          have kl4 : Keeps 9440657 s l4 := (State.updNet_keeps ..).step rfl kl2
          refine Keeps.ite ?_ ?_
          · exact (State.answer_keeps ..).step rfl kl2
          · exact (State.answer_keeps ..).step rfl ((State.fabricQueue_keeps ..).step rfl kl4)

theorem State.connectIo_keeps (s : State) (c : ConnectReq) : Keeps 1049616 s (State.connectIo s c) := by
  unfold State.connectIo
  extract_lets l1
  split
  · exact (State.answer_keeps ..).step rfl (.refl _ _)
  · refine Keeps.ite ?_ ?_
    · exact (State.answer_keeps ..).step rfl (.refl _ _)
    · refine Keeps.ite ?_ ?_
      · exact (State.answer_keeps ..).step rfl (.refl _ _)
      · refine Keeps.ite ?_ ?_
        · exact (State.answer_keeps ..).step rfl (.refl _ _)
        · extract_lets l2
          have kl2 : Keeps 1049616 s l2 := (State.updNet_keeps ..).step rfl (.refl _ _)
          exact (State.answer_keeps ..).step rfl ((State.fabricQueue_keeps ..).step rfl kl2)

theorem execNakSequenceError_keeps (qp : Nat) (psn : Nat) (s : State) : KeepsIn atNext 234872209 s (execNakSequenceError qp psn s) := by
  unfold execNakSequenceError
  refine KeepsIn.effect rfl ?_ ?_
  · exact .refl _ _
  · intro u1 hu1
    split
    · exact hu1
    · refine (State.retransmit_keeps ..).step rfl ?_
      refine Keeps.ite ?_ ?_
      · exact (State.advance_keeps ..).step rfl hu1
      · exact hu1

theorem execConnect_keeps (c : ConnectReq) (s : State) : KeepsIn atNext 9444753 s (execConnect c s) := by
  unfold execConnect
  refine KeepsIn.effect rfl ?_ ?_
  · exact .refl _ _
  · intro u1 hu1
    split
    · exact hu1
    · refine Keeps.ite ?_ ?_
      · exact hu1
      · refine Keeps.ite ?_ ?_
        · exact (State.connectAdmin_keeps ..).step rfl ((State.powerExit_keeps ..).step rfl hu1)
        · exact (State.connectIo_keeps ..).step rfl ((State.powerExit_keeps ..).step rfl hu1)

theorem execAckTimeout_keeps (qp : Nat) (s : State) : KeepsIn atNext 234872209 s (execAckTimeout qp s) := by
  unfold execAckTimeout
  refine KeepsIn.effect rfl ?_ ?_
  · exact .refl _ _
  · intro u1 hu1
    split
    · exact hu1
    · refine Keeps.ite ?_ ?_
      · exact hu1
      · exact (State.retransmit_keeps ..).step rfl hu1

end Sys2Proof.Machine
end

