-- ==== Sys2Proof/Laws/KeepsMemory.lean ====
section
/-! SUPPORT. What each operation of Machine/Memory.lean keeps (Laws/Frame.lean). -/

namespace Sys2Proof.Machine

theorem State.zoneLost_keeps (s : State) (nsid : Nat) (z : Nat) : Keeps 36241 s (State.zoneLost s nsid z) := by
  unfold State.zoneLost
  refine Keeps.ite ?_ ?_
  · exact .refl _ _
  · extract_lets l1
    have kl1 : Keeps 36241 s l1 := (State.event_keeps ..).step rfl ((State.modZone_keeps ..).step rfl (.refl _ _))
    refine Keeps.each ?_ ?_
    · exact kl1
    · intro u2 _ hu2
      exact (State.aen_keeps ..).step rfl hu2

theorem State.writeBack_keeps (s : State) (sub : Nat) (l : Nat) : Keeps 33554432 s (State.writeBack s sub l) := by
  unfold State.writeBack
  refine Keeps.ite ?_ ?_
  · exact .refl _ _
  · split
    · exact (State.setLine_keeps ..).step rfl (.refl _ _)
    · exact .refl _ _

theorem State.sramCorrected_keeps (s : State) (n : Nat) : Keeps 2449 s (State.sramCorrected s n) := by
  unfold State.sramCorrected
  refine Keeps.ite ?_ ?_
  · exact .refl _ _
  · exact (State.eventPer_keeps ..).step rfl ((State.bump_keeps ..).step rfl (.refl _ _))

theorem State.setLost_keeps (s : State) (set : Nat) : Keeps 36241 s (State.setLost s set) := by
  unfold State.setLost
  refine Keeps.ite ?_ ?_
  · exact (State.zoneLost_keeps ..).step rfl (.refl _ _)
  · extract_lets l1 l2
    exact (State.modNv_keeps ..).step rfl (.refl _ _)

theorem State.corrected_keeps (s : State) (sub : Nat) (position : Nat) : Keeps 33556881 s (State.corrected s sub position) := by
  unfold State.corrected
  extract_lets l1 l2 l3 l4
  have kl1 : Keeps 33556881 s l1 := (State.bump_keeps ..).step rfl (.refl _ _)
  have kl4 : Keeps 33556881 s l4 := (State.updDram_keeps ..).step rfl kl1
  refine Keeps.ite ?_ ?_
  · exact (State.event_keeps ..).step rfl ((State.updDram_keeps ..).step rfl kl4)
  · exact kl4

theorem State.toMediaFails_keeps (s : State) (w : Nat) (lba : Nat) : Keeps 36241 s (State.toMediaFails s w lba) := by
  unfold State.toMediaFails
  split
  · exact .refl _ _
  · split
    · exact (State.badToMedia_keeps ..).step rfl (.refl _ _)
    · exact (State.badToMedia_keeps ..).step rfl (.refl _ _)

theorem State.uncorrectable_keeps (s : State) (addr : Nat) (requester : Nat) (poison : Bool) : Keeps 2449 s (State.uncorrectable s addr requester poison) := by
  unfold State.uncorrectable
  extract_lets l1 l2 l3
  have kl2 : Keeps 2449 s l2 := (State.bump_keeps ..).step rfl (.refl _ _)
  have kl3 : Keeps 2449 s l3 := (State.firstError_keeps ..).step rfl kl2
  exact (State.eventPer_keeps ..).step rfl kl3

theorem execDramScrub_keeps (addr : Nat) (verdict : DramVerdict) (s : State) : KeepsIn atNext 33556881 s (execDramScrub addr verdict s) := by
  unfold execDramScrub
  refine KeepsIn.effect rfl ?_ ?_
  · exact .refl _ _
  · intro u1 hu1
    refine Keeps.ite ?_ ?_
    · exact hu1
    · extract_lets l2
      have kl2 : Keeps 33556881 s l2 := (State.wr_keeps ..).step rfl hu1
      refine Keeps.ite ?_ ?_
      · exact kl2
      · split
        · exact kl2
        · exact (State.writeBack_keeps ..).step rfl ((State.corrected_keeps ..).step rfl kl2)
        · exact (State.uncorrectable_keeps ..).step rfl kl2
        · exact (State.uncorrectable_keeps ..).step rfl kl2

theorem State.holderFails_keeps (s : State) (requester : Nat) (off : Nat) (holder : Option CmdRef) : Keeps 121277841 s (State.holderFails s requester off holder) := by
  unfold State.holderFails
  split
  · exact .refl _ _
  · extract_lets l1
    refine Keeps.ite ?_ ?_
    · refine Keeps.each ?_ ?_
      · exact .refl _ _
      · intro u2 _ hu2
        refine Keeps.each ?_ ?_
        · exact hu2
        · intro u3 _ hu3
          exact (State.toMediaFails_keeps ..).step rfl hu3
    · refine Keeps.ite ?_ ?_
      · exact .refl _ _
      · refine Keeps.ite ?_ ?_
        · split
          · exact (State.serveFails_keeps ..).step rfl (.refl _ _)
          · exact .refl _ _
        · refine Keeps.ite ?_ ?_
          · exact (State.finish_keeps ..).step rfl (.refl _ _)
          · split
            · exact (State.updDram_keeps ..).step rfl (.refl _ _)
            · refine Keeps.ite ?_ ?_
              · exact (State.finish_keeps ..).step rfl ((State.dropWrite_keeps ..).step rfl (.refl _ _))
              · exact .refl _ _

theorem State.dramOutcome_keeps (s : State) (a1 : DramContent) : Keeps 268426641 s (State.dramOutcome s a1) := by
  unfold State.dramOutcome
  split
  · exact (State.emit_keeps ..).step rfl ((State.event_keeps ..).step rfl (.refl _ _))
  · exact (State.emit_keeps ..).step rfl (.refl _ _)
  · exact (State.emit_keeps ..).step rfl (.refl _ _)
  · exact (State.event_keeps ..).step rfl ((State.updDram_keeps ..).step rfl (.refl _ _))
  · exact (State.updDram_keeps ..).step rfl (.refl _ _)
  · exact (State.toMediaFails_keeps ..).step rfl (.refl _ _)
  · exact (State.updZone_keeps ..).step rfl (.refl _ _)
  · exact .refl _ _
  · exact (State.fatal_keeps ..).step rfl (.refl _ _)
  · refine Keeps.ite ?_ ?_
    · exact .refl _ _
    · exact (State.zoneLost_keeps ..).step rfl (.refl _ _)
  · refine Keeps.ite ?_ ?_
    · exact .refl _ _
    · exact (State.modNv_keeps ..).step rfl (.refl _ _)
  · refine Keeps.ite ?_ ?_
    · exact .refl _ _
    · exact (State.setLost_keeps ..).step rfl (.refl _ _)
  · exact (State.updMd_keeps ..).step rfl (.refl _ _)
  · exact (State.endAssociation_keeps ..).step rfl (.refl _ _)
  · exact (State.updServe_keeps ..).step rfl (.refl _ _)
  · exact .refl _ _

theorem State.chainOp_keeps (s : State) (release : Bool) (requester : Nat) (h : Nat) (bad : Option Nat) (corrected : Nat) (holder : Option CmdRef) : Keeps 121277841 s (State.chainOp s release requester h bad corrected holder) := by
  unfold State.chainOp
  extract_lets l1 l2 l3 l4
  have kl1 : Keeps 121277841 s l1 := (State.sramCorrected_keeps ..).step rfl (.refl _ _)
  have kl3 : KeepsIn atFst 121277841 s l3 := (State.walk_keeps ..).step rfl kl1
  clear_value l3
  have kl4 : Keeps 121277841 s l4 := by
    unfold l4
    refine Keeps.ite ?_ ?_
    · refine (State.cellsFreed_keeps ..).step rfl (KeepsIn.ofFst ?_)
      exact kl3
    · refine KeepsIn.ofFst ?_
      exact kl3
  refine Keeps.ite ?_ ?_
  · exact (State.holderFails_keeps ..).step rfl kl4
  · exact kl4

theorem execShare_keeps (requester : Nat) (handle : Nat) (uncorrectable : Option Nat) (corrected : Nat) (holder : Option CmdRef) (s : State) : KeepsIn atNext 121277841 s (execShare requester handle uncorrectable corrected holder s) := by
  unfold execShare
  refine KeepsIn.effect rfl ?_ ?_
  · exact .refl _ _
  · intro u1 hu1
    exact (State.chainOp_keeps ..).step rfl hu1

theorem State.readQueued_keeps (s : State) (r : DramReq) (w : DramWrite) : Keeps 268426641 s (State.readQueued s r w) := by
  unfold State.readQueued
  refine Keeps.ite ?_ ?_
  · exact (State.dramOutcome_keeps ..).step rfl ((State.uncorrectable_keeps ..).step rfl (.refl _ _))
  · exact .refl _ _

theorem State.readLine_keeps (s : State) (r : DramReq) : KeepsIn atSnd 268426641 s (State.readLine s r) := by
  unfold State.readLine
  extract_lets l1 l2 l3
  have kl3 : Keeps 268426641 s l3 := by
    unfold l3
    refine Keeps.ite ?_ ?_
    · exact (State.openRow_keeps ..).step rfl (.refl _ _)
    · exact .refl _ _
  split
  · exact KeepsIn.leafSnd kl3
  · exact KeepsIn.leafSnd ((State.writeBack_keeps ..).step rfl ((State.corrected_keeps ..).step rfl kl3))
  · exact KeepsIn.leafSnd ((State.dramOutcome_keeps ..).step rfl ((State.uncorrectable_keeps ..).step rfl kl3))
  · exact KeepsIn.leafSnd ((State.dramOutcome_keeps ..).step rfl ((State.uncorrectable_keeps ..).step rfl kl3))

theorem execReleaseChain_keeps (requester : Nat) (handle : Nat) (uncorrectable : Option Nat) (corrected : Nat) (holder : Option CmdRef) (s : State) : KeepsIn atNext 121277841 s (execReleaseChain requester handle uncorrectable corrected holder s) := by
  unfold execReleaseChain
  refine KeepsIn.effect rfl ?_ ?_
  · exact .refl _ _
  · intro u1 hu1
    exact (State.chainOp_keeps ..).step rfl hu1

theorem State.serveWrite_keeps (s : State) (r : DramReq) (v : Nat) : Keeps 268426641 s (State.serveWrite s r v) := by
  unfold State.serveWrite
  extract_lets l1 l2 l3 l4 l5
  have kl4 : Keeps 268426641 s l4 := by
    unfold l4
    refine Keeps.ite ?_ ?_
    · exact (State.openRow_keeps ..).step rfl (.refl _ _)
    · exact .refl _ _
  have kl5 : KeepsIn atSnd 268426641 s l5 := by
    unfold l5
    refine (State.readLine_keeps ..).step rfl ?_
    refine Keeps.ite ?_ ?_
    · exact (State.rowOrder_keeps ..).step rfl (.refl _ _)
    · exact .refl _ _
  clear_value l5
  refine Keeps.ite ?_ ?_
  · exact (State.queueWrite_keeps ..).step rfl kl4
  · split
    · exact (State.queueWrite_keeps ..).step rfl ((State.readQueued_keeps ..).step rfl (.refl _ _))
    · refine (State.queueWrite_keeps ..).step rfl (KeepsIn.ofSnd ?_)
      exact kl5

theorem State.serveRead_keeps (s : State) (r : DramReq) : Keeps 268426641 s (State.serveRead s r) := by
  unfold State.serveRead
  extract_lets l1 l2 l3 l4
  have kl4 : KeepsIn atSnd 268426641 s l4 := by
    unfold l4
    refine (State.readLine_keeps ..).step rfl ?_
    refine Keeps.ite ?_ ?_
    · exact (State.rowOrder_keeps ..).step rfl (.refl _ _)
    · exact .refl _ _
  clear_value l4
  split
  · extract_lets l5
    have kl5 : Keeps 268426641 s l5 := (State.readQueued_keeps ..).step rfl ((State.bumpUnits_keeps ..).step rfl (.refl _ _))
    refine Keeps.ite ?_ ?_
    · exact kl5
    · exact (State.emit_keeps ..).step rfl kl5
  · refine Keeps.ite ?_ ?_
    · refine (State.emit_keeps ..).step rfl (KeepsIn.ofSnd ?_)
      exact kl4
    · refine KeepsIn.ofSnd ?_
      exact kl4

theorem State.serveRequest_keeps (s : State) (r : DramReq) : Keeps 268426641 s (State.serveRequest s r) := by
  unfold State.serveRequest
  split
  · exact (State.serveRead_keeps ..).step rfl (.refl _ _)
  · exact (State.serveWrite_keeps ..).step rfl (.refl _ _)

theorem State.dramRequest_keeps (s : State) (r : DramReq) : Keeps 268426641 s (State.dramRequest s r) := by
  unfold State.dramRequest
  extract_lets l1
  refine Keeps.ite ?_ ?_
  · exact (State.updDram_keeps ..).step rfl (.refl _ _)
  · refine Keeps.ite ?_ ?_
    · exact (State.serveRequest_keeps ..).step rfl (.refl _ _)
    · split
      · exact (State.dramOutcome_keeps ..).step rfl ((State.uncorrectable_keeps ..).step rfl (.refl _ _))
      · exact (State.event_keeps ..).step rfl (.refl _ _)

theorem execDramRequest_keeps (r : DramReq) (s : State) : KeepsIn atNext 268426641 s (execDramRequest r s) := by
  unfold execDramRequest
  refine KeepsIn.effect rfl ?_ ?_
  · exact .refl _ _
  · intro u1 hu1
    exact (State.dramRequest_keeps ..).step rfl hu1

end Sys2Proof.Machine
end

