-- ==== Sys2Proof/Laws/KeepsComplete.lean ====
section
/-! SUPPORT. What each operation of Machine/Complete.lean keeps (Laws/Frame.lean). -/

namespace Sys2Proof.Machine

theorem State.fillFor_keeps (s : State) (r : CmdRef) : Keeps 67109889 s (State.fillFor s r) := by
  unfold State.fillFor
  extract_lets l1
  refine Keeps.ite ?_ ?_
  · exact .refl _ _
  · exact (State.lookup_keeps ..).step rfl (.refl _ _)

theorem State.writeCompleted_keeps (s : State) (r : CmdRef) : Keeps 163840 s (State.writeCompleted s r) := by
  unfold State.writeCompleted
  refine Keeps.each ?_ ?_
  · exact .refl _ _
  · intro u1 _ hu1
    extract_lets l2 l3 l4 l5
    have kl3 : Keeps 163840 s l3 := (State.updWp_keeps ..).step rfl hu1
    have kl5 : Keeps 163840 s l5 := (State.modNv_keeps ..).step rfl kl3
    refine Keeps.ite ?_ ?_
    · exact kl5
    · exact (State.modNv_keeps ..).step rfl kl5

theorem State.deletionDone_keeps (s : State) (owner : Nat) (sqid : Nat) : Keeps 1024 s (State.deletionDone s owner sqid) := by
  unfold State.deletionDone
  split
  · exact .refl _ _
  · refine Keeps.ite ?_ ?_
    · exact .refl _ _
    · exact (State.finish_keeps ..).step rfl ((State.modCtx_keeps ..).step rfl (.refl _ _))

theorem State.egress_keeps (s : State) (c : Cmd) (st : Status) (found : Option (Nat × Nat)) : KeepsIn atSnd 33556881 s (State.egress s c st found) := by
  unfold State.egress
  refine KeepsIn.ite ?_ ?_
  · split
    · exact KeepsIn.leafSnd (.refl _ _)
    · extract_lets l1
      have kl1 : KeepsIn atSnd 33556881 s l1 := (State.egressFails_keeps ..).step rfl (.refl _ _)
      clear_value l1
      refine KeepsIn.leafSnd ((State.errLog_keeps ..).step rfl ?_)
      refine (State.updDram_keeps ..).step rfl (KeepsIn.ofSnd ?_)
      exact kl1
  · exact KeepsIn.leafSnd (.refl _ _)

theorem State.postEntry_keeps (s : State) (c : Cmd) (st : Status) (dw0 : Nat) (dw1 : Nat) : Keeps 75500561 s (State.postEntry s c st dw0 dw1) := by
  unfold State.postEntry
  extract_lets l1 l2 l3 l4 l5 l6 l7 l8 l9 l10 l11 l12
  have kl5 : Keeps 75500561 s l5 := (State.emit_keeps ..).step rfl ((State.lookup_keeps ..).step rfl (.refl _ _))
  have kl7 : Keeps 75500561 s l7 := by
    unfold l7
    refine Keeps.ite ?_ ?_
    · exact kl5
    · exact (State.modCtx_keeps ..).step rfl kl5
  have kl8 : Keeps 75500561 s l8 := (State.modCtx_keeps ..).step rfl kl7
  have kl9 : Keeps 75500561 s l9 := (State.updQ_keeps ..).step rfl kl8
  have kl10 : Keeps 75500561 s l10 := (State.modTen_keeps ..).step rfl kl9
  have kl11 : Keeps 75500561 s l11 := by
    unfold l11
    refine Keeps.ite ?_ ?_
    · exact (State.modCtx_keeps ..).step rfl kl10
    · exact kl10
  have kl12 : Keeps 75500561 s l12 := by
    unfold l12
    refine Keeps.ite ?_ ?_
    · exact (State.completionInterrupt_keeps ..).step rfl kl11
    · exact kl11
  exact (State.deletionDone_keeps ..).step rfl kl12

theorem State.post_keeps (s : State) (r : CmdRef) (found : Option (Nat × Nat)) : Keeps 109743505 s (State.post s r found) := by
  unfold State.post
  split
  · exact .refl _ _
  · split
    · refine Keeps.ite ?_ ?_
      · refine Keeps.ite ?_ ?_
        · exact .refl _ _
        · extract_lets l1
          have kl1 : Keeps 109743505 s l1 := by
            unfold l1
            refine Keeps.ite ?_ ?_
            · exact (State.writeCompleted_keeps ..).step rfl (.refl _ _)
            · exact .refl _ _
          exact (State.emit_keeps ..).step rfl ((State.updQ_keeps ..).step rfl kl1)
      · refine Keeps.ite ?_ ?_
        · refine Keeps.ite ?_ ?_
          · exact .refl _ _
          · exact (State.updQ_keeps ..).step rfl (.refl _ _)
        · refine Keeps.ite ?_ ?_
          · exact .refl _ _
          · refine Keeps.ite ?_ ?_
            · exact (State.fillFor_keeps ..).step rfl (.refl _ _)
            · extract_lets l2 l3 l4
              have kl2 : KeepsIn atSnd 109743505 s l2 := (State.egress_keeps ..).step rfl (.refl _ _)
              clear_value l2
              have kl3 : Keeps 109743505 s l3 := by
                unfold l3
                refine Keeps.ite ?_ ?_
                · refine KeepsIn.ofSnd ?_
                  exact kl2
                · refine (State.measure_keeps ..).step rfl (KeepsIn.ofSnd ?_)
                  exact kl2
              have kl4 : Keeps 109743505 s l4 := by
                unfold l4
                refine Keeps.ite ?_ ?_
                · exact (State.writeCompleted_keeps ..).step rfl kl3
                · exact kl3
              exact (State.postEntry_keeps ..).step rfl kl4
    · exact .refl _ _

theorem execCompletionPost_keeps (ref : CmdRef) (egress : Option (Nat × Nat)) (s : State) : KeepsIn atNext 109743505 s (execCompletionPost ref egress s) := by
  unfold execCompletionPost
  refine KeepsIn.effect rfl ?_ ?_
  · exact .refl _ _
  · intro u1 hu1
    exact (State.post_keeps ..).step rfl hu1

end Sys2Proof.Machine
end

