-- ==== Sys2Proof/Laws/KeepsAdmin.lean ====
section
/-! SUPPORT. What each operation of Machine/Admin.lean keeps (Laws/Frame.lean). -/

namespace Sys2Proof.Machine

theorem State.admin_keeps {n₀ : Nat} {s₀ : State} {s : State} {r : CmdRef} {f : State → State} (hm : 1024 ||| n₀ = n₀) (h₀ : Keeps n₀ s₀ s) (hf : ∀ v0, Keeps n₀ s₀ v0 → Keeps n₀ s₀ (f v0)) : Keeps n₀ s₀ (State.admin s r f) := by
  unfold State.admin
  refine State.starting_keeps (Keeps.sub rfl hm) ?_ ?_
  · exact h₀
  · exact hf

theorem execDeleteIoCompletionQueue_keeps (ref : CmdRef) (qid : Nat) (s : State) : KeepsIn atNext 1040 s (execDeleteIoCompletionQueue ref qid s) := by
  unfold execDeleteIoCompletionQueue
  refine KeepsIn.effect rfl ?_ ?_
  · exact .refl _ _
  · intro u1 hu1
    refine State.admin_keeps rfl ?_ ?_
    · exact hu1
    · intro u2 hu2
      extract_lets l3
      refine Keeps.ite ?_ ?_
      · exact (State.finish_keeps ..).step rfl hu2
      · refine Keeps.ite ?_ ?_
        · exact (State.finish_keeps ..).step rfl hu2
        · refine Keeps.ite ?_ ?_
          · exact (State.finish_keeps ..).step rfl hu2
          · exact (State.finish_keeps ..).step rfl ((State.modCtx_keeps ..).step rfl hu2)

theorem execAbort_keeps (ref : CmdRef) (sqid : Nat) (cid : Nat) (s : State) : KeepsIn atNext 87559569 s (execAbort ref sqid cid s) := by
  unfold execAbort
  refine KeepsIn.effect rfl ?_ ?_
  · exact .refl _ _
  · intro u1 hu1
    refine State.admin_keeps rfl ?_ ?_
    · exact hu1
    · intro u2 hu2
      extract_lets l3
      refine Keeps.ite ?_ ?_
      · exact (State.finish_keeps ..).step rfl ((State.finish_keeps ..).step rfl ((State.serveStop_keeps ..).step rfl hu2))
      · exact (State.finish_keeps ..).step rfl hu2

theorem execSetFeaturesNumberOfQueues_keeps (ref : CmdRef) (nsq : Nat) (ncq : Nat) (s : State) : KeepsIn atNext 1040 s (execSetFeaturesNumberOfQueues ref nsq ncq s) := by
  unfold execSetFeaturesNumberOfQueues
  refine KeepsIn.effect rfl ?_ ?_
  · exact .refl _ _
  · intro u1 hu1
    refine State.admin_keeps rfl ?_ ?_
    · exact hu1
    · intro u2 hu2
      extract_lets l3
      exact (State.finish_keeps ..).step rfl hu2

theorem execSetFeaturesArbitration_keeps (ref : CmdRef) (ab : Nat) (lpw : Nat) (mpw : Nat) (hpw : Nat) (s : State) : KeepsIn atNext 3088 s (execSetFeaturesArbitration ref ab lpw mpw hpw s) := by
  unfold execSetFeaturesArbitration
  refine KeepsIn.effect rfl ?_ ?_
  · exact .refl _ _
  · intro u1 hu1
    refine State.admin_keeps rfl ?_ ?_
    · exact hu1
    · intro u2 hu2
      exact (State.finish_keeps ..).step rfl ((State.modCtrl_keeps ..).step rfl hu2)

theorem execSetFeaturesDeadlineDefault_keeps (ref : CmdRef) (qid : Nat) (dl : Nat) (sv : Bool) (s : State) : KeepsIn atNext 1040 s (execSetFeaturesDeadlineDefault ref qid dl sv s) := by
  unfold execSetFeaturesDeadlineDefault
  refine KeepsIn.effect rfl ?_ ?_
  · exact .refl _ _
  · intro u1 hu1
    refine State.admin_keeps rfl ?_ ?_
    · exact hu1
    · intro u2 hu2
      refine Keeps.ite ?_ ?_
      · exact (State.finish_keeps ..).step rfl hu2
      · refine Keeps.ite ?_ ?_
        · extract_lets l3
          refine (State.finish_keeps ..).step rfl ?_
          refine Keeps.each ?_ ?_
          · exact hu2
          · intro u4 _ hu4
            exact (State.modCtx_keeps ..).step rfl hu4
        · refine Keeps.ite ?_ ?_
          · exact (State.finish_keeps ..).step rfl hu2
          · exact (State.finish_keeps ..).step rfl ((State.modCtx_keeps ..).step rfl hu2)

theorem execSetFeaturesInterruptCoalescing_keeps (ref : CmdRef) (vectorConfig : Bool) (dw11 : Nat) (s : State) : KeepsIn atNext 3088 s (execSetFeaturesInterruptCoalescing ref vectorConfig dw11 s) := by
  unfold execSetFeaturesInterruptCoalescing
  refine KeepsIn.effect rfl ?_ ?_
  · exact .refl _ _
  · intro u1 hu1
    refine State.admin_keeps rfl ?_ ?_
    · exact hu1
    · intro u2 hu2
      extract_lets l3 l4
      refine Keeps.ite ?_ ?_
      · exact (State.finish_keeps ..).step rfl ((State.modCtrl_keeps ..).step rfl hu2)
      · refine Keeps.ite ?_ ?_
        · exact (State.finish_keeps ..).step rfl hu2
        · exact (State.finish_keeps ..).step rfl ((State.modCtrl_keeps ..).step rfl hu2)

theorem execGetFeaturesNumberOfQueues_keeps (ref : CmdRef) (s : State) : KeepsIn atNext 1040 s (execGetFeaturesNumberOfQueues ref s) := by
  unfold execGetFeaturesNumberOfQueues
  refine KeepsIn.effect rfl ?_ ?_
  · exact .refl _ _
  · intro u1 hu1
    refine State.admin_keeps rfl ?_ ?_
    · exact hu1
    · intro u2 hu2
      extract_lets l3
      exact (State.finish_keeps ..).step rfl hu2

theorem State.identify_keeps (s : State) (r : CmdRef) (cns : Nat) (nsid : Nat) (csi : Nat) : Keeps 1040 s (State.identify s r cns nsid csi) := by
  unfold State.identify
  extract_lets l1
  refine Keeps.ite ?_ ?_
  · exact (State.finish_keeps ..).step rfl ((State.emit_keeps ..).step rfl (.refl _ _))
  · exact (State.finish_keeps ..).step rfl (.refl _ _)

theorem execGetFeaturesPowerManagement_keeps (ref : CmdRef) (s : State) : KeepsIn atNext 1040 s (execGetFeaturesPowerManagement ref s) := by
  unfold execGetFeaturesPowerManagement
  refine KeepsIn.effect rfl ?_ ?_
  · exact .refl _ _
  · intro u1 hu1
    refine State.admin_keeps rfl ?_ ?_
    · exact hu1
    · intro u2 hu2
      exact (State.finish_keeps ..).step rfl hu2

theorem State.deleteSq_keeps (s : State) (r : CmdRef) (qid : Nat) : Keeps 263168 s (State.deleteSq s r qid) := by
  unfold State.deleteSq
  extract_lets l1 l2 l3 l4
  have kl2 : Keeps 263168 s l2 := (State.modCtx_keeps ..).step rfl ((State.accept_keeps ..).step rfl (.refl _ _))
  have kl4 : Keeps 263168 s l4 := (State.updZone_keeps ..).step rfl kl2
  refine Keeps.ite ?_ ?_
  · exact (State.finish_keeps ..).step rfl (.refl _ _)
  · refine Keeps.ite ?_ ?_
    · exact (State.finish_keeps ..).step rfl (.refl _ _)
    · refine (State.deletionDone_keeps ..).step rfl ?_
      refine Keeps.each ?_ ?_
      · exact kl4
      · intro u5 _ hu5
        exact (State.finish_keeps ..).step rfl hu5

theorem execSetFeaturesVolatileWriteCache_keeps (ref : CmdRef) (wce : Option Bool) (s : State) : KeepsIn atNext 1040 s (execSetFeaturesVolatileWriteCache ref wce s) := by
  unfold execSetFeaturesVolatileWriteCache
  refine KeepsIn.effect rfl ?_ ?_
  · exact .refl _ _
  · intro u1 hu1
    refine State.admin_keeps rfl ?_ ?_
    · exact hu1
    · intro u2 hu2
      split
      · exact (State.finish_keeps ..).step rfl hu2
      · refine Keeps.ite ?_ ?_
        · exact (State.finish_keeps ..).step rfl hu2
        · exact (State.finish_keeps ..).step rfl hu2

theorem State.getLog_keeps (s : State) (r : CmdRef) (lid : Nat) (nsid : Nat) (off : Nat) (rae : Bool) : Keeps 3088 s (State.getLog s r lid nsid off rae) := by
  unfold State.getLog
  split
  · exact (State.finish_keeps ..).step rfl (.refl _ _)
  · extract_lets l1 l2
    have kl1 : Keeps 3088 s l1 := (State.finish_keeps ..).step rfl ((State.emit_keeps ..).step rfl (.refl _ _))
    have kl2 : Keeps 3088 s l2 := by
      unfold l2
      refine Keeps.ite ?_ ?_
      · exact (State.modCtrl_keeps ..).step rfl kl1
      · exact kl1
    refine Keeps.ite ?_ ?_
    · exact kl1
    · split
      · exact (State.aenClear_keeps ..).step rfl kl2
      · exact kl2

theorem execDeleteIoSubmissionQueue_keeps (ref : CmdRef) (qid : Nat) (s : State) : KeepsIn atNext 263184 s (execDeleteIoSubmissionQueue ref qid s) := by
  unfold execDeleteIoSubmissionQueue
  refine KeepsIn.effect rfl ?_ ?_
  · exact .refl _ _
  · intro u1 hu1
    refine State.admin_keeps rfl ?_ ?_
    · exact hu1
    · intro u2 hu2
      exact (State.deleteSq_keeps ..).step rfl hu2

theorem execGetLogC3_keeps (ref : CmdRef) (off : Nat) (s : State) : KeepsIn atNext 1040 s (execGetLogC3 ref off s) := by
  unfold execGetLogC3
  refine KeepsIn.effect rfl ?_ ?_
  · exact .refl _ _
  · intro u1 hu1
    refine State.admin_keeps rfl ?_ ?_
    · exact hu1
    · intro u2 hu2
      split
      · exact (State.finish_keeps ..).step rfl hu2
      · exact (State.finish_keeps ..).step rfl ((State.emit_keeps ..).step rfl hu2)

theorem execGetLogC0_keeps (ref : CmdRef) (off : Nat) (s : State) : KeepsIn atNext 1040 s (execGetLogC0 ref off s) := by
  unfold execGetLogC0
  refine KeepsIn.effect rfl ?_ ?_
  · exact .refl _ _
  · intro u1 hu1
    refine State.admin_keeps rfl ?_ ?_
    · exact hu1
    · intro u2 hu2
      exact (State.finish_keeps ..).step rfl ((State.emit_keeps ..).step rfl hu2)

theorem State.vendorLog_keeps (s : State) (r : CmdRef) (nsid : Nat) (rae : Bool) (lost : Bool) (name : String) : Keeps 3088 s (State.vendorLog s r nsid rae lost name) := by
  unfold State.vendorLog
  split
  · exact (State.finish_keeps ..).step rfl (.refl _ _)
  · extract_lets l1
    have kl1 : Keeps 3088 s l1 := (State.finish_keeps ..).step rfl ((State.emit_keeps ..).step rfl (.refl _ _))
    refine Keeps.ite ?_ ?_
    · exact kl1
    · exact (State.aenClear_keeps ..).step rfl kl1

theorem execCreateIoSubmissionQueue_keeps (ref : CmdRef) (qid : Nat) (size : Nat) (base : Nat) (cqid : Nat) (prio : Nat) (pc : Bool) (s : State) : KeepsIn atNext 1040 s (execCreateIoSubmissionQueue ref qid size base cqid prio pc s) := by
  unfold execCreateIoSubmissionQueue
  refine KeepsIn.effect rfl ?_ ?_
  · exact .refl _ _
  · intro u1 hu1
    refine State.admin_keeps rfl ?_ ?_
    · exact hu1
    · intro u2 hu2
      extract_lets l3 l4 l5 l6
      refine Keeps.ite ?_ ?_
      · exact (State.finish_keeps ..).step rfl hu2
      · refine Keeps.ite ?_ ?_
        · exact (State.finish_keeps ..).step rfl hu2
        · refine Keeps.ite ?_ ?_
          · exact (State.finish_keeps ..).step rfl hu2
          · refine Keeps.ite ?_ ?_
            · exact (State.finish_keeps ..).step rfl hu2
            · refine Keeps.ite ?_ ?_
              · exact (State.finish_keeps ..).step rfl hu2
              · refine Keeps.ite ?_ ?_
                · exact (State.finish_keeps ..).step rfl hu2
                · refine Keeps.ite ?_ ?_
                  · exact (State.finish_keeps ..).step rfl hu2
                  · exact (State.finish_keeps ..).step rfl ((State.cache_keeps ..).step rfl ((State.modCtx_keeps ..).step rfl hu2))

theorem execAsynchronousEventRequest_keeps (ref : CmdRef) (s : State) : KeepsIn atNext 3088 s (execAsynchronousEventRequest ref s) := by
  unfold execAsynchronousEventRequest
  refine KeepsIn.effect rfl ?_ ?_
  · exact .refl _ _
  · intro u1 hu1
    refine State.admin_keeps rfl ?_ ?_
    · exact hu1
    · intro u2 hu2
      extract_lets l3 l4
      have kl4 : Keeps 3088 s l4 := (State.modCtrl_keeps ..).step rfl ((State.accept_keeps ..).step rfl hu2)
      refine Keeps.ite ?_ ?_
      · exact (State.finish_keeps ..).step rfl hu2
      · split
        · exact kl4
        · exact (State.aen_keeps ..).step rfl ((State.modCtrl_keeps ..).step rfl kl4)

theorem execCreateIoCompletionQueue_keeps (ref : CmdRef) (qid : Nat) (size : Nat) (base : Nat) (vector : Nat) (ien : Bool) (pc : Bool) (s : State) : KeepsIn atNext 1040 s (execCreateIoCompletionQueue ref qid size base vector ien pc s) := by
  unfold execCreateIoCompletionQueue
  refine KeepsIn.effect rfl ?_ ?_
  · exact .refl _ _
  · intro u1 hu1
    refine State.admin_keeps rfl ?_ ?_
    · exact hu1
    · intro u2 hu2
      extract_lets l3 l4 l5 l6
      refine Keeps.ite ?_ ?_
      · exact (State.finish_keeps ..).step rfl hu2
      · refine Keeps.ite ?_ ?_
        · exact (State.finish_keeps ..).step rfl hu2
        · refine Keeps.ite ?_ ?_
          · exact (State.finish_keeps ..).step rfl hu2
          · refine Keeps.ite ?_ ?_
            · exact (State.finish_keeps ..).step rfl hu2
            · refine Keeps.ite ?_ ?_
              · exact (State.finish_keeps ..).step rfl hu2
              · refine Keeps.ite ?_ ?_
                · exact (State.finish_keeps ..).step rfl hu2
                · exact (State.finish_keeps ..).step rfl ((State.cache_keeps ..).step rfl ((State.modCtx_keeps ..).step rfl hu2))

theorem execGetFeaturesDeadlineDefault_keeps (ref : CmdRef) (qid : Nat) (s : State) : KeepsIn atNext 1040 s (execGetFeaturesDeadlineDefault ref qid s) := by
  unfold execGetFeaturesDeadlineDefault
  refine KeepsIn.effect rfl ?_ ?_
  · exact .refl _ _
  · intro u1 hu1
    refine State.admin_keeps rfl ?_ ?_
    · exact hu1
    · intro u2 hu2
      extract_lets l3
      refine Keeps.ite ?_ ?_
      · exact (State.finish_keeps ..).step rfl hu2
      · exact (State.finish_keeps ..).step rfl hu2

theorem execIdentify_keeps (ref : CmdRef) (cns : Nat) (nsid : Nat) (csi : Nat) (s : State) : KeepsIn atNext 1040 s (execIdentify ref cns nsid csi s) := by
  unfold execIdentify
  refine KeepsIn.effect rfl ?_ ?_
  · exact .refl _ _
  · intro u1 hu1
    refine State.admin_keeps rfl ?_ ?_
    · exact hu1
    · intro u2 hu2
      exact (State.identify_keeps ..).step rfl hu2

theorem State.requestPs_keeps (s : State) (owner : Nat) (ps : Nat) : Keeps 2048 s (State.requestPs s owner ps) := by
  unfold State.requestPs
  exact (State.modCtrl_keeps ..).step rfl (.refl _ _)

theorem execGetLogC2_keeps (ref : CmdRef) (nsid : Nat) (rae : Bool) (s : State) : KeepsIn atNext 3088 s (execGetLogC2 ref nsid rae s) := by
  unfold execGetLogC2
  refine KeepsIn.effect rfl ?_ ?_
  · exact .refl _ _
  · intro u1 hu1
    refine State.admin_keeps rfl ?_ ?_
    · exact hu1
    · intro u2 hu2
      exact (State.vendorLog_keeps ..).step rfl hu2

theorem execGetLogC1_keeps (ref : CmdRef) (nsid : Nat) (rae : Bool) (s : State) : KeepsIn atNext 3088 s (execGetLogC1 ref nsid rae s) := by
  unfold execGetLogC1
  refine KeepsIn.effect rfl ?_ ?_
  · exact .refl _ _
  · intro u1 hu1
    refine State.admin_keeps rfl ?_ ?_
    · exact hu1
    · intro u2 hu2
      exact (State.vendorLog_keeps ..).step rfl hu2

theorem execGetLogPage_keeps (ref : CmdRef) (lid : Nat) (nsid : Nat) (off : Nat) (rae : Bool) (s : State) : KeepsIn atNext 3088 s (execGetLogPage ref lid nsid off rae s) := by
  unfold execGetLogPage
  refine KeepsIn.effect rfl ?_ ?_
  · exact .refl _ _
  · intro u1 hu1
    refine State.admin_keeps rfl ?_ ?_
    · exact hu1
    · intro u2 hu2
      exact (State.getLog_keeps ..).step rfl hu2

theorem execSetFeaturesPowerManagement_keeps (ref : CmdRef) (ps : Nat) (s : State) : KeepsIn atNext 7184 s (execSetFeaturesPowerManagement ref ps s) := by
  unfold execSetFeaturesPowerManagement
  refine KeepsIn.effect rfl ?_ ?_
  · exact .refl _ _
  · intro u1 hu1
    refine State.admin_keeps rfl ?_ ?_
    · exact hu1
    · intro u2 hu2
      refine Keeps.ite ?_ ?_
      · exact (State.finish_keeps ..).step rfl hu2
      · extract_lets l3 l4 l5
        have kl3 : Keeps 7184 s l3 := (State.requestPs_keeps ..).step rfl hu2
        have kl4 : Keeps 7184 s l4 := (State.accept_keeps ..).step rfl kl3
        refine Keeps.ite ?_ ?_
        · exact (State.finish_keeps ..).step rfl kl3
        · exact Keeps.set_power rfl kl4

end Sys2Proof.Machine
end

