-- ==== Sys2Proof/Laws/KeepsNamespace.lean ====
section
/-! SUPPORT. What each operation of Machine/Namespace.lean keeps (Laws/Frame.lean). -/

namespace Sys2Proof.Machine

theorem State.manage_keeps {n₀ : Nat} {s₀ : State} {s : State} {r : CmdRef} {f : State → State} (hm : 1024 ||| n₀ = n₀) (h₀ : Keeps n₀ s₀ s) (hf : ∀ v0, Keeps n₀ s₀ v0 → Keeps n₀ s₀ (f v0)) : Keeps n₀ s₀ (State.manage s r f) := by
  unfold State.manage
  refine State.admin_keeps (Keeps.sub rfl hm) ?_ ?_
  · exact h₀
  · intro u1 hu1
    refine Keeps.ite ?_ ?_
    · exact hf _ hu1
    · exact (State.finish_keeps ..).step (Keeps.sub rfl hm) hu1

theorem State.reviveZones_keeps (s : State) (nsid : Nat) : Keeps 32768 s (State.reviveZones s nsid) := by
  unfold State.reviveZones
  exact (State.modNv_keeps ..).step rfl (.refl _ _)

theorem State.rekey_keeps (s : State) (r : CmdRef) (k : Nat) : Keeps 142577073 s (State.rekey s r k) := by
  unfold State.rekey
  extract_lets l1
  have kl1 : KeepsIn atSnd 142577073 s l1 := (State.drbgKey_keeps ..).step rfl (.refl _ _)
  clear_value l1
  refine (State.forcedChange_keeps ..).step rfl ?_
  refine (State.putKey_keeps ..).step rfl (KeepsIn.ofSnd ?_)
  exact kl1

theorem State.nsOp_keeps {n₀ : Nat} {s₀ : State} {s : State} {r : CmdRef} {l : List Nat} {f : State → State} (hm : 134218768 ||| n₀ = n₀) (h₀ : Keeps n₀ s₀ s) (hf : ∀ v0, Keeps n₀ s₀ v0 → Keeps n₀ s₀ (f v0)) : Keeps n₀ s₀ (State.nsOp s r l f) := by
  unfold State.nsOp
  refine Keeps.ite ?_ ?_
  · exact (State.finish_keeps ..).step (Keeps.sub rfl hm) h₀
  · refine Keeps.ite ?_ ?_
    · exact hf _ ((State.accept_keeps ..).step (Keeps.sub rfl hm) h₀)
    · extract_lets l1
      have kl1 : Keeps n₀ s₀ l1 := hf _ ((State.updPair_keeps ..).step (Keeps.sub rfl hm) ((State.accept_keeps ..).step (Keeps.sub rfl hm) h₀))
      refine Keeps.ite ?_ ?_
      · exact (State.emit_keeps ..).step (Keeps.sub rfl hm) kl1
      · exact (State.updPair_keeps ..).step (Keeps.sub rfl hm) kl1

theorem State.dropLogs_keeps (s : State) (nsid : Nat) : Keeps 32768 s (State.dropLogs s nsid) := by
  unfold State.dropLogs
  exact (State.modNv_keeps ..).step rfl ((State.modNs_keeps ..).step rfl (.refl _ _))

theorem State.nsNotice_keeps (s : State) (nsid : Nat) (owner : Nat) : Keeps 3088 s (State.nsNotice s nsid owner) := by
  unfold State.nsNotice
  refine Keeps.ite ?_ ?_
  · exact (State.aen_keeps ..).step rfl ((State.modCtrl_keeps ..).step rfl (.refl _ _))
  · exact .refl _ _

theorem State.removeNs_keeps (s : State) (nsid : Nat) : Keeps 150965264 s (State.removeNs s nsid) := by
  unfold State.removeNs
  extract_lets l1 l2 l3 l4 l5 l6 l7 l8
  have kl3 : Keeps 150965264 s l3 := (State.discardNs_keeps ..).step rfl ((State.endCommands_keeps ..).step rfl (.refl _ _))
  have kl4 : Keeps 150965264 s l4 := (State.updJr_keeps ..).step rfl kl3
  have kl5 : Keeps 150965264 s l5 := (State.modNv_keeps ..).step rfl kl4
  have kl6 : Keeps 150965264 s l6 := by
    unfold l6
    unfold l2
    split
    · refine Keeps.ite ?_ ?_
      · exact (State.modNv_keeps ..).step rfl kl5
      · exact kl5
    · exact kl5
  have kl7 : Keeps 150965264 s l7 := (State.updKey_keeps ..).step rfl kl6
  have kl8 : Keeps 150965264 s l8 := (State.updTen_keeps ..).step rfl kl7
  refine Keeps.each ?_ ?_
  · exact kl8
  · intro u9 _ hu9
    exact (State.nsNotice_keeps ..).step rfl hu9

theorem State.addNs_keeps (s : State) (nsid : Nat) (k : Nat) (zoned : Bool) (nsze : Nat) (fmt : NsFormat) (handles : List Nat) (slot : Nat) : Keeps 4491697 s (State.addNs s nsid k zoned nsze fmt handles slot) := by
  unfold State.addNs
  extract_lets l1 l2 l3 l4 l5 l6
  have kl4 : Keeps 4491697 s l4 := (State.modNv_keeps ..).step rfl (.refl _ _)
  have kl5 : KeepsIn atSnd 4491697 s l5 := (State.drbgKey_keeps ..).step rfl kl4
  clear_value l5
  have kl6 : Keeps 4491697 s l6 := by
    unfold l6
    refine (State.bindNs_keeps ..).step rfl ?_
    refine (State.putKey_keeps ..).step rfl (KeepsIn.ofSnd ?_)
    exact kl5
  exact (State.updKey_keeps ..).step rfl kl6

theorem State.format_keeps (s : State) (r : CmdRef) (nsid : Nat) (fmt : NsFormat) (ses : Nat) : Keeps 142577073 s (State.format s r nsid fmt ses) := by
  unfold State.format
  split
  · exact (State.finish_keeps ..).step rfl (.refl _ _)
  · refine Keeps.ite ?_ ?_
    · exact (State.finish_keeps ..).step rfl (.refl _ _)
    · refine Keeps.ite ?_ ?_
      · exact (State.finish_keeps ..).step rfl (.refl _ _)
      · refine Keeps.ite ?_ ?_
        · exact (State.finish_keeps ..).step rfl (.refl _ _)
        · extract_lets l1 l2 l3 l4 l5 l7
          have kl3 : Keeps 142577073 s l3 := (State.dropLogs_keeps ..).step rfl ((State.reviveZones_keeps ..).step rfl ((State.discardNs_keeps ..).step rfl (.refl _ _)))
          have kl4 : Keeps 142577073 s l4 := (State.modNs_keeps ..).step rfl kl3
          have kl5 : Keeps 142577073 s l5 := by
            unfold l5
            refine Keeps.each ?_ ?_
            · exact kl4
            · intro u6 _ hu6
              exact (State.nsNotice_keeps ..).step rfl hu6
          refine Keeps.ite ?_ ?_
          · exact (State.finish_keeps ..).step rfl (.refl _ _)
          · refine Keeps.ite ?_ ?_
            · exact (State.finish_keeps ..).step rfl (.refl _ _)
            · refine Keeps.ite ?_ ?_
              · refine Keeps.ite ?_ ?_
                · exact (State.rekey_keeps ..).step rfl kl5
                · exact (State.rekey_keeps ..).step rfl ((State.bindNs_keeps ..).step rfl kl5)
              · exact (State.afterBatch_keeps ..).step rfl kl5

theorem State.blockErase_keeps (s : State) (r : CmdRef) : Keeps 138380304 s (State.blockErase s r) := by
  unfold State.blockErase
  refine Keeps.ite ?_ ?_
  · exact (State.finish_keeps ..).step rfl (.refl _ _)
  · extract_lets l1
    have kl1 : Keeps 138380304 s l1 := by
      unfold l1
      refine Keeps.each ?_ ?_
      · exact .refl _ _
      · intro u2 _ hu2
        exact (State.dropLogs_keeps ..).step rfl ((State.reviveZones_keeps ..).step rfl ((State.discardNs_keeps ..).step rfl hu2))
    exact (State.afterBatch_keeps ..).step rfl kl1

theorem State.deleteCmd_keeps (s : State) (r : CmdRef) (nsid : Nat) : Keeps 150965649 s (State.deleteCmd s r nsid) := by
  unfold State.deleteCmd
  refine Keeps.ite ?_ ?_
  · refine (State.opDone_keeps ..).step rfl ((State.consUpdate_keeps ..).step rfl ?_)
    refine Keeps.each ?_ ?_
    · exact .refl _ _
    · intro u1 _ hu1
      exact (State.removeNs_keeps ..).step rfl hu1
  · refine Keeps.ite ?_ ?_
    · exact (State.finish_keeps ..).step rfl (.refl _ _)
    · exact (State.opDone_keeps ..).step rfl ((State.consUpdate_keeps ..).step rfl ((State.removeNs_keeps ..).step rfl (.refl _ _)))

theorem State.detachCmd_keeps (s : State) (r : CmdRef) (nsid : Nat) (ids : List Nat) : Keeps 8424464 s (State.detachCmd s r nsid ids) := by
  unfold State.detachCmd
  refine Keeps.ite ?_ ?_
  · exact (State.finish_keeps ..).step rfl (.refl _ _)
  · refine Keeps.ite ?_ ?_
    · exact (State.finish_keeps ..).step rfl (.refl _ _)
    · extract_lets l1 l2
      have kl2 : Keeps 8424464 s l2 := by
        unfold l2
        refine Keeps.each ?_ ?_
        · exact .refl _ _
        · intro u3 _ hu3
          extract_lets l4 l5
          have kl4 : Keeps 8424464 s l4 := (State.modNv_keeps ..).step rfl hu3
          have kl5 : Keeps 8424464 s l5 := (State.updTen_keeps ..).step rfl kl4
          exact (State.nsNotice_keeps ..).step rfl kl5
      refine Keeps.ite ?_ ?_
      · exact (State.finish_keeps ..).step rfl (.refl _ _)
      · exact (State.finish_keeps ..).step rfl kl2

theorem State.create_keeps (s : State) (r : CmdRef) (cons : Nat) (csi : Nat) (nsze : Nat) (fmt : NsFormat) (handles : List Nat) : Keeps 4558257 s (State.create s r cons csi nsze fmt handles) := by
  unfold State.create
  extract_lets l1
  split
  · exact (State.finish_keeps ..).step rfl (.refl _ _)
  · refine Keeps.ite ?_ ?_
    · exact (State.finish_keeps ..).step rfl (.refl _ _)
    · refine Keeps.ite ?_ ?_
      · exact (State.finish_keeps ..).step rfl (.refl _ _)
      · refine Keeps.ite ?_ ?_
        · exact (State.finish_keeps ..).step rfl ((State.event_keeps ..).step rfl (.refl _ _))
        · split
          · exact (State.finish_keeps ..).step rfl (.refl _ _)
          · exact (State.finish_keeps ..).step rfl (.refl _ _)
          · extract_lets l2
            have kl2 : Keeps 4558257 s l2 := (State.addNs_keeps ..).step rfl (.refl _ _)
            exact (State.afterBatch_keeps ..).step rfl ((State.modCmd_keeps ..).step rfl kl2)

theorem State.cryptoErase_keeps (s : State) (r : CmdRef) : Keeps 142577073 s (State.cryptoErase s r) := by
  unfold State.cryptoErase
  refine Keeps.ite ?_ ?_
  · exact (State.finish_keeps ..).step rfl (.refl _ _)
  · extract_lets l1 l2 l4
    have kl2 : Keeps 142577073 s l2 := by
      unfold l2
      refine Keeps.each ?_ ?_
      · exact .refl _ _
      · intro u3 _ hu3
        exact (State.rekey_keeps ..).step rfl hu3
    have kl4 : Keeps 142577073 s l4 := by
      unfold l4
      refine Keeps.each ?_ ?_
      · exact kl2
      · intro u5 _ hu5
        exact (State.dropLogs_keeps ..).step rfl ((State.reviveZones_keeps ..).step rfl hu5)
    refine Keeps.ite ?_ ?_
    · exact (State.afterBatch_keeps ..).step rfl kl4
    · exact kl4

theorem State.attachCmd_keeps (s : State) (r : CmdRef) (nsid : Nat) (ids : List Nat) : Keeps 8490385 s (State.attachCmd s r nsid ids) := by
  unfold State.attachCmd
  refine Keeps.ite ?_ ?_
  · exact (State.finish_keeps ..).step rfl (.refl _ _)
  · refine Keeps.ite ?_ ?_
    · exact (State.finish_keeps ..).step rfl (.refl _ _)
    · extract_lets l1 l2
      have kl2 : Keeps 8490385 s l2 := by
        unfold l2
        refine Keeps.each ?_ ?_
        · exact .refl _ _
        · intro u3 _ hu3
          extract_lets l4
          have kl4 : Keeps 8490385 s l4 := (State.updTen_keeps ..).step rfl ((State.see_keeps ..).step rfl ((State.withAttach_keeps ..).step rfl hu3))
          exact (State.nsNotice_keeps ..).step rfl kl4
      refine Keeps.ite ?_ ?_
      · exact (State.finish_keeps ..).step rfl (.refl _ _)
      · refine Keeps.ite ?_ ?_
        · exact (State.finish_keeps ..).step rfl ((State.event_keeps ..).step rfl (.refl _ _))
        · exact (State.finish_keeps ..).step rfl kl2

theorem execNamespaceDetach_keeps (ref : CmdRef) (nsid : Nat) (ctrls : List Nat) (s : State) : KeepsIn atNext 8424464 s (execNamespaceDetach ref nsid ctrls s) := by
  unfold execNamespaceDetach
  refine KeepsIn.effect rfl ?_ ?_
  · exact .refl _ _
  · intro u1 hu1
    refine State.manage_keeps rfl ?_ ?_
    · exact hu1
    · intro u2 hu2
      exact (State.detachCmd_keeps ..).step rfl hu2

theorem execFormatNvm_keeps (ref : CmdRef) (nsid : Nat) (fmt : NsFormat) (ses : Nat) (s : State) : KeepsIn atNext 142577073 s (execFormatNvm ref nsid fmt ses s) := by
  unfold execFormatNvm
  refine KeepsIn.effect rfl ?_ ?_
  · exact .refl _ _
  · intro u1 hu1
    refine State.admin_keeps rfl ?_ ?_
    · exact hu1
    · intro u2 hu2
      refine Keeps.ite ?_ ?_
      · exact (State.finish_keeps ..).step rfl hu2
      · refine State.nsOp_keeps rfl ?_ ?_
        · exact hu2
        · intro u3 hu3
          exact (State.format_keeps ..).step rfl hu3

theorem execNamespaceCreate_keeps (ref : CmdRef) (cons : Nat) (csi : Nat) (nsze : Nat) (fmt : NsFormat) (handles : List Nat) (s : State) : KeepsIn atNext 138775985 s (execNamespaceCreate ref cons csi nsze fmt handles s) := by
  unfold execNamespaceCreate
  refine KeepsIn.effect rfl ?_ ?_
  · exact .refl _ _
  · intro u1 hu1
    refine State.manage_keeps rfl ?_ ?_
    · exact hu1
    · intro u2 hu2
      refine State.nsOp_keeps rfl ?_ ?_
      · exact hu2
      · intro u3 hu3
        exact (State.create_keeps ..).step rfl hu3

theorem execNamespaceDelete_keeps (ref : CmdRef) (nsid : Nat) (s : State) : KeepsIn atNext 150965649 s (execNamespaceDelete ref nsid s) := by
  unfold execNamespaceDelete
  refine KeepsIn.effect rfl ?_ ?_
  · exact .refl _ _
  · intro u1 hu1
    refine State.manage_keeps rfl ?_ ?_
    · exact hu1
    · intro u2 hu2
      refine State.nsOp_keeps rfl ?_ ?_
      · exact hu2
      · intro u3 hu3
        exact (State.deleteCmd_keeps ..).step rfl hu3

theorem execSanitizeBlockErase_keeps (ref : CmdRef) (s : State) : KeepsIn atNext 138380304 s (execSanitizeBlockErase ref s) := by
  unfold execSanitizeBlockErase
  refine KeepsIn.effect rfl ?_ ?_
  · exact .refl _ _
  · intro u1 hu1
    refine State.admin_keeps rfl ?_ ?_
    · exact hu1
    · intro u2 hu2
      refine State.nsOp_keeps rfl ?_ ?_
      · exact hu2
      · intro u3 hu3
        exact (State.blockErase_keeps ..).step rfl hu3

theorem execSanitizeCryptoErase_keeps (ref : CmdRef) (s : State) : KeepsIn atNext 142577073 s (execSanitizeCryptoErase ref s) := by
  unfold execSanitizeCryptoErase
  refine KeepsIn.effect rfl ?_ ?_
  · exact .refl _ _
  · intro u1 hu1
    refine State.admin_keeps rfl ?_ ?_
    · exact hu1
    · intro u2 hu2
      refine State.nsOp_keeps rfl ?_ ?_
      · exact hu2
      · intro u3 hu3
        exact (State.cryptoErase_keeps ..).step rfl hu3

theorem execNamespaceAttach_keeps (ref : CmdRef) (nsid : Nat) (ctrls : List Nat) (s : State) : KeepsIn atNext 8490385 s (execNamespaceAttach ref nsid ctrls s) := by
  unfold execNamespaceAttach
  refine KeepsIn.effect rfl ?_ ?_
  · exact .refl _ _
  · intro u1 hu1
    refine State.manage_keeps rfl ?_ ?_
    · exact hu1
    · intro u2 hu2
      exact (State.attachCmd_keeps ..).step rfl hu2

end Sys2Proof.Machine
end

