-- ==== Sys2Proof/Laws/KeepsMailbox.lean ====
section
/-! SUPPORT. What each operation of Machine/Mailbox.lean keeps (Laws/Frame.lean). -/

namespace Sys2Proof.Machine

theorem execAlmReadDone_keeps (ok : Bool) (s : State) : KeepsIn atNext 273 s (execAlmReadDone ok s) := by
  unfold execAlmReadDone
  refine KeepsIn.effect rfl ?_ ?_
  · exact .refl _ _
  · intro u1 hu1
    split
    · exact hu1
    · extract_lets l2 l3 l4 l5 l6
      have kl2 : Keeps 273 s l2 := (State.set_keeps ..).step rfl hu1
      have kl4 : Keeps 273 s l4 := Keeps.set_alm rfl (fun h => ⟨h, Nat.le_refl _⟩) kl2
      have kl5 : Keeps 273 s l5 := (State.wr_keeps ..).step rfl kl4
      split
      · exact (State.wr_keeps ..).step rfl kl4
      · refine Keeps.ite ?_ ?_
        · exact (State.wr_keeps ..).step rfl kl4
        · exact Keeps.set_alm rfl (fun h => ⟨h, Nat.le_refl _⟩) kl5

theorem State.almListWrite_keeps (s : State) (list : Nat) (entry : Nat) (valid : Bool) (off : Nat) : Keeps 2449 s (State.almListWrite s list entry valid off) := by
  unfold State.almListWrite
  refine Keeps.ite ?_ ?_
  · exact .refl _ _
  · extract_lets l1 l2 l3 l4
    exact (State.event_keeps ..).step rfl (Keeps.set_alm rfl (fun h => ⟨h, Nat.le_refl _⟩) (.refl _ _))

theorem State.returns_keeps (s : State) (v : Nat) : Keeps 16 s (State.returns s v) := by
  unfold State.returns
  exact (State.emit_keeps ..).step rfl (.refl _ _)

theorem State.mbxRefuse_keeps (s : State) (m : Nat) : Keeps 2449 s (State.mbxRefuse s m) := by
  unfold State.mbxRefuse
  exact (State.eventPer_keeps ..).step rfl ((State.bump_keeps ..).step rfl (.refl _ _))

theorem State.mbxInterrupt_keeps (s : State) (m : Nat) : Keeps 16 s (State.mbxInterrupt s m) := by
  unfold State.mbxInterrupt
  refine Keeps.ite ?_ ?_
  · exact (State.emit_keeps ..).step rfl (.refl _ _)
  · refine Keeps.ite ?_ ?_
    · exact (State.emit_keeps ..).step rfl (.refl _ _)
    · exact (State.emit_keeps ..).step rfl (.refl _ _)

theorem execAlmListWrite_keeps (list : Nat) (entry : Nat) (valid : Bool) (off : Nat) (s : State) : KeepsIn atNext 2449 s (execAlmListWrite list entry valid off s) := by
  unfold execAlmListWrite
  refine KeepsIn.effect rfl ?_ ?_
  · exact .refl _ _
  · intro u1 hu1
    exact (State.almListWrite_keeps ..).step rfl hu1

theorem State.almRead_keeps (s : State) (hi : Nat) : Keeps 261 s (State.almRead s hi) := by
  unfold State.almRead
  refine Keeps.ite ?_ ?_
  · exact .refl _ _
  · extract_lets l1 l2 l3 l4 l5
    have kl2 : Keeps 261 s l2 := Keeps.set_loWrite rfl (.refl _ _)
    have kl3 : Keeps 261 s l3 := (State.wr_keeps ..).step rfl ((State.wr_keeps ..).step rfl kl2)
    have kl4 : Keeps 261 s l4 := (State.set_keeps ..).step rfl kl3
    exact Keeps.set_alm rfl (fun h => ⟨h, Nat.le_refl _⟩) kl4

theorem State.modMbx_keeps (s : State) (m : Nat) (f : Mailbox → Mailbox) : Keeps 512 s (State.modMbx s m f) := by
  unfold State.modMbx
  exact Keeps.set_mbx rfl (.refl _ _)

theorem State.evtPendingClear_keeps (s : State) (w : Nat) (mask : Nat) (same : List Nat) : Keeps 2449 s (State.evtPendingClear s w mask same) := by
  unfold State.evtPendingClear
  refine Keeps.ite ?_ ?_
  · exact .refl _ _
  · extract_lets l1 l2
    have kl2 : Keeps 2449 s l2 := (State.wr_keeps ..).step rfl (.refl _ _)
    refine Keeps.each ?_ ?_
    · exact kl2
    · intro u3 _ hu3
      exact (State.event_keeps ..).step rfl hu3

theorem State.mbxLockRead_keeps (s : State) (m : Nat) (a : Agent) : Keeps 528 s (State.mbxLockRead s m a) := by
  unfold State.mbxLockRead
  extract_lets l1 l2
  have kl2 : Keeps 528 s l2 := (State.returns_keeps ..).step rfl ((State.modMbx_keeps ..).step rfl (.refl _ _))
  refine Keeps.ite ?_ ?_
  · exact (State.returns_keeps ..).step rfl (.refl _ _)
  · refine Keeps.ite ?_ ?_
    · refine Keeps.ite ?_ ?_
      · exact (State.emit_keeps ..).step rfl kl2
      · exact kl2
    · exact (State.returns_keeps ..).step rfl (.refl _ _)

theorem State.mbxReplyRecv_keeps (s : State) (m : Nat) (a : Agent) : Keeps 2961 s (State.mbxReplyRecv s m a) := by
  unfold State.mbxReplyRecv
  extract_lets l1
  refine Keeps.ite ?_ ?_
  · exact (State.returns_keeps ..).step rfl (.refl _ _)
  · refine Keeps.ite ?_ ?_
    · exact (State.returns_keeps ..).step rfl ((State.mbxRefuse_keeps ..).step rfl (.refl _ _))
    · split
      · exact (State.returns_keeps ..).step rfl ((State.bump_keeps ..).step rfl (.refl _ _))
      · extract_lets l2
        have kl2 : Keeps 2961 s l2 := (State.returns_keeps ..).step rfl ((State.modMbx_keeps ..).step rfl (.refl _ _))
        refine Keeps.ite ?_ ?_
        · exact (State.emit_keeps ..).step rfl kl2
        · exact kl2

theorem execAlmRead_keeps (hi : Nat) (s : State) : KeepsIn atNext 277 s (execAlmRead hi s) := by
  unfold execAlmRead
  refine KeepsIn.effect rfl ?_ ?_
  · exact .refl _ _
  · intro u1 hu1
    exact (State.almRead_keeps ..).step rfl hu1

theorem State.mbxLinkLost_keeps (s : State) : Keeps 2961 s (State.mbxLinkLost s) := by
  unfold State.mbxLinkLost
  refine Keeps.each ?_ ?_
  · exact .refl _ _
  · intro u1 _ hu1
    refine Keeps.ite ?_ ?_
    · exact hu1
    · exact (State.event_keeps ..).step rfl ((State.modMbx_keeps ..).step rfl hu1)

theorem execMbxLockRead_keeps (m : Nat) (a : Agent) (s : State) : KeepsIn atNext 528 s (execMbxLockRead m a s) := by
  unfold execMbxLockRead
  refine KeepsIn.effect rfl ?_ ?_
  · exact .refl _ _
  · intro u1 hu1
    exact (State.mbxLockRead_keeps ..).step rfl hu1

theorem execEvtPendingClear_keeps (w : Nat) (mask : Nat) (same : List Nat) (s : State) : KeepsIn atNext 2449 s (execEvtPendingClear w mask same s) := by
  unfold execEvtPendingClear
  refine KeepsIn.effect rfl ?_ ?_
  · exact .refl _ _
  · intro u1 hu1
    exact (State.evtPendingClear_keeps ..).step rfl hu1

theorem State.mbxRelease_keeps (s : State) (m : Nat) (a : Agent) (id : Nat) : Keeps 2961 s (State.mbxRelease s m a id) := by
  unfold State.mbxRelease
  extract_lets l1 l2
  have kl2 : Keeps 2961 s l2 := (State.modMbx_keeps ..).step rfl (.refl _ _)
  refine Keeps.ite ?_ ?_
  · exact .refl _ _
  · refine Keeps.ite ?_ ?_
    · refine Keeps.ite ?_ ?_
      · exact (State.emit_keeps ..).step rfl kl2
      · exact kl2
    · exact (State.mbxRefuse_keeps ..).step rfl (.refl _ _)

theorem State.mbxReplySend_keeps (s : State) (m : Nat) (a : Agent) (w : Word) : Keeps 2961 s (State.mbxReplySend s m a w) := by
  unfold State.mbxReplySend
  extract_lets l1 l2
  have kl2 : Keeps 2961 s l2 := (State.modMbx_keeps ..).step rfl (.refl _ _)
  refine Keeps.ite ?_ ?_
  · exact .refl _ _
  · refine Keeps.ite ?_ ?_
    · exact (State.mbxRefuse_keeps ..).step rfl (.refl _ _)
    · refine Keeps.ite ?_ ?_
      · exact (State.event_keeps ..).step rfl ((State.modMbx_keeps ..).step rfl (.refl _ _))
      · refine Keeps.ite ?_ ?_
        · exact (State.emit_keeps ..).step rfl kl2
        · exact kl2

theorem execMbxReplySend_keeps (m : Nat) (a : Agent) (w : Word) (s : State) : KeepsIn atNext 2961 s (execMbxReplySend m a w s) := by
  unfold execMbxReplySend
  refine KeepsIn.effect rfl ?_ ?_
  · exact .refl _ _
  · intro u1 hu1
    exact (State.mbxReplySend_keeps ..).step rfl hu1

theorem execMbxReplyRecv_keeps (m : Nat) (a : Agent) (s : State) : KeepsIn atNext 2961 s (execMbxReplyRecv m a s) := by
  unfold execMbxReplyRecv
  refine KeepsIn.effect rfl ?_ ?_
  · exact .refl _ _
  · intro u1 hu1
    exact (State.mbxReplyRecv_keeps ..).step rfl hu1

theorem State.mbxRing_keeps (s : State) (m : Nat) (a : Agent) : Keeps 2961 s (State.mbxRing s m a) := by
  unfold State.mbxRing
  refine Keeps.ite ?_ ?_
  · exact .refl _ _
  · refine Keeps.ite ?_ ?_
    · exact (State.mbxRefuse_keeps ..).step rfl (.refl _ _)
    · exact (State.mbxInterrupt_keeps ..).step rfl ((State.modMbx_keeps ..).step rfl (.refl _ _))

theorem State.mbxSend_keeps (s : State) (m : Nat) (a : Agent) (w : Word) : Keeps 2961 s (State.mbxSend s m a w) := by
  unfold State.mbxSend
  extract_lets l1 l2
  have kl2 : Keeps 2961 s l2 := (State.modMbx_keeps ..).step rfl (.refl _ _)
  refine Keeps.ite ?_ ?_
  · exact .refl _ _
  · refine Keeps.ite ?_ ?_
    · exact (State.mbxRefuse_keeps ..).step rfl (.refl _ _)
    · refine Keeps.ite ?_ ?_
      · exact (State.event_keeps ..).step rfl ((State.modMbx_keeps ..).step rfl (.refl _ _))
      · refine Keeps.ite ?_ ?_
        · exact (State.emit_keeps ..).step rfl kl2
        · exact kl2

theorem execMbxSend_keeps (m : Nat) (a : Agent) (w : Word) (s : State) : KeepsIn atNext 2961 s (execMbxSend m a w s) := by
  unfold execMbxSend
  refine KeepsIn.effect rfl ?_ ?_
  · exact .refl _ _
  · intro u1 hu1
    exact (State.mbxSend_keeps ..).step rfl hu1

theorem State.mbxBreak_keeps (s : State) (m : Nat) (a : Agent) (unlock : Nat) : Keeps 2961 s (State.mbxBreak s m a unlock) := by
  unfold State.mbxBreak
  refine Keeps.ite ?_ ?_
  · exact .refl _ _
  · refine State.unlocked_keeps rfl ?_ ?_
    · exact .refl _ _
    · intro u1 hu1
      extract_lets l2
      have kl2 : Keeps 2961 s l2 := (State.event_keeps ..).step rfl ((State.modMbx_keeps ..).step rfl hu1)
      refine Keeps.ite ?_ ?_
      · exact (State.emit_keeps ..).step rfl kl2
      · exact kl2

theorem State.mbxFlush_keeps (s : State) (m : Nat) (a : Agent) : Keeps 2961 s (State.mbxFlush s m a) := by
  unfold State.mbxFlush
  refine Keeps.ite ?_ ?_
  · exact .refl _ _
  · refine Keeps.ite ?_ ?_
    · exact (State.mbxRefuse_keeps ..).step rfl (.refl _ _)
    · exact (State.modMbx_keeps ..).step rfl (.refl _ _)

theorem State.mbxReply_keeps (s : State) (m : Nat) (a : Agent) : Keeps 2961 s (State.mbxReply s m a) := by
  unfold State.mbxReply
  refine Keeps.ite ?_ ?_
  · exact .refl _ _
  · refine Keeps.ite ?_ ?_
    · exact (State.mbxRefuse_keeps ..).step rfl (.refl _ _)
    · extract_lets l1 l2
      have kl2 : Keeps 2961 s l2 := (State.modMbx_keeps ..).step rfl (.refl _ _)
      refine Keeps.ite ?_ ?_
      · exact (State.event_keeps ..).step rfl kl2
      · refine Keeps.ite ?_ ?_
        · exact (State.emit_keeps ..).step rfl kl2
        · refine Keeps.ite ?_ ?_
          · exact kl2
          · exact (State.emit_keeps ..).step rfl kl2

theorem execMbxTimeout_keeps (m : Nat) (s : State) : KeepsIn atNext 2961 s (execMbxTimeout m s) := by
  unfold execMbxTimeout
  refine KeepsIn.effect rfl ?_ ?_
  · exact .refl _ _
  · intro u1 hu1
    refine Keeps.ite ?_ ?_
    · exact hu1
    · exact (State.event_keeps ..).step rfl ((State.modMbx_keeps ..).step rfl hu1)

theorem execMbxRelease_keeps (m : Nat) (a : Agent) (id : Nat) (s : State) : KeepsIn atNext 2961 s (execMbxRelease m a id s) := by
  unfold execMbxRelease
  refine KeepsIn.effect rfl ?_ ?_
  · exact .refl _ _
  · intro u1 hu1
    exact (State.mbxRelease_keeps ..).step rfl hu1

theorem State.mbxRecv_keeps (s : State) (m : Nat) (a : Agent) : Keeps 2961 s (State.mbxRecv s m a) := by
  unfold State.mbxRecv
  extract_lets l1
  refine Keeps.ite ?_ ?_
  · exact (State.returns_keeps ..).step rfl (.refl _ _)
  · refine Keeps.ite ?_ ?_
    · exact (State.returns_keeps ..).step rfl ((State.mbxRefuse_keeps ..).step rfl (.refl _ _))
    · split
      · exact (State.returns_keeps ..).step rfl ((State.bump_keeps ..).step rfl (.refl _ _))
      · extract_lets l2
        have kl2 : Keeps 2961 s l2 := (State.returns_keeps ..).step rfl ((State.modMbx_keeps ..).step rfl (.refl _ _))
        refine Keeps.ite ?_ ?_
        · exact (State.emit_keeps ..).step rfl kl2
        · exact kl2

theorem execFlushMailbox_keeps (m : Nat) (a : Agent) (s : State) : KeepsIn atNext 2961 s (execFlushMailbox m a s) := by
  unfold execFlushMailbox
  refine KeepsIn.effect rfl ?_ ?_
  · exact .refl _ _
  · intro u1 hu1
    exact (State.mbxFlush_keeps ..).step rfl hu1

theorem execMbxRecv_keeps (m : Nat) (a : Agent) (s : State) : KeepsIn atNext 2961 s (execMbxRecv m a s) := by
  unfold execMbxRecv
  refine KeepsIn.effect rfl ?_ ?_
  · exact .refl _ _
  · intro u1 hu1
    exact (State.mbxRecv_keeps ..).step rfl hu1

theorem execReply_keeps (m : Nat) (a : Agent) (s : State) : KeepsIn atNext 2961 s (execReply m a s) := by
  unfold execReply
  refine KeepsIn.effect rfl ?_ ?_
  · exact .refl _ _
  · intro u1 hu1
    exact (State.mbxReply_keeps ..).step rfl hu1

theorem execRing_keeps (m : Nat) (a : Agent) (s : State) : KeepsIn atNext 2961 s (execRing m a s) := by
  unfold execRing
  refine KeepsIn.effect rfl ?_ ?_
  · exact .refl _ _
  · intro u1 hu1
    exact (State.mbxRing_keeps ..).step rfl hu1

theorem execMbxBreak_keeps (m : Nat) (a : Agent) (unlock : Nat) (s : State) : KeepsIn atNext 2961 s (execMbxBreak m a unlock s) := by
  unfold execMbxBreak
  refine KeepsIn.effect rfl ?_ ?_
  · exact .refl _ _
  · intro u1 hu1
    exact (State.mbxBreak_keeps ..).step rfl hu1

theorem State.mbxFrame_keeps (s : State) (m : Nat) (f : MbxFrame) : Keeps 2961 s (State.mbxFrame s m f) := by
  unfold State.mbxFrame
  refine Keeps.ite ?_ (Keeps.ite ?_ (.refl _ _))
  · cases f with
    | word w =>
      exact Keeps.ite ((State.event_keeps ..).step rfl ((State.modMbx_keeps ..).step rfl (.refl _ _)))
        ((State.modMbx_keeps ..).step rfl (.refl _ _))
    | ring => exact (State.mbxInterrupt_keeps ..).step rfl ((State.modMbx_keeps ..).step rfl (.refl _ _))
    | owned => exact (State.modMbx_keeps ..).step rfl (.refl _ _)
    | freed => exact (State.modMbx_keeps ..).step rfl (.refl _ _)
    | popped => exact (State.modMbx_keeps ..).step rfl (.refl _ _)
    | replyWord w => exact .refl _ _
    | reply => exact .refl _ _
    | carried => exact .refl _ _
  · cases f with
    | replyWord w =>
      exact Keeps.ite ((State.event_keeps ..).step rfl ((State.modMbx_keeps ..).step rfl (.refl _ _)))
        ((State.modMbx_keeps ..).step rfl (.refl _ _))
    | reply => exact (State.mbxReply_keeps ..).step rfl (.refl _ _)
    | carried => exact (State.modMbx_keeps ..).step rfl (.refl _ _)
    | popped => exact (State.modMbx_keeps ..).step rfl (.refl _ _)
    | word w => exact .refl _ _
    | ring => exact .refl _ _
    | owned => exact .refl _ _
    | freed => exact .refl _ _

theorem execCompanionMailboxFrame_keeps (m : Nat) (f : MbxFrame) (s : State) : KeepsIn atNext 2961 s (execCompanionMailboxFrame m f s) := by
  unfold execCompanionMailboxFrame
  refine KeepsIn.effect rfl ?_ ?_
  · exact .refl _ _
  · intro u1 hu1
    exact (State.mbxFrame_keeps ..).step rfl hu1

end Sys2Proof.Machine
end

