-- ==== Sys2Proof/Laws/KeepsPair.lean ====
section
/-! SUPPORT. What each operation of Machine/Pair.lean keeps (Laws/Frame.lean). -/

namespace Sys2Proof.Machine

theorem State.nextPairEpoch_keeps (s : State) : Keeps 32768 s (State.nextPairEpoch s) := by
  unfold State.nextPairEpoch
  exact (State.modNv_keeps ..).step rfl (.refl _ _)

theorem State.sendIdentity_keeps (s : State) : Keeps 16 s (State.sendIdentity s) := by
  unfold State.sendIdentity
  refine Keeps.ite ?_ ?_
  · exact (State.emit_keeps ..).step rfl (.refl _ _)
  · exact .refl _ _

theorem State.mirrorAck_keeps (s : State) (seq : Nat) (ok : Bool) : Keeps 134974865 s (State.mirrorAck s seq ok) := by
  unfold State.mirrorAck
  split
  · extract_lets l1
    have kl1 : Keeps 134974865 s l1 := (State.updPair_keeps ..).step rfl (.refl _ _)
    refine Keeps.ite ?_ ?_
    · exact (State.finish_keeps ..).step rfl kl1
    · exact (State.finish_keeps ..).step rfl kl1
  · refine Keeps.ite ?_ ?_
    · exact .refl _ _
    · extract_lets l2 l3
      have kl2 : Keeps 134974865 s l2 := (State.updPair_keeps ..).step rfl (.refl _ _)
      have kl3 : Keeps 134974865 s l3 := (State.updWp_keeps ..).step rfl kl2
      split
      · exact kl2
      · refine Keeps.ite ?_ ?_
        · exact (State.patchChecks_keeps ..).step rfl ((State.commitAll_keeps ..).step rfl ((State.tryComplete_keeps ..).step rfl kl3))
        · exact (State.ingressFails_keeps ..).step rfl kl2

theorem State.pairResult_keeps (s : State) (r : Nat) : Keeps 1 s (State.pairResult s r) := by
  unfold State.pairResult
  exact (State.wr_keeps ..).step rfl (.refl _ _)

theorem execMirrorAck_keeps (seq : Nat) (ok : Bool) (s : State) : KeepsIn atNext 134974865 s (execMirrorAck seq ok s) := by
  unfold execMirrorAck
  refine KeepsIn.effect rfl ?_ ?_
  · exact .refl _ _
  · intro u1 hu1
    exact (State.mirrorAck_keeps ..).step rfl hu1

theorem State.grantMirror_keeps (s : State) : Keeps 134217744 s (State.grantMirror s) := by
  unfold State.grantMirror
  extract_lets l1
  exact (State.emit_keeps ..).step rfl ((State.updPair_keeps ..).step rfl (.refl _ _))

theorem State.linkCmd_keeps (s : State) (sqid : Nat) (seq : Nat) (nsid : Nat) (opcode : Nat) : Keeps 1024 s (State.linkCmd s sqid seq nsid opcode) := by
  unfold State.linkCmd
  extract_lets l1 l2
  exact (State.updQ_keeps ..).step rfl (.refl _ _)

theorem State.runKind_keeps (s : State) (r : CmdRef) (f : Forwarded) : Keeps 150965681 s (State.runKind s r f) := by
  unfold State.runKind
  split
  · exact (State.writeCmd_keeps ..).step rfl (.refl _ _)
  · exact (State.writeCmd_keeps ..).step rfl (.refl _ _)
  · exact (State.zeroesCmd_keeps ..).step rfl (.refl _ _)
  · refine Keeps.ite ?_ ?_
    · exact (State.closeCmd_keeps ..).step rfl (.refl _ _)
    · refine Keeps.ite ?_ ?_
      · exact (State.finishCmd_keeps ..).step rfl (.refl _ _)
      · refine Keeps.ite ?_ ?_
        · exact (State.openCmd_keeps ..).step rfl (.refl _ _)
        · refine Keeps.ite ?_ ?_
          · exact (State.zoneResetCmd_keeps ..).step rfl (.refl _ _)
          · exact (State.secureResetCmd_keeps ..).step rfl (.refl _ _)
  · exact (State.deallocCmd_keeps ..).step rfl (.refl _ _)
  · refine State.manage_keeps rfl ?_ ?_
    · exact .refl _ _
    · intro u1 hu1
      split
      · refine State.nsOp_keeps rfl ?_ ?_
        · exact hu1
        · intro u2 hu2
          exact (State.create_keeps ..).step rfl hu2
      · refine State.nsOp_keeps rfl ?_ ?_
        · exact hu1
        · intro u3 hu3
          exact (State.deleteCmd_keeps ..).step rfl hu3
      · refine State.nsOp_keeps rfl ?_ ?_
        · exact hu1
        · intro u4 hu4
          exact (State.format_keeps ..).step rfl hu4
      · refine State.nsOp_keeps rfl ?_ ?_
        · exact hu1
        · intro u5 hu5
          exact (State.cryptoErase_keeps ..).step rfl hu5
      · refine State.nsOp_keeps rfl ?_ ?_
        · exact hu1
        · intro u6 hu6
          exact (State.blockErase_keeps ..).step rfl hu6
      · exact (State.finish_keeps ..).step rfl hu1

theorem State.runApproved_keeps (s : State) (r : CmdRef) (f : Forwarded) : Keeps 150965681 s (State.runApproved s r f) := by
  unfold State.runApproved
  extract_lets l1 l2 l3
  have kl1 : Keeps 150965681 s l1 := (State.updPair_keeps ..).step rfl (.refl _ _)
  have kl2 : Keeps 150965681 s l2 := (State.runKind_keeps ..).step rfl kl1
  have kl3 : Keeps 150965681 s l3 := by
    unfold l3
    refine Keeps.ite ?_ ?_
    · exact kl2
    · exact (State.dataReceived_keeps ..).step rfl kl2
  split
  · split
    · exact kl3
    · exact (State.updPair_keeps ..).step rfl kl3
  · exact (State.updPair_keeps ..).step rfl kl3

theorem State.bulumTrained_keeps (s : State) (lanes : Nat) : Keeps 134220177 s (State.bulumTrained s lanes) := by
  unfold State.bulumTrained
  refine Keeps.ite ?_ ?_
  · exact .refl _ _
  · extract_lets l1 l2
    have kl2 : Keeps 134220177 s l2 := (State.wr_keeps ..).step rfl ((State.updPair_keeps ..).step rfl (.refl _ _))
    exact (State.sendIdentity_keeps ..).step rfl ((State.event_keeps ..).step rfl kl2)

theorem execSecureResetConfirm_keeps (ref : CmdRef) (s : State) : KeepsIn atNext 263184 s (execSecureResetConfirm ref s) := by
  unfold execSecureResetConfirm
  refine KeepsIn.effect rfl ?_ ?_
  · exact .refl _ _
  · intro u1 hu1
    exact (State.secureDone_keeps ..).step rfl ((State.updZone_keeps ..).step rfl hu1)

theorem State.response_keeps (s : State) (r : CmdRef) (st : Status) (lba : Nat) : Keeps 150965681 s (State.response s r st lba) := by
  unfold State.response
  refine Keeps.ite ?_ ?_
  · extract_lets l1
    have kl1 : Keeps 150965681 s l1 := (State.updPair_keeps ..).step rfl (.refl _ _)
    refine Keeps.ite ?_ ?_
    · exact (State.finish_keeps ..).step rfl kl1
    · refine Keeps.ite ?_ ?_
      · exact kl1
      · exact (State.opDone_keeps ..).step rfl kl1
  · split
    · exact .refl _ _
    · extract_lets l2 l3
      have kl2 : Keeps 150965681 s l2 := (State.updPair_keeps ..).step rfl (.refl _ _)
      have kl3 : Keeps 150965681 s l3 := by
        unfold l3
        split
        · refine Keeps.ite ?_ ?_
          · extract_lets l4
            exact (State.modZone_keeps ..).step rfl kl2
          · exact kl2
        · exact kl2
      refine Keeps.ite ?_ ?_
      · exact (State.finish_keeps ..).step rfl kl2
      · exact (State.runApproved_keeps ..).step rfl kl3

theorem State.bulumDown_keeps (s : State) : Keeps 134220689 s (State.bulumDown s) := by
  unfold State.bulumDown
  exact (State.mbxLinkLost_keeps ..).step rfl ((State.wr_keeps ..).step rfl ((State.updPair_keeps ..).step rfl (.refl _ _)))

theorem execAckReplayTimeout_keeps (seq : Nat) (s : State) : KeepsIn atNext 2449 s (execAckReplayTimeout seq s) := by
  unfold execAckReplayTimeout
  refine KeepsIn.effect rfl ?_ ?_
  · exact .refl _ _
  · intro u1 hu1
    refine Keeps.ite ?_ ?_
    · extract_lets l2
      have kl2 : Keeps 2449 s l2 := (State.eventPer_keeps ..).step rfl ((State.bump_keeps ..).step rfl ((State.bump_keeps ..).step rfl hu1))
      exact (State.emit_keeps ..).step rfl kl2
    · exact hu1

theorem execMirrorCredit_keeps (mib : Nat) (s : State) : KeepsIn atNext 134217744 s (execMirrorCredit mib s) := by
  unfold execMirrorCredit
  refine KeepsIn.effect rfl ?_ ?_
  · exact .refl _ _
  · intro u1 hu1
    refine Keeps.ite ?_ ?_
    · exact (State.updPair_keeps ..).step rfl hu1
    · exact hu1

theorem State.mirrorComplete_keeps (s : State) (r : CmdRef) : Keeps 163840 s (State.mirrorComplete s r) := by
  unfold State.mirrorComplete
  refine Keeps.each ?_ ?_
  · exact .refl _ _
  · intro u1 _ hu1
    extract_lets l2
    have kl2 : Keeps 163840 s l2 := (State.updWp_keeps ..).step rfl hu1
    exact (State.modNv_keeps ..).step rfl kl2

theorem State.codewordRequest_keeps (s : State) (nsid : Nat) (lba : Nat) (n : Nat) : Keeps 528401 s (State.codewordRequest s nsid lba n) := by
  unfold State.codewordRequest
  refine Keeps.ite ?_ ?_
  · exact .refl _ _
  · extract_lets l1 l2
    refine Keeps.ite ?_ ?_
    · exact (State.emit_keeps ..).step rfl (.refl _ _)
    · split
      · exact (State.emit_keeps ..).step rfl (.refl _ _)
      · extract_lets l3 l4
        refine Keeps.ite ?_ ?_
        · exact (State.emit_keeps ..).step rfl (.refl _ _)
        · exact (State.startJob_keeps ..).step rfl (.refl _ _)

theorem State.homeWrite_keeps (s : State) (j : Nat) (value : Nat) : Keeps 134217744 s (State.homeWrite s j value) := by
  unfold State.homeWrite
  refine Keeps.ite ?_ ?_
  · exact .refl _ _
  · extract_lets l1
    exact (State.emit_keeps ..).step rfl ((State.updPair_keeps ..).step rfl (.refl _ _))

theorem execCompanionBatch_keeps (seq : Nat) (epoch : Nat) (s : State) : KeepsIn atNext 134217744 s (execCompanionBatch seq epoch s) := by
  unfold execCompanionBatch
  refine KeepsIn.effect rfl ?_ ?_
  · exact .refl _ _
  · intro u1 hu1
    refine Keeps.ite ?_ ?_
    · exact (State.updPair_keeps ..).step rfl hu1
    · exact hu1

theorem State.toPair_keeps (s : State) (st : PairSt) : Keeps 32768 s (State.toPair s st) := by
  unfold State.toPair
  exact (State.modNv_keeps ..).step rfl (.refl _ _)

theorem State.askFails_keeps (s : State) (a : Ask) : Keeps 3837329 s (State.askFails s a) := by
  unfold State.askFails
  split
  · exact (State.wordLost_keeps ..).step rfl (.refl _ _)
  · exact (State.outLost_keeps ..).step rfl (.refl _ _)
  · exact .refl _ _

theorem State.forwarded_keeps (s : State) (f : Forwarded) : Keeps 150965681 s (State.forwarded s f) := by
  unfold State.forwarded
  extract_lets l1 l2
  have kl2 : Keeps 150965681 s l2 := (State.runKind_keeps ..).step rfl ((State.linkCmd_keeps ..).step rfl (.refl _ _))
  refine Keeps.ite ?_ ?_
  · exact .refl _ _
  · refine Keeps.ite ?_ ?_
    · exact kl2
    · exact (State.dataReceived_keeps ..).step rfl kl2

theorem State.divergeOps_keeps (s : State) : Keeps 32768 s (State.divergeOps s) := by
  unfold State.divergeOps
  extract_lets l1
  refine Keeps.each ?_ ?_
  · exact .refl _ _
  · intro u2 _ hu2
    refine Keeps.each ?_ ?_
    · exact hu2
    · intro u3 _ hu3
      exact (State.diverge_keeps ..).step rfl hu3

theorem State.homeConfirm_keeps (s : State) (cons : Nat) (toB : Bool) : Keeps 134217744 s (State.homeConfirm s cons toB) := by
  unfold State.homeConfirm
  refine Keeps.ite ?_ ?_
  · exact .refl _ _
  · extract_lets l1 l2 l3 l4 l5 l6
    have kl6 : Keeps 134217744 s l6 := (State.updPair_keeps ..).step rfl (.refl _ _)
    refine Keeps.ite ?_ ?_
    · exact kl6
    · exact (State.emit_keeps ..).step rfl kl6

theorem execFenceInDeassert_keeps (s : State) : KeepsIn atNext 134234128 s (execFenceInDeassert s) := by
  unfold execFenceInDeassert
  refine KeepsIn.effect rfl ?_ ?_
  · exact .refl _ _
  · intro u1 hu1
    exact (State.updPair_keeps ..).step rfl ((State.updBoot_keeps ..).step rfl hu1)

theorem execHeartbeat_keeps (h : HeartbeatFrame) (s : State) : KeepsIn atNext 17 s (execHeartbeat h s) := by
  unfold execHeartbeat
  refine KeepsIn.effect rfl ?_ ?_
  · exact .refl _ _
  · intro u1 hu1
    refine Keeps.ite ?_ ?_
    · exact (State.wr_keeps ..).step rfl hu1
    · exact hu1

theorem State.codewordAnswer_keeps (s : State) (k : Nat) (ok : Bool) : Keeps 138382737 s (State.codewordAnswer s k ok) := by
  unfold State.codewordAnswer
  split
  · exact .refl _ _
  · extract_lets l1
    have kl1 : Keeps 138382737 s l1 := (State.updPair_keeps ..).step rfl (.refl _ _)
    refine Keeps.ite ?_ ?_
    · exact (State.askFails_keeps ..).step rfl kl1
    · split
      · extract_lets l2 l3
        exact (State.wordRead_keeps ..).step rfl ((State.chanEvent_keeps ..).step rfl ((State.histogram_keeps ..).step rfl ((State.patchWords_keeps ..).step rfl kl1)))
      · exact (State.fillRead_keeps ..).step rfl ((State.patchWords_keeps ..).step rfl kl1)
      · exact kl1

theorem execCodewordRequest_keeps (nsid : Nat) (lba : Nat) (n : Nat) (s : State) : KeepsIn atNext 528401 s (execCodewordRequest nsid lba n s) := by
  unfold execCodewordRequest
  refine KeepsIn.effect rfl ?_ ?_
  · exact .refl _ _
  · intro u1 hu1
    exact (State.codewordRequest_keeps ..).step rfl hu1

theorem State.endNsOps_keeps (s : State) : Keeps 134218752 s (State.endNsOps s) := by
  unfold State.endNsOps
  extract_lets l1
  refine Keeps.each ?_ ?_
  · exact (State.updPair_keeps ..).step rfl (.refl _ _)
  · intro u2 _ hu2
    exact (State.finish_keeps ..).step rfl hu2

theorem execForwardResponse_keeps (ref : CmdRef) (st : Status) (lba : Nat) (s : State) : KeepsIn atNext 150965681 s (execForwardResponse ref st lba s) := by
  unfold execForwardResponse
  refine KeepsIn.effect rfl ?_ ?_
  · exact .refl _ _
  · intro u1 hu1
    exact (State.response_keeps ..).step rfl hu1

theorem execBulumTrainingRetry_keeps (s : State) : KeepsIn atNext 16 s (execBulumTrainingRetry s) := by
  unfold execBulumTrainingRetry
  refine KeepsIn.effect rfl ?_ ?_
  · exact .refl _ _
  · intro u1 hu1
    refine Keeps.ite ?_ ?_
    · exact (State.emit_keeps ..).step rfl hu1
    · exact hu1

theorem execPairHomeWrite_keeps (j : Nat) (value : Nat) (s : State) : KeepsIn atNext 134217744 s (execPairHomeWrite j value s) := by
  unfold execPairHomeWrite
  refine KeepsIn.effect rfl ?_ ?_
  · exact .refl _ _
  · intro u1 hu1
    exact (State.homeWrite_keeps ..).step rfl hu1

theorem execHeartbeatSend_keeps (s : State) : KeepsIn atNext 16 s (execHeartbeatSend s) := by
  unfold execHeartbeatSend
  refine KeepsIn.effect rfl ?_ ?_
  · exact .refl _ _
  · intro u1 hu1
    refine Keeps.ite ?_ ?_
    · exact (State.emit_keeps ..).step rfl hu1
    · exact hu1

theorem State.copyRegion_keeps (s : State) (r : CmdRef) (nsid : Nat) (region : Nat) (n : Ns) (g : CopyImage) : Keeps 134709264 s (State.copyRegion s r nsid region n g) := by
  unfold State.copyRegion
  extract_lets l1 l2 l3
  refine (State.mirrorComplete_keeps ..).step rfl ?_
  refine Keeps.each ?_ ?_
  · exact .refl _ _
  · intro u4 _ hu4
    extract_lets l5 l6 l7 l8
    refine Keeps.ite ?_ ?_
    · exact (State.unmap_keeps ..).step rfl hu4
    · exact (State.dataIn_keeps ..).step rfl ((State.addWr_keeps ..).step rfl hu4)

theorem State.placeCopy_keeps (s : State) (r : CmdRef) (nsid : Nat) (slba : Nat) (nlb : Nat) (data : List Nat) : KeepsIn atOpt 138906001 s (State.placeCopy s r nsid slba nlb data) := by
  unfold State.placeCopy
  split
  · exact KeepsIn.none rfl
  · extract_lets l1 l2 l5 l6 l7 l8 l11
    have kl1 : Keeps 138906001 s l1 := (State.reserveKey_keeps ..).step rfl (.refl _ _)
    have kl2 : ∀ v0 v1, Keeps 138906001 s v0 → Keeps 138906001 s (l2 v0 v1) := by
      unfold l2
      intro u3 _ hu3
      extract_lets l4
      exact (State.dataIn_keeps ..).step rfl ((State.addWr_keeps ..).step rfl hu3)
    clear_value l2
    have kl8 : ∀ v0, Keeps 138906001 s v0 → KeepsIn atOpt 138906001 s (l8 v0) := by
      unfold l8
      intro u9 hu9
      extract_lets l10
      have kl10 : Keeps 138906001 s l10 := (State.modZone_keeps ..).step rfl hu9
      exact KeepsIn.leafOpt ((State.mirrorComplete_keeps ..).step rfl (kl2 _ _ kl10))
    clear_value l8
    refine KeepsIn.ite ?_ ?_
    · refine KeepsIn.ite ?_ ?_
      · split
        · rename_i p12 e13
          have kp12 : Keeps 138906001 s p12 := by
            refine KeepsIn.get ?_ (congrArg atOpened e13)
            exact (State.openZone_keeps ..).step rfl kl1
          exact kl8 _ kp12
        · exact KeepsIn.none rfl
      · exact kl8 _ kl1
    · refine KeepsIn.leafOpt ((State.mirrorComplete_keeps ..).step rfl ?_)
      refine Keeps.each ?_ ?_
      · exact kl1
      · exact kl2

theorem State.lockLost_keeps (s : State) (lane : Nat) : Keeps 134220689 s (State.lockLost s lane) := by
  unfold State.lockLost
  refine Keeps.ite ?_ ?_
  · exact (State.bulumDown_keeps ..).step rfl ((State.event_keeps ..).step rfl (.refl _ _))
  · exact .refl _ _

theorem State.resyncDone_keeps (s : State) : Keeps 134253969 s (State.resyncDone s) := by
  unfold State.resyncDone
  refine State.withAna_keeps rfl ?_ ?_
  · exact .refl _ _
  · intro u1 hu1
    extract_lets l2 l3 l4
    have kl3 : Keeps 134253969 s l3 := (State.set_keeps ..).step rfl ((State.modNv_keeps ..).step rfl ((State.toPair_keeps ..).step rfl hu1))
    have kl4 : Keeps 134253969 s l4 := (State.event_keeps ..).step rfl ((State.updPair_keeps ..).step rfl kl3)
    refine Keeps.each ?_ ?_
    · exact kl4
    · intro u5 _ hu5
      exact (State.deferredError_keeps ..).step rfl hu5

theorem State.mirrorFrame_keeps (s : State) (f : MirrorData) : Keeps 150965681 s (State.mirrorFrame s f) := by
  unfold State.mirrorFrame
  extract_lets l1 l2 l4 l5
  have kl2 : ∀ v0 v1, Keeps 150965681 s v0 → Keeps 150965681 s (l2 v0 v1) := by
    unfold l2
    intro u3 _ hu3
    exact (State.emit_keeps ..).step rfl hu3
  clear_value l2
  have kl4 : Keeps 150965681 s l4 := (State.firstError_keeps ..).step rfl ((State.bump_keeps ..).step rfl (.refl _ _))
  have kl5 : ∀ v0, Keeps 150965681 s v0 → Keeps 150965681 s (l5 v0) := by
    unfold l5
    intro u6 hu6
    exact (State.updPair_keeps ..).step rfl hu6
  clear_value l5
  refine Keeps.ite ?_ ?_
  · exact .refl _ _
  · refine Keeps.ite ?_ ?_
    · exact kl2 _ _ (.refl _ _)
    · refine Keeps.ite ?_ ?_
      · exact kl2 _ _ ((State.eventPer_keeps ..).step rfl kl4)
      · refine Keeps.ite ?_ ?_
        · split
          · rename_i p7 e8
            have kp7 : Keeps 150965681 s p7 := by
              refine KeepsIn.get ?_ (congrArg atOpt e8)
              exact (State.placeCopy_keeps ..).step rfl (.refl _ _)
            extract_lets l9
            exact kl2 _ _ ((State.updPair_keeps ..).step rfl (kl5 _ kp7))
          · exact .refl _ _
        · exact (State.runKind_keeps ..).step rfl (kl5 _ ((State.linkCmd_keeps ..).step rfl (.refl _ _)))

theorem execHomeConfirm_keeps (cons : Nat) (toB : Bool) (s : State) : KeepsIn atNext 134217744 s (execHomeConfirm cons toB s) := by
  unfold execHomeConfirm
  refine KeepsIn.effect rfl ?_ ?_
  · exact .refl _ _
  · intro u1 hu1
    exact (State.homeConfirm_keeps ..).step rfl hu1

theorem State.copyZone_keeps (s : State) (r : CmdRef) (nsid : Nat) (z : Nat) (n : Ns) (g : CopyImage) : Keeps 135235985 s (State.copyZone s r nsid z n g) := by
  unfold State.copyZone
  extract_lets l1 l2 l3
  have kl1 : Keeps 135235985 s l1 := by
    unfold l1
    split
    · exact (State.releaseSets_keeps ..).step rfl (.refl _ _)
    · exact .refl _ _
  have kl2 : Keeps 135235985 s l2 := (State.clearZone_keeps ..).step rfl kl1
  refine Keeps.ite ?_ ?_
  · exact kl2
  · refine Keeps.ite ?_ ?_
    · exact (State.modZone_keeps ..).step rfl kl2
    · split
      · rename_i p4 e5
        have kp4 : Keeps 135235985 s p4 := by
          refine KeepsIn.get ?_ (congrArg atOpened e5)
          exact (State.openZone_keeps ..).step rfl kl2
        extract_lets l6 l7 l11
        have kl6 : Keeps 135235985 s l6 := (State.modZone_keeps ..).step rfl kp4
        have kl7 : Keeps 135235985 s l7 := by
          unfold l7
          refine Keeps.each ?_ ?_
          · exact kl6
          · intro u8 _ hu8
            extract_lets l9 l10
            exact (State.dataIn_keeps ..).step rfl ((State.addWr_keeps ..).step rfl hu8)
        have kl11 : Keeps 135235985 s l11 := (State.advanceWp_keeps ..).step rfl ((State.mirrorComplete_keeps ..).step rfl kl7)
        refine Keeps.ite ?_ ?_
        · exact (State.modZone_keeps ..).step rfl kl11
        · exact kl11
      · exact kl2

theorem execForwardedCommand_keeps (f : Forwarded) (s : State) : KeepsIn atNext 150965681 s (execForwardedCommand f s) := by
  unfold execForwardedCommand
  refine KeepsIn.effect rfl ?_ ?_
  · exact .refl _ _
  · intro u1 hu1
    exact (State.forwarded_keeps ..).step rfl hu1

theorem execMirrorFrame_keeps (f : MirrorData) (s : State) : KeepsIn atNext 150965681 s (execMirrorFrame f s) := by
  unfold execMirrorFrame
  refine KeepsIn.effect rfl ?_ ?_
  · exact .refl _ _
  · intro u1 hu1
    exact (State.mirrorFrame_keeps ..).step rfl hu1

theorem State.mark_keeps (s : State) (lane : Nat) (offset : Option Int) : Keeps 134220689 s (State.mark s lane offset) := by
  unfold State.mark
  refine Keeps.ite ?_ ?_
  · exact .refl _ _
  · extract_lets l1 l2 l4
    have kl2 : ∀ v0 v1, Keeps 134220689 s v0 → Keeps 134220689 s (l2 v0 v1) := by
      unfold l2
      intro u3 _ hu3
      exact (State.updPair_keeps ..).step rfl hu3
    clear_value l2
    have kl4 : ∀ v0 v1, Keeps 134220689 s v0 → Keeps 134220689 s (l4 v0 v1) := by
      unfold l4
      intro u5 _ hu5
      extract_lets l6
      have kl6 : Keeps 134220689 s l6 := (State.eventPer_keeps ..).step rfl (kl2 _ _ hu5)
      refine Keeps.ite ?_ ?_
      · exact (State.lockLost_keeps ..).step rfl kl6
      · exact kl6
    clear_value l4
    split
    · exact kl4 _ _ ((State.bump_keeps ..).step rfl (.refl _ _))
    · refine Keeps.ite ?_ ?_
      · exact kl2 _ _ (.refl _ _)
      · extract_lets l7
        refine Keeps.ite ?_ ?_
        · exact (State.eventPer_keeps ..).step rfl (kl2 _ _ ((State.bump_keeps ..).step rfl (.refl _ _)))
        · exact kl4 _ _ ((State.bump_keeps ..).step rfl (.refl _ _))

theorem State.endAsks_keeps (s : State) : Keeps 138055057 s (State.endAsks s) := by
  unfold State.endAsks
  extract_lets l1
  refine Keeps.each ?_ ?_
  · exact (State.updPair_keeps ..).step rfl (.refl _ _)
  · intro u2 _ hu2
    exact (State.askFails_keeps ..).step rfl hu2

theorem State.regionDone_keeps (s : State) (l : List (Nat × Nat)) : Keeps 134253969 s (State.regionDone s l) := by
  unfold State.regionDone
  extract_lets l1
  have kl1 : Keeps 134253969 s l1 := (State.updPair_keeps ..).step rfl (.refl _ _)
  refine Keeps.ite ?_ ?_
  · exact (State.resyncDone_keeps ..).step rfl kl1
  · exact kl1

theorem State.toResync_keeps (s : State) (was : PairSt) (c : CompanionId) : Keeps 134253969 s (State.toResync s was c) := by
  unfold State.toResync
  extract_lets l1 l2 l3 l4 l6
  have kl4 : Keeps 134253969 s l4 := by
    unfold l4
    refine State.withAna_keeps rfl ?_ ?_
    · exact .refl _ _
    · intro u5 hu5
      exact (State.event_keeps ..).step rfl ((State.updPair_keeps ..).step rfl ((State.set_keeps ..).step rfl ((State.toPair_keeps ..).step rfl hu5)))
  have kl6 : Keeps 134253969 s l6 := (State.grantMirror_keeps ..).step rfl kl4
  refine Keeps.ite ?_ ?_
  · exact (State.resyncDone_keeps ..).step rfl kl6
  · exact kl6

theorem execCodewordResponse_keeps (ask : Nat) (ok : Bool) (s : State) : KeepsIn atNext 138382737 s (execCodewordResponse ask ok s) := by
  unfold execCodewordResponse
  refine KeepsIn.effect rfl ?_ ?_
  · exact .refl _ _
  · intro u1 hu1
    exact (State.codewordAnswer_keeps ..).step rfl hu1

theorem execBlockLockLost_keeps (lane : Nat) (s : State) : KeepsIn atNext 134220689 s (execBlockLockLost lane s) := by
  unfold execBlockLockLost
  refine KeepsIn.effect rfl ?_ ?_
  · exact .refl _ _
  · intro u1 hu1
    exact (State.lockLost_keeps ..).step rfl hu1

theorem State.resyncCopy_keeps (s : State) (nsid : Nat) (region : Nat) (g : CopyImage) : Keeps 135237009 s (State.resyncCopy s nsid region g) := by
  unfold State.resyncCopy
  refine Keeps.ite ?_ ?_
  · exact .refl _ _
  · split
    · exact (State.regionDone_keeps ..).step rfl (.refl _ _)
    · extract_lets l1 l2 l3 l4 l5 l6 l7 l8 l9 l10 l14
      have kl10 : Keeps 135237009 s l10 := by
        unfold l10
        refine Keeps.each ?_ ?_
        · exact .refl _ _
        · intro u11 _ hu11
          extract_lets l12 l13
          exact (State.mirrorComplete_keeps ..).step rfl ((State.dataIn_keeps ..).step rfl ((State.addWr_keeps ..).step rfl hu11))
      have kl14 : Keeps 135237009 s l14 := (State.updPair_keeps ..).step rfl kl10
      refine Keeps.ite ?_ ?_
      · refine Keeps.ite ?_ ?_
        · exact (State.secureDone_keeps ..).step rfl ((State.tryReset_keeps ..).step rfl ((State.updZone_keeps ..).step rfl (.refl _ _)))
        · refine Keeps.ite ?_ ?_
          · exact .refl _ _
          · refine (State.regionDone_keeps ..).step rfl ?_
            refine Keeps.ite ?_ ?_
            · exact (State.copyZone_keeps ..).step rfl (.refl _ _)
            · exact (State.copyRegion_keeps ..).step rfl (.refl _ _)
      · exact (State.regionDone_keeps ..).step rfl ((State.emit_keeps ..).step rfl kl14)

theorem State.exchange_keeps (s : State) (c : CompanionId) : Keeps 134253969 s (State.exchange s c) := by
  unfold State.exchange
  refine Keeps.ite ?_ ?_
  · exact .refl _ _
  · refine Keeps.ite ?_ ?_
    · exact (State.updPair_keeps ..).step rfl (.refl _ _)
    · extract_lets l1 l2 l3 l4
      have kl4 : Keeps 134253969 s l4 := (State.wr_keeps ..).step rfl ((State.wr_keeps ..).step rfl (.refl _ _))
      refine Keeps.ite ?_ ?_
      · refine (State.event_keeps ..).step rfl ?_
        refine State.withAna_keeps rfl ?_ ?_
        · exact kl4
        · intro u5 hu5
          exact (State.toPair_keeps ..).step rfl hu5
      · split
        · refine Keeps.ite ?_ ?_
          · refine (State.updPair_keeps ..).step rfl ?_
            refine (State.grantMirror_keeps ..).step rfl ((State.event_keeps ..).step rfl ?_)
            refine State.withAna_keeps rfl ?_ ?_
            · exact kl4
            · intro u6 hu6
              exact (State.toPair_keeps ..).step rfl hu6
          · exact (State.toResync_keeps ..).step rfl kl4
        · exact (State.toResync_keeps ..).step rfl kl4
        · exact (State.toResync_keeps ..).step rfl kl4
        · exact kl4
        · exact (State.updPair_keeps ..).step rfl kl4

theorem State.toFenced_keeps (s : State) : Keeps 138055057 s (State.toFenced s) := by
  unfold State.toFenced
  refine State.withAna_keeps rfl ?_ ?_
  · exact .refl _ _
  · intro u1 hu1
    extract_lets l2 l3 l4 l5 l6 l8 l10 l11 l13
    have kl5 : Keeps 138055057 s l5 := (State.set_keeps ..).step rfl ((State.event_keeps ..).step rfl ((State.nextPairEpoch_keeps ..).step rfl ((State.toPair_keeps ..).step rfl ((State.divergeOps_keeps ..).step rfl hu1))))
    have kl6 : Keeps 138055057 s l6 := by
      unfold l6
      refine Keeps.each ?_ ?_
      · exact kl5
      · intro u7 _ hu7
        exact (State.diverge_keeps ..).step rfl hu7
    have kl8 : Keeps 138055057 s l8 := by
      unfold l8
      refine Keeps.each ?_ ?_
      · exact kl6
      · intro u9 _ hu9
        exact (State.diverge_keeps ..).step rfl hu9
    have kl10 : Keeps 138055057 s l10 := (State.updPair_keeps ..).step rfl kl8
    have kl11 : Keeps 138055057 s l11 := by
      unfold l11
      refine Keeps.each ?_ ?_
      · exact kl10
      · intro u12 _ hu12
        exact (State.finish_keeps ..).step rfl ((State.dropWrite_keeps ..).step rfl hu12)
    have kl13 : Keeps 138055057 s l13 := (State.dropWrite_keeps ..).step rfl kl11
    exact (State.flushAlone_keeps ..).step rfl ((State.endNsOps_keeps ..).step rfl ((State.endAsks_keeps ..).step rfl kl13))

theorem execIdentityExchange_keeps (c : CompanionId) (s : State) : KeepsIn atNext 134253969 s (execIdentityExchange c s) := by
  unfold execIdentityExchange
  refine KeepsIn.effect rfl ?_ ?_
  · exact .refl _ _
  · intro u1 hu1
    exact (State.exchange_keeps ..).step rfl hu1

theorem State.yield_keeps (s : State) : Keeps 138055057 s (State.yield s) := by
  unfold State.yield
  refine Keeps.ite ?_ ?_
  · exact (State.pairResult_keeps ..).step rfl (.refl _ _)
  · split
    · exact (State.event_keeps ..).step rfl ((State.pairResult_keeps ..).step rfl ((State.updPair_keeps ..).step rfl (.refl _ _)))
    · exact (State.event_keeps ..).step rfl ((State.pairResult_keeps ..).step rfl ((State.toFenced_keeps ..).step rfl ((State.updPair_keeps ..).step rfl (.refl _ _))))
    · exact (State.pairResult_keeps ..).step rfl (.refl _ _)

theorem execResyncCopy_keeps (nsid : Nat) (region : Nat) (image : CopyImage) (s : State) : KeepsIn atNext 135237009 s (execResyncCopy nsid region image s) := by
  unfold execResyncCopy
  refine KeepsIn.effect rfl ?_ ?_
  · exact .refl _ _
  · intro u1 hu1
    exact (State.resyncCopy_keeps ..).step rfl hu1

theorem execAlignmentMark_keeps (lane : Nat) (offset : Option Int) (s : State) : KeepsIn atNext 134220689 s (execAlignmentMark lane offset s) := by
  unfold execAlignmentMark
  refine KeepsIn.effect rfl ?_ ?_
  · exact .refl _ _
  · intro u1 hu1
    exact (State.mark_keeps ..).step rfl hu1

theorem State.pairJoins_keeps (s : State) : Keeps 138055057 s (State.pairJoins s) := by
  unfold State.pairJoins
  refine Keeps.ite ?_ ?_
  · exact .refl _ _
  · extract_lets l1
    have kl1 : Keeps 138055057 s l1 := by
      unfold l1
      refine (State.sendIdentity_keeps ..).step rfl ?_
      refine Keeps.ite ?_ ?_
      · exact (State.toFenced_keeps ..).step rfl (.refl _ _)
      · exact .refl _ _
    split
    · exact (State.exchange_keeps ..).step rfl ((State.updPair_keeps ..).step rfl kl1)
    · exact kl1

theorem State.toSurvivor_keeps (s : State) : Keeps 150965681 s (State.toSurvivor s) := by
  unfold State.toSurvivor
  refine State.withAna_keeps rfl ?_ ?_
  · exact .refl _ _
  · intro u1 hu1
    extract_lets l2 l3 l4 l5 l6 l7 l8 l10 l12 l14 l15
    have kl5 : Keeps 150965681 s l5 := (State.set_keeps ..).step rfl ((State.event_keeps ..).step rfl ((State.nextPairEpoch_keeps ..).step rfl ((State.toPair_keeps ..).step rfl ((State.divergeOps_keeps ..).step rfl hu1))))
    have kl6 : Keeps 150965681 s l6 := (State.updWp_keeps ..).step rfl kl5
    have kl7 : Keeps 150965681 s l7 := (State.updPair_keeps ..).step rfl kl6
    have kl8 : Keeps 150965681 s l8 := by
      unfold l8
      refine Keeps.each ?_ ?_
      · exact kl7
      · intro u9 _ hu9
        exact (State.tryComplete_keeps ..).step rfl ((State.diverge_keeps ..).step rfl hu9)
    have kl10 : Keeps 150965681 s l10 := by
      unfold l10
      refine Keeps.each ?_ ?_
      · exact kl8
      · intro u11 _ hu11
        exact (State.finish_keeps ..).step rfl hu11
    have kl12 : Keeps 150965681 s l12 := by
      unfold l12
      refine Keeps.each ?_ ?_
      · exact kl10
      · intro u13 _ hu13
        exact (State.runApproved_keeps ..).step rfl hu13
    have kl14 : Keeps 150965681 s l14 := (State.endNsOps_keeps ..).step rfl ((State.endAsks_keeps ..).step rfl kl12)
    have kl15 : Keeps 150965681 s l15 := by
      unfold l15
      refine Keeps.each ?_ ?_
      · exact kl14
      · intro u16 _ hu16
        exact (State.secureDone_keeps ..).step rfl hu16
    exact (State.flushAlone_keeps ..).step rfl kl15

theorem State.survive_keeps (s : State) : Keeps 150965681 s (State.survive s) := by
  unfold State.survive
  refine Keeps.ite ?_ ?_
  · exact (State.pairResult_keeps ..).step rfl (.refl _ _)
  · refine Keeps.ite ?_ ?_
    · exact (State.pairResult_keeps ..).step rfl (.refl _ _)
    · extract_lets l1
      have kl1 : Keeps 150965681 s l1 := (State.updPair_keeps ..).step rfl ((State.toSurvivor_keeps ..).step rfl (.refl _ _))
      exact (State.event_keeps ..).step rfl ((State.pairResult_keeps ..).step rfl kl1)

theorem execYield_keeps (unlock : Nat) (s : State) : KeepsIn atNext 138055057 s (execYield unlock s) := by
  unfold execYield
  refine KeepsIn.effect rfl ?_ ?_
  · exact .refl _ _
  · intro u1 hu1
    refine State.unlocked_keeps rfl ?_ ?_
    · exact hu1
    · intro u2 hu2
      exact (State.yield_keeps ..).step rfl hu2

theorem State.assertFence_keeps (s : State) : Keeps 138055057 s (State.assertFence s) := by
  unfold State.assertFence
  refine Keeps.ite ?_ ?_
  · refine Keeps.ite ?_ ?_
    · exact (State.event_keeps ..).step rfl ((State.toFenced_keeps ..).step rfl (.refl _ _))
    · exact (State.toFenced_keeps ..).step rfl (.refl _ _)
  · exact (State.updPair_keeps ..).step rfl (.refl _ _)

theorem State.fenceIn_keeps (s : State) : Keeps 138071441 s (State.fenceIn s) := by
  unfold State.fenceIn
  extract_lets l1
  have kl1 : Keeps 138071441 s l1 := (State.updPair_keeps ..).step rfl ((State.updBoot_keeps ..).step rfl (.refl _ _))
  refine Keeps.ite ?_ ?_
  · exact kl1
  · split
    · refine Keeps.ite ?_ ?_
      · exact (State.toFenced_keeps ..).step rfl kl1
      · exact kl1
    · exact (State.toFenced_keeps ..).step rfl kl1
    · refine Keeps.ite ?_ ?_
      · exact kl1
      · exact (State.toFenced_keeps ..).step rfl kl1
    · exact kl1

theorem execFenceDeferralExpiry_keeps (s : State) : KeepsIn atNext 138055057 s (execFenceDeferralExpiry s) := by
  unfold execFenceDeferralExpiry
  refine KeepsIn.effect rfl ?_ ?_
  · exact .refl _ _
  · intro u1 hu1
    refine Keeps.ite ?_ ?_
    · exact (State.assertFence_keeps ..).step rfl hu1
    · exact hu1

theorem execFenceSettleExpiry_keeps (s : State) : KeepsIn atNext 150965681 s (execFenceSettleExpiry s) := by
  unfold execFenceSettleExpiry
  refine KeepsIn.effect rfl ?_ ?_
  · exact .refl _ _
  · intro u1 hu1
    refine Keeps.ite ?_ ?_
    · refine Keeps.ite ?_ ?_
      · exact (State.event_keeps ..).step rfl ((State.toFenced_keeps ..).step rfl hu1)
      · exact (State.toSurvivor_keeps ..).step rfl hu1
    · exact hu1

theorem execFenceInAssert_keeps (s : State) : KeepsIn atNext 138071441 s (execFenceInAssert s) := by
  unfold execFenceInAssert
  refine KeepsIn.effect rfl ?_ ?_
  · exact .refl _ _
  · intro u1 hu1
    exact (State.fenceIn_keeps ..).step rfl hu1

theorem execSurvive_keeps (unlock : Nat) (s : State) : KeepsIn atNext 150965681 s (execSurvive unlock s) := by
  unfold execSurvive
  refine KeepsIn.effect rfl ?_ ?_
  · exact .refl _ _
  · intro u1 hu1
    refine State.unlocked_keeps rfl ?_ ?_
    · exact hu1
    · intro u2 hu2
      exact (State.survive_keeps ..).step rfl hu2

theorem State.suspect_keeps (s : State) : Keeps 138055057 s (State.suspect s) := by
  unfold State.suspect
  refine Keeps.ite ?_ ?_
  · exact .refl _ _
  · extract_lets l1
    have kl1 : Keeps 138055057 s l1 := by
      unfold l1
      refine (State.flushAlone_keeps ..).step rfl ?_
      refine (State.event_keeps ..).step rfl ((State.bump_keeps ..).step rfl ?_)
      refine State.withAna_keeps rfl ?_ ?_
      · exact .refl _ _
      · intro u2 hu2
        exact (State.toPair_keeps ..).step rfl hu2
    refine Keeps.ite ?_ ?_
    · exact (State.updPair_keeps ..).step rfl kl1
    · exact (State.assertFence_keeps ..).step rfl kl1

theorem execHeartbeatTimeout_keeps (s : State) : KeepsIn atNext 138055057 s (execHeartbeatTimeout s) := by
  unfold execHeartbeatTimeout
  refine KeepsIn.effect rfl ?_ ?_
  · exact .refl _ _
  · intro u1 hu1
    refine Keeps.ite ?_ ?_
    · exact (State.suspect_keeps ..).step rfl hu1
    · exact hu1

end Sys2Proof.Machine
end

