-- ==== Sys2Proof/Laws/KeepsChart.lean ====
section
/-! SUPPORT. What each operation of Machine/Chart.lean keeps (Laws/Frame.lean). -/

namespace Sys2Proof.Machine

theorem State.bufferLost_keeps (s : State) : Keeps 196608 s (State.bufferLost s) := by
  unfold State.bufferLost
  exact (State.updWp_keeps ..).step rfl ((State.updJr_keeps ..).step rfl (.refl _ _))

theorem State.endInFlight_keeps (s : State) (p : CmdRef → Bool) (st : Status) : Keeps 87985553 s (State.endInFlight s p st) := by
  unfold State.endInFlight
  extract_lets l1 l2 l3 l4
  have kl2 : Keeps 87985553 s l2 := (State.dropWrite_keeps ..).step rfl (.refl _ _)
  have kl3 : Keeps 87985553 s l3 := (State.endReads_keeps ..).step rfl kl2
  have kl4 : Keeps 87985553 s l4 := (State.endZoneOps_keeps ..).step rfl kl3
  refine Keeps.each ?_ ?_
  · exact kl4
  · intro u5 _ hu5
    exact (State.finish_keeps ..).step rfl ((State.serveStop_keeps ..).step rfl hu5)

theorem State.chartRates_keeps (s : State) (c : Chart) (tr : Training) : Keeps 2449 s (State.chartRates s c tr) := by
  unfold State.chartRates
  refine Keeps.each ?_ ?_
  · exact .refl _ _
  · intro u1 _ hu1
    exact (State.channelTrained_keeps ..).step rfl hu1

theorem State.candidateFails_keeps (s : State) (slot : Nat) (first : Bool) (k : Container) (code : Nat) (section_ : Nat) : Keeps 2449 s (State.candidateFails s slot first k code section_) := by
  unfold State.candidateFails
  extract_lets l1 l2
  have kl1 : Keeps 2449 s l1 := (State.wr_keeps ..).step rfl ((State.wr_keeps ..).step rfl ((State.wr_keeps ..).step rfl (.refl _ _)))
  have kl2 : Keeps 2449 s l2 := by
    unfold l2
    refine Keeps.ite ?_ ?_
    · exact (State.event_keeps ..).step rfl kl1
    · exact kl1
  refine Keeps.ite ?_ ?_
  · exact (State.event_keeps ..).step rfl kl2
  · exact kl2

theorem State.nextFill_keeps (s : State) : Keeps 33570817 s (State.nextFill s) := by
  unfold State.nextFill
  split
  · refine Keeps.ite ?_ ?_
    · exact .refl _ _
    · exact (State.fillStart_keeps ..).step rfl ((State.wr_keeps ..).step rfl ((State.wr_keeps ..).step rfl ((State.updBoot_keeps ..).step rfl (.refl _ _))))
  · exact .refl _ _

theorem State.macs_keeps (s : State) : Keeps 1 s (State.macs s) := by
  unfold State.macs
  refine Keeps.each ?_ ?_
  · exact .refl _ _
  · intro u1 _ hu1
    extract_lets l2
    exact (State.wr_keeps ..).step rfl ((State.wr_keeps ..).step rfl hu1)

theorem State.startMeridians_keeps (s : State) (us : Nat) : Keeps 524352 s (State.startMeridians s us) := by
  unfold State.startMeridians
  extract_lets l1 l2
  have kl2 : Keeps 524352 s l2 := (State.updTime_keeps ..).step rfl (.refl _ _)
  exact (State.fullGrants_keeps ..).step rfl kl2

theorem State.keyFlags_keeps (s : State) (old : State) : Keeps 1 s (State.keyFlags s old) := by
  unfold State.keyFlags
  extract_lets l1
  refine Keeps.each ?_ ?_
  · exact .refl _ _
  · intro u2 _ hu2
    exact (State.wr_keeps ..).step rfl hu2

theorem State.chartRegs_keeps (s : State) (c : Chart) : Keeps 1 s (State.chartRegs s c) := by
  unfold State.chartRegs
  extract_lets l1 l3 l4 l5 l7 l8 l9 l10 l11 l13 l14 l16 l17 l19 l21 l22
  have kl1 : Keeps 1 s l1 := by
    unfold l1
    refine Keeps.each ?_ ?_
    · exact .refl _ _
    · intro u2 _ hu2
      exact (State.wr_keeps ..).step rfl hu2
  have kl3 : Keeps 1 s l3 := (State.wr_keeps ..).step rfl ((State.wr_keeps ..).step rfl ((State.wr_keeps ..).step rfl kl1))
  have kl4 : Keeps 1 s l4 := (State.wr_keeps ..).step rfl ((State.wr_keeps ..).step rfl kl3)
  have kl5 : Keeps 1 s l5 := by
    unfold l5
    refine Keeps.each ?_ ?_
    · exact kl4
    · intro u6 _ hu6
      exact (State.wr_keeps ..).step rfl hu6
  have kl7 : Keeps 1 s l7 := (State.wr_keeps ..).step rfl ((State.wr_keeps ..).step rfl kl5)
  have kl8 : Keeps 1 s l8 := (State.wr_keeps ..).step rfl ((State.putShares_keeps ..).step rfl kl7)
  have kl9 : Keeps 1 s l9 := (State.wr_keeps ..).step rfl ((State.wr_keeps ..).step rfl kl8)
  have kl10 : Keeps 1 s l10 := (State.wr_keeps ..).step rfl kl9
  have kl11 : Keeps 1 s l11 := by
    unfold l11
    refine Keeps.each ?_ ?_
    · exact kl10
    · intro u12 _ hu12
      exact (State.wr_keeps ..).step rfl hu12
  have kl13 : Keeps 1 s l13 := (State.wr_keeps ..).step rfl ((State.wr_keeps ..).step rfl kl11)
  have kl14 : Keeps 1 s l14 := by
    unfold l14
    refine Keeps.each ?_ ?_
    · exact kl13
    · intro u15 _ hu15
      exact (State.set_keeps ..).step rfl hu15
  have kl16 : Keeps 1 s l16 := (State.wr_keeps ..).step rfl kl14
  have kl17 : Keeps 1 s l17 := by
    unfold l17
    refine Keeps.each ?_ ?_
    · exact kl16
    · intro u18 _ hu18
      exact (State.wr_keeps ..).step rfl hu18
  have kl19 : Keeps 1 s l19 := by
    unfold l19
    refine Keeps.each ?_ ?_
    · exact kl17
    · intro u20 _ hu20
      exact (State.wr_keeps ..).step rfl ((State.set_keeps ..).step rfl hu20)
  have kl21 : Keeps 1 s l21 := (State.wr_keeps ..).step rfl ((State.wr_keeps ..).step rfl kl19)
  have kl22 : Keeps 1 s l22 := (State.wr_keeps ..).step rfl ((State.wr_keeps ..).step rfl kl21)
  exact (State.wr_keeps ..).step rfl kl22

theorem State.markReformat_keeps (s : State) (k : Container) : Keeps 8192 s (State.markReformat s k) := by
  unfold State.markReformat
  extract_lets l1
  exact (State.updChart_keeps ..).step rfl (.refl _ _)

theorem State.duskRegs_keeps (s : State) : Keeps 1 s (State.duskRegs s) := by
  unfold State.duskRegs
  split
  · exact .refl _ _
  · extract_lets l1
    have kl1 : Keeps 1 s l1 := (State.set_keeps ..).step rfl ((State.set_keeps ..).step rfl (.refl _ _))
    exact (State.wr_keeps ..).step rfl ((State.wr_keeps ..).step rfl ((State.set_keeps ..).step rfl kl1))

theorem State.assignSlots_keeps (s : State) : Keeps 8391057 s (State.assignSlots s) := by
  unfold State.assignSlots
  refine Keeps.each ?_ ?_
  · exact .refl _ _
  · intro u1 _ hu1
    extract_lets l2 l3 l5 l6
    have kl3 : Keeps 8391057 s l3 := by
      unfold l3
      refine Keeps.each ?_ ?_
      · exact hu1
      · intro u4 _ hu4
        exact (State.activate_keeps ..).step rfl hu4
    have kl6 : Keeps 8391057 s l6 := by
      unfold l6
      refine Keeps.each ?_ ?_
      · exact kl3
      · intro u7 _ hu7
        exact (State.fatal_keeps ..).step rfl hu7
    refine Keeps.ite ?_ ?_
    · exact hu1
    · refine Keeps.ite ?_ ?_
      · exact kl6
      · exact (State.event_keeps ..).step rfl kl6

theorem State.chartDomains_keeps (s : State) : Keeps 4096 s (State.chartDomains s) := by
  unfold State.chartDomains
  extract_lets l1 l3
  have kl1 : Keeps 4096 s l1 := by
    unfold l1
    refine Keeps.each ?_ ?_
    · exact .refl _ _
    · intro u2 _ hu2
      refine Keeps.ite ?_ ?_
      · exact (State.toOff_keeps ..).step rfl hu2
      · exact hu2
  have kl3 : Keeps 4096 s l3 := by
    unfold l3
    refine Keeps.ite ?_ ?_
    · exact (State.toRetain_keeps ..).step rfl kl1
    · exact kl1
  refine Keeps.ite ?_ ?_
  · exact kl3
  · exact (State.toRetain_keeps ..).step rfl kl3

theorem State.chartTime_keeps (s : State) (c : Chart) : Keeps 2513 s (State.chartTime s c) := by
  unfold State.chartTime
  extract_lets l1 l2 l3
  have kl1 : Keeps 2513 s l1 := by
    unfold l1
    refine Keeps.ite ?_ ?_
    · exact (State.sourceLost_keeps ..).step rfl (.refl _ _)
    · exact .refl _ _
  have kl2 : Keeps 2513 s l2 := (State.updTime_keeps ..).step rfl kl1
  have kl3 : Keeps 2513 s l3 := (State.wr_keeps ..).step rfl ((State.wr_keeps ..).step rfl kl2)
  exact (State.wr_keeps ..).step rfl kl3

theorem State.writeRecords_keeps (s : State) (k : Container) : Keeps 8192 s (State.writeRecords s k) := by
  unfold State.writeRecords
  extract_lets l1
  exact (State.updChart_keeps ..).step rfl (.refl _ _)

theorem State.readRecords_keeps (s : State) (tr : Training) : Keeps 8192 s (State.readRecords s tr) := by
  unfold State.readRecords
  exact (State.updChart_keeps ..).step rfl (.refl _ _)

theorem State.drainToFlash_keeps (s : State) : Keeps 199057 s (State.drainToFlash s) := by
  unfold State.drainToFlash
  extract_lets l1 l2 l3 l4 l5
  have kl4 : Keeps 199057 s l4 := (State.updJr_keeps ..).step rfl (.refl _ _)
  have kl5 : Keeps 199057 s l5 := (State.updWp_keeps ..).step rfl kl4
  exact (State.flushAlmanac_keeps ..).step rfl kl5

theorem State.chartCtrl_keeps (s : State) (unlock : Nat) (kind : LoadKind) : Keeps 87566801 s (State.chartCtrl s unlock kind) := by
  unfold State.chartCtrl
  refine Keeps.ite ?_ ?_
  · exact (State.event_keeps ..).step rfl ((State.bump_keeps ..).step rfl (.refl _ _))
  · split
    · exact (State.bump_keeps ..).step rfl (.refl _ _)
    · exact (State.bump_keeps ..).step rfl (.refl _ _)
    · extract_lets l1 l2
      have kl1 : Keeps 87566801 s l1 := by
        unfold l1
        refine Keeps.ite ?_ ?_
        · exact .refl _ _
        · refine Keeps.ite ?_ ?_
          · exact (State.ptpDown_keeps ..).step rfl (.refl _ _)
          · exact (State.sourceLost_keeps ..).step rfl (.refl _ _)
      have kl2 : Keeps 87566801 s l2 := (State.updChart_keeps ..).step rfl kl1
      refine Keeps.each ?_ ?_
      · exact kl2
      · intro u3 _ hu3
        exact (State.serveStop_keeps ..).step rfl hu3

theorem execChartDrainTimeout_keeps (s : State) : KeepsIn atNext 87993745 s (execChartDrainTimeout s) := by
  unfold execChartDrainTimeout
  refine KeepsIn.effect rfl ?_ ?_
  · exact .refl _ _
  · intro u1 hu1
    refine Keeps.ite ?_ ?_
    · exact hu1
    · extract_lets l2
      have kl2 : Keeps 87993745 s l2 := (State.endInFlight_keeps ..).step rfl hu1
      exact (State.updChart_keeps ..).step rfl kl2

theorem execChartCtrlSafe_keeps (unlock : Nat) (arm : Bool) (s : State) : KeepsIn atNext 87566801 s (execChartCtrlSafe unlock arm s) := by
  unfold execChartCtrlSafe
  refine KeepsIn.effect rfl ?_ ?_
  · exact .refl _ _
  · intro u1 hu1
    exact (State.chartCtrl_keeps ..).step rfl hu1

theorem State.blockReset_keeps (s : State) (warm : Bool) : Keeps 268328919 s (State.blockReset s warm) := by
  unfold State.blockReset
  extract_lets l1 l2 l4 l5 l6 l7 l8 l9 l10 l11
  have kl1 : Keeps 268328919 s l1 := .refl _ _
  have kl2 : Keeps 268328919 s l2 := by
    unfold l2
    refine Keeps.each ?_ ?_
    · exact .refl _ _
    · intro u3 _ hu3
      exact (State.resetBlock_keeps ..).step rfl hu3
  have kl4 : Keeps 268328919 s l4 := (State.keyFlags_keeps ..).step rfl kl2
  have kl5 : Keeps 268328919 s l5 := by
    unfold l5
    refine Keeps.ite ?_ ?_
    · exact (State.ptpDown_keeps ..).step rfl kl4
    · exact kl4
  have kl10 : Keeps 268328919 s l10 := by
    unfold l10
    refine Keeps.changeAlm (t := l5) ?_ (fun p hp => by cases p <;> first | rfl | exact absurd hp (by decide)) rfl rfl (fun h => ⟨h, Nat.le_refl _⟩)
    exact kl5
  refine (State.duskRegs_keeps ..).step rfl ?_
  refine Keeps.ite ?_ ?_
  · exact Keeps.set_dram rfl kl10
  · exact Keeps.set_dram rfl kl10

theorem State.seal_keeps (s : State) (source : Option Nat) (k : Container) (c : Chart) (fallback : Bool) (tr : Training) : Keeps 193690065 s (State.seal s source k c fallback tr) := by
  unfold State.seal
  extract_lets l1 l2 l3 l4 l5 l6 l7 l8 l9 l10 l11 l12 l13 l14
  have kl4 : Keeps 193690065 s l4 := (State.updChart_keeps ..).step rfl (.refl _ _)
  have kl5 : Keeps 193690065 s l5 := (State.set_keeps ..).step rfl ((State.wr_keeps ..).step rfl kl4)
  have kl6 : Keeps 193690065 s l6 := by
    unfold l6
    refine Keeps.ite ?_ ?_
    · exact (State.loadMasks_keeps ..).step rfl kl5
    · refine Keeps.ite ?_ ?_
      · exact (State.bufferLost_keeps ..).step rfl ((State.clearGranules_keeps ..).step rfl ((State.loadMasks_keeps ..).step rfl kl5))
      · exact kl5
  have kl7 : Keeps 193690065 s l7 := (State.chartRates_keeps ..).step rfl ((State.chartRegs_keeps ..).step rfl kl6)
  have kl8 : Keeps 193690065 s l8 := (State.chartTime_keeps ..).step rfl kl7
  have kl9 : Keeps 193690065 s l9 := Keeps.set_md rfl kl8
  have kl10 : Keeps 193690065 s l10 := (State.assignSlots_keeps ..).step rfl ((State.chartDomains_keeps ..).step rfl ((State.macs_keeps ..).step rfl ((State.cellsReset_keeps ..).step rfl kl9)))
  have kl11 : Keeps 193690065 s l11 := (State.updPair_keeps ..).step rfl kl10
  have kl12 : Keeps 193690065 s l12 := (State.wbufStart_keeps ..).step rfl ((State.startMeridians_keeps ..).step rfl kl11)
  have kl13 : Keeps 193690065 s l13 := by
    unfold l13
    refine Keeps.ite ?_ ?_
    · exact kl12
    · exact (State.nextFill_keeps ..).step rfl ((State.updBoot_keeps ..).step rfl kl12)
  have kl14 : Keeps 193690065 s l14 := (State.updBoot_keeps ..).step rfl kl13
  refine Keeps.ite ?_ ?_
  · exact (State.event_keeps ..).step rfl kl14
  · exact kl14

theorem State.formatFlash_keeps (s : State) (k : Container) (tr : Training) (re : Bool) : Keeps 240017 s (State.formatFlash s k tr re) := by
  unfold State.formatFlash
  extract_lets l1 l2 l3 l4 l5 l6 l7 l8 l10 l11 l12
  have kl2 : Keeps 240017 s l2 := by
    unfold l2
    refine Keeps.ite ?_ ?_
    · exact (State.markReformat_keeps ..).step rfl (.refl _ _)
    · exact .refl _ _
  have kl7 : Keeps 240017 s l7 := Keeps.set_nv rfl kl2
  have kl8 : Keeps 240017 s l8 := by
    unfold l8
    refine Keeps.each ?_ ?_
    · exact kl7
    · intro u9 _ hu9
      exact (State.divideDie_keeps ..).step rfl hu9
  have kl10 : Keeps 240017 s l10 := (State.updJr_keeps ..).step rfl kl8
  have kl11 : Keeps 240017 s l11 := Keeps.set_wp rfl kl10
  have kl12 : Keeps 240017 s l12 := (State.writeRecords_keeps ..).step rfl kl11
  refine Keeps.ite ?_ ?_
  · exact (State.event_keeps ..).step rfl ((State.set_keeps ..).step rfl kl12)
  · exact (State.set_keeps ..).step rfl kl12

theorem execChartCtrlLoad_keeps (unlock : Nat) (slot : Nat) (arm : Bool) (s : State) : KeepsIn atNext 87566801 s (execChartCtrlLoad unlock slot arm s) := by
  unfold execChartCtrlLoad
  refine KeepsIn.effect rfl ?_ ?_
  · exact .refl _ _
  · intro u1 hu1
    exact (State.chartCtrl_keeps ..).step rfl hu1

theorem State.tryCharts_keeps (tr : Training) (armed : Bool) (all l : List Nat) :
    ∀ (s : State), Keeps 193722833 s (State.tryCharts s tr armed all l) := by
  induction l with
  | nil =>
    intro s
    unfold State.tryCharts
    exact (State.seal_keeps ..).step rfl ((State.event_keeps ..).step rfl (.refl _ _))
  | cons slot l ih =>
    intro s
    unfold State.tryCharts
    extract_lets k first t
    split
    · exact (ih _).step rfl ((State.candidateFails_keeps ..).step rfl (.refl _ _))
    · extract_lets u
      have kt : Keeps 193722833 s t := (State.wr_keeps ..).step rfl (.refl _ _)
      have ku : Keeps 193722833 s u := by
        simp only [u]
        split
        · exact (State.formatFlash_keeps ..).step rfl kt
        · exact (State.formatFlash_keeps ..).step rfl kt
        · exact kt
      exact (State.seal_keeps ..).step rfl ku

theorem State.loadChart_keeps (s : State) (tr : Training) (kind : LoadKind) : Keeps 193722833 s (State.loadChart s tr kind) := by
  unfold State.loadChart
  extract_lets l1 l2 l3 l4 l5 l6 l7
  have kl1 : Keeps 193722833 s l1 := (State.updChart_keeps ..).step rfl (.refl _ _)
  have kl2 : Keeps 193722833 s l2 := (State.wr_keeps ..).step rfl ((State.wr_keeps ..).step rfl kl1)
  have kl3 : Keeps 193722833 s l3 := (State.set_keeps ..).step rfl ((State.set_keeps ..).step rfl ((State.set_keeps ..).step rfl kl2))
  have kl6 : Keeps 193722833 s l6 := (State.tryCharts_keeps ..).step rfl ((State.readRecords_keeps ..).step rfl kl3)
  have kl7 : Keeps 193722833 s l7 := (State.readRecords_keeps ..).step rfl kl6
  exact (State.wr_keeps ..).step rfl kl7

theorem execChartLoad_keeps (tr : Training) (s : State) : KeepsIn atNext 193722833 s (execChartLoad tr s) := by
  unfold execChartLoad
  refine KeepsIn.effect rfl ?_ ?_
  · exact .refl _ _
  · intro u1 hu1
    refine Keeps.ite ?_ ?_
    · exact (State.loadChart_keeps ..).step rfl hu1
    · exact hu1

theorem State.structuralReset_keeps (s : State) (tr : Training) : Keeps 268435415 s (State.structuralReset s tr) := by
  unfold State.structuralReset
  extract_lets l1 l2 l3 l4 l5
  have kl1 : Keeps 268435415 s l1 := by
    unfold l1
    refine (State.writeBackAll_keeps ..).step rfl ?_
    refine Keeps.ite ?_ ?_
    · exact (State.drainToFlash_keeps ..).step rfl (.refl _ _)
    · exact .refl _ _
  have kl2 : Keeps 268435415 s l2 := (State.emit_keeps ..).step rfl kl1
  have kl4 : Keeps 268435415 s l4 := (State.wr_keeps ..).step rfl ((State.blockReset_keeps ..).step rfl kl2)
  have kl5 : Keeps 268435415 s l5 := Keeps.set_nv rfl kl4
  exact (State.updBoot_keeps ..).step rfl ((State.loadChart_keeps ..).step rfl kl5)

theorem execStructuralDrainDone_keeps (tr : Training) (s : State) : KeepsIn atNext 268435415 s (execStructuralDrainDone tr s) := by
  unfold execStructuralDrainDone
  refine KeepsIn.effect rfl ?_ ?_
  · exact .refl _ _
  · intro u1 hu1
    refine Keeps.ite ?_ ?_
    · exact (State.structuralReset_keeps ..).step rfl hu1
    · exact hu1

end Sys2Proof.Machine
end

