-- ==== Sys2Proof/Laws/KeepsBoot.lean ====
section
/-! SUPPORT. What each operation of Machine/Boot.lean keeps (Laws/Frame.lean). -/

namespace Sys2Proof.Machine

theorem execNorBusyWaitDone_keeps (dev : Nat) (finished : Bool) (s : State) : KeepsIn atNext 18833 s (execNorBusyWaitDone dev finished s) := by
  unfold execNorBusyWaitDone
  refine KeepsIn.effect rfl ?_ ?_
  · exact .refl _ _
  · intro u1 hu1
    refine Keeps.ite ?_ ?_
    · exact hu1
    · extract_lets l2
      have kl2 : Keeps 18833 s l2 := (State.event_keeps ..).step rfl ((State.set_keeps ..).step rfl hu1)
      refine Keeps.ite ?_ ?_
      · exact kl2
      · exact (State.updBoot_keeps ..).step rfl kl2

theorem State.restoreDone_keeps (s : State) (n : Nat) : Keeps 16384 s (State.restoreDone s n) := by
  unfold State.restoreDone
  exact (State.updBoot_keeps ..).step rfl (.refl _ _)

theorem State.releaseUnheld_keeps (s : State) : Keeps 294912 s (State.releaseUnheld s) := by
  unfold State.releaseUnheld
  refine Keeps.each ?_ ?_
  · exact .refl _ _
  · intro u1 _ hu1
    refine Keeps.each ?_ ?_
    · exact hu1
    · intro u2 _ hu2
      extract_lets l3 l4 l5
      have kl5 : Keeps 294912 s l5 := by
        unfold l5
        refine Keeps.each ?_ ?_
        · exact hu2
        · intro u6 _ hu6
          refine Keeps.ite ?_ ?_
          · exact hu6
          · exact (State.modBlock_keeps ..).step rfl hu6
      refine Keeps.ite ?_ ?_
      · exact hu2
      · exact (State.updZone_keeps ..).step rfl kl5

theorem State.rangeLost_keeps (s : State) (kind : Nat) (l : Nat × Nat × Nat) : Keeps 134253969 s (State.rangeLost s kind l) := by
  unfold State.rangeLost
  extract_lets l1 l2
  have kl2 : Keeps 134253969 s l2 := (State.diverge_keeps ..).step rfl (.refl _ _)
  refine Keeps.ite ?_ ?_
  · refine Keeps.ite ?_ ?_
    · exact (State.updPair_keeps ..).step rfl kl2
    · exact kl2
  · refine Keeps.ite ?_ ?_
    · exact (State.deferredError_keeps ..).step rfl (.refl _ _)
    · exact .refl _ _

theorem State.takenOnDies_keeps (s : State) : Keeps 32768 s (State.takenOnDies s) := by
  unfold State.takenOnDies
  refine Keeps.each ?_ ?_
  · exact .refl _ _
  · intro u1 _ hu1
    extract_lets l2 l3 l4 l5
    exact (State.modNv_keeps ..).step rfl hu1

theorem State.wordlineAssays_keeps (s : State) : Keeps 524289 s (State.wordlineAssays s) := by
  unfold State.wordlineAssays
  refine Keeps.each ?_ ?_
  · exact .refl _ _
  · intro u1 _ hu1
    extract_lets l2 l3
    refine Keeps.each ?_ ?_
    · exact hu1
    · intro u4 _ hu4
      exact (State.sendOp_keeps ..).step rfl hu4

theorem State.duskReplay_keeps (s : State) (r : DuskRecord) : Keeps 231825 s (State.duskReplay s r) := by
  unfold State.duskReplay
  extract_lets l1 l2 l3
  have kl1 : Keeps 231825 s l1 := (State.updWp_keeps ..).step rfl (.refl _ _)
  have kl2 : Keeps 231825 s l2 := (State.commitAll_keeps ..).step rfl kl1
  have kl3 : Keeps 231825 s l3 := (State.updJr_keeps ..).step rfl kl2
  exact (State.event_keeps ..).step rfl kl3

theorem State.recoverZone_keeps (s : State) (nsid : Nat) (z : Nat) (ready : List (Nat × Nat)) : Keeps 36241 s (State.recoverZone s nsid z ready) := by
  unfold State.recoverZone
  split
  · exact .refl _ _
  · extract_lets l1 l2
    split
    · exact .refl _ _
    · extract_lets l3 l4 l5 l6
      have kl5 : Keeps 36241 s l5 := (State.modZone_keeps ..).step rfl (.refl _ _)
      have kl6 : Keeps 36241 s l6 := (State.event_keeps ..).step rfl ((State.event_keeps ..).step rfl kl5)
      refine Keeps.ite ?_ ?_
      · refine Keeps.each ?_ ?_
        · exact kl6
        · intro u7 _ hu7
          exact (State.aen_keeps ..).step rfl hu7
      · exact kl5

theorem execRecoveryLinkRetry_keeps (h0 : Bool) (h1 : Bool) (s : State) : KeepsIn atNext 18833 s (execRecoveryLinkRetry h0 h1 s) := by
  unfold execRecoveryLinkRetry
  refine KeepsIn.effect rfl ?_ ?_
  · exact .refl _ _
  · intro u1 hu1
    refine Keeps.ite ?_ ?_
    · exact hu1
    · extract_lets l2
      have kl2 : Keeps 18833 s l2 := (State.updBoot_keeps ..).step rfl hu1
      refine Keeps.ite ?_ ?_
      · exact (State.recoveryManager_keeps ..).step rfl kl2
      · refine Keeps.ite ?_ ?_
        · exact (State.recoveryManager_keeps ..).step rfl kl2
        · exact kl2

theorem State.newSlots_keeps (s : State) (k : Nat) (w : Wr) : Keeps 491520 s (State.newSlots s k w) := by
  unfold State.newSlots
  split
  · split
    · rename_i p1 p2 e3
      have kp2 : Keeps 491520 s p2 := by
        refine KeepsIn.get ?_ (congrArg atOptSnd e3)
        exact (State.takeSlots_keeps ..).step rfl (.refl _ _)
      exact (State.updWp_keeps ..).step rfl kp2
    · exact .refl _ _
  · exact .refl _ _

theorem State.blocksBack_keeps (s : State) : Keeps 888209 s (State.blocksBack s) := by
  unfold State.blocksBack
  extract_lets l1
  have kl1 : Keeps 888209 s l1 := (State.updMd_keeps ..).step rfl ((State.releaseUnheld_keeps ..).step rfl (.refl _ _))
  refine Keeps.each ?_ ?_
  · exact kl1
  · intro u2 _ hu2
    exact (State.spareUpdate_keeps ..).step rfl hu2

theorem State.purge_keeps (s : State) : Keeps 142577073 s (State.purge s) := by
  unfold State.purge
  extract_lets l1 l3
  have kl1 : Keeps 142577073 s l1 := by
    unfold l1
    refine Keeps.each ?_ ?_
    · exact .refl _ _
    · intro u2 _ hu2
      exact (State.discardNs_keeps ..).step rfl hu2
  have kl3 : Keeps 142577073 s l3 := by
    unfold l3
    refine Keeps.ite ?_ ?_
    · exact kl1
    · refine Keeps.each ?_ ?_
      · exact kl1
      · intro u4 _ hu4
        extract_lets l5 l6
        have kl5 : KeepsIn atSnd 142577073 s l5 := (State.drbgKey_keeps ..).step rfl hu4
        clear_value l5
        have kl6 : Keeps 142577073 s l6 := by
          unfold l6
          refine (State.putKey_keeps ..).step rfl (KeepsIn.ofSnd ?_)
          exact kl5
        exact (State.updKey_keeps ..).step rfl kl6
  exact (State.updJr_keeps ..).step rfl kl3

theorem State.restoreAlmanac_keeps (s : State) : Keeps 2449 s (State.restoreAlmanac s) := by
  unfold State.restoreAlmanac
  refine Keeps.ite ?_ ?_
  · exact .refl _ _
  · extract_lets l1 l2 l3 l4 l5 l6
    have kl4 : Keeps 2449 s l4 := (State.updAlm_keeps fun h => ⟨h, Nat.le_refl _⟩).step rfl (.refl _ _)
    have kl5 : Keeps 2449 s l5 := by
      unfold l5
      refine Keeps.ite ?_ ?_
      · exact kl4
      · exact (State.event_keeps ..).step rfl kl4
    have kl6 : Keeps 2449 s l6 := (State.updAlm_keeps fun h => AlmState.pushAll_numbered l2 h).step rfl kl5
    refine Keeps.ite ?_ ?_
    · exact kl6
    · exact (State.event_keeps ..).step rfl kl6

theorem State.reenter_keeps (s : State) (k : Nat) (w : Wr) : Keeps 491520 s (State.reenter s k w) := by
  unfold State.reenter
  extract_lets l1 l2
  exact (State.newSlots_keeps ..).step rfl ((State.updWp_keeps ..).step rfl (.refl _ _))

theorem State.coldReset_keeps (s : State) : Keeps 268435415 s (State.coldReset s) :=
  ⟨fun p hp => by cases p <;> first | rfl | exact absurd hp (by decide), fun _ => rfl, Nat.le_refl _,
   fun h => ⟨⟨Nat.le_refl _, h.2.1.sublist ((List.sublist_append_right ..).map _),
     fun r hr => Nat.le_trans (h.2.2 r (List.mem_append.mpr (.inr hr))) h.1⟩, h.1⟩⟩

theorem execDramFillDone_keeps (s : State) : KeepsIn atNext 268426641 s (execDramFillDone s) := by
  unfold execDramFillDone
  refine KeepsIn.effect rfl ?_ ?_
  · exact .refl _ _
  · intro u1 hu1
    extract_lets l2 l3
    have kl3 : Keeps 268426641 s l3 := (State.fillEnds_keeps ..).step rfl ((State.updDram_keeps ..).step rfl hu1)
    refine (State.nextFill_keeps ..).step rfl ?_
    refine Keeps.each ?_ ?_
    · exact kl3
    · intro u4 _ hu4
      exact (State.dramRequest_keeps ..).step rfl hu4

theorem State.restoreBlocks_keeps (s : State) (f : Found) : Keeps 557057 s (State.restoreBlocks s f) := by
  unfold State.restoreBlocks
  extract_lets l1 l2 l3 l4
  have kl2 : Keeps 557057 s l2 := (State.modNv_keeps ..).step rfl (.refl _ _)
  exact (State.set_keeps ..).step rfl ((State.updMd_keeps ..).step rfl kl2)

theorem State.releaseFill_keeps (s : State) : Keeps 33570817 s (State.releaseFill s) := by
  unfold State.releaseFill
  exact (State.nextFill_keeps ..).step rfl ((State.updBoot_keeps ..).step rfl (.refl _ _))

theorem State.rejoinZone_keeps (s : State) (nsid : Nat) (z : Nat) (l : Map Wr) : Keeps 493969 s (State.rejoinZone s nsid z l) := by
  unfold State.rejoinZone
  split
  · exact .refl _ _
  · extract_lets l1 l2 l5
    have kl1 : Keeps 493969 s l1 := (State.modZone_keeps ..).step rfl (.refl _ _)
    have kl2 : Keeps 493969 s l2 := by
      unfold l2
      refine Keeps.ite ?_ ?_
      · exact kl1
      · split
        · rename_i p3 e4
          have kp3 : Keeps 493969 s p3 := by
            refine KeepsIn.get ?_ (congrArg atOpened e4)
            exact (State.openZone_keeps ..).step rfl kl1
          exact kp3
        · exact kl1
    have kl5 : Keeps 493969 s l5 := by
      unfold l5
      refine Keeps.each ?_ ?_
      · exact kl2
      · intro u6 _ hu6
        extract_lets l7 l8
        have kl8 : Keeps 493969 s l8 := by
          unfold l8
          refine Keeps.ite ?_ ?_
          · exact (State.voidRange_keeps ..).step rfl hu6
          · exact hu6
        refine Keeps.ite ?_ ?_
        · exact kl8
        · refine Keeps.ite ?_ ?_
          · exact (State.advanceWp_keeps ..).step rfl ((State.reenter_keeps ..).step rfl kl8)
          · exact (State.voidRange_keeps ..).step rfl kl8
    refine Keeps.ite ?_ ?_
    · exact kl2
    · exact (State.modZone_keeps ..).step rfl kl5

theorem State.coldStart_keeps (s : State) (straps : Straps) (pins : Pins) (nor : Option Nor) : Keeps 142597553 s (State.coldStart s straps pins nor) := by
  unfold State.coldStart
  extract_lets l1 l2 l3 l4 l5 l6 l7 l8
  have kl5 : Keeps 142597553 s l5 := by
    unfold l5
    refine Keeps.changeAlm (t := s) ?_ (fun p hp => by cases p <;> first | rfl | exact absurd hp (by decide)) rfl rfl (fun h => ⟨h, Nat.le_refl _⟩)
    exact .refl _ _
  have kl6 : Keeps 142597553 s l6 := by
    unfold l6
    refine Keeps.ite ?_ ?_
    · exact (State.nextFree_keeps ..).step rfl kl5
    · exact (State.toRetain_keeps ..).step rfl ((State.nextFree_keeps ..).step rfl kl5)
  have kl7 : Keeps 142597553 s l7 := by
    unfold l7
    refine Keeps.ite ?_ ?_
    · exact kl6
    · exact (State.set_keeps ..).step rfl ((State.updKey_keeps ..).step rfl kl6)
  have kl8 : Keeps 142597553 s l8 := by
    unfold l8
    refine Keeps.ite ?_ ?_
    · exact (State.event_keeps ..).step rfl kl7
    · exact kl7
  refine Keeps.ite ?_ ?_
  · exact kl8
  · exact (State.alarm_keeps ..).step rfl kl8

theorem State.fillGo_keeps (s : State) : Keeps 33570817 s (State.fillGo s) := by
  unfold State.fillGo
  refine Keeps.ite ?_ ?_
  · exact (State.releaseFill_keeps ..).step rfl (.refl _ _)
  · exact .refl _ _

theorem State.recover_keeps (s : State) (proved : List Nat) : Keeps 134712721 s (State.recover s proved) := by
  unfold State.recover
  extract_lets l1 l2 l4 l5 l6 l8 l9
  have kl2 : Keeps 134712721 s l2 := by
    unfold l2
    refine Keeps.each ?_ ?_
    · exact .refl _ _
    · intro u3 _ hu3
      exact (State.recoverZone_keeps ..).step rfl hu3
  have kl4 : Keeps 134712721 s l4 := (State.takenOnDies_keeps ..).step rfl kl2
  have kl6 : Keeps 134712721 s l6 := by
    unfold l6
    refine Keeps.each ?_ ?_
    · exact kl4
    · intro u7 _ hu7
      exact (State.reenter_keeps ..).step rfl hu7
  have kl9 : Keeps 134712721 s l9 := by
    unfold l9
    refine Keeps.each ?_ ?_
    · exact kl6
    · intro u10 _ hu10
      exact (State.rangeLost_keeps ..).step rfl hu10
  exact (State.updJr_keeps ..).step rfl ((State.commitAll_keeps ..).step rfl kl9)

theorem State.toStage_keeps (s : State) (n : Nat) : Keeps 1 s (State.toStage s n) := by
  unfold State.toStage
  exact (State.wr_keeps ..).step rfl (.refl _ _)

theorem State.restoreKey_keeps (s : State) (bad : List Nat) (k : Nat) : Keeps 4196753 s (State.restoreKey s bad k) := by
  unfold State.restoreKey
  split
  · refine Keeps.ite ?_ ?_
    · refine Keeps.each ?_ ?_
      · exact .refl _ _
      · intro u1 _ hu1
        exact (State.event_keeps ..).step rfl ((State.updKey_keeps ..).step rfl hu1)
    · exact (State.updKey_keeps ..).step rfl (.refl _ _)
  · refine Keeps.each ?_ ?_
    · exact .refl _ _
    · intro u2 _ hu2
      exact (State.event_keeps ..).step rfl ((State.updKey_keeps ..).step rfl hu2)

theorem State.askWarm_keeps (s : State) (cause : Nat) : Keeps 234872209 s (State.askWarm s cause) := by
  unfold State.askWarm
  refine Keeps.ite ?_ ?_
  · exact .refl _ _
  · extract_lets l1 l2 l3
    have kl1 : Keeps 234872209 s l1 := (State.updBoot_keeps ..).step rfl ((State.event_keeps ..).step rfl (.refl _ _))
    have kl2 : Keeps 234872209 s l2 := (State.updQ_keeps ..).step rfl kl1
    have kl3 : Keeps 234872209 s l3 := by
      unfold l3
      refine Keeps.each ?_ ?_
      · exact kl2
      · intro u4 _ hu4
        exact (State.endAssociation_keeps ..).step rfl hu4
    exact (State.updPair_keeps ..).step rfl kl3

theorem State.flushedBack_keeps (s : State) : Keeps 196608 s (State.flushedBack s) := by
  unfold State.flushedBack
  extract_lets l1 l2
  have kl2 : Keeps 196608 s l2 := (State.updWp_keeps ..).step rfl (.refl _ _)
  exact (State.updJr_keeps ..).step rfl kl2

theorem State.warmReset_keeps (s : State) (cause : Nat) : Keeps 268427223 s (State.warmReset s cause) := by
  unfold State.warmReset
  extract_lets l1 l2 l3 l4 l5 l6
  have kl2 : Keeps 268427223 s l2 := (State.blockReset_keeps ..).step rfl (.refl _ _)
  have kl3 : Keeps 268427223 s l3 := by
    unfold l3
    refine Keeps.change (t := l2) ?_ (fun p hp => by cases p <;> first | rfl | exact absurd hp (by decide)) rfl rfl rfl
    exact kl2
  have kl4 : Keeps 268427223 s l4 := (State.updWp_keeps ..).step rfl kl3
  have kl5 : Keeps 268427223 s l5 := (State.updBoot_keeps ..).step rfl kl4
  have kl6 : Keeps 268427223 s l6 := (State.toStage_keeps ..).step rfl ((State.set_keeps ..).step rfl ((State.wr_keeps ..).step rfl kl5))
  exact (State.wr_keeps ..).step rfl ((State.set_keeps ..).step rfl kl6)

theorem State.warmReplay_keeps (s : State) (f : Found) : Keeps 134712721 s (State.warmReplay s f) := by
  unfold State.warmReplay
  extract_lets l1 l2 l3 l4 l5 l6 l7
  have kl4 : Keeps 134712721 s l4 := (State.updWp_keeps ..).step rfl (.refl _ _)
  have kl5 : Keeps 134712721 s l5 := (State.takenOnDies_keeps ..).step rfl kl4
  have kl7 : Keeps 134712721 s l7 := by
    unfold l7
    refine Keeps.each ?_ ?_
    · exact kl5
    · intro u8 _ hu8
      exact (State.rejoinZone_keeps ..).step rfl hu8
  refine Keeps.ite ?_ ?_
  · exact .refl _ _
  · refine Keeps.ite ?_ ?_
    · exact (State.recover_keeps ..).step rfl ((State.flushedBack_keeps ..).step rfl ((State.event_keeps ..).step rfl ((State.bufferLost_keeps ..).step rfl (.refl _ _))))
    · refine (State.commitAll_keeps ..).step rfl ?_
      refine Keeps.each ?_ ?_
      · exact kl7
      · intro u9 _ hu9
        exact (State.reenter_keeps ..).step rfl hu9

theorem execFillGo_keeps (unlock : Nat) (s : State) : KeepsIn atNext 33570833 s (execFillGo unlock s) := by
  unfold execFillGo
  refine KeepsIn.effect rfl ?_ ?_
  · exact .refl _ _
  · intro u1 hu1
    refine State.unlocked_keeps rfl ?_ ?_
    · exact hu1
    · intro u2 hu2
      exact (State.fillGo_keeps ..).step rfl hu2

theorem execFillHoldTimeout_keeps (s : State) : KeepsIn atNext 33570833 s (execFillHoldTimeout s) := by
  unfold execFillHoldTimeout
  refine KeepsIn.effect rfl ?_ ?_
  · exact .refl _ _
  · intro u1 hu1
    refine Keeps.ite ?_ ?_
    · exact (State.releaseFill_keeps ..).step rfl hu1
    · exact hu1

theorem execPorNDeassert_keeps (straps : Straps) (pins : Pins) (nor : Option Nor) (s : State) : KeepsIn atNext 142597553 s (execPorNDeassert straps pins nor s) := by
  unfold execPorNDeassert
  refine KeepsIn.leafNext ?_
  refine Keeps.ite ?_ ?_
  · exact Keeps.set_out rfl (.refl _ _)
  · exact (State.coldStart_keeps ..).step rfl (Keeps.set_out rfl (.refl _ _))

theorem State.restoreKeys_keeps (s : State) (bad : List Nat) : Keeps 4196753 s (State.restoreKeys s bad) := by
  unfold State.restoreKeys
  refine Keeps.ite ?_ ?_
  · exact .refl _ _
  · refine Keeps.each ?_ ?_
    · exact .refl _ _
    · intro u1 _ hu1
      exact (State.restoreKey_keeps ..).step rfl hu1

theorem execPorNAssert_keeps (s : State) : KeepsIn atNext 268435415 s (execPorNAssert s) := by
  unfold execPorNAssert
  refine KeepsIn.leafNext ?_
  refine Keeps.ite ?_ ?_
  · exact (State.coldReset_keeps ..).step rfl (.refl _ _)
  · exact Keeps.set_out rfl (.refl _ _)

theorem execSramFillDone_keeps (s : State) : KeepsIn atNext 16401 s (execSramFillDone s) := by
  unfold execSramFillDone
  refine KeepsIn.effect rfl ?_ ?_
  · exact .refl _ _
  · intro u1 hu1
    refine Keeps.ite ?_ ?_
    · exact hu1
    · exact (State.toStage_keeps ..).step rfl ((State.updBoot_keeps ..).step rfl hu1)

theorem State.toAdminReady_keeps (s : State) : Keeps 2449 s (State.toAdminReady s) := by
  unfold State.toAdminReady
  extract_lets l1 l2
  have kl1 : Keeps 2449 s l1 := (State.wr_keeps ..).step rfl ((State.toStage_keeps ..).step rfl (.refl _ _))
  have kl2 : Keeps 2449 s l2 := (State.event_keeps ..).step rfl ((State.set_keeps ..).step rfl kl1)
  exact (State.openControllers_keeps ..).step rfl kl2

theorem State.enterRecovery_keeps (s : State) : Keeps 18833 s (State.enterRecovery s) := by
  unfold State.enterRecovery
  extract_lets l1 l2 l3 l4
  have kl1 : Keeps 18833 s l1 := (State.updBoot_keeps ..).step rfl (.refl _ _)
  have kl2 : Keeps 18833 s l2 := (State.set_keeps ..).step rfl ((State.wr_keeps ..).step rfl ((State.toStage_keeps ..).step rfl kl1))
  have kl3 : Keeps 18833 s l3 := (State.updBoot_keeps ..).step rfl kl2
  have kl4 : Keeps 18833 s l4 := (State.event_keeps ..).step rfl kl3
  split
  · exact (State.recoveryManager_keeps ..).step rfl kl4
  · exact kl4

theorem State.startFirmware_keeps (s : State) (slot : Nat) (i : FwImage) : Keeps 18833 s (State.startFirmware s slot i) := by
  unfold State.startFirmware
  extract_lets l1 l2 l3 l4 l5
  have kl1 : Keeps 18833 s l1 := (State.toStage_keeps ..).step rfl ((State.wr_keeps ..).step rfl ((State.wr_keeps ..).step rfl (.refl _ _)))
  have kl2 : Keeps 18833 s l2 := (State.wr_keeps ..).step rfl ((State.wr_keeps ..).step rfl kl1)
  have kl3 : Keeps 18833 s l3 := (State.wr_keeps ..).step rfl ((State.wr_keeps ..).step rfl kl2)
  have kl5 : Keeps 18833 s l5 := (State.updBoot_keeps ..).step rfl kl3
  refine Keeps.ite ?_ ?_
  · exact (State.event_keeps ..).step rfl kl5
  · exact kl5

theorem execWarm_keeps (unlock : Nat) (s : State) : KeepsIn atNext 234872209 s (execWarm unlock s) := by
  unfold execWarm
  refine KeepsIn.effect rfl ?_ ?_
  · exact .refl _ _
  · intro u1 hu1
    refine State.unlocked_keeps rfl ?_ ?_
    · exact hu1
    · intro u2 hu2
      exact (State.askWarm_keeps ..).step rfl hu2

theorem State.readiness_keeps (s : State) : Keeps 4196753 s (State.readiness s) := by
  unfold State.readiness
  extract_lets l1 l2 l3 l4
  have kl4 : Keeps 4196753 s l4 := (State.updKey_keeps ..).step rfl (.refl _ _)
  refine Keeps.ite ?_ ?_
  · exact kl4
  · refine Keeps.ite ?_ ?_
    · exact (State.event_keeps ..).step rfl ((State.wr_keeps ..).step rfl ((State.toStage_keeps ..).step rfl kl4))
    · refine Keeps.ite ?_ ?_
      · exact (State.toStage_keeps ..).step rfl kl4
      · exact kl4

theorem State.recLoad_keeps (s : State) (unlock : Nat) (image : Option FwImage) : Keeps 18833 s (State.recLoad s unlock image) := by
  unfold State.recLoad
  refine State.unlocked_keeps rfl ?_ ?_
  · exact .refl _ _
  · intro u1 hu1
    refine Keeps.ite ?_ ?_
    · exact hu1
    · split
      · exact (State.wr_keeps ..).step rfl hu1
      · extract_lets l2 l3
        have kl3 : Keeps 18833 s l3 := (State.wr_keeps ..).step rfl hu1
        refine Keeps.ite ?_ ?_
        · exact (State.startFirmware_keeps ..).step rfl ((State.event_keeps ..).step rfl kl3)
        · exact kl3

theorem execWarmReset_keeps (cause : Nat) (s : State) : KeepsIn atNext 268427223 s (execWarmReset cause s) := by
  unfold execWarmReset
  refine KeepsIn.effect rfl ?_ ?_
  · exact .refl _ _
  · intro u1 hu1
    refine Keeps.ite ?_ ?_
    · exact (State.warmReset_keeps ..).step rfl hu1
    · exact hu1

theorem State.replay_keeps (s : State) (f : Found) : Keeps 135253393 s (State.replay s f) := by
  unfold State.replay
  extract_lets l1 l2
  have kl1 : Keeps 135253393 s l1 := by
    unfold l1
    split
    · exact (State.duskReplay_keeps ..).step rfl (.refl _ _)
    · exact (State.warmReplay_keeps ..).step rfl (.refl _ _)
  have kl2 : Keeps 135253393 s l2 := by
    unfold l2
    refine Keeps.each ?_ ?_
    · exact kl1
    · intro u3 _ hu3
      exact (State.resyncRow_keeps ..).step rfl hu3
  exact (State.duskErase_keeps ..).step rfl ((State.restoreDone_keeps ..).step rfl ((State.wbufUpdate_keeps ..).step rfl ((State.wordlineAssays_keeps ..).step rfl kl2)))

theorem State.restoreJournal_keeps (s : State) (f : Found) : Keeps 142597553 s (State.restoreJournal s f) := by
  unfold State.restoreJournal
  extract_lets l1 l2 l3 l4 l5 l6 l7 l8 l9 l10 l11 l12 l14 l18 l19 l20 l21 l22 l23
  have kl5 : Keeps 142597553 s l5 := (State.modNv_keeps ..).step rfl (.refl _ _)
  have kl6 : Keeps 142597553 s l6 := (State.updPair_keeps ..).step rfl kl5
  have kl8 : Keeps 142597553 s l8 := (State.modNv_keeps ..).step rfl kl6
  have kl9 : Keeps 142597553 s l9 := (State.updZone_keeps ..).step rfl kl8
  have kl11 : Keeps 142597553 s l11 := by
    unfold l11
    refine Keeps.ite ?_ ?_
    · exact kl9
    · refine Keeps.ite ?_ ?_
      · exact (State.event_keeps ..).step rfl kl9
      · refine Keeps.ite ?_ ?_
        · exact (State.event_keeps ..).step rfl ((State.updMd_keeps ..).step rfl kl9)
        · exact kl9
  have kl12 : Keeps 142597553 s l12 := by
    unfold l12
    refine Keeps.each ?_ ?_
    · exact kl11
    · intro u13 _ hu13
      exact (State.toOff_keeps ..).step rfl hu13
  have kl14 : Keeps 142597553 s l14 := by
    unfold l14
    refine Keeps.each ?_ ?_
    · exact kl12
    · intro u15 _ hu15
      extract_lets l16 l17
      have kl17 : Keeps 142597553 s l17 := (State.updMd_keeps ..).step rfl hu15
      refine Keeps.ite ?_ ?_
      · exact kl17
      · exact (State.wr_keeps ..).step rfl ((State.wr_keeps ..).step rfl ((State.updMd_keeps ..).step rfl kl17))
  have kl18 : Keeps 142597553 s l18 := (State.restoreKeys_keeps ..).step rfl kl14
  have kl19 : Keeps 142597553 s l19 := by
    unfold l19
    refine Keeps.ite ?_ ?_
    · exact (State.purge_keeps ..).step rfl kl18
    · exact kl18
  have kl20 : Keeps 142597553 s l20 := (State.flushedBack_keeps ..).step rfl kl19
  have kl21 : Keeps 142597553 s l21 := by
    unfold l21
    refine Keeps.ite ?_ ?_
    · exact (State.recover_keeps ..).step rfl kl20
    · exact kl20
  have kl22 : Keeps 142597553 s l22 := (State.modNv_keeps ..).step rfl kl21
  have kl23 : Keeps 142597553 s l23 := (State.wbufUpdate_keeps ..).step rfl ((State.consUpdate_keeps ..).step rfl ((State.duskRegs_keeps ..).step rfl kl22))
  exact (State.toAdminReady_keeps ..).step rfl ((State.restoreDone_keeps ..).step rfl kl23)

theorem execBootRecLoad_keeps (unlock : Nat) (image : Option FwImage) (s : State) : KeepsIn atNext 18833 s (execBootRecLoad unlock image s) := by
  unfold execBootRecLoad
  refine KeepsIn.effect rfl ?_ ?_
  · exact .refl _ _
  · intro u1 hu1
    exact (State.recLoad_keeps ..).step rfl hu1

theorem State.firmwareBoot_keeps (s : State) : Keeps 18833 s (State.firmwareBoot s) := by
  unfold State.firmwareBoot
  extract_lets l1 l2 l3 l4 l5 l6 l7 l8 l9 l10 l11 l12 l14 l15 l16 l17 l18
  have kl4 : Keeps 18833 s l4 := (State.wr_keeps ..).step rfl ((State.wr_keeps ..).step rfl (.refl _ _))
  have kl5 : Keeps 18833 s l5 := (State.wr_keeps ..).step rfl ((State.wr_keeps ..).step rfl kl4)
  have kl6 : Keeps 18833 s l6 := (State.wr_keeps ..).step rfl ((State.wr_keeps ..).step rfl kl5)
  have kl7 : Keeps 18833 s l7 := (State.toStage_keeps ..).step rfl ((State.set_keeps ..).step rfl kl6)
  have kl8 : Keeps 18833 s l8 := by
    unfold l8
    refine Keeps.ite ?_ ?_
    · exact kl7
    · exact (State.event_keeps ..).step rfl kl7
  have kl9 : Keeps 18833 s l9 := by
    unfold l9
    refine Keeps.ite ?_ ?_
    · exact kl8
    · exact (State.event_keeps ..).step rfl kl8
  have kl12 : ∀ v0 v1 v2, Keeps 18833 s v0 → Keeps 18833 s (l12 v0 v1 v2) := by
    unfold l12
    intro u13 _ _ hu13
    exact (State.wr_keeps ..).step rfl hu13
  clear_value l12
  have kl14 : Keeps 18833 s l14 := (State.wr_keeps ..).step rfl kl9
  have kl16 : Keeps 18833 s l16 := kl12 _ _ _ kl14
  have kl18 : Keeps 18833 s l18 := (State.event_keeps ..).step rfl (kl12 _ _ _ kl16)
  refine Keeps.ite ?_ ?_
  · exact (State.enterRecovery_keeps ..).step rfl kl14
  · refine Keeps.ite ?_ ?_
    · exact (State.startFirmware_keeps ..).step rfl kl16
    · refine Keeps.ite ?_ ?_
      · exact (State.startFirmware_keeps ..).step rfl ((State.set_keeps ..).step rfl kl18)
      · exact (State.enterRecovery_keeps ..).step rfl kl18

theorem State.endBulumWait_keeps (s : State) (companion : Bool) : Keeps 142597553 s (State.endBulumWait s companion) := by
  unfold State.endBulumWait
  split
  · refine Keeps.ite ?_ ?_
    · exact .refl _ _
    · extract_lets l1
      have kl1 : Keeps 142597553 s l1 := (State.pairJoins_keeps ..).step rfl ((State.updBoot_keeps ..).step rfl ((State.restoreJournal_keeps ..).step rfl (.refl _ _)))
      refine (State.readiness_keeps ..).step rfl ?_
      refine Keeps.ite ?_ ?_
      · exact (State.blocksBack_keeps ..).step rfl kl1
      · exact kl1
  · exact .refl _ _

theorem State.safeStep_keeps (s : State) (n : Nat) : Keeps 4245905 s (State.safeStep s n) := by
  unfold State.safeStep
  extract_lets l1
  have kl1 : Keeps 4245905 s l1 := (State.restoreDone_keeps ..).step rfl (.refl _ _)
  refine (State.readiness_keeps ..).step rfl ?_
  refine Keeps.ite ?_ ?_
  · exact (State.toAdminReady_keeps ..).step rfl ((State.modNv_keeps ..).step rfl kl1)
  · exact kl1

theorem execFirmwareBoot_keeps (s : State) : KeepsIn atNext 18833 s (execFirmwareBoot s) := by
  unfold execFirmwareBoot
  refine KeepsIn.effect rfl ?_ ?_
  · exact .refl _ _
  · intro u1 hu1
    refine Keeps.ite ?_ ?_
    · exact (State.firmwareBoot_keeps ..).step rfl hu1
    · exact hu1

theorem execBulumLinkTrained_keeps (lanes : Nat) (s : State) : KeepsIn atNext 142597553 s (execBulumLinkTrained lanes s) := by
  unfold execBulumLinkTrained
  refine KeepsIn.effect rfl ?_ ?_
  · exact .refl _ _
  · intro u1 hu1
    extract_lets l2
    have kl2 : Keeps 142597553 s l2 := (State.bulumTrained_keeps ..).step rfl hu1
    refine Keeps.ite ?_ ?_
    · exact (State.endBulumWait_keeps ..).step rfl kl2
    · exact kl2

theorem execPairJournalWaitExpiry_keeps (s : State) : KeepsIn atNext 142597553 s (execPairJournalWaitExpiry s) := by
  unfold execPairJournalWaitExpiry
  refine KeepsIn.effect rfl ?_ ?_
  · exact .refl _ _
  · intro u1 hu1
    exact (State.endBulumWait_keeps ..).step rfl hu1

theorem State.restoreStep_keeps (s : State) (n : Nat) (f : Found) : Keeps 142597553 s (State.restoreStep s n f) := by
  unfold State.restoreStep
  extract_lets l1 l2 l3 l4 l5
  have kl4 : Keeps 142597553 s l4 := by
    unfold l4
    refine Keeps.ite ?_ ?_
    · exact (State.set_keeps ..).step rfl ((State.updMd_keeps ..).step rfl (.refl _ _))
    · exact (State.restoreDone_keeps ..).step rfl ((State.restoreBlocks_keeps ..).step rfl (.refl _ _))
  have kl5 : Keeps 142597553 s l5 := (State.pairJoins_keeps ..).step rfl ((State.updBoot_keeps ..).step rfl ((State.restoreJournal_keeps ..).step rfl (.refl _ _)))
  refine Keeps.ite ?_ ?_
  · exact .refl _ _
  · refine Keeps.ite ?_ ?_
    · exact (State.restoreDone_keeps ..).step rfl ((State.restoreAlmanac_keeps ..).step rfl (.refl _ _))
    · refine Keeps.ite ?_ ?_
      · refine Keeps.ite ?_ ?_
        · exact (State.toStage_keeps ..).step rfl ((State.restoreDone_keeps ..).step rfl (.refl _ _))
        · exact .refl _ _
      · refine Keeps.ite ?_ ?_
        · exact (State.safeStep_keeps ..).step rfl (.refl _ _)
        · refine Keeps.ite ?_ ?_
          · refine Keeps.ite ?_ ?_
            · exact (State.blocksBack_keeps ..).step rfl kl4
            · exact kl4
          · refine Keeps.ite ?_ ?_
            · refine Keeps.ite ?_ ?_
              · exact (State.updBoot_keeps ..).step rfl (.refl _ _)
              · refine (State.readiness_keeps ..).step rfl ?_
                refine Keeps.ite ?_ ?_
                · exact (State.blocksBack_keeps ..).step rfl kl5
                · exact kl5
            · refine Keeps.ite ?_ ?_
              · exact (State.readiness_keeps ..).step rfl ((State.restoreDone_keeps ..).step rfl (.refl _ _))
              · refine Keeps.ite ?_ ?_
                · exact (State.readiness_keeps ..).step rfl ((State.replay_keeps ..).step rfl (.refl _ _))
                · refine Keeps.ite ?_ ?_
                  · exact (State.restoreDone_keeps ..).step rfl ((State.event_keeps ..).step rfl ((State.set_keeps ..).step rfl ((State.updMd_keeps ..).step rfl (.refl _ _))))
                  · exact .refl _ _

theorem execRestoreStep_keeps (n : Nat) (found : Found) (s : State) : KeepsIn atNext 142597553 s (execRestoreStep n found s) := by
  unfold execRestoreStep
  refine KeepsIn.effect rfl ?_ ?_
  · exact .refl _ _
  · intro u1 hu1
    exact (State.restoreStep_keeps ..).step rfl hu1

end Sys2Proof.Machine
end

