-- ==== Sys2Proof/Laws/KeepsDebug.lean ====
section
/-! SUPPORT. What each operation of Machine/Debug.lean keeps (Laws/Frame.lean). -/

namespace Sys2Proof.Machine

theorem State.zeroOtpData_keeps (s : State) : Keeps 1 s (State.zeroOtpData s) := by
  unfold State.zeroOtpData
  refine Keeps.each ?_ ?_
  · exact .refl _ _
  · intro u1 _ hu1
    exact (State.wr_keeps ..).step rfl hu1

theorem State.unlockScope_keeps (s : State) (scope : Nat) : Keeps 20480 s (State.unlockScope s scope) := by
  unfold State.unlockScope
  extract_lets l1
  have kl1 : Keeps 20480 s l1 := (State.updBoot_keeps ..).step rfl (.refl _ _)
  refine Keeps.ite ?_ ?_
  · exact (State.wake_keeps ..).step rfl kl1
  · exact kl1

theorem State.otpProgram_keeps (s : State) (readbackOk : Bool) : Keeps 16417 s (State.otpProgram s readbackOk) := by
  unfold State.otpProgram
  extract_lets l1 l2 l3
  have kl3 : Keeps 16417 s l3 := (State.zeroOtpData_keeps ..).step rfl (.refl _ _)
  refine Keeps.ite ?_ ?_
  · exact (State.wr_keeps ..).step rfl kl3
  · refine Keeps.ite ?_ ?_
    · exact (State.wr_keeps ..).step rfl kl3
    · refine Keeps.ite ?_ ?_
      · exact (State.wr_keeps ..).step rfl ((State.updBoot_keeps ..).step rfl kl3)
      · exact (State.wr_keeps ..).step rfl ((State.updBoot_keeps ..).step rfl (Keeps.set_freeCtr rfl (Nat.le_add_right ..) kl3))

theorem State.newChallenge_keeps (s : State) : Keeps 16417 s (State.newChallenge s) := by
  unfold State.newChallenge
  extract_lets l1
  have kl1 : Keeps 16417 s l1 := by
    unfold l1
    refine Keeps.each ?_ ?_
    · exact .refl _ _
    · intro u2 _ hu2
      exact (State.wr_keeps ..).step rfl hu2
  exact (State.nextFree_keeps ..).step rfl ((State.updBoot_keeps ..).step rfl kl1)

theorem State.debugLock_keeps (s : State) : Keeps 20480 s (State.debugLock s) := by
  unfold State.debugLock
  exact (State.toRetain_keeps ..).step rfl ((State.updBoot_keeps ..).step rfl (.refl _ _))

theorem execJtagUnlock_keeps (s : State) : KeepsIn atNext 142593425 s (execJtagUnlock s) := by
  unfold execJtagUnlock
  refine KeepsIn.effect rfl ?_ ?_
  · exact .refl _ _
  · intro u1 hu1
    refine Keeps.ite ?_ ?_
    · exact hu1
    · refine Keeps.ite ?_ ?_
      · exact (State.updBoot_keeps ..).step rfl hu1
      · exact (State.alarm_keeps ..).step rfl hu1

theorem execOtpProgram_keeps (unlock : Nat) (readbackOk : Bool) (s : State) : KeepsIn atNext 16433 s (execOtpProgram unlock readbackOk s) := by
  unfold execOtpProgram
  refine KeepsIn.effect rfl ?_ ?_
  · exact .refl _ _
  · intro u1 hu1
    refine State.unlocked_keeps rfl ?_ ?_
    · exact hu1
    · intro u2 hu2
      exact (State.otpProgram_keeps ..).step rfl hu2

theorem State.debugGo_keeps (s : State) : Keeps 142597553 s (State.debugGo s) := by
  unfold State.debugGo
  refine Keeps.ite ?_ ?_
  · exact .refl _ _
  · extract_lets l1 l2 l3
    have kl3 : Keeps 142597553 s l3 := (State.newChallenge_keeps ..).step rfl ((State.bump_keeps ..).step rfl (.refl _ _))
    refine Keeps.ite ?_ ?_
    · exact (State.unlockScope_keeps ..).step rfl kl3
    · exact (State.alarm_keeps ..).step rfl kl3

theorem execDbgUnlockGo_keeps (unlock : Nat) (lock : Bool) (s : State) : KeepsIn atNext 142597553 s (execDbgUnlockGo unlock lock s) := by
  unfold execDbgUnlockGo
  refine KeepsIn.effect rfl ?_ ?_
  · exact .refl _ _
  · intro u1 hu1
    refine State.unlocked_keeps rfl ?_ ?_
    · exact hu1
    · intro u2 hu2
      refine Keeps.ite ?_ ?_
      · exact (State.debugLock_keeps ..).step rfl hu2
      · exact (State.debugGo_keeps ..).step rfl hu2

theorem execDbgUnlockLock_keeps (unlock : Nat) (s : State) : KeepsIn atNext 20497 s (execDbgUnlockLock unlock s) := by
  unfold execDbgUnlockLock
  refine KeepsIn.effect rfl ?_ ?_
  · exact .refl _ _
  · intro u1 hu1
    refine State.unlocked_keeps rfl ?_ ?_
    · exact hu1
    · intro u2 hu2
      exact (State.debugLock_keeps ..).step rfl hu2

end Sys2Proof.Machine
end

