-- ==== Sys2Proof/Laws/KeepsFirmware.lean ====
section
/-! SUPPORT. What each operation of Machine/Firmware.lean keeps (Laws/Frame.lean). -/

namespace Sys2Proof.Machine

theorem State.firmwareCmd_keeps {n₀ : Nat} {s₀ : State} {s : State} {r : CmdRef} {f : State → State} (hm : 1024 ||| n₀ = n₀) (h₀ : Keeps n₀ s₀ s) (hf : ∀ v0, Keeps n₀ s₀ v0 → Keeps n₀ s₀ (f v0)) : Keeps n₀ s₀ (State.firmwareCmd s r f) := by
  unfold State.firmwareCmd
  refine State.admin_keeps (Keeps.sub rfl hm) ?_ ?_
  · exact h₀
  · intro u1 hu1
    refine Keeps.ite ?_ ?_
    · exact (State.finish_keeps ..).step (Keeps.sub rfl hm) hu1
    · refine Keeps.ite ?_ ?_
      · exact (State.finish_keeps ..).step (Keeps.sub rfl hm) hu1
      · exact hf _ hu1

theorem State.download_keeps (s : State) (r : CmdRef) (off : Nat) (len : Nat) (content : Staged) : Keeps 17408 s (State.download s r off len content) := by
  unfold State.download
  refine State.firmwareCmd_keeps rfl ?_ ?_
  · exact .refl _ _
  · intro u1 hu1
    refine Keeps.ite ?_ ?_
    · exact (State.finish_keeps ..).step rfl hu1
    · exact (State.finish_keeps ..).step rfl ((State.updBoot_keeps ..).step rfl hu1)

theorem State.putImage_keeps (s : State) (slot : Nat) (i : FwImage) : Keeps 16384 s (State.putImage s slot i) := by
  unfold State.putImage
  exact (State.updBoot_keeps ..).step rfl (.refl _ _)

theorem State.activateSlot_keeps (s : State) (r : CmdRef) (slot : Nat) : Keeps 19857 s (State.activateSlot s r slot) := by
  unfold State.activateSlot
  extract_lets l1 l2
  have kl1 : Keeps 19857 s l1 := (State.updBoot_keeps ..).step rfl (.refl _ _)
  have kl2 : Keeps 19857 s l2 := (State.wr_keeps ..).step rfl ((State.wr_keeps ..).step rfl kl1)
  exact (State.finish_keeps ..).step rfl ((State.event_keeps ..).step rfl ((State.wr_keeps ..).step rfl kl2))

theorem State.putChart_keeps (s : State) (slot : Nat) (k : Container) : Keeps 16384 s (State.putChart s slot k) := by
  unfold State.putChart
  exact (State.updBoot_keeps ..).step rfl (.refl _ _)

theorem execFirmwareDownload_keeps (ref : CmdRef) (off : Nat) (len : Nat) (content : Staged) (s : State) : KeepsIn atNext 17424 s (execFirmwareDownload ref off len content s) := by
  unfold execFirmwareDownload
  refine KeepsIn.effect rfl ?_ ?_
  · exact .refl _ _
  · intro u1 hu1
    exact (State.download_keeps ..).step rfl hu1

theorem State.commitImage_keeps (s : State) (r : CmdRef) (fs : Nat) (activate : Bool) : Keeps 17408 s (State.commitImage s r fs activate) := by
  unfold State.commitImage
  split
  · exact (State.finish_keeps ..).step rfl (.refl _ _)
  · refine Keeps.ite ?_ ?_
    · exact (State.finish_keeps ..).step rfl (.refl _ _)
    · exact (State.updBoot_keeps ..).step rfl ((State.putImage_keeps ..).step rfl ((State.accept_keeps ..).step rfl (.refl _ _)))

theorem State.commitActivate_keeps (s : State) (r : CmdRef) (fs : Nat) (ca : Nat) : Keeps 19857 s (State.commitActivate s r fs ca) := by
  unfold State.commitActivate
  refine Keeps.ite ?_ ?_
  · exact (State.finish_keeps ..).step rfl (.refl _ _)
  · split
    · exact (State.finish_keeps ..).step rfl (.refl _ _)
    · refine Keeps.ite ?_ ?_
      · exact (State.finish_keeps ..).step rfl (.refl _ _)
      · exact (State.activateSlot_keeps ..).step rfl (.refl _ _)

theorem State.slotWritten_keeps (s : State) (ok : Bool) : Keeps 19857 s (State.slotWritten s ok) := by
  unfold State.slotWritten
  split
  · exact .refl _ _
  · refine Keeps.ite ?_ ?_
    · exact (State.finish_keeps ..).step rfl ((State.updBoot_keeps ..).step rfl (.refl _ _))
    · extract_lets l1
      have kl1 : Keeps 19857 s l1 := by
        unfold l1
        refine Keeps.ite ?_ ?_
        · exact (State.putChart_keeps ..).step rfl (.refl _ _)
        · exact (State.putImage_keeps ..).step rfl (.refl _ _)
      refine Keeps.ite ?_ ?_
      · exact (State.activateSlot_keeps ..).step rfl kl1
      · exact (State.finish_keeps ..).step rfl ((State.event_keeps ..).step rfl ((State.updBoot_keeps ..).step rfl kl1))

theorem State.commitChart_keeps (s : State) (r : CmdRef) (slot : Nat) : Keeps 17408 s (State.commitChart s r slot) := by
  unfold State.commitChart
  refine Keeps.ite ?_ ?_
  · exact (State.finish_keeps ..).step rfl (.refl _ _)
  · exact (State.updBoot_keeps ..).step rfl ((State.putChart_keeps ..).step rfl ((State.accept_keeps ..).step rfl (.refl _ _)))

theorem execSlotWriteDone_keeps (ok : Bool) (s : State) : KeepsIn atNext 19857 s (execSlotWriteDone ok s) := by
  unfold execSlotWriteDone
  refine KeepsIn.effect rfl ?_ ?_
  · exact .refl _ _
  · intro u1 hu1
    exact (State.slotWritten_keeps ..).step rfl hu1

theorem State.commitWrite_keeps (s : State) (r : CmdRef) (fs : Nat) : Keeps 17408 s (State.commitWrite s r fs) := by
  unfold State.commitWrite
  refine State.firmwareCmd_keeps rfl ?_ ?_
  · exact .refl _ _
  · intro u1 hu1
    refine Keeps.ite ?_ ?_
    · exact (State.commitChart_keeps ..).step rfl hu1
    · exact (State.commitImage_keeps ..).step rfl hu1

theorem execFirmwareCommitWriteActivate_keeps (ref : CmdRef) (fs : Nat) (s : State) : KeepsIn atNext 17424 s (execFirmwareCommitWriteActivate ref fs s) := by
  unfold execFirmwareCommitWriteActivate
  refine KeepsIn.effect rfl ?_ ?_
  · exact .refl _ _
  · intro u1 hu1
    refine State.firmwareCmd_keeps rfl ?_ ?_
    · exact hu1
    · intro u2 hu2
      refine Keeps.ite ?_ ?_
      · exact (State.finish_keeps ..).step rfl hu2
      · exact (State.commitImage_keeps ..).step rfl hu2

theorem execFirmwareCommitActivate_keeps (ref : CmdRef) (dw10 : Nat) (s : State) : KeepsIn atNext 19857 s (execFirmwareCommitActivate ref dw10 s) := by
  unfold execFirmwareCommitActivate
  refine KeepsIn.effect rfl ?_ ?_
  · exact .refl _ _
  · intro u1 hu1
    refine State.firmwareCmd_keeps rfl ?_ ?_
    · exact hu1
    · intro u2 hu2
      exact (State.commitActivate_keeps ..).step rfl hu2

theorem execFirmwareCommitChart_keeps (ref : CmdRef) (fs : Nat) (s : State) : KeepsIn atNext 17424 s (execFirmwareCommitChart ref fs s) := by
  unfold execFirmwareCommitChart
  refine KeepsIn.effect rfl ?_ ?_
  · exact .refl _ _
  · intro u1 hu1
    exact (State.commitWrite_keeps ..).step rfl hu1

theorem execFirmwareCommitWrite_keeps (ref : CmdRef) (fs : Nat) (s : State) : KeepsIn atNext 17424 s (execFirmwareCommitWrite ref fs s) := by
  unfold execFirmwareCommitWrite
  refine KeepsIn.effect rfl ?_ ?_
  · exact .refl _ _
  · intro u1 hu1
    exact (State.commitWrite_keeps ..).step rfl hu1

end Sys2Proof.Machine
end

