-- ==== Sys2Proof/Laws/KeepsDusk.lean ====
section
/-! SUPPORT. What each operation of Machine/Dusk.lean keeps (Laws/Frame.lean). -/

namespace Sys2Proof.Machine

theorem execApstTransition_keeps (owner : Nat) (ps : Nat) (s : State) : KeepsIn atNext 2064 s (execApstTransition owner ps s) := by
  unfold execApstTransition
  refine KeepsIn.effect rfl ?_ ?_
  · exact .refl _ _
  · intro u1 hu1
    refine Keeps.ite ?_ ?_
    · exact (State.requestPs_keeps ..).step rfl hu1
    · exact hu1

theorem execDuskDataDone_keeps (lost : List Nat) (s : State) : KeepsIn atNext 131088 s (execDuskDataDone lost s) := by
  unfold execDuskDataDone
  refine KeepsIn.effect rfl ?_ ?_
  · exact .refl _ _
  · intro u1 hu1
    refine Keeps.ite ?_ ?_
    · exact (State.updWp_keeps ..).step rfl hu1
    · exact hu1

theorem execDeviceWatchdogHalf_keeps (s : State) : KeepsIn atNext 2449 s (execDeviceWatchdogHalf s) := by
  unfold execDeviceWatchdogHalf
  refine KeepsIn.effect rfl ?_ ?_
  · exact .refl _ _
  · intro u1 hu1
    refine Keeps.ite ?_ ?_
    · exact (State.event_keeps ..).step rfl ((State.wr_keeps ..).step rfl ((State.set_keeps ..).step rfl hu1))
    · exact hu1

theorem State.devKick_keeps (s : State) (a : Agent) (key : Nat) : Keeps 17 s (State.devKick s a key) := by
  unfold State.devKick
  split
  · refine Keeps.ite ?_ ?_
    · exact (State.emit_keeps ..).step rfl ((State.wr_keeps ..).step rfl (.refl _ _))
    · exact .refl _ _
  · exact .refl _ _

theorem execHoldupOkRise_keeps (s : State) : KeepsIn atNext 16400 s (execHoldupOkRise s) := by
  unfold execHoldupOkRise
  refine KeepsIn.effect rfl ?_ ?_
  · exact .refl _ _
  · intro u1 hu1
    exact (State.updBoot_keeps ..).step rfl hu1

theorem execWdtDevKick_keeps (a : Agent) (key : Nat) (s : State) : KeepsIn atNext 17 s (execWdtDevKick a key s) := by
  unfold execWdtDevKick
  refine KeepsIn.effect rfl ?_ ?_
  · exact .refl _ _
  · intro u1 hu1
    exact (State.devKick_keeps ..).step rfl hu1

theorem execPwrLossNDeassert_keeps (s : State) : KeepsIn atNext 234872209 s (execPwrLossNDeassert s) := by
  unfold execPwrLossNDeassert
  refine KeepsIn.effect rfl ?_ ?_
  · exact .refl _ _
  · intro u1 hu1
    extract_lets l2
    have kl2 : Keeps 234872209 s l2 := (State.updBoot_keeps ..).step rfl hu1
    refine Keeps.ite ?_ ?_
    · exact (State.askWarm_keeps ..).step rfl kl2
    · exact kl2

theorem execMemberWakeTimeout_keeps (d : Nat) (s : State) : KeepsIn atNext 138386833 s (execMemberWakeTimeout d s) := by
  unfold execMemberWakeTimeout
  refine KeepsIn.effect rfl ?_ ?_
  · exact .refl _ _
  · intro u1 hu1
    refine Keeps.ite ?_ ?_
    · refine Keeps.ite ?_ ?_
      · exact (State.memberTrained_keeps ..).step rfl hu1
      · exact (State.isolate_keeps ..).step rfl hu1
    · exact hu1

theorem State.holdupFalls_keeps (s : State) : Keeps 149905 s (State.holdupFalls s) := by
  unfold State.holdupFalls
  extract_lets l1
  have kl1 : Keeps 149905 s l1 := (State.updBoot_keeps ..).step rfl (.refl _ _)
  refine Keeps.ite ?_ ?_
  · exact (State.event_keeps ..).step rfl ((State.updWp_keeps ..).step rfl kl1)
  · exact kl1

theorem execHoldupOkFall_keeps (s : State) : KeepsIn atNext 149905 s (execHoldupOkFall s) := by
  unfold execHoldupOkFall
  refine KeepsIn.effect rfl ?_ ?_
  · exact .refl _ _
  · intro u1 hu1
    exact (State.holdupFalls_keeps ..).step rfl hu1

theorem State.bootExpires_keeps (s : State) : Keeps 234872209 s (State.bootExpires s) := by
  unfold State.bootExpires
  refine Keeps.ite ?_ ?_
  · exact .refl _ _
  · extract_lets l1 l2 l3
    have kl3 : Keeps 234872209 s l3 := by
      unfold l3
      refine Keeps.ite ?_ ?_
      · exact .refl _ _
      · exact (State.wr_keeps ..).step rfl (.refl _ _)
    exact (State.askWarm_keeps ..).step rfl ((State.event_keeps ..).step rfl ((State.set_keeps ..).step rfl kl3))

theorem State.coreExpires_keeps (s : State) (core : Nat) : Keeps 234872209 s (State.coreExpires s core) := by
  unfold State.coreExpires
  refine Keeps.ite ?_ ?_
  · exact .refl _ _
  · extract_lets l1 l2 l3 l4
    have kl3 : Keeps 234872209 s l3 := (State.wr_keeps ..).step rfl (.refl _ _)
    have kl4 : Keeps 234872209 s l4 := (State.event_keeps ..).step rfl ((State.updBoot_keeps ..).step rfl kl3)
    refine Keeps.ite ?_ ?_
    · exact (State.askWarm_keeps ..).step rfl kl4
    · exact kl4

theorem execDuskQuiesceDone_keeps (s : State) : KeepsIn atNext 131088 s (execDuskQuiesceDone s) := by
  unfold execDuskQuiesceDone
  refine KeepsIn.effect rfl ?_ ?_
  · exact .refl _ _
  · intro u1 hu1
    refine Keeps.ite ?_ ?_
    · exact (State.updWp_keeps ..).step rfl hu1
    · exact hu1

theorem State.coreKick_keeps (s : State) (a : Agent) (key : Nat) : Keeps 16 s (State.coreKick s a key) := by
  unfold State.coreKick
  split
  · refine Keeps.ite ?_ ?_
    · exact (State.emit_keeps ..).step rfl (.refl _ _)
    · exact .refl _ _
  · exact .refl _ _

theorem State.suspendErases_keeps (s : State) : Keeps 524289 s (State.suspendErases s) := by
  unfold State.suspendErases
  refine Keeps.each ?_ ?_
  · exact .refl _ _
  · intro u1 _ hu1
    split
    · refine Keeps.ite ?_ ?_
      · exact (State.startSuspend_keeps ..).step rfl hu1
      · exact hu1
    · exact hu1

theorem execDeviceWatchdogExpiry_keeps (s : State) : KeepsIn atNext 234872209 s (execDeviceWatchdogExpiry s) := by
  unfold execDeviceWatchdogExpiry
  refine KeepsIn.effect rfl ?_ ?_
  · exact .refl _ _
  · intro u1 hu1
    refine Keeps.ite ?_ ?_
    · exact (State.askWarm_keeps ..).step rfl ((State.event_keeps ..).step rfl ((State.wr_keeps ..).step rfl ((State.set_keeps ..).step rfl hu1)))
    · exact hu1

theorem State.domainIn_keeps (s : State) (m : Nat) (d : Nat) : Keeps 4096 s (State.domainIn s m d) := by
  unfold State.domainIn
  extract_lets l1 l2
  refine Keeps.ite ?_ ?_
  · exact .refl _ _
  · refine Keeps.ite ?_ ?_
    · exact (State.toOff_keeps ..).step rfl (.refl _ _)
    · refine Keeps.ite ?_ ?_
      · exact (State.toRetain_keeps ..).step rfl (.refl _ _)
      · exact .refl _ _

theorem State.duskDone_keeps (s : State) (tenUs : Nat) : Keeps 234872209 s (State.duskDone s tenUs) := by
  unfold State.duskDone
  refine Keeps.ite ?_ ?_
  · exact .refl _ _
  · extract_lets l1 l2 l3 l4
    have kl3 : Keeps 234872209 s l3 := (State.updWp_keeps ..).step rfl ((State.drainToFlash_keeps ..).step rfl (.refl _ _))
    have kl4 : Keeps 234872209 s l4 := (State.event_keeps ..).step rfl ((State.duskRegs_keeps ..).step rfl kl3)
    refine Keeps.ite ?_ ?_
    · exact (State.askWarm_keeps ..).step rfl kl4
    · exact kl4

theorem State.duskStart_keeps (s : State) : Keeps 87997841 s (State.duskStart s) := by
  unfold State.duskStart
  extract_lets l1 l2 l3 l5 l6 l7 l8
  have kl1 : Keeps 87997841 s l1 := (State.event_keeps ..).step rfl ((State.updWp_keeps ..).step rfl (.refl _ _))
  have kl2 : Keeps 87997841 s l2 := by
    unfold l2
    refine Keeps.ite ?_ ?_
    · exact (State.updChart_keeps ..).step rfl kl1
    · exact kl1
  have kl3 : Keeps 87997841 s l3 := by
    unfold l3
    refine Keeps.each ?_ ?_
    · exact kl2
    · intro u4 _ hu4
      exact (State.wake_keeps ..).step rfl hu4
  have kl5 : Keeps 87997841 s l5 := (State.suspendErases_keeps ..).step rfl kl3
  have kl8 : Keeps 87997841 s l8 := (State.dropWrite_keeps ..).step rfl kl5
  exact (State.endInFlight_keeps ..).step rfl kl8

theorem execBootWatchdogExpiry_keeps (s : State) : KeepsIn atNext 234872209 s (execBootWatchdogExpiry s) := by
  unfold execBootWatchdogExpiry
  refine KeepsIn.effect rfl ?_ ?_
  · exact .refl _ _
  · intro u1 hu1
    exact (State.bootExpires_keeps ..).step rfl hu1

theorem execDuskRecordWritten_keeps (tenUs : Nat) (s : State) : KeepsIn atNext 234872209 s (execDuskRecordWritten tenUs s) := by
  unfold execDuskRecordWritten
  refine KeepsIn.effect rfl ?_ ?_
  · exact .refl _ _
  · intro u1 hu1
    exact (State.duskDone_keeps ..).step rfl hu1

theorem execWdtCoreKick_keeps (a : Agent) (key : Nat) (s : State) : KeepsIn atNext 16 s (execWdtCoreKick a key s) := by
  unfold execWdtCoreKick
  refine KeepsIn.effect rfl ?_ ?_
  · exact .refl _ _
  · intro u1 hu1
    exact (State.coreKick_keeps ..).step rfl hu1

theorem execCoreWatchdogExpiry_keeps (core : Nat) (s : State) : KeepsIn atNext 234872209 s (execCoreWatchdogExpiry core s) := by
  unfold execCoreWatchdogExpiry
  refine KeepsIn.effect rfl ?_ ?_
  · exact .refl _ _
  · intro u1 hu1
    exact (State.coreExpires_keeps ..).step rfl hu1

theorem State.enterPs_keeps (s : State) (m : Nat) : Keeps 1056209 s (State.enterPs s m) := by
  unfold State.enterPs
  extract_lets l1 l3 l5 l6 l7 l8
  have kl1 : Keeps 1056209 s l1 := by
    unfold l1
    refine Keeps.ite ?_ ?_
    · refine Keeps.each ?_ ?_
      · exact .refl _ _
      · intro u2 _ hu2
        exact (State.netDown_keeps ..).step rfl hu2
    · exact .refl _ _
  have kl3 : Keeps 1056209 s l3 := by
    unfold l3
    refine Keeps.each ?_ ?_
    · exact kl1
    · intro u4 _ hu4
      exact (State.domainIn_keeps ..).step rfl hu4
  have kl5 : Keeps 1056209 s l5 := (State.wr_keeps ..).step rfl kl3
  have kl6 : Keeps 1056209 s l6 := by
    unfold l6
    refine Keeps.ite ?_ ?_
    · exact kl5
    · exact (State.wr_keeps ..).step rfl ((State.wr_keeps ..).step rfl kl5)
  have kl7 : Keeps 1056209 s l7 := by
    unfold l7
    refine Keeps.ite ?_ ?_
    · exact (State.wr_keeps ..).step rfl kl6
    · exact kl6
  exact (State.psReached_keeps ..).step rfl (Keeps.set_power rfl kl7)

theorem execPwrLossNAssert_keeps (s : State) : KeepsIn atNext 88014225 s (execPwrLossNAssert s) := by
  unfold execPwrLossNAssert
  refine KeepsIn.effect rfl ?_ ?_
  · exact .refl _ _
  · intro u1 hu1
    extract_lets l2
    have kl2 : Keeps 88014225 s l2 := (State.updBoot_keeps ..).step rfl hu1
    refine Keeps.ite ?_ ?_
    · exact kl2
    · refine Keeps.ite ?_ ?_
      · exact (State.duskStart_keeps ..).step rfl kl2
      · exact (State.event_keeps ..).step rfl kl2

theorem State.idleExpires_keeps (s : State) (n : Nat) : Keeps 1056209 s (State.idleExpires s n) := by
  unfold State.idleExpires
  refine Keeps.ite ?_ ?_
  · exact .refl _ _
  · refine Keeps.ite ?_ ?_
    · exact (State.enterPs_keeps ..).step rfl (.refl _ _)
    · split
      · exact (State.enterPs_keeps ..).step rfl (.refl _ _)
      · exact .refl _ _

theorem execIdleTimerExpiry_keeps (n : Nat) (s : State) : KeepsIn atNext 1056209 s (execIdleTimerExpiry n s) := by
  unfold execIdleTimerExpiry
  refine KeepsIn.effect rfl ?_ ?_
  · exact .refl _ _
  · intro u1 hu1
    exact (State.idleExpires_keeps ..).step rfl hu1

end Sys2Proof.Machine
end

