-- ==== Sys2Proof/Laws/KeepsRegisters.lean ====
section
/-! SUPPORT. What each operation of Machine/Registers.lean keeps (Laws/Frame.lean). -/

namespace Sys2Proof.Machine

theorem State.writeField_keeps (s : State) (a : Nat) (v : Nat) (f : Field) : Keeps 1 s (State.writeField s a v f) := by
  unfold State.writeField
  extract_lets l1 l2
  split
  · exact .refl _ _
  · exact .refl _ _
  · exact (State.wr_keeps ..).step rfl (.refl _ _)
  · refine Keeps.ite ?_ ?_
    · exact (State.wr_keeps ..).step rfl (.refl _ _)
    · exact .refl _ _

theorem State.bootCtrlWrite_keeps (s : State) (v : Nat) : Keeps 268426641 s (State.bootCtrlWrite s v) := by
  unfold State.bootCtrlWrite
  refine State.unlocked_keeps rfl ?_ ?_
  · exact .refl _ _
  · intro u1 hu1
    extract_lets l2
    have kl2 : Keeps 268426641 s l2 := by
      unfold l2
      refine Keeps.ite ?_ ?_
      · exact (State.fillGo_keeps ..).step rfl hu1
      · exact hu1
    refine Keeps.ite ?_ ?_
    · exact (State.askWarm_keeps ..).step rfl kl2
    · exact kl2

theorem State.flashCfgWrite_keeps (s : State) (v : Nat) : Keeps 1 s (State.flashCfgWrite s v) := by
  unfold State.flashCfgWrite
  extract_lets l1
  have kl1 : Keeps 1 s l1 := (State.writeField_keeps ..).step rfl (.refl _ _)
  refine Keeps.ite ?_ ?_
  · exact (State.writeField_keeps ..).step rfl kl1
  · exact kl1

theorem State.clearOther_keeps (s : State) (b : Nat) (i : Nat) (same : Nat) : Keeps 50856065 s (State.clearOther s b i same) := by
  unfold State.clearOther
  extract_lets l1 l2 l3 l4 l5 l6 l7
  have kl3 : ∀ v0, Keeps 50856065 s (l3 v0) := by
    unfold l3
    intro _
    refine Keeps.ite ?_ ?_
    · exact (State.modLedger_keeps ..).step rfl (.refl _ _)
    · exact .refl _ _
  clear_value l3
  refine Keeps.ite ?_ ?_
  · exact (State.wr_keeps ..).step rfl (.refl _ _)
  · refine Keeps.ite ?_ ?_
    · exact (State.updCell_keeps ..).step rfl (.refl _ _)
    · refine Keeps.ite ?_ ?_
      · exact Keeps.set_evt rfl (.refl _ _)
      · refine Keeps.ite ?_ ?_
        · exact kl3 _
        · refine Keeps.ite ?_ ?_
          · exact kl3 _
          · refine Keeps.ite ?_ ?_
            · exact kl3 _
            · refine Keeps.ite ?_ ?_
              · exact kl3 _
              · refine Keeps.ite ?_ ?_
                · exact (State.updDram_keeps ..).step rfl (.refl _ _)
                · exact .refl _ _

theorem State.dbgWrite_keeps (s : State) (v : Nat) : Keeps 142597553 s (State.dbgWrite s v) := by
  unfold State.dbgWrite
  refine State.unlocked_keeps rfl ?_ ?_
  · exact .refl _ _
  · intro u1 hu1
    refine Keeps.ite ?_ ?_
    · exact (State.debugLock_keeps ..).step rfl hu1
    · refine Keeps.ite ?_ ?_
      · exact (State.debugGo_keeps ..).step rfl hu1
      · exact hu1

theorem State.routeWrite_keeps (s : State) (n : Nat) (v : Nat) : Keeps 1 s (State.routeWrite s n v) := by
  unfold State.routeWrite
  extract_lets l1
  have kl1 : Keeps 1 s l1 := (State.wr_keeps ..).step rfl ((State.wr_keeps ..).step rfl (.refl _ _))
  exact (State.wr_keeps ..).step rfl kl1

theorem State.nsLimitWrite_keeps (s : State) (v : Nat) : Keeps 32768 s (State.nsLimitWrite s v) := by
  unfold State.nsLimitWrite
  extract_lets l1 l2 l3
  split
  · exact .refl _ _
  · extract_lets l4
    exact (State.modNs_keeps ..).step rfl (.refl _ _)

theorem State.heldField_keeps (s : State) (f : Field) (x : Nat) (ok : Nat → Bool) : KeepsIn atSnd 1 s (State.heldField s f x ok) := by
  unfold State.heldField
  refine KeepsIn.ite ?_ ?_
  · exact KeepsIn.leafSnd ((State.wr_keeps ..).step rfl (.refl _ _))
  · exact KeepsIn.leafSnd (.refl _ _)

theorem State.clearField_keeps (s : State) (a : Nat) (same : Nat) (f : Field) : Keeps 1 s (State.clearField s a same f) := by
  unfold State.clearField
  refine Keeps.ite ?_ ?_
  · exact (State.wr_keeps ..).step rfl (.refl _ _)
  · exact .refl _ _

theorem State.otpCtrlWrite_keeps (s : State) (v : Nat) : Keeps 16417 s (State.otpCtrlWrite s v) := by
  unfold State.otpCtrlWrite
  refine State.unlocked_keeps rfl ?_ ?_
  · exact .refl _ _
  · intro u1 hu1
    refine Keeps.ite ?_ ?_
    · exact (State.otpProgram_keeps ..).step rfl hu1
    · exact hu1

/-- A meaning run by an access of the window keeps what it keeps. -/
theorem State.via_keeps {n₀ : Nat} {s₀ : State} {s : State} {f : State → Host.Outcome State Fault Refusal} (hm : 16 ||| n₀ = n₀)
    (h₀ : Keeps n₀ s₀ s) (hf : ∀ u, Keeps n₀ s₀ u → KeepsIn atNext n₀ s₀ (f u)) : Keeps n₀ s₀ (State.via s f) := by
  unfold State.via
  split
  · rename_i t e
    exact Keeps.set_out hm ((hf s h₀).get (congrArg atNext e))
  · exact h₀

theorem State.doorbellWrite_keeps (s : State) (m : Nat) (v : Nat) : Keeps 2961 s (State.doorbellWrite s m v) := by
  unfold State.doorbellWrite
  extract_lets l1 l2
  have kl1 : Keeps 2961 s l1 := by
    unfold l1
    refine Keeps.ite ?_ ?_
    · exact (State.mbxRing_keeps ..).step rfl (.refl _ _)
    · exact .refl _ _
  have kl2 : Keeps 2961 s l2 := by
    unfold l2
    refine Keeps.ite ?_ ?_
    · exact (State.mbxReply_keeps ..).step rfl kl1
    · exact kl1
  refine Keeps.ite ?_ ?_
  · exact (State.mbxFlush_keeps ..).step rfl kl2
  · exact kl2

theorem State.readReg_keeps (s : State) (a : Nat) (same : Nat) : Keeps 50858899 s (State.readReg s a same) := by
  unfold State.readReg
  split
  · exact (State.returns_keeps ..).step rfl (.refl _ _)
  · extract_lets l1 l2 l3 l4 l5
    have kl4 : Keeps 50858899 s l4 := by
      unfold l4
      refine Keeps.ite ?_ ?_
      · exact Keeps.set_latch rfl (.refl _ _)
      · exact .refl _ _
    have kl5 : Keeps 50858899 s l5 := by
      unfold l5
      refine Keeps.each ?_ ?_
      · exact kl4
      · intro u6 _ hu6
        exact (State.clearField_keeps ..).step rfl hu6
    refine Keeps.ite ?_ ?_
    · exact (State.mbxLockRead_keeps ..).step rfl (.refl _ _)
    · refine Keeps.ite ?_ ?_
      · exact (State.mbxRecv_keeps ..).step rfl (.refl _ _)
      · refine Keeps.ite ?_ ?_
        · exact (State.mbxReplyRecv_keeps ..).step rfl (.refl _ _)
        · refine Keeps.ite ?_ ?_
          · exact (State.returns_keeps ..).step rfl (.refl _ _)
          · exact (State.returns_keeps ..).step rfl ((State.clearOther_keeps ..).step rfl kl5)

theorem State.recCtrlWrite_keeps (s : State) (v : Nat) : Keeps 18865 s (State.recCtrlWrite s v) := by
  unfold State.recCtrlWrite
  extract_lets l1 l2
  refine Keeps.ite ?_ ?_
  · exact (State.recLoad_keeps ..).step rfl ((State.nextFree_keeps ..).step rfl (.refl _ _))
  · refine State.unlocked_keeps rfl ?_ ?_
    · exact .refl _ _
    · intro u3 hu3
      exact hu3

theorem State.pfcWrite_keeps (s : State) (p : Nat) (v : Nat) : Keeps 1 s (State.pfcWrite s p v) := by
  unfold State.pfcWrite
  extract_lets l1 l2
  have kl1 : Keeps 1 s l1 := (State.wr_keeps ..).step rfl (.refl _ _)
  have kl2 : Keeps 1 s l2 := by
    unfold l2
    refine Keeps.ite ?_ ?_
    · exact (State.wr_keeps ..).step rfl kl1
    · exact kl1
  refine Keeps.ite ?_ ?_
  · exact (State.wr_keeps ..).step rfl kl2
  · exact kl2

theorem State.threshWrite_keeps (s : State) (first : Bool) (v : Nat) : Keeps 2449 s (State.threshWrite s first v) := by
  unfold State.threshWrite
  extract_lets l1 l2 l3
  have kl3 : Keeps 2449 s l3 := (State.wr_keeps ..).step rfl ((State.wr_keeps ..).step rfl ((State.wr_keeps ..).step rfl (.refl _ _)))
  refine Keeps.ite ?_ ?_
  · exact (State.wr_keeps ..).step rfl ((State.wr_keeps ..).step rfl kl3)
  · exact (State.event_keeps ..).step rfl (.refl _ _)

theorem State.pairCtrlWrite_keeps (s : State) (v : Nat) : Keeps 150965681 s (State.pairCtrlWrite s v) := by
  unfold State.pairCtrlWrite
  refine State.unlocked_keeps rfl ?_ ?_
  · exact .refl _ _
  · intro u1 hu1
    split
    · rename_i p2 p3 e4
      have kp3 : Keeps 150965681 s p3 := by
        refine KeepsIn.get ?_ (congrArg atSnd e4)
        exact (State.heldField_keeps ..).step rfl hu1
      refine Keeps.ite ?_ ?_
      · exact (State.yield_keeps ..).step rfl kp3
      · refine Keeps.ite ?_ ?_
        · exact (State.survive_keeps ..).step rfl kp3
        · exact kp3

theorem State.testCtrlWrite_keeps (s : State) (v : Nat) : Keeps 100665745 s (State.testCtrlWrite s v) := by
  unfold State.testCtrlWrite
  extract_lets l1
  refine State.unlocked_keeps rfl ?_ ?_
  · exact .refl _ _
  · intro u2 hu2
    split
    · rename_i p3 p4 e5
      have kp4 : Keeps 100665745 s p4 := by
        refine KeepsIn.get ?_ (congrArg atSnd e5)
        exact (State.heldField_keeps ..).step rfl hu2
      split
      · rename_i p6 p7 e8
        have kp7 : Keeps 100665745 s p7 := by
          refine KeepsIn.get ?_ (congrArg atSnd e8)
          exact (State.heldField_keeps ..).step rfl kp4
        refine Keeps.ite ?_ ?_
        · refine State.via_keeps rfl ?_ ?_
          · exact kp7
          · intro u9 hu9
            exact (execReadRaw_keeps ..).step rfl hu9
        · refine Keeps.ite ?_ ?_
          · refine State.via_keeps rfl ?_ ?_
            · exact kp7
            · intro u10 hu10
              exact (execWriteRaw_keeps ..).step rfl hu10
          · refine Keeps.ite ?_ ?_
            · refine State.via_keeps rfl ?_ ?_
              · exact kp7
              · intro u11 hu11
                exact (execEccTestWrite_keeps ..).step rfl hu11
            · exact kp7

theorem State.enduranceWrite_keeps (s : State) (v : Nat) : Keeps 98304 s (State.enduranceWrite s v) := by
  unfold State.enduranceWrite
  extract_lets l1
  refine Keeps.ite ?_ ?_
  · exact (State.persist_keeps ..).step rfl (.refl _ _)
  · exact .refl _ _

theorem State.bootCfgWrite_keeps (s : State) (v : Nat) : Keeps 1 s (State.bootCfgWrite s v) := by
  unfold State.bootCfgWrite
  extract_lets l1
  have kl1 : Keeps 1 s l1 := (State.writeField_keeps ..).step rfl (.refl _ _)
  refine Keeps.ite ?_ ?_
  · exact (State.wr_keeps ..).step rfl kl1
  · exact kl1

theorem State.chartWrite_keeps (s : State) (v : Nat) : Keeps 87566801 s (State.chartWrite s v) := by
  unfold State.chartWrite
  extract_lets l1 l2 l3
  refine Keeps.ite ?_ ?_
  · exact (State.chartCtrl_keeps ..).step rfl (.refl _ _)
  · refine Keeps.ite ?_ ?_
    · exact (State.chartCtrl_keeps ..).step rfl (.refl _ _)
    · exact .refl _ _

theorem State.pfWeightWrite_keeps (s : State) (l : Nat) (v : Nat) : Keeps 1025 s (State.pfWeightWrite s l v) := by
  unfold State.pfWeightWrite
  extract_lets l1
  exact (State.updQ_keeps ..).step rfl ((State.wr_keeps ..).step rfl (.refl _ _))

theorem State.mbxStatusWrite_keeps (s : State) (m : Nat) (v : Nat) : Keeps 512 s (State.mbxStatusWrite s m v) := by
  unfold State.mbxStatusWrite
  exact (State.modMbx_keeps ..).step rfl (.refl _ _)

theorem State.writePlain_keeps (s : State) (a : Nat) (v : Nat) : Keeps 2449 s (State.writePlain s a v) := by
  unfold State.writePlain
  extract_lets l1 l2 l3
  have kl3 : Keeps 2449 s l3 := by
    unfold l3
    refine Keeps.each ?_ ?_
    · exact .refl _ _
    · intro u4 _ hu4
      exact (State.writeField_keeps ..).step rfl hu4
  refine Keeps.ite ?_ ?_
  · exact (State.event_keeps ..).step rfl kl3
  · exact kl3

theorem State.sqpCtrlWrite_keeps (s : State) (v : Nat) : Keeps 87559569 s (State.sqpCtrlWrite s v) := by
  unfold State.sqpCtrlWrite
  split
  · rename_i p1 p2 e3
    have kp2 : Keeps 87559569 s p2 := by
      refine KeepsIn.get ?_ (congrArg atSnd e3)
      exact (State.heldField_keeps ..).step rfl (.refl _ _)
    refine Keeps.ite ?_ ?_
    · exact kp2
    · refine Keeps.ite ?_ ?_
      · exact (State.sqpConnect_keeps ..).step rfl kp2
      · refine Keeps.ite ?_ ?_
        · exact (State.sqpDestroy_keeps ..).step rfl kp2
        · exact kp2

theorem State.serveCtrlWrite_keeps (s : State) (v : Nat) : Keeps 2099601 s (State.serveCtrlWrite s v) := by
  unfold State.serveCtrlWrite
  split
  · rename_i p1 p2 e3
    have kp2 : Keeps 2099601 s p2 := by
      refine KeepsIn.get ?_ (congrArg atSnd e3)
      exact (State.heldField_keeps ..).step rfl (.refl _ _)
    refine Keeps.ite ?_ ?_
    · exact kp2
    · refine Keeps.ite ?_ ?_
      · refine State.via_keeps rfl ?_ ?_
        · exact kp2
        · intro u4 hu4
          exact (execServeSlotLoad_keeps ..).step rfl hu4
      · refine Keeps.ite ?_ ?_
        · refine State.via_keeps rfl ?_ ?_
          · exact kp2
          · intro u5 hu5
            exact (execServeSlotClear_keeps ..).step rfl hu5
        · exact kp2

theorem State.ctlLow_keeps (s : State) (b : Nat) (i : Nat) (v : Nat) : KeepsIn atOpt 268435441 s (State.ctlLow s b i v) := by
  unfold State.ctlLow
  refine KeepsIn.ite ?_ ?_
  · exact KeepsIn.leafOpt ((State.chartWrite_keeps ..).step rfl (.refl _ _))
  · refine KeepsIn.ite ?_ ?_
    · exact KeepsIn.leafOpt ((State.vpWrite_keeps ..).step rfl (.refl _ _))
    · refine KeepsIn.ite ?_ ?_
      · exact KeepsIn.leafOpt ((State.clkWrite_keeps ..).step rfl (.refl _ _))
      · refine KeepsIn.ite ?_ ?_
        · exact KeepsIn.leafOpt ((State.threshWrite_keeps ..).step rfl (.refl _ _))
        · refine KeepsIn.ite ?_ ?_
          · exact KeepsIn.leafOpt ((State.threshWrite_keeps ..).step rfl (.refl _ _))
          · refine KeepsIn.ite ?_ ?_
            · exact KeepsIn.leafOpt ((State.flashCfgWrite_keeps ..).step rfl (.refl _ _))
            · refine KeepsIn.ite ?_ ?_
              · exact KeepsIn.leafOpt ((State.evtPendingClear_keeps ..).step rfl (.refl _ _))
              · refine KeepsIn.ite ?_ ?_
                · exact KeepsIn.leafOpt ((State.routeWrite_keeps ..).step rfl (.refl _ _))
                · refine KeepsIn.ite ?_ ?_
                  · exact KeepsIn.leafOpt ((State.mbxRelease_keeps ..).step rfl (.refl _ _))
                  · refine KeepsIn.ite ?_ ?_
                    · exact KeepsIn.leafOpt ((State.mbxSend_keeps ..).step rfl (.refl _ _))
                    · refine KeepsIn.ite ?_ ?_
                      · exact KeepsIn.leafOpt ((State.mbxReplySend_keeps ..).step rfl (.refl _ _))
                      · refine KeepsIn.ite ?_ ?_
                        · exact KeepsIn.leafOpt ((State.doorbellWrite_keeps ..).step rfl (.refl _ _))
                        · refine KeepsIn.ite ?_ ?_
                          · exact KeepsIn.leafOpt ((State.mbxStatusWrite_keeps ..).step rfl (.refl _ _))
                          · refine KeepsIn.ite ?_ ?_
                            · refine KeepsIn.leafOpt ?_
                              refine Keeps.ite ?_ ?_
                              · exact (State.mbxBreak_keeps ..).step rfl (.refl _ _)
                              · refine State.unlocked_keeps rfl ?_ ?_
                                · exact .refl _ _
                                · intro u1 hu1
                                  exact hu1
                            · refine KeepsIn.ite ?_ ?_
                              · exact KeepsIn.leafOpt ((State.almListWrite_keeps ..).step rfl (.refl _ _))
                              · refine KeepsIn.ite ?_ ?_
                                · exact KeepsIn.leafOpt ((State.bootCfgWrite_keeps ..).step rfl (.refl _ _))
                                · refine KeepsIn.ite ?_ ?_
                                  · exact KeepsIn.leafOpt ((State.devKick_keeps ..).step rfl (.refl _ _))
                                  · refine KeepsIn.ite ?_ ?_
                                    · exact KeepsIn.leafOpt ((State.coreKick_keeps ..).step rfl (.refl _ _))
                                    · refine KeepsIn.ite ?_ ?_
                                      · exact KeepsIn.leafOpt ((State.bootCtrlWrite_keeps ..).step rfl (.refl _ _))
                                      · refine KeepsIn.ite ?_ ?_
                                        · exact KeepsIn.leafOpt ((State.recCtrlWrite_keeps ..).step rfl (.refl _ _))
                                        · exact KeepsIn.none rfl

theorem State.memberCtrlWrite_keeps (s : State) (v : Nat) : Keeps 138386833 s (State.memberCtrlWrite s v) := by
  unfold State.memberCtrlWrite
  extract_lets l1 l2
  refine State.unlocked_keeps rfl ?_ ?_
  · exact .refl _ _
  · intro u3 hu3
    split
    · rename_i p4 p5 e6
      have kp5 : Keeps 138386833 s p5 := by
        refine KeepsIn.get ?_ (congrArg atSnd e6)
        exact (State.heldField_keeps ..).step rfl hu3
      refine Keeps.ite ?_ ?_
      · exact (State.memberFail_keeps ..).step rfl kp5
      · refine Keeps.ite ?_ ?_
        · exact (State.memberInsert_keeps ..).step rfl kp5
        · exact kp5

theorem State.eclCtrlWrite_keeps (s : State) (t : Nat) (v : Nat) : Keeps 234872209 s (State.eclCtrlWrite s t v) := by
  unfold State.eclCtrlWrite
  split
  · rename_i p1 p2 e3
    have kp2 : Keeps 234872209 s p2 := by
      refine KeepsIn.get ?_ (congrArg atSnd e3)
      exact (State.heldField_keeps ..).step rfl (.refl _ _)
    refine Keeps.ite ?_ ?_
    · exact kp2
    · refine Keeps.ite ?_ ?_
      · refine State.via_keeps rfl ?_ ?_
        · exact kp2
        · intro u4 hu4
          exact (execEclipse_keeps ..).step rfl hu4
      · refine Keeps.ite ?_ ?_
        · refine State.via_keeps rfl ?_ ?_
          · exact kp2
          · intro u5 hu5
            exact (execResume_keeps ..).step rfl hu5
        · refine Keeps.ite ?_ ?_
          · refine State.via_keeps rfl ?_ ?_
            · exact kp2
            · intro u6 hu6
              exact (execRestore_keeps ..).step rfl hu6
          · refine Keeps.ite ?_ ?_
            · refine State.via_keeps rfl ?_ ?_
              · exact kp2
              · intro u7 hu7
                exact (execRelease_keeps ..).step rfl hu7
            · exact kp2

theorem State.ctlMid_keeps (s : State) (b : Nat) (i : Nat) (v : Nat) : KeepsIn atOpt 234872209 s (State.ctlMid s b i v) := by
  unfold State.ctlMid
  refine KeepsIn.ite ?_ ?_
  · exact KeepsIn.leafOpt ((State.pfWeightWrite_keeps ..).step rfl (.refl _ _))
  · refine KeepsIn.ite ?_ ?_
    · refine KeepsIn.leafOpt ?_
      refine Keeps.ite ?_ ?_
      · exact (State.qcountStart_keeps ..).step rfl (.refl _ _)
      · exact .refl _ _
    · refine KeepsIn.ite ?_ ?_
      · exact KeepsIn.leafOpt ((State.limitWrite_keeps ..).step rfl (.refl _ _))
      · refine KeepsIn.ite ?_ ?_
        · refine KeepsIn.leafOpt ?_
          refine State.via_keeps rfl ?_ ?_
          · exact .refl _ _
          · intro u1 hu1
            exact (execTenWeightWrite_keeps ..).step rfl hu1
        · refine KeepsIn.ite ?_ ?_
          · exact KeepsIn.leafOpt ((State.eclCtrlWrite_keeps ..).step rfl (.refl _ _))
          · refine KeepsIn.ite ?_ ?_
            · exact KeepsIn.leafOpt ((State.hotSizeWrite_keeps ..).step rfl (.refl _ _))
            · refine KeepsIn.ite ?_ ?_
              · exact KeepsIn.leafOpt ((State.nsAttrWrite_keeps ..).step rfl (.refl _ _))
              · refine KeepsIn.ite ?_ ?_
                · exact KeepsIn.leafOpt ((State.nsLimitWrite_keeps ..).step rfl (.refl _ _))
                · refine KeepsIn.ite ?_ ?_
                  · refine KeepsIn.leafOpt ?_
                    refine Keeps.ite ?_ ?_
                    · exact (State.set_keeps ..).step rfl (.refl _ _)
                    · exact .refl _ _
                  · refine KeepsIn.ite ?_ ?_
                    · refine KeepsIn.leafOpt ?_
                      refine Keeps.ite ?_ ?_
                      · exact (State.wpRelease_keeps ..).step rfl (.refl _ _)
                      · refine State.unlocked_keeps rfl ?_ ?_
                        · exact .refl _ _
                        · intro u2 hu2
                          exact hu2
                    · refine KeepsIn.ite ?_ ?_
                      · exact KeepsIn.leafOpt ((State.enduranceWrite_keeps ..).step rfl (.refl _ _))
                      · refine KeepsIn.ite ?_ ?_
                        · exact KeepsIn.leafOpt ((State.rawWrite_keeps ..).step rfl (.refl _ _))
                        · exact KeepsIn.none rfl

theorem State.slotCtrlWrite_keeps (s : State) (v : Nat) : Keeps 142577073 s (State.slotCtrlWrite s v) := by
  unfold State.slotCtrlWrite
  extract_lets l1 l2
  split
  · rename_i p3 p4 e5
    have kp4 : Keeps 142577073 s p4 := by
      refine KeepsIn.get ?_ (congrArg atSnd e5)
      exact (State.heldField_keeps ..).step rfl (.refl _ _)
    extract_lets l6
    have kl6 : Keeps 142577073 s l6 := by
      unfold l6
      refine KeepsIn.ofSnd ?_
      exact (State.heldField_keeps ..).step rfl kp4
    refine Keeps.ite ?_ ?_
    · exact kl6
    · refine Keeps.ite ?_ ?_
      · exact (State.keyLoad_keeps ..).step rfl kl6
      · refine Keeps.ite ?_ ?_
        · exact (State.keyGenerate_keeps ..).step rfl kl6
        · refine Keeps.ite ?_ ?_
          · exact (State.keyClear_keeps ..).step rfl kl6
          · exact kl6

theorem State.ctlHigh_keeps (s : State) (b : Nat) (i : Nat) (v : Nat) : KeepsIn atOpt 268426673 s (State.ctlHigh s b i v) := by
  unfold State.ctlHigh
  refine KeepsIn.ite ?_ ?_
  · exact KeepsIn.leafOpt ((State.memberCtrlWrite_keeps ..).step rfl (.refl _ _))
  · refine KeepsIn.ite ?_ ?_
    · exact KeepsIn.leafOpt ((State.modNs_keeps ..).step rfl (.refl _ _))
    · refine KeepsIn.ite ?_ ?_
      · refine KeepsIn.leafOpt ?_
        refine Keeps.ite ?_ ?_
        · exact .refl _ _
        · exact (State.wr_keeps ..).step rfl (.refl _ _)
      · refine KeepsIn.ite ?_ ?_
        · refine KeepsIn.leafOpt ?_
          refine Keeps.ite ?_ ?_
          · exact (State.hashApply_keeps ..).step rfl (.refl _ _)
          · exact .refl _ _
        · refine KeepsIn.ite ?_ ?_
          · refine KeepsIn.leafOpt ?_
            refine Keeps.ite ?_ ?_
            · exact (State.fillStart_keeps ..).step rfl (.refl _ _)
            · exact .refl _ _
          · refine KeepsIn.ite ?_ ?_
            · exact KeepsIn.leafOpt ((State.reseed_keeps ..).step rfl (.refl _ _))
            · refine KeepsIn.ite ?_ ?_
              · exact KeepsIn.leafOpt ((State.testCtrlWrite_keeps ..).step rfl (.refl _ _))
              · refine KeepsIn.ite ?_ ?_
                · exact KeepsIn.leafOpt ((State.limitLower_keeps ..).step rfl (.refl _ _))
                · refine KeepsIn.ite ?_ ?_
                  · exact KeepsIn.leafOpt ((State.slotCtrlWrite_keeps ..).step rfl (.refl _ _))
                  · refine KeepsIn.ite ?_ ?_
                    · refine KeepsIn.leafOpt ?_
                      refine Keeps.ite ?_ ?_
                      · exact (State.nsBind_keeps ..).step rfl (.refl _ _)
                      · exact .refl _ _
                    · refine KeepsIn.ite ?_ ?_
                      · exact KeepsIn.leafOpt ((State.serveCtrlWrite_keeps ..).step rfl (.refl _ _))
                      · refine KeepsIn.ite ?_ ?_
                        · exact KeepsIn.leafOpt ((State.pfcWrite_keeps ..).step rfl (.refl _ _))
                        · refine KeepsIn.ite ?_ ?_
                          · refine KeepsIn.leafOpt ?_
                            refine Keeps.ite ?_ ?_
                            · exact (State.addrCommit_keeps ..).step rfl (.refl _ _)
                            · exact (State.addrAttr_keeps ..).step rfl (.refl _ _)
                          · refine KeepsIn.ite ?_ ?_
                            · exact KeepsIn.leafOpt ((State.sqpCtrlWrite_keeps ..).step rfl (.refl _ _))
                            · refine KeepsIn.ite ?_ ?_
                              · exact KeepsIn.leafOpt ((State.pairCtrlWrite_keeps ..).step rfl (.refl _ _))
                              · refine KeepsIn.ite ?_ ?_
                                · exact KeepsIn.leafOpt ((State.homeWrite_keeps ..).step rfl (.refl _ _))
                                · refine KeepsIn.ite ?_ ?_
                                  · exact KeepsIn.leafOpt ((State.dbgWrite_keeps ..).step rfl (.refl _ _))
                                  · refine KeepsIn.ite ?_ ?_
                                    · exact KeepsIn.leafOpt ((State.otpCtrlWrite_keeps ..).step rfl (.refl _ _))
                                    · exact KeepsIn.none rfl

theorem State.pairWrite_keeps (s : State) (b : Nat) (i : Nat) (a : Nat) (v : Nat) : Keeps 35221 s (State.pairWrite s b i a v) := by
  unfold State.pairWrite
  extract_lets l1 l2 l3
  have kl3 : Keeps 35221 s l3 := Keeps.set_loWrite rfl (.refl _ _)
  refine Keeps.ite ?_ ?_
  · exact (State.almRead_keeps ..).step rfl (.refl _ _)
  · refine Keeps.ite ?_ ?_
    · refine State.via_keeps rfl ?_ ?_
      · exact kl3
      · intro u4 hu4
        exact (execTenNqnWrite_keeps ..).step rfl hu4
    · refine Keeps.ite ?_ ?_
      · exact (State.limitLower_keeps ..).step rfl kl3
      · refine Keeps.ite ?_ ?_
        · exact (State.limitLower_keeps ..).step rfl kl3
        · exact (State.writePlain_keeps ..).step rfl ((State.writePlain_keeps ..).step rfl kl3)

theorem State.writeReg_keeps (s : State) (a : Nat) (v : Nat) : Keeps 268435445 s (State.writeReg s a v) := by
  unfold State.writeReg
  split
  · exact .refl _ _
  · extract_lets l1 l2 l3
    have kl3 : KeepsIn atOpt 268435445 s l3 := by
      unfold l3
      refine KeepsIn.ite ?_ ?_
      · exact (State.ctlLow_keeps ..).step rfl (.refl _ _)
      · refine KeepsIn.ite ?_ ?_
        · exact (State.ctlMid_keeps ..).step rfl (.refl _ _)
        · exact (State.ctlHigh_keeps ..).step rfl (.refl _ _)
    clear_value l3
    refine Keeps.ite ?_ ?_
    · exact Keeps.set_loWrite rfl (.refl _ _)
    · refine Keeps.ite ?_ ?_
      · exact (State.pairWrite_keeps ..).step rfl (.refl _ _)
      · split
        · rename_i p4
          have kp4 : Keeps 268435445 s p4 := kl3.get rfl
          exact kp4
        · exact (State.writePlain_keeps ..).step rfl (.refl _ _)

end Sys2Proof.Machine
end

