-- ==== Sys2Proof/Laws/KeepsTransmit.lean ====
section
/-! SUPPORT. What each operation of Machine/Transmit.lean keeps (Laws/Frame.lean). -/

namespace Sys2Proof.Machine

theorem State.saveCredit_keeps (s : State) : Keeps 1048576 s (State.saveCredit s) := by
  unfold State.saveCredit
  exact (State.updNet_keeps ..).step rfl (.refl _ _)

theorem State.sentFor_keeps (s : State) (r : CmdRef) (k : Nat) : Keeps 2097152 s (State.sentFor s r k) := by
  unfold State.sentFor
  extract_lets l1
  have kl1 : Keeps 2097152 s l1 := (State.modRun_keeps ..).step rfl (.refl _ _)
  split
  · split
    · refine Keeps.ite ?_ ?_
      · exact kl1
      · exact (State.stepDone_keeps ..).step rfl ((State.modRun_keeps ..).step rfl kl1)
    · exact kl1
  · exact kl1

theorem State.sendPacket_keeps (s : State) (p : Nat) (k : Nat) (q : Qp) (m : Msg) (rest : List Msg) : Keeps 70254609 s (State.sendPacket s p k q m rest) := by
  unfold State.sendPacket
  extract_lets l1 l2 l3 l4 l5 l6 l7 l8
  have kl2 : Keeps 70254609 s l2 := (State.emit_keeps ..).step rfl (.refl _ _)
  have kl6 : Keeps 70254609 s l6 := (State.modQp_keeps ..).step rfl kl2
  have kl7 : Keeps 70254609 s l7 := (State.modPort_keeps ..).step rfl kl6
  have kl8 : Keeps 70254609 s l8 := by
    unfold l8
    split
    · exact (State.bumpUnits_keeps ..).step rfl kl7
    · exact kl7
  split
  · refine Keeps.ite ?_ ?_
    · exact kl8
    · exact (State.sentFor_keeps ..).step rfl kl8
  · exact kl8

theorem State.sendPort_keeps (p : Nat) : ∀ (s : State) (fuel : Nat), Keeps 70254609 s (State.sendPort p s fuel) := by
  intro s fuel
  induction fuel generalizing s with
  | zero => exact .refl _ _
  | succ fuel ih =>
    unfold State.sendPort
    split
    · exact .refl _ _
    · split
      · exact (ih _).step rfl ((State.sendPacket_keeps ..).step rfl (.refl _ _))
      · exact .refl _ _

theorem State.transmit_keeps (s : State) : Keeps 70254609 s (State.transmit s) := by
  unfold State.transmit
  refine Keeps.ite ?_ ?_
  · refine Keeps.each ?_ ?_
    · exact (State.saveCredit_keeps ..).step rfl (.refl _ _)
    · intro u1 _ hu1
      exact (State.sendPort_keeps ..).step rfl hu1
  · exact .refl _ _

end Sys2Proof.Machine
end

