-- ==== Sys2Proof/Laws/KeepsTick.lean ====
section
/-! SUPPORT. What each operation of Machine/Tick.lean keeps (Laws/Frame.lean). -/

namespace Sys2Proof.Machine

theorem State.countSeconds_keeps (s : State) (f : Field) (c : Bool) : Keeps 67108865 s (State.countSeconds s f c) := by
  unfold State.countSeconds
  refine Keeps.ite ?_ ?_
  · exact (State.bumpUnits_keeps ..).step rfl (.refl _ _)
  · exact .refl _ _

theorem State.compositeTime_keeps (s : State) : Keeps 4096 s (State.compositeTime s) := by
  unfold State.compositeTime
  extract_lets l1
  exact (State.updPower_keeps ..).step rfl (.refl _ _)

theorem State.thermalTime_keeps (s : State) : Keeps 67108865 s (State.thermalTime s) := by
  unfold State.thermalTime
  exact (State.countSeconds_keeps ..).step rfl ((State.countSeconds_keeps ..).step rfl (.refl _ _))

theorem State.tick_keeps (s : State) : Keeps 103813201 s (State.tick s) := by
  unfold State.tick
  extract_lets l1
  have kl1 : Keeps 103813201 s l1 := Keeps.set_out rfl (.refl _ _)
  refine Keeps.ite ?_ ?_
  · exact (State.compositeTime_keeps ..).step rfl ((State.thermalTime_keeps ..).step rfl ((State.transmit_keeps ..).step rfl ((State.drainWrites_keeps ..).step rfl (Keeps.set_time rfl kl1))))
  · exact kl1

end Sys2Proof.Machine
end

