-- ==== Sys2Proof/Laws/KeepsWindow.lean ====
section
/-! SUPPORT. What each operation of Machine/Window.lean keeps (Laws/Frame.lean). -/

namespace Sys2Proof.Machine

theorem State.accessNothing_keeps (s : State) (a1 : Access32) : Keeps 16 s (State.accessNothing s a1) := by
  unfold State.accessNothing
  split
  · exact (State.returns_keeps ..).step rfl (.refl _ _)
  · exact .refl _ _

theorem execReadNvmeMiDataStructure_keeps (dtyp : Nat) (s : State) : KeepsIn atNext 48 s (execReadNvmeMiDataStructure dtyp s) := by
  unfold execReadNvmeMiDataStructure
  refine KeepsIn.effect rfl ?_ ?_
  · exact .refl _ _
  · intro u1 hu1
    refine Keeps.ite ?_ ?_
    · exact (State.emit_keeps ..).step rfl hu1
    · refine Keeps.ite ?_ ?_
      · exact (State.emit_keeps ..).step rfl hu1
      · refine Keeps.ite ?_ ?_
        · exact (State.emit_keeps ..).step rfl ((State.nextFree_keeps ..).step rfl hu1)
        · exact (State.emit_keeps ..).step rfl hu1

theorem execNvmSubsystemHealthStatusPoll_keeps (s : State) : KeepsIn atNext 16 s (execNvmSubsystemHealthStatusPoll s) := by
  unfold execNvmSubsystemHealthStatusPoll
  refine KeepsIn.effect rfl ?_ ?_
  · exact .refl _ _
  · intro u1 hu1
    exact (State.emit_keeps ..).step rfl hu1

theorem State.accessNow_keeps (s : State) (x : Access32) (same : Nat) : Keeps 268435447 s (State.accessNow s x same) := by
  unfold State.accessNow
  extract_lets l1
  refine Keeps.ite ?_ ?_
  · split
    · exact (State.returns_keeps ..).step rfl (.refl _ _)
    · exact .refl _ _
  · split
    · exact (State.readReg_keeps ..).step rfl (.refl _ _)
    · exact (State.writeReg_keeps ..).step rfl (.refl _ _)

theorem State.miRefused_keeps (s : State) (opcode : Nat) : Keeps 2449 s (State.miRefused s opcode) := by
  unfold State.miRefused
  exact (State.emit_keeps ..).step rfl ((State.event_keeps ..).step rfl ((State.bump_keeps ..).step rfl (.refl _ _)))

theorem execDomainReady_keeps (d : Nat) (ns : Nat) (s : State) : KeepsIn atNext 268435447 s (execDomainReady d ns s) := by
  unfold execDomainReady
  refine KeepsIn.effect rfl ?_ ?_
  · exact .refl _ _
  · intro u1 hu1
    refine Keeps.ite ?_ ?_
    · exact hu1
    · extract_lets l2
      refine Keeps.each ?_ ?_
      · exact (State.domainOn_keeps ..).step rfl hu1
      · intro u3 _ hu3
        exact (State.accessNow_keeps ..).step rfl hu3

theorem State.accessWaits_keeps (s : State) (d : Nat) (x : Access32) : Keeps 6145 s (State.accessWaits s d x) := by
  unfold State.accessWaits
  extract_lets l1 l2 l3
  have kl2 : Keeps 6145 s l2 := by
    unfold l2
    split
    · refine Keeps.ite ?_ ?_
      · exact (State.powerExit_keeps ..).step rfl (.refl _ _)
      · exact .refl _ _
    · exact .refl _ _
  have kl3 : Keeps 6145 s l3 := (State.modDom_keeps ..).step rfl kl2
  exact (State.wake_keeps ..).step rfl kl3

theorem execControllerHealthStatusPoll_keeps (sctl : Nat) (maxrent : Nat) (s : State) : KeepsIn atNext 16 s (execControllerHealthStatusPoll sctl maxrent s) := by
  unfold execControllerHealthStatusPoll
  refine KeepsIn.effect rfl ?_ ?_
  · exact .refl _ _
  · intro u1 hu1
    extract_lets l2
    exact (State.emit_keeps ..).step rfl hu1

theorem State.tunnelled_keeps (s : State) (x : Status × List Nat) : Keeps 16 s (State.tunnelled s x) := by
  unfold State.tunnelled
  exact (State.emit_keeps ..).step rfl (.refl _ _)

theorem State.accessLoading_keeps (s : State) (a1 : Access32) : Keeps 17 s (State.accessLoading s a1) := by
  unfold State.accessLoading
  split
  · exact (State.returns_keeps ..).step rfl (.refl _ _)
  · exact (State.bump_keeps ..).step rfl (.refl _ _)

theorem execMiCommandRefused_keeps (opcode : Nat) (s : State) : KeepsIn atNext 2449 s (execMiCommandRefused opcode s) := by
  unfold execMiCommandRefused
  refine KeepsIn.effect rfl ?_ ?_
  · exact .refl _ _
  · intro u1 hu1
    refine Keeps.ite ?_ ?_
    · exact hu1
    · exact (State.miRefused_keeps ..).step rfl hu1

theorem execConfigurationGet_keeps (id : Nat) (s : State) : KeepsIn atNext 48 s (execConfigurationGet id s) := by
  unfold execConfigurationGet
  refine KeepsIn.effect rfl ?_ ?_
  · exact .refl _ _
  · intro u1 hu1
    refine Keeps.ite ?_ ?_
    · exact (State.emit_keeps ..).step rfl ((State.nextFree_keeps ..).step rfl hu1)
    · exact (State.emit_keeps ..).step rfl hu1

theorem State.miWindow_keeps {n₀ : Nat} {s₀ : State} {s : State} {opcode : Nat} {off : Nat} {count : Nat} {f : State → State} (hm : 2449 ||| n₀ = n₀) (h₀ : Keeps n₀ s₀ s) (hf : ∀ v0, Keeps n₀ s₀ v0 → Keeps n₀ s₀ (f v0)) : Keeps n₀ s₀ (State.miWindow s opcode off count f) := by
  unfold State.miWindow
  refine Keeps.ite ?_ ?_
  · exact (State.miRefused_keeps ..).step (Keeps.sub rfl hm) h₀
  · refine Keeps.ite ?_ ?_
    · exact (State.emit_keeps ..).step (Keeps.sub rfl hm) h₀
    · exact hf _ ((State.emit_keeps ..).step (Keeps.sub rfl hm) h₀)

theorem execAdminTunnel_keeps (owner : Nat) (identify : Bool) (cns : Nat) (nsid : Nat) (csi : Nat) (lid : Nat) (off : Nat) (s : State) : KeepsIn atNext 2449 s (execAdminTunnel owner identify cns nsid csi lid off s) := by
  unfold execAdminTunnel
  refine KeepsIn.effect rfl ?_ ?_
  · exact .refl _ _
  · intro u1 hu1
    refine Keeps.ite ?_ ?_
    · exact (State.tunnelled_keeps ..).step rfl hu1
    · refine Keeps.ite ?_ ?_
      · exact (State.tunnelled_keeps ..).step rfl hu1
      · refine Keeps.ite ?_ ?_
        · exact (State.tunnelled_keeps ..).step rfl hu1
        · refine Keeps.ite ?_ ?_
          · split
            · exact (State.tunnelled_keeps ..).step rfl hu1
            · exact (State.tunnelled_keeps ..).step rfl hu1
          · refine Keeps.ite ?_ ?_
            · exact hu1
            · exact (State.miRefused_keeps ..).step rfl hu1

theorem State.access_keeps (s : State) (x : Access32) (same : Nat) : Keeps 268435447 s (State.access s x same) := by
  unfold State.access
  extract_lets l1 l2
  refine Keeps.ite ?_ ?_
  · exact (State.bump_keeps ..).step rfl (.refl _ _)
  · refine Keeps.ite ?_ ?_
    · exact (State.accessNothing_keeps ..).step rfl (.refl _ _)
    · refine Keeps.ite ?_ ?_
      · exact (State.accessFails_keeps ..).step rfl (.refl _ _)
      · refine Keeps.ite ?_ ?_
        · exact (State.accessNothing_keeps ..).step rfl (.refl _ _)
        · refine Keeps.ite ?_ ?_
          · exact (State.accessLoading_keeps ..).step rfl (.refl _ _)
          · refine Keeps.ite ?_ ?_
            · exact (State.accessNow_keeps ..).step rfl (.refl _ _)
            · exact (State.accessWaits_keeps ..).step rfl (.refl _ _)

theorem execWindowRead_keeps (off : Nat) (count : Nat) (s : State) : KeepsIn atNext 268435447 s (execWindowRead off count s) := by
  unfold execWindowRead
  refine KeepsIn.effect rfl ?_ ?_
  · exact .refl _ _
  · intro u1 hu1
    refine State.miWindow_keeps rfl ?_ ?_
    · exact hu1
    · intro u2 hu2
      refine Keeps.each ?_ ?_
      · exact hu2
      · intro u3 _ hu3
        exact (State.access_keeps ..).step rfl hu3

theorem State.accessBar_keeps (s : State) (x : Access32) (same : Nat) : Keeps 268435447 s (State.accessBar s x same) := by
  unfold State.accessBar
  refine Keeps.ite ?_ ?_
  · exact .refl _ _
  · refine Keeps.ite ?_ ?_
    · split
      · exact (State.returns_keeps ..).step rfl (.refl _ _)
      · exact .refl _ _
    · exact (State.access_keeps ..).step rfl (.refl _ _)

theorem execLoRegisterRead_keeps (off : Nat) (s : State) : KeepsIn atNext 268435447 s (execLoRegisterRead off s) := by
  unfold execLoRegisterRead
  refine KeepsIn.effect rfl ?_ ?_
  · exact .refl _ _
  · intro u1 hu1
    exact (State.accessBar_keeps ..).step rfl hu1

theorem execRegisterWrite_keeps (off : Nat) (value : Word) (be : Nat) (s : State) : KeepsIn atNext 268435447 s (execRegisterWrite off value be s) := by
  unfold execRegisterWrite
  refine KeepsIn.effect rfl ?_ ?_
  · exact .refl _ _
  · intro u1 hu1
    exact (State.accessBar_keeps ..).step rfl hu1

theorem execWindowWrite_keeps (off : Nat) (count : Nat) (data : List Word) (s : State) : KeepsIn atNext 268435447 s (execWindowWrite off count data s) := by
  unfold execWindowWrite
  refine KeepsIn.effect rfl ?_ ?_
  · exact .refl _ _
  · intro u1 hu1
    refine State.miWindow_keeps rfl ?_ ?_
    · exact hu1
    · intro u2 hu2
      refine Keeps.each ?_ ?_
      · exact hu2
      · intro u3 _ hu3
        exact (State.access_keeps ..).step rfl hu3

theorem execReadClear_keeps (off : Nat) (same : Nat) (s : State) : KeepsIn atNext 268435447 s (execReadClear off same s) := by
  unfold execReadClear
  refine KeepsIn.effect rfl ?_ ?_
  · exact .refl _ _
  · intro u1 hu1
    exact (State.accessBar_keeps ..).step rfl hu1

end Sys2Proof.Machine
end

