-- ==== Sys2Proof/Laws/Parts.lean ====
section
/-! SUPPORT. Controllers, queue contexts, commands, tenants, links, dies and domains after a change of one of them, and after the
operations that every family shares. -/

namespace Sys2Proof.Machine

variable {s t : State}

/-! ### One entry changed -/

@[simp] theorem State.ctrl_modCtrl_self (s : State) (o : Nat) (f : Ctrl → Ctrl) : (s.modCtrl o f).ctrl o = f (s.ctrl o) :=
  mapGet_mapPut_self ..

theorem State.ctrl_modCtrl_ne (s : State) {o p : Nat} (f : Ctrl → Ctrl) (h : p ≠ o) : (s.modCtrl o f).ctrl p = s.ctrl p :=
  mapGet_mapPut_ne _ _ _ _ h

@[simp] theorem State.qctx_modCtx_self (s : State) (o q : Nat) (f : QCtx → QCtx) : (s.modCtx o q f).qctx o q = f (s.qctx o q) :=
  mapGet_mapPut_self ..

theorem State.qctx_modCtx_ne (s : State) {o q p r : Nat} (f : QCtx → QCtx) (h : qKey p r ≠ qKey o q) :
    (s.modCtx o q f).qctx p r = s.qctx p r := mapGet_mapPut_ne _ _ _ _ h

@[simp] theorem State.cmd?_modCmd_self (s : State) (r : CmdRef) (f : Cmd → Cmd) : (s.modCmd r f).cmd? r = (s.cmd? r).map f :=
  mapGet?_mapMod_self ..

theorem State.cmd?_modCmd_ne (s : State) {r x : CmdRef} (f : Cmd → Cmd) (h : cmdKey x ≠ cmdKey r) :
    (s.modCmd r f).cmd? x = s.cmd? x := mapGet?_mapMod_ne _ _ h

@[simp] theorem State.tenant_modTen_self (s : State) (o : Nat) (f : Tenant → Tenant) : (s.modTen o f).tenant o = f (s.tenant o) :=
  mapGet_mapPut_self ..

theorem State.tenant_modTen_ne (s : State) {o p : Nat} (f : Tenant → Tenant) (h : p ≠ o) : (s.modTen o f).tenant p = s.tenant p :=
  mapGet_mapPut_ne _ _ _ _ h

@[simp] theorem State.link_modLink_self (s : State) (l : Nat) (f : Link → Link) : (s.modLink l f).link l = f (s.link l) :=
  mapGet_mapPut_self ..

theorem State.link_modLink_ne (s : State) {l k : Nat} (f : Link → Link) (h : k ≠ l) : (s.modLink l f).link k = s.link k :=
  mapGet_mapPut_ne _ _ _ _ h

@[simp] theorem State.die_modDie_self (s : State) (d : Nat) (f : Die → Die) : (s.modDie d f).die d = f (s.die d) :=
  mapGet_mapPut_self ..

theorem State.die_modDie_ne (s : State) {d e : Nat} (f : Die → Die) (h : e ≠ d) : (s.modDie d f).die e = s.die e :=
  mapGet_mapPut_ne _ _ _ _ h

/-! ### Two states alike in a part -/

theorem State.ctrl_congr (h : t.host = s.host) (o : Nat) : t.ctrl o = s.ctrl o := by unfold State.ctrl; rw [h]
theorem State.qctx_congr (h : t.q = s.q) (o q : Nat) : t.qctx o q = s.qctx o q := by unfold State.qctx; rw [h]
theorem State.cmd?_congr (h : t.q = s.q) (r : CmdRef) : t.cmd? r = s.cmd? r := by unfold State.cmd?; rw [h]
theorem State.runs_congr (h : t.q = s.q) (r : CmdRef) : t.runs r = s.runs r := by unfold State.runs; rw [State.cmd?_congr h]
theorem State.ended_congr (h : t.q = s.q) (r : CmdRef) : t.ended r = s.ended r := by unfold State.ended; rw [State.cmd?_congr h]
theorem State.tenant_congr (h : t.ten = s.ten) (o : Nat) : t.tenant o = s.tenant o := by unfold State.tenant; rw [h]
theorem State.mailbox_congr (h : t.mbx = s.mbx) (m : Nat) : t.mailbox m = s.mailbox m := by unfold State.mailbox; rw [h]
theorem State.die_congr (h : t.md = s.md) (d : Nat) : t.die d = s.die d := by unfold State.die; rw [h]

/-! ### Commands -/

theorem State.ended_not_runs {r : CmdRef} {x : Status × Nat × Nat} (h : s.ended r = some x) : s.runs r = false := by
  unfold State.ended at h
  unfold State.runs
  split at h
  · split at h
    · simp_all
    · simp at h
  · simp at h

/-- A command that runs ends with the status it is given. -/
theorem State.ended_finish {r : CmdRef} (h : s.runs r = true) (st : Status) (a b : Nat) :
    (s.finish r st a b).ended r = some (st, a, b) := by
  unfold State.runs at h
  unfold State.ended State.finish
  rw [State.cmd?_modCmd_self]
  split at h
  · split at h
    · simp at h
    · simp_all
  · simp at h

/-- A command that has ended stays as it ended. -/
theorem State.ended_finish_any {r : CmdRef} {v : Status × Nat × Nat} (h : s.ended r = some v) (x : CmdRef) (st : Status) (a b : Nat) :
    (s.finish x st a b).ended r = some v := by
  unfold State.ended at h ⊢
  unfold State.finish
  by_cases e : cmdKey r = cmdKey x
  · have k : s.cmd? x = s.cmd? r := by unfold State.cmd?; rw [e]
    have k2 : ∀ t : State, t.cmd? r = t.cmd? x := fun t => by unfold State.cmd?; rw [e]
    rw [k2, State.cmd?_modCmd_self, k]
    split at h
    · split at h
      · simp_all
      · simp at h
    · simp at h
  · rw [State.cmd?_modCmd_ne _ _ e]
    exact h

/-- A command that holds a context has ended once it is given a status. -/
theorem State.ended_finish_some {r : CmdRef} (h : (s.cmd? r).isSome = true) (st : Status) (a b : Nat) :
    ((s.finish r st a b).ended r).isSome = true := by
  obtain ⟨c, hc⟩ := Option.isSome_iff_exists.mp h
  unfold State.ended State.finish
  rw [State.cmd?_modCmd_self, hc]
  cases hp : c.phase <;> simp [hp]

/-- A command that may start runs, and its effect applies. -/
theorem State.startable_runs {r : CmdRef} (h : s.startable r = true) : s.runs r = true := by
  unfold State.startable at h
  unfold State.runs
  split at h
  · split at h <;> simp_all
  · simp at h

theorem State.starting_on {r : CmdRef} (h : s.startable r = true) (f : State → State) : s.starting r f = f s := by
  unfold State.startable at h
  unfold State.starting
  cases hc : s.cmd? r with
  | none => simp [hc] at h
  | some c =>
    cases hp : c.phase <;> simp_all
    all_goals
      intro a b
      rcases h.2 with h | h
      · exact absurd h a
      · exact absurd b h

theorem State.running_on {r : CmdRef} (h : s.runs r = true) (f : State → State) : s.running r f = f s := by
  unfold State.running; rw [if_pos h]

/-! ### Controllers after interrupts and events -/

/-- An interrupt changes a controller's pending bits only (R71). -/
theorem State.ctrl_msix (s : State) (o v p : Nat) : ∃ l, (s.msix o v).ctrl p = { s.ctrl p with pba := l } := by
  unfold State.msix
  extract_lets c
  split
  · split
    · exact ⟨_, rfl⟩
    · by_cases h : p = o
      · subst h; rw [State.ctrl_modCtrl_self]; exact ⟨_, rfl⟩
      · rw [State.ctrl_modCtrl_ne _ _ h]; exact ⟨_, rfl⟩
  · exact ⟨_, rfl⟩

theorem State.ctrl_deliver (s : State) (n p : Nat) : ∃ l, (s.deliver n).ctrl p = { s.ctrl p with pba := l } := by
  unfold State.deliver
  extract_lets a f w b
  have ha : a.ctrl p = s.ctrl p := by
    unfold a
    split <;> rfl
  have hb : b.ctrl p = s.ctrl p := ha
  split
  · split
    · rw [ha]; exact ⟨_, rfl⟩
    · split
      · obtain ⟨l, hl⟩ := State.ctrl_msix b _ (b.rd (Reg.EVT_ROUTE_VECTOR.at n)) p
        rw [hl, hb]; exact ⟨_, rfl⟩
      · rw [hb]; exact ⟨_, rfl⟩
  · rw [ha]; exact ⟨_, rfl⟩

/-- An occurrence changes a controller's pending bits only (R71, R445). -/
theorem State.ctrl_occurs (s : State) (n : Nat) (d : List Int) (c p : Nat) :
    ∃ l, (s.occurs n d c).ctrl p = { s.ctrl p with pba := l } := by
  unfold State.occurs
  extract_lets full u v
  have : (v.wr Reg.EVT_STATUS_LAST n).ctrl p = s.ctrl p := by
    show v.ctrl p = _
    unfold v
    split
    · split <;> rfl
    · rfl
  obtain ⟨l, h⟩ := State.ctrl_deliver (v.wr Reg.EVT_STATUS_LAST n) n p
  exact ⟨l, by rw [h, this]⟩

/-- An event changes a controller's pending bits only (R71, R445). -/
theorem State.ctrl_event (s : State) (n : Nat) (d : List Int) (c p : Nat) :
    ∃ l, (s.event n d c).ctrl p = { s.ctrl p with pba := l } := by
  unfold State.event
  extract_lets u
  have hu : ∃ l, u.ctrl p = { s.ctrl p with pba := l } := by
    unfold u
    split
    · exact State.ctrl_occurs ..
    · exact ⟨_, rfl⟩
  obtain ⟨a, ha⟩ := hu
  obtain ⟨l, h⟩ := State.ctrl_occurs u n d c p
  exact ⟨l, by rw [h, ha]⟩

@[simp] theorem State.ctrl_event_en (s : State) (n : Nat) (d : List Int) (c p : Nat) : ((s.event n d c).ctrl p).en = (s.ctrl p).en := by
  obtain ⟨l, h⟩ := s.ctrl_event n d c p; rw [h]
@[simp] theorem State.ctrl_event_rdy (s : State) (n : Nat) (d : List Int) (c p : Nat) : ((s.event n d c).ctrl p).rdy = (s.ctrl p).rdy := by
  obtain ⟨l, h⟩ := s.ctrl_event n d c p; rw [h]
@[simp] theorem State.ctrl_event_cfs (s : State) (n : Nat) (d : List Int) (c p : Nat) : ((s.event n d c).ctrl p).cfs = (s.ctrl p).cfs := by
  obtain ⟨l, h⟩ := s.ctrl_event n d c p; rw [h]
@[simp] theorem State.ctrl_event_enPending (s : State) (n : Nat) (d : List Int) (c p : Nat) : ((s.event n d c).ctrl p).enPending = (s.ctrl p).enPending := by
  obtain ⟨l, h⟩ := s.ctrl_event n d c p; rw [h]
@[simp] theorem State.ctrl_event_ams (s : State) (n : Nat) (d : List Int) (c p : Nat) : ((s.event n d c).ctrl p).ams = (s.ctrl p).ams := by
  obtain ⟨l, h⟩ := s.ctrl_event n d c p; rw [h]
@[simp] theorem State.ctrl_event_ab (s : State) (n : Nat) (d : List Int) (c p : Nat) : ((s.event n d c).ctrl p).ab = (s.ctrl p).ab := by
  obtain ⟨l, h⟩ := s.ctrl_event n d c p; rw [h]
@[simp] theorem State.ctrl_event_lpw (s : State) (n : Nat) (d : List Int) (c p : Nat) : ((s.event n d c).ctrl p).lpw = (s.ctrl p).lpw := by
  obtain ⟨l, h⟩ := s.ctrl_event n d c p; rw [h]
@[simp] theorem State.ctrl_event_mpw (s : State) (n : Nat) (d : List Int) (c p : Nat) : ((s.event n d c).ctrl p).mpw = (s.ctrl p).mpw := by
  obtain ⟨l, h⟩ := s.ctrl_event n d c p; rw [h]
@[simp] theorem State.ctrl_event_hpw (s : State) (n : Nat) (d : List Int) (c p : Nat) : ((s.event n d c).ctrl p).hpw = (s.ctrl p).hpw := by
  obtain ⟨l, h⟩ := s.ctrl_event n d c p; rw [h]
@[simp] theorem State.ctrl_event_aggThr (s : State) (n : Nat) (d : List Int) (c p : Nat) : ((s.event n d c).ctrl p).aggThr = (s.ctrl p).aggThr := by
  obtain ⟨l, h⟩ := s.ctrl_event n d c p; rw [h]
@[simp] theorem State.ctrl_event_aggTime (s : State) (n : Nat) (d : List Int) (c p : Nat) : ((s.event n d c).ctrl p).aggTime = (s.ctrl p).aggTime := by
  obtain ⟨l, h⟩ := s.ctrl_event n d c p; rw [h]
@[simp] theorem State.ctrl_event_unmasked (s : State) (n : Nat) (d : List Int) (c p : Nat) : ((s.event n d c).ctrl p).unmasked = (s.ctrl p).unmasked := by
  obtain ⟨l, h⟩ := s.ctrl_event n d c p; rw [h]
@[simp] theorem State.ctrl_event_fnMask (s : State) (n : Nat) (d : List Int) (c p : Nat) : ((s.event n d c).ctrl p).fnMask = (s.ctrl p).fnMask := by
  obtain ⟨l, h⟩ := s.ctrl_event n d c p; rw [h]
@[simp] theorem State.ctrl_event_held (s : State) (n : Nat) (d : List Int) (c p : Nat) : ((s.event n d c).ctrl p).held = (s.ctrl p).held := by
  obtain ⟨l, h⟩ := s.ctrl_event n d c p; rw [h]
@[simp] theorem State.ctrl_event_aers (s : State) (n : Nat) (d : List Int) (c p : Nat) : ((s.event n d c).ctrl p).aers = (s.ctrl p).aers := by
  obtain ⟨l, h⟩ := s.ctrl_event n d c p; rw [h]
@[simp] theorem State.ctrl_event_aenMasked (s : State) (n : Nat) (d : List Int) (c p : Nat) : ((s.event n d c).ctrl p).aenMasked = (s.ctrl p).aenMasked := by
  obtain ⟨l, h⟩ := s.ctrl_event n d c p; rw [h]
@[simp] theorem State.ctrl_event_aenPending (s : State) (n : Nat) (d : List Int) (c p : Nat) : ((s.event n d c).ctrl p).aenPending = (s.ctrl p).aenPending := by
  obtain ⟨l, h⟩ := s.ctrl_event n d c p; rw [h]
@[simp] theorem State.ctrl_event_ps (s : State) (n : Nat) (d : List Int) (c p : Nat) : ((s.event n d c).ctrl p).ps = (s.ctrl p).ps := by
  obtain ⟨l, h⟩ := s.ctrl_event n d c p; rw [h]
@[simp] theorem State.ctrl_event_psLastOp (s : State) (n : Nat) (d : List Int) (c p : Nat) : ((s.event n d c).ctrl p).psLastOp = (s.ctrl p).psLastOp := by
  obtain ⟨l, h⟩ := s.ctrl_event n d c p; rw [h]
@[simp] theorem State.ctrl_event_flr (s : State) (n : Nat) (d : List Int) (c p : Nat) : ((s.event n d c).ctrl p).flr = (s.ctrl p).flr := by
  obtain ⟨l, h⟩ := s.ctrl_event n d c p; rw [h]
@[simp] theorem State.ctrl_event_queues (s : State) (n : Nat) (d : List Int) (c p : Nat) : ((s.event n d c).ctrl p).queues = (s.ctrl p).queues := by
  obtain ⟨l, h⟩ := s.ctrl_event n d c p; rw [h]
@[simp] theorem State.ctrl_event_active (s : State) (n : Nat) (d : List Int) (c p : Nat) : ((s.event n d c).ctrl p).active = (s.ctrl p).active := by
  obtain ⟨l, h⟩ := s.ctrl_event n d c p; rw [h]
@[simp] theorem State.ctrl_event_errs (s : State) (n : Nat) (d : List Int) (c p : Nat) : ((s.event n d c).ctrl p).errs = (s.ctrl p).errs := by
  obtain ⟨l, h⟩ := s.ctrl_event n d c p; rw [h]
@[simp] theorem State.ctrl_event_nsChanged (s : State) (n : Nat) (d : List Int) (c p : Nat) : ((s.event n d c).ctrl p).nsChanged = (s.ctrl p).nsChanged := by
  obtain ⟨l, h⟩ := s.ctrl_event n d c p; rw [h]

end Sys2Proof.Machine
end

