-- ==== Sys2Proof/Machine/Package.lean ====
section
/-! DEFINITION. The package: the ball array, the signal or supply of each ball, and what a pin does while its domain does not run it
(spec/21 R490, R491, R506, R498, R501; spec/17 R414). -/

namespace Sys2Proof.Machine

/-! ### Balls and what they carry (R490, R491, R506) -/

/-- The supply rails of Table SIG-1; a member's I/O supply has a rail of its own. -/
inductive Rail where
  | vss | vddCore | vddAon | vddPll | vddSerdes | vddhSerdes | vddqDdr | vddIo18
  | vccqMg (member : Nat)
  deriving DecidableEq, Repr, Inhabited

/-- A pin of a flash channel (Table SIG-1). -/
inductive FlashPin where
  | dq (i : Nat)
  | dqsT | dqsC | reT | reC | cle | ale | weN | wpN
  | ceN (i : Nat)
  deriving DecidableEq, Repr, Inhabited

/-- A pin of a DRAM subchannel (Table SIG-14). -/
inductive DramPin where
  | ckT | ckC | csN | alertN
  | ca (i : Nat)
  | dq (i : Nat)
  | dqsT (g : Nat)
  | dqsC (g : Nat)
  deriving DecidableEq, Repr, Inhabited

/-- A pin of a serial lane. -/
inductive LanePin where
  | txP | txN | rxP | rxN
  deriving DecidableEq, Repr, Inhabited

/-- What a ball carries: a rail, or a signal with its channel, port or lane (R506). Sideband signals bear the names of Table SIG-16. -/
inductive Ball where
  | rail (r : Rail)
  | flash (channel : Nat) (pin : FlashPin)
  | dram (channel : Nat) (subB : Bool) (pin : DramPin)
  | dramResetN (channel : Nat)
  | host (port lane : Nat) (pin : LanePin)
  | hostRefclk (port : Nat) (negative : Bool)
  | perstN (port : Nat)
  | net (lane : Nat) (pin : LanePin)
  | netRefclk (negative : Bool)
  | bulum (lane : Nat) (pin : LanePin)
  | sideband (name : String)
  deriving DecidableEq, Repr, Inhabited

/-- Is a position of the grid empty (R490): off the grid, near a corner, or one of the five at the centre? -/
def ballEmpty (r c : Nat) : Bool :=
  r == 0 || c == 0 || decide (81 < r) || decide (81 < c) ||
    decide (min (r - 1) (81 - r) + min (c - 1) (81 - c) ≤ 7) ||
    (r == 41 && (c == 41 || c == 40 || c == 42)) || (c == 41 && (r == 40 || r == 42))

/-- The regions of Table SIG-12. -/
inductive BallRegion where
  | top | right | bottom | left | west | east | h0 | guard | h1 | sideband | core | network | bulum
  deriving DecidableEq, Repr, Inhabited

/-- The region of a position. -/
def regionOf (r c : Nat) : BallRegion :=
  if r ≤ 14 ∧ c ≤ 67 then .top
  else if r ≤ 67 ∧ 68 ≤ c then .right
  else if 68 ≤ r ∧ 15 ≤ c then .bottom
  else if c ≤ 14 then .left
  else if c ≤ 27 then .west
  else if 55 ≤ c then .east
  else if r ≤ 24 then (if c ≤ 40 then .h0 else if c = 41 then .guard else .h1)
  else if r ≤ 30 then .sideband
  else if r ≤ 57 then .core
  else if c ≤ 47 then .network
  else .bulum

/-- The numbers from `a` to `b`, both included. -/
def upto (a b : Nat) : List Nat := (List.range (b + 1 - a)).map (a + ·)

/-- The positions of a region in the order of Table SIG-12, empty ones among them. -/
def regionOrder : BallRegion → List (Nat × Nat)
  | .top => ((upto 1 67).map fun c => (upto 1 14).reverse.map fun r => (r, c)).flatten
  | .right => ((upto 1 67).map fun r => (upto 68 81).map fun c => (r, c)).flatten
  | .bottom => ((upto 15 81).reverse.map fun c => (upto 68 81).map fun r => (r, c)).flatten
  | .left => ((upto 15 81).reverse.map fun r => (upto 1 14).reverse.map fun c => (r, c)).flatten
  | .west => ((upto 15 67).map fun r => (upto 15 27).map fun c => (r, c)).flatten
  | .east => ((upto 15 67).map fun r => (upto 55 67).reverse.map fun c => (r, c)).flatten
  | .h0 => ((upto 15 24).map fun r => (upto 28 40).map fun c => (r, c)).flatten
  | .guard => (upto 15 24).map fun r => (r, 41)
  | .h1 => ((upto 15 24).map fun r => (upto 42 54).map fun c => (r, c)).flatten
  | .sideband => ((upto 25 30).map fun r => (upto 28 54).map fun c => (r, c)).flatten
  | .core => ((upto 31 57).map fun r => (upto 28 54).map fun c => (r, c)).flatten
  | .network => ((upto 58 67).map fun r => (upto 28 47).map fun c => (r, c)).flatten
  | .bulum => ((upto 58 67).map fun r => (upto 48 54).map fun c => (r, c)).flatten

/-- The balls of a region, from position 0 on. -/
def regionBalls (g : BallRegion) : List (Nat × Nat) := (regionOrder g).filter fun p => !ballEmpty p.1 p.2

/-- Repeated rails. -/
def rails (n : Nat) (r : Rail) : List Ball := List.replicate n (.rail r)

/-- The channel group of Table SIG-13. -/
def channelGroup (m ch : Nat) : List Ball :=
  [.rail .vss] ++ (upto 0 3).map (fun i => .flash ch (.dq i)) ++ [.flash ch .dqsT, .flash ch .dqsC] ++
    (upto 4 7).map (fun i => .flash ch (.dq i)) ++
    [.rail .vss, .flash ch .reT, .flash ch .reC, .flash ch .cle, .flash ch .ale, .flash ch .weN, .flash ch .wpN] ++
    (upto 0 7).map (fun i => .flash ch (.ceN i)) ++ [.rail (.vccqMg m)]

/-- The slice of a member (Table SIG-13); the first and third slices of a band have one ball more. -/
def memberSlice (m : Nat) : List Ball :=
  [.rail (.vccqMg m), .rail .vss, .rail (.vccqMg m)] ++ ((upto 0 7).map fun k => channelGroup m (8 * m + k)).flatten ++
    [.rail .vss, .rail (.vccqMg m), .rail .vss, .rail (.vccqMg m), .rail .vss, .rail .vss] ++
    (if m % 2 = 0 then rails 1 .vss else [])

/-- A band: the slices of its four members. -/
def memberBand (m : Nat) : List Ball := ((upto m (m + 3)).map memberSlice).flatten

/-- The 78 balls of a DRAM subchannel (Table SIG-14). -/
def dramSub (ch : Nat) (b : Bool) : List Ball :=
  [.dram ch b .ckT, .dram ch b .ckC, .dram ch b .csN] ++ (upto 0 13).map (fun i => .dram ch b (.ca i)) ++ [.dram ch b .alertN] ++
    ((upto 0 9).map fun g =>
      (upto 0 3).map (fun i => Ball.dram ch b (.dq (4 * g + i))) ++ [.dram ch b (.dqsT g), .dram ch b (.dqsC g)]).flatten

/-- Signals with a supply ball after every twelve of them, `n` times. -/
def withSupply (l : List Ball) : Nat → List Ball
  | 0 => l
  | n + 1 => l.take 12 ++ [.rail .vddqDdr] ++ withSupply (l.drop 12) n

/-- The block of a DRAM channel (Table SIG-14). -/
def dramBlock (ch : Nat) : List Ball :=
  withSupply (dramSub ch false ++ [.dramResetN ch] ++ dramSub ch true) 12 ++ (if ch % 4 = 3 then rails 13 .vss else [])

/-- The sequence of a host port (Table SIG-15). -/
def hostSequence (n : Nat) : List Ball :=
  rails 5 .vddhSerdes ++ [.rail .vss, .hostRefclk n false, .hostRefclk n true, .rail .vss, .perstN n, .rail .vss] ++
    ((upto 0 15).map fun l => [Ball.rail .vss, .host n l .txP, .host n l .txN, .rail .vss, .host n l .rxP, .host n l .rxN,
      .rail .vddSerdes]).flatten ++ rails 5 .vddhSerdes ++ rails 2 .vss

/-- The network sequence (Table SIG-15). -/
def netSequence : List Ball :=
  rails 7 .vddhSerdes ++ rails 2 .vddSerdes ++ rails 18 .vss ++ [.netRefclk false, .netRefclk true] ++
    ((upto 0 15).map fun l => [Ball.rail .vss, .net l .txP, .net l .txN, .rail .vss, .rail .vss, .net l .rxP, .net l .rxN, .rail .vss,
      .rail .vddSerdes]).flatten ++ rails 18 .vss ++ rails 2 .vddSerdes ++ rails 7 .vddhSerdes

/-- The Bulum sequence (Table SIG-15). -/
def bulumSequence : List Ball :=
  rails 3 .vddhSerdes ++ rails 4 .vss ++
    ((upto 0 7).map fun l => [Ball.rail .vss, .bulum l .txP, .bulum l .txN, .rail .vss, .bulum l .rxP, .bulum l .rxN,
      .rail .vddSerdes]).flatten ++ rails 4 .vss ++ rails 3 .vddhSerdes

/-- Sideband names in turn, the empty name standing for a VSS ball. -/
def sidebands (l : List String) : List Ball := l.map fun n => if n = "" then .rail .vss else .sideband n

/-- The sideband sequence (Table SIG-16). -/
def sidebandSequence : List Ball :=
  rails 4 .vddAon ++ sidebands ["", "POR_N", "", "SYSCLK", ""] ++ rails 4 .vddPll ++
    sidebands ["", "PPS_IN", "TOD_IN", "", "PWR_LOSS_N", "HOLDUP_OK", "TAMPER_N", "", "FENCE_IN", "FENCE_OUT", "THERM_TRIP_N", ""] ++
    rails 2 .vddIo18 ++ rails 4 .vddAon ++ rails 4 .vddPll ++
    sidebands ["", "", "STRAP_CHART[0]", "STRAP_CHART[1]", "STRAP_MGR[0]", "STRAP_MGR[1]", "STRAP_PAIR[0]", "STRAP_PAIR[1]",
      "STRAP_HOLDUP", "STRAP_SAFE", "", "STRAP_H0W[0]", "STRAP_H0W[1]", "STRAP_H1W[0]", "STRAP_H1W[1]", "STRAP_BOOT",
      "STRAP_VREG[0]", "STRAP_VREG[1]", ""] ++ rails 2 .vddIo18 ++
    sidebands ["NOR0_SCK", "NOR0_CS_N", "NOR0_IO0", "NOR0_IO1", "NOR0_IO2", "NOR0_IO3", "", "NOR1_SCK", "NOR1_CS_N", "NOR1_IO0",
      "NOR1_IO1", "NOR1_IO2", "NOR1_IO3", ""] ++ rails 2 .vddIo18 ++
    sidebands ["UART_TX", "UART_RX", "", "TCK", "TMS", "TDI", "TDO", "TRST_N", "", "MI_SCL", "MI_SDA", "MI_ALERT_N", "", "AVS_CLK",
      "AVS_MDATA", "AVS_SDATA", "", "PMB_SCL", "PMB_SDA", "PMB_ALERT_N", "", "DIODE_A", "DIODE_K", "", ""] ++ rails 2 .vddIo18 ++
    sidebands ["GPIO0", "GPIO1", "GPIO2", "GPIO3", "GPIO4", "GPIO5", "GPIO6", "GPIO7", "", "GPIO8", "GPIO9", "GPIO10", "GPIO11",
      "GPIO12", "GPIO13", "GPIO14", "GPIO15"] ++ rails 8 .vddIo18 ++ rails 38 .vss

/-- Position `i` of the core region (R506). -/
def coreBall (i : Nat) : Ball := if i * 304 / 724 < (i + 1) * 304 / 724 then .rail .vss else .rail .vddCore

/-- The sequence that fills a region (Table SIG-12). -/
def regionSequence : BallRegion → List Ball
  | .top => memberBand 0
  | .right => memberBand 4
  | .bottom => memberBand 8
  | .left => memberBand 12
  | .west => ((upto 0 3).map dramBlock).flatten
  | .east => ((upto 4 7).map dramBlock).flatten
  | .h0 => hostSequence 0
  | .guard => rails 10 .vss
  | .h1 => hostSequence 1
  | .sideband => sidebandSequence
  | .core => (List.range 724).map coreBall
  | .network => netSequence
  | .bulum => bulumSequence

/-- What a ball carries (R506): none at an empty position. -/
def ballAt (r c : Nat) : Option Ball :=
  if ballEmpty r c then none
  else ((regionBalls (regionOf r c)).findIdx? (· == (r, c))).bind fun i => (regionSequence (regionOf r c))[i]?

/-- Every region. -/
def ballRegions : List BallRegion :=
  [.top, .right, .bottom, .left, .west, .east, .h0, .guard, .h1, .sideband, .core, .network, .bulum]

/-- The lanes of link `k` of a split of width `w` (R506), and of a logical network port in its mode (1, 2 or 4 ports on four lanes). -/
def linkLaneList (w k : Nat) : List Nat := (List.range w).map (k * w + ·)
def portLaneList (ports n k : Nat) : List Nat := (List.range (4 / ports)).map (4 * n + k * (4 / ports) + ·)

/-! ### Pins in reset and in domains that do not run (R414, R498, R501, Table SIG-8) -/

/-- The domain of a signal (Table SIG-1); a rail has none. -/
def Ball.domain : Ball → Option Nat
  | .rail _ => none
  | .flash ch _ => some (15 + ch / 8)
  | .dram ch _ _ | .dramResetN ch => some (31 + ch / 4)
  | .host n _ _ | .hostRefclk n _ | .perstN n => some (9 + n)
  | .net l _ => some (11 + l / 8)
  | .netRefclk _ => none
  | .bulum _ _ => some 14
  | .sideband _ => some 0

/-- What stands on a pin: an input; an output that floats, is held by the board's pull-up (R414) or by an internal pull-down, or is
released; one at its last idle level, in self-refresh or at electrical idle; one that its domain drives. -/
inductive Pad where
  | input | highZ | pulledUp | pulledDown | released | low | high | lastIdle | selfRefresh | electricalIdle | driven
  deriving DecidableEq, Repr, Inhabited

/-- The sideband outputs (Table SIG-7), but for FENCE_OUT and THERM_TRIP_N. -/
def sidebandOutputs : List String :=
  ["UART_TX", "TDO", "NOR0_SCK", "NOR0_CS_N", "NOR0_IO0", "NOR0_IO1", "NOR0_IO2", "NOR0_IO3", "NOR1_SCK", "NOR1_CS_N", "NOR1_IO0",
   "NOR1_IO1", "NOR1_IO2", "NOR1_IO3", "MI_SCL", "MI_SDA", "MI_ALERT_N", "AVS_CLK", "AVS_MDATA", "PMB_SCL", "PMB_SDA"]

/-- A flash output whose channel floats: the board's pull-ups hold CE_n and WP_n (R414). -/
def flashFloat : FlashPin → Pad
  | .ceN _ | .wpN => .pulledUp
  | _ => .highZ

/-- A flash output at its last idle level: CE_n is high. -/
def flashIdle : FlashPin → Pad
  | .ceN _ => .high
  | _ => .lastIdle

/-- A transmitter, or a receiver. -/
def LanePin.pad (p : LanePin) (tx : Pad) : Pad :=
  match p with
  | .txP | .txN => tx
  | .rxP | .rxN => .input

/-- A serial lane by the state of its domain (Table SIG-8). -/
def State.lanePad (s : State) (d : Nat) (p : LanePin) : Pad :=
  p.pad (if s.boot.porN = false then .highZ else match (s.domain d).state with
    | .off => .highZ
    | .retain => .electricalIdle
    | _ => .driven)

/-- A flash pin: high-impedance until training drives it (R501), then by the state of its member's domain. -/
def State.flashPad (s : State) (ch : Nat) (p : FlashPin) : Pad :=
  if s.boot.porN = false ∨ s.on (Reg.MEDIA_CH_STATUS_TRAINED.at ch) = false then flashFloat p
  else match (s.domain (15 + ch / 8)).state with
    | .off => flashFloat p
    | .retain => flashIdle p
    | _ => .driven

/-- A DRAM pin. -/
def State.dramPad (s : State) (ch : Nat) : Pad :=
  if s.boot.porN = false then .highZ
  else if (s.domain (31 + ch / 4)).state = .retain then .selfRefresh else .driven

/-- What stands on a pin (R498, R501, Table SIG-8). An output of PD00 other than FENCE_OUT and THERM_TRIP_N is driven out of reset.
[DEDUCED, unsafe: log 223] -/
def State.pad (s : State) : Ball → Pad
  | .rail _ | .hostRefclk _ _ | .netRefclk _ | .perstN _ => .input
  | .flash ch p => s.flashPad ch p
  | .dram ch _ .alertN => let _ := ch; .input
  | .dram ch _ _ => s.dramPad ch
  | .dramResetN ch => if s.boot.porN = false then .pulledDown else s.dramPad ch
  | .host n _ p => s.lanePad (9 + n) p
  | .net l p => s.lanePad (11 + l / 8) p
  | .bulum _ p => s.lanePad 14 p
  | .sideband n =>
    if n = "FENCE_OUT" then (if s.boot.porN && s.pair.asserted then .high else .low)
    else if n = "THERM_TRIP_N" then (if s.boot.porN = false ∨ s.power.thermTripN = true then .released else .low)
    else if sidebandOutputs.contains n then (if s.boot.porN then .driven else .highZ)
    else .input

end Sys2Proof.Machine
end

