-- ==== Sys2Proof/Tests/Slice0.lean ====
section
/-! SUPPORT. Tests: a small device and the states built from it; for every statement a state and operands that meet its hypotheses; an
ill-formed command for every check of WellFormed.lean; and single steps whose expected results are computed by hand from the spec. -/

open Sys2Proof Sys2Proof.Machine

namespace Sys2Proof.Tests

/-! ### A small device -/

def kind : DieKind :=
  { idBytes := 0, pageKiB := 16, planes := 2, pagesPerBlock := 8, blocksPerPlane := 16, tR := 50, tProg := 500, tBers := 3000, tSusp := 50,
    wcRead := 60, wcProg := 600, wcErase := 4000, slcProg := 200, unitKiB := 16, slcBlockKiB := 64, readOffsets := [] }

/-- A chart of four members with one die each, one constellation and one host link, of the magnitude `m`. -/
def chartOf (m : Nat) : Chart :=
  { magnitude := m
    dies := { chans := [(0, ⟨1, 1, 0⟩), (8, ⟨1, 1, 0⟩), (16, ⟨1, 1, 0⟩), (24, ⟨1, 1, 0⟩)], kinds := [kind], toggle := true, rate := 1200 }
    ports := { h0Split := 0, h1Split := 3, h0Gen := 4, h1Gen := 4, vfCount := [4], nMode := [2], mtu := 4096 }
    ten := { vfSlots := 4, fabricSlots := 4, qpoolPf := 64, qpoolVf := 64, qpoolFabric := 64, qpoolSystem := 16, maxQueues := 8,
             defQueues := 4, maxInflight := 16, maxNs := 8, maxQp := 16 }
    cons := [{ columns := [0], codeRate := 2, zoned := true, conv := true, activeLimit := 8, openLimit := 4, stagger := false }]
    zone := { planesPerSet := 2, zone4k := 256, maxZones := 16, devActive := 8, devOpen := 4, nsActive := 8, nsOpen := 4, granuleKiB := 64 }
    budget := { meridianUs := 250, shares := [], reserve := 10, lend := 10, defWeight := 1 }
    dram := { channels := 1, gibPerChannel := 8, rate := 3200, wbufMiB := 64, hotMinGiB := 1, hotMaxGiB := 2, fdpGiB := 1, ingots := 0,
              systemMiB := 16 }
    power := { psMax := [], idleMs := [], duskMiB := 64, warn := 70, t1 := 80, t2 := 90, t3 := 100, trip := 115 }
    keys := { tenantSlots := 4, systemSlots := 8, gcm := 0, xts := 0, ctr := 0 }
    time := { source := 5, ptpDomain := 0, ppsWindow := 1000, holdoverS := 30 }
    media := { scrubH := 24, assayLog2 := 10, spareMin := 2, finalReserve := 1 }
    pair := { companion := 9, lanes := 8, resyncShare := 10 } }

/-- Namespace 1 is zoned, in four zones of 256 blocks; namespace 2 is conventional. -/
def zonedNs : Ns :=
  { cons := 0, zoned := true, nsze := 1024, lbaf := 0, pi := 0, guard := 0, handles := [], slots := 4, zoneBase := 0, zoneCount := 4, openM1 := 3, activeM1 := 3,
    secure := false, rmw := false, keySlot := some 4, deferred := {}, lost := {} }
def flatNs : Ns := { zonedNs with zoned := false, handles := [0], slots := 1, zoneCount := 0, keySlot := some 5 }

/-- The first controller is the manager's, of PF 0 (OWNER 0x1000); the other is that of tenant slot 0. -/
def queue (n : Nat) : QCtx := { sqSize := 15, cqSize := 15, sqCqid := n, sqValid := true, cqValid := true, ien := true }

/-- The device: sealed, ready, with its namespaces attached to both controllers. -/
def base : State :=
  { State.reset with
    boot := { State.reset.boot with sramFilled := true, running := true, stepsDone := [1, 2, 3, 4, 5, 6, 7, 8],
                                    straps := { (default : Straps) with h1w := 3 } }
    chart := { State.reset.chart with phase := .sealed, cur := chartOf 1, safeInForce := false }
    regs := ((((State.reset.wr Reg.BOOT_STATUS_STAGE 8).wr (Reg.HOST_LINK_STATUS_UP.at 0) 1).wr Reg.KEY_LIMIT_XTS_LO_DU (2 ^ 30)).wr
      Reg.KEY_LIMIT_CTR_LO_BYTES (2 ^ 31)).regs
    nv := { ({} : Nv) with
            ns := [(1, zonedNs), (2, flatNs)]
            zones := [(zoneKey 1 0, { st := .iopen, column := some 0, sets := [0, 0, 0, 0], wp := 4, reserved := 4, committed := 4 }),
                      (zoneKey 1 1, { st := .full, wp := 192, reserved := 192, committed := 192 })]
            attach := [(attachKey 0 1, 0), (attachKey 0 2, 0), (attachKey 4096 1, 0), (attachKey 4096 2, 0)]
            sets := [(blockKey 0 0, [0, 1]), (blockKey 0 1, [2, 3]), (blockKey 0 2, [4, 5]),
                     (blockKey 256 0, [0, 1]), (blockKey 256 1, [2, 3]), (blockKey 256 2, [4, 5]),
                     (blockKey 512 0, [0, 1]), (blockKey 512 1, [2, 3]), (blockKey 512 2, [4, 5]),
                     (blockKey 768 0, [0, 1]), (blockKey 768 1, [2, 3]), (blockKey 768 2, [4, 5])] }
    jr := { ({} : Journal) with disk := { ({} : Nv) with keys := [(4, (0, 65536)), (5, (0, 65536))] } }
    key := { ({} : KeyState) with
             kek := some 1, slots := [(4, ⟨false, .xts, 0x1FFF, 7, 0⟩), (5, ⟨false, .xts, 0x1FFF, 8, 0⟩)], keyReady := [1, 2] }
    host := { ({} : HostState) with
              ctrls := [(0, { en := true, rdy := true, queues := 4 }), (4096, { en := true, rdy := true, queues := 4 })] }
    ten := { ({} : TenantState) with slots := [(0, { phase := .active })] }
    q := { ({} : QueueState) with
           ctx := [(qKey 0 0, queue 0), (qKey 0 1, queue 1), (qKey 4096 0, queue 0), (qKey 4096 1, queue 1)]
           cached := [qKey 0 0, qKey 0 1, qKey 4096 0, qKey 4096 1] } }

/-- The device as one side of a pair. -/
def pairBase : State :=
  { base with
    chart := { base.chart with cur := chartOf 0 }
    nv := { base.nv with pairSt := .paired }
    pair := { base.pair with linkUp := true, credit := 1000 } }

/-- An admin and an I/O command of the manager's controller. -/
def adm : CmdRef := ⟨4096, 0, 1⟩
def io : CmdRef := ⟨4096, 1, 2⟩
def cmdOf (r : CmdRef) (op : Nat) (p : Phase) : Cmd :=
  { ref := r, opcode := op, units := 0, dl := 0, stamp := none, fetchedAt := 0, seq := 0, nsid := 0, reserve := false, epoch := 0,
    urgent := false, deadline := .none, phase := p }
def withCmd (s : State) (r : CmdRef) (op : Nat) (p : Phase) : State := { s with q := { s.q with cmds := [(cmdKey r, cmdOf r op p)] } }
def admS : State := withCmd base adm 6 .fetched
def ioS (op : Nat) : State := withCmd base io op .fetched
def runS (op : Nat) : State := withCmd base io op .accepted

/-- The device with a field of its register table, a mailbox, a domain or a die changed. -/
def withReg (f : Field) (v : Nat) : State := base.wr f v
def withMbx (m : Nat) (x : Mailbox) : State := { base with mbx := [(m, x)] }
def withDomain (d : Nat) (x : DomState) : State := { base with power := { base.power with dom := [(d, { state := x })] } }
def withDie (d : Die) : State := { base with md := { base.md with die := [(0, d)] } }
def withMember (st : MemberSt) : State := { base with nv := { base.nv with members := [(0, { st := st })], zones := [] } }
def withTen (t : Tenant) : State := { base with ten := { base.ten with slots := [(0, t)] } }
def withTime (t : TimeState) : State := { base with time := t }
def withQp (q : Qp) : State := { base with net := { base.net with qps := [(1, q)], ports := [(0, { up := true })] } }
def qp : Qp :=
  { port := 0, use := .fresh, error := false, rate := 1000, target := 1000, alpha := 0, steps := 0, lastCnp := none, next := 4, acked := 2,
    expect := 0, unacked := 1, retries := 0, rnr := 0, rnrWait := false, pmtu := 4096, ackTimeout := 14, retryCnt := 3, rnrRetry := 3 }
def pairAt (st : PairSt) : State := { pairBase with nv := { pairBase.nv with pairSt := st } }
def op (k : OpKind) (p : Purpose) : DieOp :=
  { id := 1, kind := k, cls := 0, owner := 4096, cons := none, deadline := .live 5, base := 0, arrival := 0, cost := 100, blocks := [0],
    page := 0, purpose := p, reserve := false, openRow := false, surplus := false, fromReserve := false, recovers := none, snap := [7],
    assay := false }
def found : Found := { copies := 2, companion := false, diesLeft := [], rows := [], keysBad := [], headersOk := true, proved := [] }
/-- An image of 1,024 bytes as far as its fields go (Table STU-3): MAGIC, FORMAT 1, FW_EDITION 3, lengths 1,024 and 512. -/
def image : FwImage :=
  { bytes := layout [(4, 0x57463954), (2, 1), (2, 3), (4, 1024), (4, 512)] ++ List.replicate 1008 0 }
def training : Training :=
  { failedChannels := [], rates := [], badDies := [], spareBytes := [], sfdpBad := [], badBlocks := [], exchanged := none, dramChannels := 1, dramGib := 8 }
/-- A container as far as MAGIC, FORMAT_VERSION 3, HEADER_SIZE 128 and TOTAL_LENGTH 512 (Table CHT-2). -/
def container : Container :=
  { bytes := layout [(4, 0x4E594C4C), (2, 3), (2, 128), (4, 512)] ++ List.replicate 500 0, content := chartOf 1 }
/-- A time-of-day message for second 7 (Table SID-2): SYNC, VERSION 1, valid, the second, and its CRC. -/
def todBytes : List Nat :=
  let b := layout [(1, 0x54), (1, 0x44), (1, 1), (1, 1), (6, 7), (4, 0)]
  b ++ leBytes 2 (crc16 b)
def wr : Wr :=
  { ref := io, nsid := 1, slba := 4, nlb := 1, zone := some 0, offset := 4, ru := [], handle := 0, fua := false, rmw := false, zeroes := false,
    data := [9], got := true, void := false, needAck := true, acked := false, completed := none, rowsDone := false, committed := none,
    flushed := false, patchData := false, patchParity := false }
def dec : Dec :=
  { op := op .read (.hostRead io 0 1), ch := 0, die := 0, step := 1, retry := 0, early := false, softLeft := 0, hallmark := true }
/-- The hash of the host NQN of the connection tests. -/
def hq : Nat := ConnectReq.hash ⟨1, 0, 15, 65535, [77], 10, false⟩
def job : Job :=
  { kind := .outOfService io 0 1, set := zoneKey 1 0, row := 0, pos := 1, left := [], bad := [], snap := [7], cls := 0, owner := 4096,
    cons := none, deadline := .none, lane := some 0 }
def prog (x : ServeStep) : Run1 :=
  { ref := io, engine := 0, prog := ⟨1, [65536, 65536, 0, 0], [], [(0, x)]⟩, left := [(0, x)], ready := true, bufs := [0, 1, 2, 3],
    chains := [], ranges := none, place := 0, sent := [] }
/-- A program of one POST step. -/
def progWords : List Nat := [0x0101] ++ List.replicate 31 0 ++ [0x0006] ++ List.replicate 15 0
/-- Zone 2 of namespace 1 after its opening. -/
def opened : State :=
  match (runS 0x79).openZone 1 2 zonedNs true with
  | .ok s => s
  | _ => base


/-- With nothing on the dies and no zone or reclaim unit open, every member is idle. -/
theorem idleMember_of_nothing {s : State} (m : Nat) (hd : s.md.die = []) (hz : s.nv.zones = []) (hr : s.nv.rus = []) : s.idleMember m := by
  refine ⟨fun d _ => ?_, ?_, ?_⟩
  · simp [State.die, hd, mapGet, mapGet?]
  · simp [hz]
  · simp [hr]

/-- The clauses whose one hypothesis is that the block is on. -/
theorem witness_alive : base.alive = true ∧ State.reset.alive = true := by decide

theorem witness_StepRunsFrontCommand :
    ({ base with pending := [.tamper] } : State).pending = .tamper :: [] ∧ base.pending = [] := ⟨rfl, rfl⟩

theorem witness_EveryStepKeepsInvariant : State.reset.Inv ∧ step State.reset = .next State.reset.tick := by
  refine ⟨⟨rfl, ?_⟩, rfl⟩
  simp [AlmState.Numbered, State.reset]

theorem witness_BlockOffIgnoresCommands_1 :
    let s : State := { base with boot := { base.boot with porN := false } }
    s.alive = false ∧ Instr.tamper ≠ .porNAssert ∧ ∀ (a : Straps) (b : Pins) (n : Option Nor), Instr.tamper ≠ .porNDeassert a b n :=
  ⟨by decide, nofun, fun _ _ _ => nofun⟩

theorem witness_DomainsComplete_5 :
    let s : State := { withDomain 15 .waking with nv := { base.nv with zones := [] } }
    s.alive = true ∧ 15 ≤ 15 ∧ 15 ≤ 30 ∧ (s.domain 15).state = .waking ∧ (s.member (15 - 15)).st = .inService ∧ s.idleMember (15 - 15) :=
  ⟨by decide, by decide, by decide, by decide, by decide, idleMember_of_nothing _ rfl rfl rfl⟩

theorem witness_MediaEventsComplete_4 :
    let s : State := { withDie { busy := .resetting } with nv := { base.nv with zones := [] } }
    s.alive = true ∧ (s.die (dieKey 0 0)).busy = .resetting ∧ (s.die (dieKey 0 0)).failed = false ∧ (s.die (dieKey 0 0)).queue = [] ∧
      (∀ d, dieMember d = dieMember (dieKey 0 0) → d ≠ dieKey 0 0 → (s.die d).busy = .idle ∧ (s.die d).queue = []) ∧
      (∀ e ∈ s.nv.zones, e.2.st.isOpen = false) ∧ (∀ e ∈ s.nv.rus, e.2.held = none) ∧ s.setsOn (columnOf (dieKey 0 0)) = [] := by
  refine ⟨by decide, by decide, by decide, by decide, fun d _ hd => ?_, by decide, by decide, by decide⟩
  simp [State.die, withDie, mapGet, mapGet?, dieKey] at hd ⊢
  simp [hd]

theorem witness_MediaEventsComplete_6 :
    let s : State := { withDie { busy := .resetting } with nv := { base.nv with zones := [] } }
    s.alive = true ∧ (s.die (dieKey 0 0)).busy = .resetting ∧ (s.member (0 / 8)).st = .inService ∧ (s.die (dieKey 0 0)).queue = [] ∧
      (∀ d, dieMember d = 0 / 8 → d ≠ dieKey 0 0 → (s.die d).busy = .idle ∧ (s.die d).queue = []) ∧
      (∀ e ∈ s.nv.zones, e.2.st.isOpen = false) ∧ ∀ e ∈ s.nv.rus, e.2.held = none := by
  refine ⟨by decide, by decide, by decide, by decide, fun d _ hd => ?_, by decide, by decide⟩
  simp [State.die, withDie, mapGet, mapGet?, dieKey] at hd ⊢
  simp [hd]

theorem witness_MediaEventsComplete_8 :
    let s : State := { base with nv := { base.nv with zones := [] } }
    s.alive = true ∧ (s.member (31 / 8)).st = .inService ∧ s.idleMember (31 / 8) :=
  ⟨by decide, by decide, idleMember_of_nothing _ rfl rfl rfl⟩

theorem witness_FunctionsComplete_8 :
    let s : State := { base with boot := { base.boot with running := false } }
    let c : Instr := .vfEnable 0
    s.alive = true ∧ s.cfgOpen = false ∧
      (c = .functionLevelReset (.pf 0) ∨ c = .vfEnable 0 ∨ c = .vfDisable 0 ∨ ∃ w, c = .numvfsWrite 0 w) :=
  ⟨by decide, by decide, .inr (.inl rfl)⟩

theorem witness_MembersComplete_3 :
    let s : State := { base with nv := { base.nv with zones := [] } }
    s.alive = true ∧ 0x4352 = 17234 ∧ s.members.contains 1 = true ∧ (s.member 1).st = .inService ∧ s.idleMember 1 ∧
      (false = true ∨ (s.members.any fun x => x != 1 && !s.memberUp x) = false) :=
  ⟨by decide, by decide, by decide, by decide, idleMember_of_nothing _ rfl rfl rfl, by decide⟩

theorem witness_ThermalCompletes_1 :
    base.alive = true ∧
      (ThermSample.shorted = .opened ∧ 2 = 1 ∨ ThermSample.shorted = .shorted ∧ 2 = 2 ∨
        (∃ q, ThermSample.shorted = .valid q ∧ (q < -160 ∨ 600 < q)) ∧ 2 = 3) :=
  ⟨by decide, .inr (.inl ⟨rfl, rfl⟩)⟩

theorem witness_ZoneEventsComplete_4 :
    let s : State := { runS 0x79 with zone := { base.zone with openWaits := [(zoneKey 1 2, io)] } }
    s.alive = true ∧ s.zone.openWaits = [(zoneKey 1 2, io)] ∧ s.ns? 1 = some zonedNs ∧ s.cmd? io = some (cmdOf io 0x79 .accepted) ∧
      s.runs io = true ∧ (cmdOf io 0x79 .accepted).opcode = 121 ∧ (s.zoneAt 1 2).st = .empty ∧
      ∃ s', s.quiet.openZone 1 2 zonedNs true = .ok s' :=
  ⟨by decide, by decide, by decide, by decide, by decide, by decide, by decide, _, rfl⟩

theorem hash_nqn (a b c d : Nat) (e : Nat) (f : Bool) : (⟨a, b, c, d, [77], e, f⟩ : ConnectReq).hash = hq := rfl

theorem witness_FabricsComplete_5 :
    let s : State := { withQp qp with nv := { base.nv with nqn := [(4, hq)] } }
    let c : ConnectReq := ⟨1, 0, 15, 65535, [77], 10, false⟩
    s.alive = true ∧ mapGet? s.net.qps c.qp = some qp ∧ qp.use = .fresh ∧ c.qid = 0 ∧ c.discovery = false ∧ c.cntlid = 65535 ∧
      s.reservedFor c.hash = [4] ∧ (s.tenant 4).phase = .inactive ∧
      (((s.quiet.powerExit 2).activate 4 qp.port).tenant 4).phase = .active := by
  refine ⟨by decide, by decide, by decide, by decide, by decide, by decide, ?_, by decide, by decide⟩
  simp only [hash_nqn, State.reservedFor, List.filter, beq_self_eq_true, Bool.true_and]
  decide

theorem witness_FabricsComplete_7 :
    let s : State := { base with
      net := { base.net with
        qps := [(1, { qp with use := .nvme 4 0 }), (2, qp)], ports := [(0, { up := true })], assocs := [(4, ⟨0, hq, [1], 0, 0⟩)] }
      host := { base.host with ctrls := [(4, { en := true, rdy := true, queues := 4 })] }
      ten := { base.ten with slots := [(4, { phase := .active })] } }
    let c : ConnectReq := ⟨2, 1, 15, 5, [77], 0, false⟩
    let a : Assoc := ⟨0, hq, [1], 0, 0⟩
    s.alive = true ∧ mapGet? s.net.qps c.qp = some qp ∧ qp.use = .fresh ∧ c.qid ≠ 0 ∧
      mapGet? s.net.assocs (ctrlIdOwner c.cntlid) = some a ∧ a.hash = c.hash ∧ c.sqsize ≠ 0 ∧
      ((s.quiet.powerExit 2).ctrl (ctrlIdOwner c.cntlid)).rdy = true ∧
      c.qid < ((s.quiet.powerExit 2).ctrl (ctrlIdOwner c.cntlid)).queues ∧ s.hasSq (ctrlIdOwner c.cntlid) c.qid = false :=
  ⟨by decide, by decide, by decide, by decide, rfl, rfl, by decide, by decide, by decide, by decide⟩

/-! ### States and operands that meet the hypotheses of each statement, clause by clause -/

theorem witness_AlarmsAndDebugComplete :
    (base.alive = true ∧ base.key.wiped = false) ∧
    (let c : Instr := .dbgUnlockGo 0x4447 true
     base.alive = true ∧ (c = Instr.dbgUnlockLock 17479 ∨ c = Instr.dbgUnlockGo 17479 true)) ∧
    (base.alive = true ∧ 0 ≠ 17479) ∧
    (base.alive = true ∧ 1 ≠ 17479) ∧
    (let s : State := { base with boot := { base.boot with jtagOpen := false, jtagPermitted := false } }
     s.alive = true ∧ s.boot.jtagOpen = false) := by
  decide

theorem witness_AlmanacCompletes :
    (base.alive = true ∧ 35 < 36) ∧
    (base.alive = true ∧ 1151 < 1152) ∧
    (base.alive = true ∧ base.on Reg.ALM_READ_STATUS_BUSY = false) ∧
    (let s : State := { base with alm := { base.alm with readSeq := some 3 } }
     s.alive = true ∧ s.alm.readSeq = some 3) := by
  decide

theorem witness_BatchAndDuskComplete :
    (let s : State := { base with jr := { base.jr with closed := [⟨1, base.nv⟩] } }
     let b : Batch := ⟨1, base.nv⟩
     let l : List Batch := []
     s.alive = true ∧ s.jr.closed = l ++ [b]) ∧
    (base.alive = true ∧ base.wp.dusk = Dusk.idle) ∧
    (let s : State := { base with wp := { base.wp with dusk := .quiesce } }
     s.alive = true ∧ s.wp.dusk = Dusk.quiesce ∧ s.writersRun = false) ∧
    (let s : State := { base with wp := { base.wp with dusk := .data } }
     s.alive = true ∧ s.wp.dusk = Dusk.data) ∧
    (let s : State := { base with wp := { base.wp with dusk := .metadata }, boot := { base.boot with pins := { base.boot.pins with pwrLossN := false } } }
     s.alive = true ∧ s.wp.dusk = Dusk.metadata ∧ s.wp.duskLost = false ∧ s.boot.pins.pwrLossN = false) ∧
    (let s : State := { base with wp := { base.wp with dusk := .metadata, duskLost := true } }
     s.alive = true ∧ s.wp.dusk = Dusk.metadata ∧ s.wp.duskLost = true) := by
  decide

theorem witness_BlockOffIgnoresCommands :
    (let s : State := { base with power := { base.power with tripped := true } }
     s.power.tripped = true) ∧
    (let s : State := { base with power := { base.power with tripped := true } }
     s.power.tripped = true ∧ s.boot.porN = true) := by
  decide

theorem witness_BootRomCompletes :
    (State.reset.alive = true ∧ State.reset.boot.sramFilled = false) ∧
    (let s : State := { State.reset with boot := { State.reset.boot with sramFilled := true } }
     s.alive = true ∧ s.boot.sramFilled = true ∧ s.boot.running = false ∧ s.boot.recovery = false ∧ 1 < 2) ∧
    (let s : State := { State.reset with boot := { State.reset.boot with sramFilled := true } }
     s.alive = true ∧ s.boot.sramFilled = true ∧ s.boot.running = false ∧ s.boot.recovery = false ∧
     1 = (Option.map (fun x => x.slot) s.ptrUsed).getD 1) ∧
    (let s : State := { withReg Reg.BOOT_STATUS_STAGE 9 with boot := { base.boot with recovery := true } }
     s.alive = true ∧ s.boot.recovery = true ∧ s.stage = 9 ∧ s.boot.recoveryLink = none) ∧
    (let s : State := withReg Reg.BOOT_STATUS_STAGE 9
     s.alive = true ∧ s.stage = 9) := by
  decide

theorem witness_CellsComplete :
    (base.alive = true ∧ 2 < 3 ∧ 1 ≠ 0) ∧
    (let s : State := { base with cell := { base.cell with queues := [(0, [⟨1, false, 2, none⟩])] } }
     s.alive = true ∧ s.wholeQueue 0 ≠ [] ∧ s.cellHeld 0 = false) ∧
    (let s : State := { base with cell := { base.cell with cells := [(5, ⟨1, 0, nullHandle⟩)] } }
     let c : Cell := ⟨1, 0, nullHandle⟩
     s.alive = true ∧ s.validHandle 5 = true ∧ mapGet? s.cell.cells 5 = some c ∧ c.next = nullHandle ∧ 5 ≠ nullHandle) ∧
    (let s : State := { base with cell := { base.cell with cells := [(5, ⟨1, 0, nullHandle⟩)] } }
     let c : Cell := ⟨1, 0, nullHandle⟩
     s.alive = true ∧ s.validHandle 5 = true ∧ mapGet? s.cell.cells 5 = some c ∧ c.next = nullHandle ∧ 5 ≠ nullHandle ∧
     s.cell.queues = []) ∧
    (base.alive = true ∧ base.validHandle 5 = true ∧ 5 ≠ nullHandle ∧ mapGet? base.cell.cells 5 = none ∧ base.cell.queues = []) ∧
    (base.alive = true ∧ base.validHandle 131071 = true ∧ 131071 ≠ nullHandle ∧ mapGet? base.cell.cells 131071 = none ∧
     base.cell.queues = []) := by
  decide

theorem witness_ChartCompletes :
    (let s : State := withReg Reg.BOOT_STATUS_STAGE 3
     s.alive = true ∧ s.boot.running = true ∧ s.stage = 3) ∧
    (base.alive = true ∧ 0x4C59 = 19545 ∧ base.chart.phase ≠ ChartPhase.draining ∧ base.chart.phase ≠ ChartPhase.loading) ∧
    (base.alive = true ∧ 0 ≠ 19545) ∧
    (let s : State := { base with chart := { base.chart with phase := .draining } }
     s.alive = true ∧ s.chart.phase = ChartPhase.draining ∧ s.chart.timedOut = false) ∧
    (let s : State := { base with chart := { base.chart with phase := .draining, kind := .structural 1 false } }
     s.alive = true ∧ s.chart.phase = ChartPhase.draining ∧ (s.chart.timedOut = true ∨ s.unfinished true = false)) := by
  decide

theorem witness_ClocksComplete :
    (base.alive = true ∧ base.on Reg.PWR_VP_CTRL_BUSY = false) ∧
    (base.alive = true ∧ base.on Reg.PWR_CLK_CTRL_BUSY = false ∧ 400 ≤ 400 ∧ 400 ≤ 1600 ∧ 400 % 100 = 0 ∧ 400 ≤ 2200 ∧ 2200 ≤ 2200 ∧
     2200 % 100 = 0) ∧
    (let s : State := { base with power := { base.power with clkAsked := some (800, 1000) } }
     let x : Nat × Nat := (800, 1000)
     s.alive = true ∧ s.power.clkAsked = some x ∧ s.power.psMoving = false) ∧
    (let s : State := { base with power := { base.power with clkAsked := some (800, 1000), psMoving := true } }
     let x : Nat × Nat := (800, 1000)
     s.alive = true ∧ s.power.clkAsked = some x ∧ s.power.psMoving = true ∧ s.rd Reg.PWR_STATUS_PS_TARGET ≤ 4 ∧
     s.power.vpAsked = none ∧ s.rd Reg.PWR_CLK_CTRL_CORE_MHZ = (psPoint (s.rd Reg.PWR_STATUS_PS_TARGET)).snd.fst ∧
     s.rd Reg.PWR_CLK_CTRL_DP_MHZ = (psPoint (s.rd Reg.PWR_STATUS_PS_TARGET)).snd.snd ∧
     (s.fixedRail = true ∨ s.rd Reg.PWR_STATUS_VP = (psPoint (s.rd Reg.PWR_STATUS_PS_TARGET)).fst)) ∧
    (let s : State := { base with power := { base.power with vpAsked := some 3 } }
     s.alive = true ∧ s.power.vpAsked = some 3 ∧ 3 < 4) ∧
    (let s : State := { base with power := { base.power with vpAsked := some 0 } }
     s.alive = true ∧ s.power.vpAsked = some 0 ∧ 0 < 4) := by
  decide

theorem witness_CompanionCompletes_1 :
    (pairBase.alive = true ∧ pairBase.isPair = true) ∧
    (pairBase.alive = true ∧ pairBase.isPair = true ∧ (∀ (i : Nat), i < 0 → (pairBase.buffered 1 (0 + i)).isSome = true)) ∧
    (let s : State := { pairBase with pair := { pairBase.pair with asks := [(0, ⟨none, 1, 0, 1, 0, 0, 0, [], none⟩)] } }
     let a : Ask := ⟨none, 1, 0, 1, 0, 0, 0, [], none⟩
     s.alive = true ∧ mapGet? s.pair.asks 0 = some a) ∧
    (pairBase.alive = true ∧ pairBase.isPair = true ∧ pairBase.nv.pairSt = PairSt.paired) ∧
    (let s : State := { runS 0x79 with zone := { base.zone with resets := [(cmdKey io, ⟨io, 1, [], true, [], false, false, [], 0⟩)] } }
     let w : ZoneWait := ⟨io, 1, [], true, [], false, false, [], 0⟩
     s.alive = true ∧ mapGet? s.zone.resets (cmdKey io) = some w ∧ w.secure = true ∧ w.zones = [] ∧ w.granules = [] ∧ w.left = [] ∧
     w.batch ≤ s.jr.onFlash ∧ s.runs w.ref = true) ∧
    (let s : State := { pairAt .resync with pair := { pairBase.pair with left := [(2, 0)] } }
     s.alive = true ∧ s.isPair = true ∧ s.nv.pairSt = PairSt.resync ∧ s.ns? 2 = some flatNs ∧ flatNs.zoned = false ∧
     s.on Reg.PAIR_STATUS_RESYNC_TARGET = false ∧ s.pair.left = [(2, 0)] ∧ s.pair.lostRanges = []) := by
  decide

theorem witness_CompanionCompletes_2 :
    (let s : State := { (pairAt .resync).wr Reg.PAIR_STATUS_RESYNC_TARGET 1 with pair := { pairBase.pair with left := [(2, 0)] } }
     s.alive = true ∧ s.isPair = true ∧ s.nv.pairSt = PairSt.resync ∧ s.ns? 2 = some flatNs ∧ flatNs.zoned = false ∧
     s.on Reg.PAIR_STATUS_RESYNC_TARGET = true ∧ (2, 0) ∈ s.pair.left ∧
     mapHas s.zone.resets (cmdKey { owner := companionOwner, sqid := 2, cid := regionKey 2 0 % 65536 }) = false) := by
  decide

theorem witness_ControllersComplete :
    (let s : State := { base with host := { base.host with ctrls := [] } }
     s.alive = true ∧ s.present 4096 = true ∧ (s.ctrl 4096).flr = false ∧ (s.ctrl 4096).en = false ∧ s.isFabric 4096 = false) ∧
    (let s : State := { base with host := { base.host with ctrls := [] }, ten := { base.ten with slots := [(4, { phase := .active })] } }
     s.alive = true ∧ s.present 4 = true ∧ (s.ctrl 4).flr = false ∧ (s.ctrl 4).en = false ∧ s.isFabric 4 = true ∧ s.hostOpen = true) ∧
    (base.alive = true ∧ base.present 4096 = true ∧ (base.ctrl 4096).flr = false ∧ (base.ctrl 4096).en = true ∧
     (base.isFabric 4096 && base.hasCapsules 4096) = false) := by
  decide

theorem witness_DieQueuesComplete :
    (let r : DieReq := ⟨24, 0, .read, [0], 0, .scrub none, none⟩
     base.alive = true ∧ base.populated (dieKey r.ch r.die) = true ∧ base.memberIssues (dieMember (dieKey r.ch r.die)) = true ∧
     (base.die (dieKey r.ch r.die)).failed = false ∧ r.bad = none ∧
     (r.purpose = Purpose.metadata ∨ r.purpose = Purpose.adminRead ∨ r.purpose = Purpose.scrub none)) ∧
    (let s : State := { withDie { queue := [{ op .read .adminRead with cls := 9, recovers := none, deadline := .none }], tokens := [(8, 5)] } with md := { base.md with die := [(0, { queue := [{ op .read .adminRead with cls := 9, deadline := .none }], tokens := [(8, 5)] })] } }
     s.alive = true ∧ (s.die (dieKey 0 0)).busy = DieBusy.idle ∧ s.populated (dieKey 0 0) = true ∧
     (s.die (dieKey 0 0)).failed = false ∧ s.draining = false ∧ (s.die (dieKey 0 0)).erase = none ∧
     mapHas s.md.retraining 0 = false ∧ (s.die (dieKey 0 0)).held = [] ∧
     (∀ (o : DieOp), o ∈ (s.die (dieKey 0 0)).queue → o.kind = OpKind.read) ∧
     ((s.die (dieKey 0 0)).queue.any fun o => s.eligibleOp (dieKey 0 0) o) = true) ∧
    (let s : State := withDie { queue := [op .read (.hostRead io 0 1)] }
     let o : DieOp := op .read (.hostRead io 0 1)
     s.alive = true ∧ o ∈ (s.die (dieKey 0 0)).queue ∧ o.id = 1 ∧ o.deadline = Deadline.live 5 ∧ o.cls ≤ 1) ∧
    (let s : State := withDie { erase := some ⟨op .erase .erase, 0, 0, 0, 0, false, false⟩ }
     let e : Erase := ⟨op .erase .erase, 0, 0, 0, 0, false, false⟩
     s.alive = true ∧ (s.die (dieKey 0 0)).erase = some e) ∧
    (let s : State := withDie { busy := .suspending (op .erase .erase) (op .read (.scrub none)), run := some ⟨op .erase .erase, 0, 0, 0, 0, false, false⟩ }
     let e : DieOp := op .erase .erase
     let b : DieOp := op .read (.scrub none)
     let r : Erase := ⟨op .erase .erase, 0, 0, 0, 0, false, false⟩
     s.alive = true ∧ (s.die (dieKey 0 0)).busy = DieBusy.suspending e b ∧ (s.die (dieKey 0 0)).run = some r) ∧
    (let s : State := withDie { busy := .resuming (op .erase .erase) }
     let e : DieOp := op .erase .erase
     s.alive = true ∧ (s.die (dieKey 0 0)).busy = DieBusy.resuming e ∧ s.wp.dusk = Dusk.idle) := by
  decide

theorem witness_DomainsComplete :
    (let s : State := base.wr Reg.PWR_AUTO_RETAIN_PD13 1
     s.alive = true ∧ (s.domain 13).state = DomState.on ∧
     (13 = 13 ∧ s.on Reg.PWR_AUTO_RETAIN_PD13 = true ∨ 13 = 33 ∧ s.on Reg.PWR_AUTO_RETAIN_PD33 = true ∨ 13 = 34 ∧ s.on Reg.PWR_AUTO_RETAIN_PD34 = true)) ∧
    (let s : State := withDomain 35 .off
     s.alive = true ∧ 35 < 36 ∧ ((s.domain 35).state = DomState.retain ∨ (s.domain 35).state = DomState.off)) ∧
    (let s : State := withDomain 7 .waking
     s.alive = true ∧ (s.domain 7).state = DomState.waking ∧ (s.domain 7).stalled = []) ∧
    (let s : State := withDomain 7 .waking
     s.alive = true ∧ (s.domain 7).state = DomState.waking) := by
  decide

theorem witness_DoorbellCompletes :
    (base.alive = true ∧ base.present 4096 = true ∧ (base.ctrl 4096).flr = false ∧ base.isFabric 4096 = false ∧
     (base.tenant 4096).phase ≠ TenPhase.eclipsed ∧ 1 < base.doorbellRange 4096 ∧ base.hasSq 4096 1 = true ∧
     base.q.cached.contains (qKey 4096 1) = true ∧ (base.qctx 4096 1).tailValid 15 = true) ∧
    (base.alive = true ∧ base.present 4096 = true ∧ (base.ctrl 4096).flr = false ∧ base.isFabric 4096 = false ∧
     (base.tenant 4096).phase ≠ TenPhase.eclipsed ∧ 1 < base.doorbellRange 4096 ∧ base.hasSq 4096 1 = true ∧
     base.q.cached.contains (qKey 4096 1) = true ∧ (base.qctx 4096 1).tailValid 16 = false) ∧
    (base.alive = true ∧ base.present 4096 = true ∧ (base.ctrl 4096).flr = false ∧ base.isFabric 4096 = false ∧
     (base.tenant 4096).phase ≠ TenPhase.eclipsed ∧ 1 < base.doorbellRange 4096 ∧ base.hasCq 4096 1 = true ∧
     base.q.cached.contains (qKey 4096 1) = true ∧ (base.qctx 4096 1).headValid 0 = true) ∧
    (let s : State := { base with q := { base.q with cached := [] } }
     s.alive = true ∧ s.present 4096 = true ∧ (s.ctrl 4096).flr = false ∧ s.isFabric 4096 = false ∧
     (s.tenant 4096).phase ≠ TenPhase.eclipsed ∧ 1 < s.doorbellRange 4096 ∧ s.hasSq 4096 1 = true ∧
     s.q.cached.contains (qKey 4096 1) = false) ∧
    (let s : State := { base with q := { base.q with fills := [qKey 4096 1] } }
     s.alive = true ∧ s.q.fills.contains (qKey 4096 1) = true ∧
     (s.q.cached.length < 65536 ∨ ∃ j, j ∈ s.q.cached ∧ s.ctxIdle j = true)) := by
  decide

theorem witness_DramComplete_1 :
    (base.alive = true ∧ base.on Reg.DRAM_FILL_STATUS_BUSY = false) ∧
    (let s : State := { base with dram := { base.dram with filling := some (0, 8192) } }
     s.alive = true ∧ s.dram.filling = some (0, 8192) ∧ s.dram.waiting = []) ∧
    (base.alive = true ∧ 15 < 16) ∧
    (let s : State := { base with dram := { base.dram with filled := [(0, 8192)], writes := [(0, [⟨2097152, false, 7, false⟩])] } }
     let r : DramReq := ⟨134217728, none, 0, 0, false, .other, .clean⟩
     let w : DramWrite := ⟨2097152, false, 7, false⟩
     s.alive = true ∧ s.granuleFilling (r.addr / 1048576) = false ∧ s.granuleFilled (r.addr / 1048576) = true ∧ r.act = false ∧
     metadataClass (partitionOf s.chart.cur r.addr) = false ∧ r.write = none ∧
     s.queuedWrite (s.dramSub (r.addr / 64)) (r.addr / 64) = some w ∧ w.poison = false) ∧
    (let s : State := { base with dram := { base.dram with filled := [(0, 8192)] } }
     let r : DramReq := ⟨134217728, some 7, fullMask, 0, false, .other, .clean⟩
     s.alive = true ∧ s.granuleFilling (r.addr / 1048576) = false ∧ s.granuleFilled (r.addr / 1048576) = true ∧ r.act = false ∧
     metadataClass (partitionOf s.chart.cur r.addr) = false ∧ r.write = some 7 ∧ r.mask = fullMask ∧ r.found = DramVerdict.clean) ∧
    (let r : DramReq := ⟨64, some 7, 1, 0, false, .other, .clean⟩
     base.alive = true ∧ base.granuleFilling (r.addr / 1048576) = false ∧ base.granuleFilled (r.addr / 1048576) = false ∧
     r.write = some 7) := by
  decide

theorem witness_DramComplete_2 :
    (let r : DramReq := ⟨64, none, 1, 0, false, .coreLoad 5, .clean⟩
     base.alive = true ∧ base.granuleFilling (r.addr / 1048576) = false ∧ base.granuleFilled (r.addr / 1048576) = false ∧
     r.write = none ∧ r.content = DramContent.coreLoad 5) ∧
    (let s : State := { base with dram := { base.dram with filled := [(0, 8192)] } }
     s.alive = true ∧ s.pausedPs = false ∧ s.granuleFilled (128 / 1048576) = true ∧ s.line (128 / 64) = zeroLine) ∧
    (let s : State := { base with dram := { base.dram with filled := [(0, 8192)] } }
     s.alive = true ∧ s.testAddr < s.spaceBytes 0 ∧ s.testAddr % 64 = 0 ∧ s.granuleFilled (s.testAddr / 1048576) = true ∧
     s.writeQueue (s.dramSub (s.testAddr / 64)) = []) ∧
    (let s : State := { base with dram := { base.dram with filled := [(0, 8192)] } }
     s.alive = true ∧ s.testAddr < s.spaceBytes 0 ∧ s.testAddr % 64 = 0 ∧ s.granuleFilled (s.testAddr / 1048576) = true ∧
     s.writeQueue (s.dramSub (s.testAddr / 64)) = [] ∧ (s.line (s.testAddr / 64)).poison = false ∧
     (s.line (s.testAddr / 64)).check = none) ∧
    (base.alive = true ∧ 0 ≠ eccUnlock) := by
  decide

theorem witness_EventsAndAbortComplete :
    (let s : State := withCmd base adm 12 .fetched
     s.alive = true ∧ s.startable adm = true ∧ (s.ctrl adm.owner).aers.length < 16 ∧ (s.ctrl adm.owner).aenPending = []) ∧
    (let s : State := { withCmd base adm 12 .fetched with host := { base.host with ctrls := [(4096, { en := true, rdy := true, aenPending := [(1, 2, 3)] })] } }
     s.alive = true ∧ s.startable adm = true ∧ (s.ctrl adm.owner).aers = [] ∧ (s.ctrl adm.owner).aenPending = [(1, 2, 3)] ∧
     (s.ctrl adm.owner).aenMasked.contains (aenKey 1 2) = false) ∧
    (let s : State := { withCmd base adm 12 .fetched with host := { base.host with ctrls := [(4096, { en := true, rdy := true, aers := List.replicate 16 io })] } }
     s.alive = true ∧ s.startable adm = true ∧ 16 ≤ (s.ctrl adm.owner).aers.length) ∧
    (let s : State := withCmd base adm 8 .fetched
     s.alive = true ∧ s.startable adm = true ∧ cmdKey { owner := adm.owner, sqid := 1, cid := 9 } ≠ cmdKey adm) := by
  decide

theorem witness_FabricsComplete_1 :
    (base.alive = true ∧ bits 33554432 27 20 ≤ if base.on Reg.NET_ADDR_SEL_IPV6 = true then 128 else 32) ∧
    (let s : State := withQp qp
     let c : ConnectReq := ⟨1, 0, 15, 65535, [77], 10, false⟩
     s.alive = true ∧ mapGet? s.net.qps c.qp = some qp ∧ qp.use = QpUse.fresh ∧ c.qid = 0 ∧ c.discovery = false ∧ c.cntlid = 65535 ∧
     s.reservedFor c.hash = []) ∧
    (let s : State := { withQp { qp with use := .nvme 4 1 } with q := { base.q with ctx := [(qKey 4 1, queue 1)] }, ten := { base.ten with slots := [(4, { phase := .active })] } }
     s.alive = true ∧ s.qpOf 4 1 = some 1 ∧ s.isFabric 4 = true ∧ s.hasSq 4 1 = true ∧
     (mapGet s.q.rings (qKey 4 1) []).length < (s.qctx 4 1).sqSize) ∧
    (let s : State := { withQp { qp with use := .nvme 4 1 } with q := { base.q with ctx := [(qKey 4 1, { queue 1 with sqTail := 15 })], rings := [(qKey 4 1, List.replicate 15 ⟨1, 2, 0, 0, 0⟩)] }, ten := { base.ten with slots := [(4, { phase := .active })] } }
     s.alive = true ∧ s.qpOf 4 1 = some 1 ∧ s.isFabric 4 = true ∧ s.hasSq 4 1 = true ∧
     (s.qctx 4 1).sqSize ≤ (mapGet s.q.rings (qKey 4 1) []).length) ∧
    (let s : State := { withCmd base ⟨4, 0, 1⟩ 24 .fetched with net := { base.net with assocs := [(4, ⟨0, 77, [1], 10, 0⟩)] } }
     let r : CmdRef := ⟨4, 0, 1⟩
     let a : Assoc := ⟨0, 77, [1], 10, 0⟩
     s.alive = true ∧ s.startable r = true ∧ mapGet? s.net.assocs r.owner = some a) ∧
    (admS.alive = true ∧ admS.startable adm = true ∧ mapGet? admS.net.assocs adm.owner = none) := by
  decide

theorem witness_FabricsComplete_2 :
    (let s : State := { base with net := { base.net with assocs := [(4, ⟨0, 77, [], 10, 0⟩)] } }
     let a : Assoc := ⟨0, 77, [], 10, 0⟩
     s.alive = true ∧ mapGet? s.net.assocs 4 = some a) := by
  decide

theorem witness_FeaturesComplete :
    (admS.alive = true ∧ admS.startable adm = true ∧ 1 ≠ 65535 ∧ admS.hasSq adm.owner 1 = true) ∧
    (admS.alive = true ∧ admS.startable adm = true) ∧
    (admS.alive = true ∧ admS.startable adm = true ∧ 4 ≤ admS.npss) ∧
    (admS.alive = true ∧ admS.startable adm = true ∧ admS.npss < 5) := by
  decide

theorem witness_FenceCompletes_1 :
    (let s : State := { pairAt .suspect with pair := { pairBase.pair with deferring := true } }
     s.alive = true ∧ s.isPair = true ∧ s.nv.pairSt = PairSt.suspect ∧ s.pair.deferring = true ∧ s.boot.pins.fenceIn = false) ∧
    (let s : State := { pairAt .suspect with pair := { pairBase.pair with asserted := true } }
     s.alive = true ∧ s.isPair = true ∧ s.nv.pairSt = PairSt.suspect ∧ s.pair.asserted = true ∧ s.boot.pins.fenceIn = false ∧
     s.wp.wr = [] ∧ s.pair.forwards = [] ∧ s.pair.asks = [] ∧ s.pair.nsOps = [] ∧ s.zone.resets = []) ∧
    (let s : State := { pairAt .suspect with pair := { pairBase.pair with asserted := true }, boot := { base.boot with pins := { base.boot.pins with fenceIn := true } } }
     s.alive = true ∧ s.isPair = true ∧ s.wp.wr = [] ∧ s.pair.forwards = [] ∧ s.pair.asks = [] ∧ s.nv.pairSt = PairSt.suspect ∧
     s.pair.asserted = true ∧ s.boot.pins.fenceIn = true) ∧
    (let s : State := pairAt .joining
     s.alive = true ∧ s.isPair = true ∧ s.wp.wr = [] ∧ s.pair.forwards = [] ∧ s.pair.asks = [] ∧
     (s.nv.pairSt = PairSt.paired ∨ s.nv.pairSt = PairSt.joining ∧ s.journalBack = true ∨ s.nv.pairSt = PairSt.suspect ∧ s.pair.asserted = false)) ∧
    (let s : State := pairAt .mismatch
     s.alive = true ∧ s.isPair = true ∧ s.wp.wr = [] ∧ s.pair.forwards = [] ∧ s.pair.asks = [] ∧ s.nv.pairSt = PairSt.mismatch) ∧
    (let s : State := pairAt .fenced
     s.alive = true ∧ s.isPair = true ∧ s.nv.pairSt = PairSt.fenced) := by
  decide

theorem witness_FenceCompletes_2 :
    (let s : State := pairAt .fenced
     s.alive = true ∧ s.isPair = true ∧ s.nv.pairSt = PairSt.fenced ∧ s.fenceLow = false) ∧
    (let s : State := { pairAt .fenced with pair := { pairBase.pair with fenceLowSince := some 0 }, time := { base.time with now := 1000000 } }
     s.alive = true ∧ s.isPair = true ∧ s.nv.pairSt = PairSt.fenced ∧ s.fenceLow = true ∧ s.wp.wr = [] ∧ s.pair.opAcks = [] ∧
     s.pair.forwards = [] ∧ s.pair.asks = [] ∧ s.pair.nsOps = [] ∧ s.zone.resets = []) ∧
    (base.alive = true ∧ 0 ≠ 20562) := by
  decide

theorem witness_FetchAndPostComplete :
    (let s : State := { base with q := { base.q with ctx := [(qKey 0 0, queue 0), (qKey 4096 0, { queue 0 with sqTail := 2 })] } }
     s.alive = true ∧ 0 < 65536 ∧ s.firstTier (qKey 4096 0) = true ∧ 0 < s.grantable (qKey 4096 0) ∧
     (∀ (e : Nat × QCtx), e ∈ s.q.ctx → s.firstTier e.fst = true → 0 < s.grantable e.fst → e.fst = qKey 4096 0) ∧
     qKey 4096 0 ∈ List.map Prod.fst s.q.ctx) ∧
    (let s : State := { base with q := { base.q with ctx := [(qKey 0 0, { queue 0 with sqTail := 2 }), (qKey 4096 0, queue 0)], deficit := [(0, 4)] } }
     s.alive = true ∧ s.q.turn = 0 ∧ 0 < mapGet s.q.deficit 0 0 ∧
     (∀ (e : Nat × QCtx), e ∈ s.q.ctx → s.firstTier e.fst = true → s.grantable e.fst = 0) ∧ s.firstTier (qKey 0 0) = false ∧
     0 < s.grantable (qKey 0 0) ∧ qKey 0 0 ∈ List.map Prod.fst s.q.ctx) ∧
    (let s : State := { base with q := { base.q with ctx := [(qKey 4096 1, { queue 1 with sqTail := 2, fetching := 2 })] } }
     s.alive = true ∧ (s.qctx 4096 1).fetching ≠ 0) ∧
    (let s : State := withCmd base io 1 (.done .success 0 0)
     let c : Cmd := cmdOf io 1 (.done .success 0 0)
     let st : Status := .success
     let q : QCtx := base.qctx 4096 1
     let cq : QCtx := base.qctx 4096 1
     s.alive = true ∧ s.cmd? io = some c ∧ c.ref = io ∧ c.phase = Phase.done st 0 0 ∧ io.owner ≠ companionOwner ∧
     isStale io = false ∧ s.postHeld io = false ∧ s.ctxAbsent io = false ∧
     (c.opcode = 2 → st = Status.success → ∀ (e : Nat × Nat), e ∈ s.dram.poisoned → e.fst ≠ cmdKey io) ∧
     q = s.qctx io.owner io.sqid ∧ cq = s.qctx io.owner q.sqCqid) ∧
    (let s : State := withCmd base io 2 (.done .success 0 0)
     let c : Cmd := cmdOf io 2 (.done .success 0 0)
     let q : QCtx := base.qctx 4096 1
     let cq : QCtx := base.qctx 4096 1
     s.alive = true ∧ s.cmd? io = some c ∧ c.ref = io ∧ c.phase = Phase.done Status.success 0 0 ∧ c.opcode = 2 ∧
     io.owner ≠ companionOwner ∧ isStale io = false ∧ s.postHeld io = false ∧ s.ctxAbsent io = false ∧ q = s.qctx io.owner io.sqid ∧
     cq = s.qctx io.owner q.sqCqid) ∧
    (let s : State := { withCmd base io 1 (.done .success 0 0) with q := { (withCmd base io 1 (.done .success 0 0)).q with ctx := [(qKey 4096 1, { queue 1 with cqTail := 15 })] } }
     s.alive = true ∧ s.waitingOn 4096 1 ≠ 0 ∧ (s.qctx 4096 1).room = 0 ∧ (s.qctx 4096 1).fullNoted = false) := by
  decide

theorem witness_FirmwareCompletes_1 :
    (admS.alive = true ∧ admS.startable adm = true ∧ admS.managerOwner = some adm.owner ∧ admS.boot.commit = none ∧ 0 % 4096 = 0 ∧
     3145728 % 4096 = 0 ∧ 3145728 ≠ 0 ∧ 0 + 3145728 ≤ 3145728) ∧
    (admS.alive = true ∧ admS.startable adm = true ∧ admS.managerOwner = some adm.owner ∧ admS.boot.commit = none ∧ 0 < 4 ∧
     admS.fsSlot 0 = some 1) ∧
    (admS.alive = true ∧ admS.startable adm = true ∧ admS.managerOwner = some adm.owner ∧ admS.boot.commit = none ∧ 2 < 4 ∧
     admS.fsSlot 2 = some 2) ∧
    (let s : State := { admS with boot := { base.boot with nor := { base.boot.nor with fw1 := image } } }
     s.alive = true ∧ s.startable adm = true ∧ s.managerOwner = some adm.owner ∧ s.boot.commit = none ∧ 1 < 4 ∧ s.fsSlot 1 = some 1) ∧
    (admS.alive = true ∧ admS.startable adm = true ∧ admS.managerOwner = some adm.owner ∧ admS.boot.commit = none ∧ 4 ≤ 7 ∧ 7 ≤ 7) ∧
    (let s : State := { runS 16 with boot := { base.boot with commit := some ⟨io, 1, true, false⟩ } }
     let c : Commit := ⟨io, 1, true, false⟩
     s.alive = true ∧ s.boot.commit = some c ∧ s.runs c.ref = true) := by
  decide

theorem witness_FirmwareCompletes_2 :
    (let s : State := { runS 16 with boot := { base.boot with commit := some ⟨io, 4, false, true⟩ } }
     let c : Commit := ⟨io, 4, false, true⟩
     s.alive = true ∧ s.boot.commit = some c ∧ s.runs c.ref = true) := by
  decide

theorem witness_FormatAndSanitizeComplete :
    (let f : NsFormat := ⟨5, 1, 0⟩
     admS.alive = true ∧ admS.startable adm = true ∧ (admS.mayManage adm || admS.isAttached adm.owner 2) = true ∧
     (admS.isPair && decide (admS.nv.pairSt ≠ PairSt.paired)) = false ∧ admS.ns? 2 = some flatNs ∧ formatOk f = true ∧
     (flatNs.zoned = true → f.lbaf ≤ 3) ∧ 1 ≤ 1 ∧ admS.writeProtected flatNs = false) ∧
    (let f : NsFormat := ⟨3, 0, 0⟩
     admS.alive = true ∧ admS.startable adm = true ∧ (admS.mayManage adm || admS.isAttached adm.owner 1) = true ∧
     (admS.isPair && decide (admS.nv.pairSt ≠ PairSt.paired)) = false ∧ admS.ns? 1 = some zonedNs ∧ formatOk f = true ∧
     (zonedNs.zoned = true → f.lbaf ≤ 3) ∧ admS.writeProtected zonedNs = false ∧ admS.key.wiped = false ∧
     admS.emptySystemSlot.isSome = true) ∧
    (admS.alive = true ∧ admS.startable adm = true ∧ (admS.isPair && decide (admS.nv.pairSt ≠ PairSt.paired)) = false ∧
     admS.key.wiped = false) ∧
    (let s : State := { admS with key := { base.key with wiped := true } }
     s.alive = true ∧ s.startable adm = true ∧ (s.isPair && decide (s.nv.pairSt ≠ PairSt.paired)) = false ∧ s.key.wiped = true) ∧
    (admS.alive = true ∧ admS.startable adm = true ∧ (admS.isPair && decide (admS.nv.pairSt ≠ PairSt.paired)) = false ∧
     admS.nv.readOnly = false) ∧
    (let s : State := { admS with nv := { base.nv with readOnly := true } }
     s.alive = true ∧ s.startable adm = true ∧ (s.isPair && decide (s.nv.pairSt ≠ PairSt.paired)) = false ∧ s.nv.readOnly = true) := by
  decide +kernel

theorem witness_FunctionsComplete_1 :
    (let s : State := { base with host := { base.host with links := [(0, { vfEnable := true, numVfs := 4, enabled := 4 })] } }
     s.alive = true ∧ s.cfgOpen = true ∧ s.hasFn (Fn.vf 0 1) = true ∧ isTenant (s.fnOwner (Fn.vf 0 1)) = true ∧
     (s.tenant (s.fnOwner (Fn.vf 0 1))).phase ≠ TenPhase.inactive) ∧
    (base.alive = true ∧ base.hasLink 0 = true ∧ base.cfgOpen = true) ∧
    (base.alive = true ∧ base.hasLink 0 = true) ∧
    (let s : State := { base with host := { base.host with ctrls := [(4096, { flr := true })] } }
     let fn : Fn := .pf 0
     s.alive = true ∧ (s.ctrl (s.fnOwner fn)).flr = true) ∧
    (let s : State := { base with host := { base.host with links := [(0, { numVfs := 2 })] }, ten := { base.ten with slots := [] } }
     s.alive = true ∧ s.cfgOpen = true ∧ s.hasLink 0 = true ∧ (s.link 0).vfEnable = false) ∧
    (let s : State := { base with host := { base.host with links := [(0, { vfEnable := true, numVfs := 4, enabled := 4 })] } }
     s.alive = true ∧ s.cfgOpen = true ∧ (s.link 0).vfEnable = true) := by
  decide

theorem witness_FunctionsComplete_2 :
    (base.alive = true ∧ base.cfgOpen = true ∧ base.hasLink 0 = true ∧ (base.link 0).vfEnable = false ∧
     (base.ctrl (pfOwner 0)).flr = false) := by
  decide

theorem witness_HeartbeatsComplete :
    (let s : State := pairAt .joining
     let c : CompanionId := ⟨9, 1, 0, 0, 0, []⟩
     s.alive = true ∧ s.isPair = true ∧ s.pair.linkUp = true ∧ s.nv.pairSt = PairSt.joining ∧ s.nv.diverge = [] ∧ c.diverged = [] ∧
     s.journalBack = true) ∧
    (pairBase.alive = true ∧ pairBase.isPair = true ∧ pairBase.pair.linkUp = true) ∧
    (let s : State := { pairBase with pair := { pairBase.pair with heartbeats := true } }
     s.alive = true ∧ s.isPair = true ∧ s.pair.linkUp = true ∧ s.pair.heartbeats = true) ∧
    (let s : State := { pairBase with boot := { base.boot with straps := { base.boot.straps with pair := 2 } } }
     s.alive = true ∧ s.isPair = true ∧ (s.nv.pairSt = PairSt.paired ∨ s.nv.pairSt = PairSt.resync) ∧ s.sideB = true ∧
     s.boot.pins.fenceIn = false) ∧
    (let s : State := pairAt .resync
     s.alive = true ∧ s.isPair = true ∧ (s.nv.pairSt = PairSt.paired ∨ s.nv.pairSt = PairSt.resync) ∧ s.sideB = false ∧
     s.boot.pins.fenceIn = false) ∧
    (let s : State := { pairBase with boot := { base.boot with pins := { base.boot.pins with fenceIn := true } } }
     s.alive = true ∧ s.isPair = true ∧ (s.nv.pairSt = PairSt.paired ∨ s.nv.pairSt = PairSt.resync) ∧ s.sideB = false ∧
     s.boot.pins.fenceIn = true ∧ s.wp.wr = [] ∧ s.pair.opAcks = [] ∧ s.pair.forwards = [] ∧ s.pair.asks = []) := by
  decide

theorem witness_InterruptsAndCountsComplete_1 :
    (let s : State := { base with host := { base.host with ctrls := [(4096, { held := [(2, 1)], unmasked := [2] })] } }
     s.alive = true ∧ ((s.ctrl 4096).held.any fun e => e.fst == 2) = true) ∧
    (let fn : Fn := .pf 0
     base.alive = true ∧ (base.ctrl (base.fnOwner fn)).flr = false ∧ 2 < 2048 ∧ (base.ctrl (base.fnOwner fn)).fnMask = false) ∧
    (let fn : Fn := .pf 0
     base.alive = true ∧ (base.ctrl (base.fnOwner fn)).flr = false ∧ 2047 < 2048 ∧ (base.ctrl (base.fnOwner fn)).fnMask = false) ∧
    (let fn : Fn := .pf 0
     base.alive = true ∧ (base.ctrl (base.fnOwner fn)).flr = false) ∧
    (base.alive = true ∧ base.on Reg.QENG_QCOUNT_STATUS_BUSY = false) ∧
    (let s : State := { base with q := { base.q with qcount := some (0, 5) } }
     s.alive = true ∧ s.q.qcount = some (0, 5)) := by
  decide

theorem witness_InterruptsAndCountsComplete_2 :
    (base.alive = true ∧ 4095 < 4096) := by
  decide

theorem witness_KeysComplete_1 :
    (let s : State := { base.wr Reg.KEY_SLOT_SEL_SLOT 3 with key := { base.key with kek := some 1 } }
     s.alive = true ∧ s.on Reg.KEY_SLOT_STATUS_BUSY = false ∧ s.boundTo (s.rd Reg.KEY_SLOT_SEL_SLOT) = [] ∧
     s.keyChecks (s.rd Reg.KEY_SLOT_SEL_SLOT) (s.keyKind 2) 4096 false true = 0) ∧
    (let s : State := base.wr Reg.KEY_SLOT_SEL_SLOT 4
     s.alive = true ∧ s.on Reg.KEY_SLOT_STATUS_BUSY = false ∧
     s.keyChecks (s.rd Reg.KEY_SLOT_SEL_SLOT) (s.keyKind 1) 0x1FFF false true ≠ 0) ∧
    (let s : State := base.wr Reg.KEY_SLOT_SEL_SLOT 6
     s.alive = true ∧ s.on Reg.KEY_SLOT_STATUS_BUSY = false ∧ s.boundTo (s.rd Reg.KEY_SLOT_SEL_SLOT) = [] ∧
     s.keyChecks (s.rd Reg.KEY_SLOT_SEL_SLOT) (s.keyKind 1) 0x1FFF false false = 0) ∧
    (let s : State := base.wr Reg.KEY_SLOT_SEL_SLOT 4
     s.alive = true ∧ s.on Reg.KEY_SLOT_STATUS_BUSY = false ∧ s.boundTo (s.rd Reg.KEY_SLOT_SEL_SLOT) ≠ [] ∧
     s.keyChecks (s.rd Reg.KEY_SLOT_SEL_SLOT) (s.keyKind 1) 0x1FFF true false = 0) ∧
    (let s : State := base.wr Reg.KEY_SLOT_SEL_SLOT 3
     s.alive = true ∧ s.on Reg.KEY_SLOT_STATUS_BUSY = false ∧ s.key.wiped = false) ∧
    (let s : State := { base.wr Reg.ZONE_NS_SEL_NSID 2 with key := { base.key with slots := base.key.slots ++ [(6, ⟨false, .xts, 0x1FFF, 9, 0⟩)] } }
     let x : KeySlot := ⟨false, .xts, 0x1FFF, 9, 0⟩
     s.alive = true ∧ s.key.wiped = false ∧ (s.ns? (s.rd Reg.ZONE_NS_SEL_NSID)).isSome = true ∧ 6 < 8192 ∧ s.systemSlot 6 = true ∧
     s.keySlot? 6 = some x ∧ x.spent = false ∧ x.kind = KeyKind.xts) := by
  decide

theorem witness_KeysComplete_2 :
    (let l : KeyLimit := .ctr
     let v : Nat := 2 ^ 30
     base.alive = true ∧ v < base.limitNow l ∧ (limitRange l).fst ≤ v ∧ v ≤ (limitRange l).snd) ∧
    (let s : State := base.wr Reg.KEY_LIMIT_GCM_GCM_M1 5
     let l : KeyLimit := .gcm
     s.alive = true ∧ s.limitNow l < 6) := by
  decide

theorem witness_LinksAndErrorsComplete :
    (base.alive = true ∧ base.hasLink 0 = true ∧ base.perst (0 / 4) = false ∧ 3 ≤ 3 ∧ 3 ≤ 6) ∧
    (let s : State := base.wr (Reg.HOST_LINK_STATUS_UP.at 0) 1
     s.alive = true ∧ s.hasLink 0 = true ∧ s.on (Reg.HOST_LINK_STATUS_UP.at 0) = true) ∧
    (base.alive = true ∧ 1 < 2) ∧
    (base.alive = true ∧ 0 < 2) ∧
    (let w : ReqKind := .entryFetch 4096 1
     base.alive = true ∧ 7 < 8 ∧ (base.cfgOf (reqOwner w)).timeoutNs.isSome = true) ∧
    (base.alive = true ∧ 0 < 8) := by
  decide

theorem witness_LogsComplete :
    (admS.alive = true ∧ admS.startable adm = true) := by
  decide

theorem witness_MailboxesComplete_1 :
    (base.alive = true ∧ 51 < 52) ∧
    (base.alive = true ∧ 0 < 52) ∧
    (let a : Agent := .core 1
     base.alive = true ∧ 0 < 52 ∧ isReceiver 0 a = true ∧ (base.mailbox 0).fwd = []) ∧
    (let s : State := withMbx 31 { owner := 64, fwd := [1#32, 2#32] }
     let a : Agent := .core 32
     let w : Word := 1#32
     let l : List Word := [2#32]
     s.alive = true ∧ 31 < 52 ∧ isReceiver 31 a = true ∧ (s.mailbox 31).fwd = w :: l) ∧
    (let a : Agent := .core 8
     base.alive = true ∧ 47 < 52 ∧ isReceiver 47 a = true) ∧
    (let s : State := withMbx 0 { owner := 64 }
     let a : Agent := .manager
     s.alive = true ∧ 0 < 52 ∧ (s.mailbox 0).owner = agentId a ∧ (s.mailbox 0).rep = []) := by
  decide

theorem witness_MailboxesComplete_2 :
    (let s : State := withMbx 0 { owner := 64, rep := [1#32] }
     let a : Agent := .manager
     let w : Word := 1#32
     let l : List Word := []
     s.alive = true ∧ 0 < 52 ∧ (s.mailbox 0).owner = agentId a ∧ (s.mailbox 0).rep = w :: l) ∧
    (let s : State := withMbx 0 { owner := 64, fwd := [1#32] }
     let a : Agent := .manager
     s.alive = true ∧ 0 < 52 ∧ (s.mailbox 0).owner = agentId a) ∧
    (let a : Agent := .manager
     base.alive = true ∧ 0 < 52 ∧ isReceiver 0 a = false) ∧
    (let a : Agent := .manager
     base.alive = true ∧ 0 < 52 ∧ (base.mailbox 0).owner ≠ agentId a) ∧
    (let s : State := withMbx 0 { owner := 64, fwd := [1#32], timed := some 1 }
     s.alive = true ∧ (s.mailbox 0).timed = some 1) ∧
    (base.alive = true ∧ (50 = 50 ∨ 50 = 51) ∧ (base.mailbox 50).fwd.length < 8) := by
  decide

theorem witness_MailboxesComplete_3 :
    (base.alive = true ∧ (51 = 50 ∨ 51 = 51)) ∧
    (base.alive = true ∧ (50 = 50 ∨ 50 = 51)) ∧
    (base.alive = true ∧ (49 = 48 ∨ 49 = 49) ∧ (base.mailbox 49).rep.length < 8) := by
  decide

theorem witness_MediaCareComplete :
    (let s : State := { base with nv := { base.nv with blocks := [(blockKey 0 5, { st := .full, nextPage := 3 })] } }
     s.alive = true) ∧
    (let s : State := { base with md := { base.md with dec := [(0, { dec with op := op .read (.scrub none) }), (1, { dec with op := op .read (.scrub none), cw := 1 })], scrubs := [(0, default)] } }
     let x : Dec := { dec with op := op .read (.scrub none) }
     let x' : Dec := { dec with op := op .read (.scrub none), cw := 1 }
     s.alive = true ∧ mapGet? s.md.dec 0 = some x ∧ x.step = 1 ∧ x.softLeft = 0 ∧ x.op.purpose = Purpose.scrub none ∧
     0 = x.op.blocks.getD 0 0 ∧ mapGet? s.md.scrubs (blockKey (dieKey x.ch x.die) 0) = some default ∧ mapGet? s.md.dec 1 = some x' ∧
     1 ≠ 0 ∧ x'.op = x.op ∧ s.md.job = []) ∧
    (let s : State := { base.wr Reg.MEDIA_WL_CFG_ENABLE 1 with nv := { base.nv with zones := [(zoneKey 1 1, { st := .full, column := some 0, sets := [0, 0, 0, 0], wp := 192, reserved := 192, committed := 192, lastWrite := 6 })] } }
     let set : Nat := zoneKey 1 1
     let x : Nat × List Nat := (0, [0, 0, 0, 0])
     s.alive = true ∧ s.pausedPs = false ∧ s.on Reg.MEDIA_WL_CFG_ENABLE = true ∧ s.nv.readOnly = false ∧
     s.chart.cur.cons.length = 1 ∧ (mapAny s.md.reloc fun k r => decide (r.why = 2) && decide (s.relocCons k = some 0)) = false ∧
     s.refreshDue 0 = false ∧ s.wearSets 0 = [(set, 6)] ∧ s.setPlace set = some x ∧
     ((s.consOf 0).columns.any fun c => s.columnServes c && (s.takeSets c).isSome) = true) ∧
    (base.alive = true ∧ base.on Reg.MEDIA_STATUS_RAW = false) ∧
    (let s : State := base.wr Reg.MEDIA_STATUS_RAW 1
     s.alive = true ∧ s.on Reg.MEDIA_STATUS_RAW = true) := by
  decide

theorem witness_MediaEventsComplete_1 :
    (let s : State := withDie { busy := .running (op .program (.unit (zoneKey 1 0) 0 1)) }
     let o : DieOp := op .program (.unit (zoneKey 1 0) 0 1)
     let set : Nat := zoneKey 1 0
     s.alive = true ∧ (s.die (dieKey 0 0)).busy = DieBusy.running o ∧ o.kind = OpKind.program ∧ o.purpose = Purpose.unit set 0 1 ∧
     (s.setPlace set).isSome = true) ∧
    (let s : State := withDie { busy := .running (op .erase .erase) }
     let o : DieOp := op .erase .erase
     s.alive = true ∧ (s.die (dieKey 0 0)).busy = DieBusy.running o ∧ o.kind = OpKind.erase ∧
     (∀ (b : Nat), b ∈ o.blocks → (s.block (dieKey 0 0) b).weakCount < 2)) ∧
    (let s : State := withDie { busy := .running (op .read (.scrub none)) }
     let o : DieOp := op .read (.scrub none)
     s.alive = true ∧ (s.die (dieKey 0 0)).busy = DieBusy.running o ∧ o.kind = OpKind.read ∧ o.purpose = Purpose.scrub none ∧
     s.md.job = [] ∧ (List.filter (fun x => decide (s.time.now - x ≤ 1000000000)) (s.die (dieKey 0 0)).timeouts).length < 2) ∧
    (let s : State := withDie { busy := .resetting }
     s.alive = true ∧ (s.die (dieKey 0 0)).busy = DieBusy.resetting) ∧
    (base.alive = true) ∧
    (let s : State := { base with md := { base.md with retraining := [(3, 0)] } }
     s.alive = true ∧ mapHas s.md.retraining 3 = true) := by
  decide

theorem witness_MediaEventsComplete_2 :
    (base.alive = true ∧ base.populated (dieKey 24 0) = true) := by
  decide

theorem witness_MembersComplete_1 :
    (base.alive = true ∧ 0x4352 = 17234 ∧ base.members.contains 5 = false) ∧
    (let s : State := withMember .failed
     s.alive = true ∧ 0x4352 = 17234 ∧ s.members.contains 1 = true ∧ (s.member 1).st = MemberSt.inService ∧ false = false ∧
     (s.members.any fun x => x != 1 && !s.memberUp x) = true) ∧
    (base.alive = true ∧ 0 ≠ 17234) ∧
    (let s : State := withMember .isolating
     s.alive = true ∧ (s.member 0).st = MemberSt.isolating) ∧
    (let s : State := { withMember .failed with power := (withDomain 15 .off).power }
     s.alive = true ∧ s.members.contains 0 = true ∧ (s.member 0).st = MemberSt.failed ∧ (s.domain (15 + 0)).state = DomState.off) ∧
    (let s : State := withMember .training
     s.alive = true ∧ (s.member 0).st = MemberSt.training ∧ s.md.rebuildQueue = []) := by
  decide

theorem witness_MembersComplete_2 :
    (let s : State := withMember .training
     s.alive = true ∧ (s.member 0).st = MemberSt.training) ∧
    (let s : State := { withMember .rebuilding with nv := { (withMember .rebuilding).nv with zones := base.nv.zones, rows := [(rowKey (zoneKey 1 0) 0, { parity := true, passed := [1, 2, 3] })] }, md := { base.md with rebuildQueue := [0], rebuildStarted := [(zoneKey 1 0, 7)] } }
     let set : Nat := zoneKey 1 0
     let sets : List Nat := [0, 0, 0, 0]
     s.alive = true ∧ (s.member 0).st = MemberSt.rebuilding ∧ s.md.rebuildQueue.head? = some 0 ∧ s.setPlace set = some (0, sets) ∧
     s.rebuildNext 0 0 = some (set, 0) ∧ s.rowComplete set 0 = true ∧
     (((s.member 0).rebuilt.any fun e => e.fst == set) = true ∨ (s.md.rebuildStarted.any fun e => e.fst == set) = true)) ∧
    (let s : State := { withMember .rebuilding with nv := { (withMember .rebuilding).nv with zones := base.nv.zones, rows := [(rowKey (zoneKey 1 0) 0, { parity := true, passed := [1, 2, 3] })] }, md := { base.md with rebuildQueue := [0], rebuildStarted := [(zoneKey 1 0, 7)] } }
     let set : Nat := zoneKey 1 0
     let sets : List Nat := [0, 0, 0, 0]
     s.alive = true ∧ (s.member 0).st = MemberSt.rebuilding ∧ s.md.rebuildQueue.head? = some 0 ∧ s.setPlace set = some (0, sets) ∧
     s.rebuildNext 0 0 ≠ some (set, 6)) ∧
    (let s : State := { withMember .rebuilding with md := { base.md with rebuildQueue := [0] } }
     s.alive = true ∧ (s.member 0).st = MemberSt.rebuilding ∧ s.md.rebuildQueue = [0]) ∧
    (let s : State := { base with md := { base.md with resyncLeft := [3] } }
     s.alive = true ∧ 3 ∈ s.md.resyncLeft) ∧
    (let s : State := { base with md := { base.md with resyncLeft := [3] } }
     s.alive = true ∧ 3 ∈ s.md.resyncLeft ∧ 0 < 4294967296) := by
  decide

theorem witness_MiCompletes_1 :
    (let s : State := { base with boot := { base.boot with manager := .mi } }
     s.alive = true ∧ s.boot.manager = Manager.mi ∧ (s.domain 0).state = DomState.on ∧ 3 < 4) ∧
    (let s : State := { base with boot := { base.boot with manager := .mi } }
     s.alive = true ∧ s.boot.manager = Manager.mi ∧ (s.domain 0).state = DomState.on) ∧
    (let s : State := { base with boot := { base.boot with manager := .mi } }
     s.alive = true ∧ s.boot.manager = Manager.mi ∧ (2 = 0 ∨ 16 < 2 ∨ 67108864 < 67108860 + 4 * 2)) ∧
    (let s : State := { base with boot := { base.boot with manager := .mi } }
     s.alive = true ∧ s.boot.manager = Manager.mi ∧ (17 = 0 ∨ 16 < 17 ∨ 67108864 < 0 + 4 * 17)) ∧
    (base.alive = true ∧ base.boot.manager ≠ Manager.mi) ∧
    (let s : State := { base with host := { base.host with ctrls := [(4096, { en := true, rdy := true })] } }
     let c : Ctrl := { en := true, rdy := true }
     s.alive = true ∧ s.host.ctrls = [(4096, c)]) := by
  decide

theorem witness_MiCompletes_2 :
    (base.alive = true ∧ 1 ≤ 3 ∧ 3 ≤ 3) ∧
    (base.alive = true) := by
  decide

theorem witness_MirroringCompletes_1 :
    (let s : State := { pairBase with pair := { pairBase.pair with placed := [6] } }
     let f : MirrorData := ⟨6, .append, 1, 0, 1, [], true⟩
     s.alive = true ∧ s.isPair = true ∧ s.pair.linkUp = true ∧ s.pair.placed.contains f.seq = true) ∧
    (let f : MirrorData := ⟨6, .append, 1, 0, 1, [9], false⟩
     pairBase.alive = true ∧ pairBase.isPair = true ∧ pairBase.pair.linkUp = true ∧ pairBase.pair.placed.contains f.seq = false ∧
     f.hallmarkOk = false) ∧
    (let f : MirrorData := ⟨6, .write false 0 0, 2, 0, 1, [9], true⟩
     pairBase.alive = true ∧ pairBase.isPair = true ∧ pairBase.pair.linkUp = true ∧ pairBase.pair.placed.contains f.seq = false ∧
     f.hallmarkOk = true ∧ kindRanges f.kind = true ∧ pairBase.ns? f.nsid = some flatNs ∧ flatNs.zoned = false) ∧
    (let s : State := { withCmd pairBase io 1 .accepted with pair := { pairBase.pair with opAcks := [(6, (io, 0, 0))] } }
     s.alive = true ∧ mapGet? s.pair.opAcks 6 = some (io, 0, 0) ∧ s.runs io = true) ∧
    (let s : State := { withCmd pairBase io 1 .accepted with pair := { pairBase.pair with sent := [0] }, wp := { base.wp with wr := [(0, wr)], next := 1 } }
     s.alive = true ∧ mapGet? s.pair.opAcks 0 = none ∧ 0 ∈ s.pair.sent ∧ mapGet? s.wp.wr 0 = some wr ∧ wr.got = true ∧
     wr.fua = false ∧ (s.ns? wr.nsid).isSome = true ∧ List.filter (fun e => ofCommand wr.ref e.snd) s.wp.wr = [(0, wr)] ∧
     s.runs wr.ref = true) ∧
    (let s : State := { pairBase with pair := { pairBase.pair with sent := [3] } }
     s.alive = true ∧ 3 ∈ s.pair.sent) := by
  decide

theorem witness_MirroringCompletes_2 :
    (pairBase.alive = true ∧ pairBase.isPair = true) ∧
    (let s : State := { pairBase with nv := { pairBase.nv with zones := [] } }
     let f : Forwarded := ⟨1, .zoneSend 1 true, 1, 0, 0, []⟩
     s.alive = true ∧ s.isPair = true ∧ s.pair.linkUp = true ∧ s.nv.pairSt = PairSt.paired ∧ f.kind = ForwardKind.zoneSend 1 true ∧
     f.data = [] ∧ s.ns? f.nsid = some zonedNs ∧ zonedNs.zoned = true ∧ s.nsReady f.nsid = true ∧
     s.homeMoving zonedNs.cons = false ∧ s.homeB zonedNs.cons = s.sideB ∧ s.zonesIn f.nsid ZoneSt.isOpen = []) ∧
    (let s : State := { withCmd pairBase io 0x79 .accepted with pair := { pairBase.pair with forwards := [(0, (io, ⟨1, .zoneSend 1 true, 1, 0, 0, []⟩))] } }
     let f : Forwarded := ⟨1, .zoneSend 1 true, 1, 0, 0, []⟩
     let st : Status := .invalidField
     s.alive = true ∧ s.pair.nsOps.contains io = false ∧
     List.find? (fun e => decide (e.snd.fst = io)) s.pair.forwards = some (0, io, f) ∧ s.runs io = true ∧ st ≠ Status.success) ∧
    (let s : State := { withCmd pairBase io 0x79 (.waiting 0) with nv := { pairBase.nv with zones := [] }, pair := { pairBase.pair with forwards := [(0, (io, ⟨1, .zoneSend 1 true, 1, 0, 0, []⟩))] } }
     let f : Forwarded := ⟨1, .zoneSend 1 true, 1, 0, 0, []⟩
     s.alive = true ∧ s.pair.nsOps.contains io = false ∧
     List.find? (fun e => decide (e.snd.fst = io)) s.pair.forwards = some (0, io, f) ∧ s.runs io = true ∧
     f.kind = ForwardKind.zoneSend 1 true ∧ f.data = [] ∧ s.startable io = true ∧ s.ns? f.nsid = some zonedNs ∧
     zonedNs.zoned = true ∧ s.reaches io f.nsid = true ∧ s.nsReady f.nsid = true ∧ s.zonesIn f.nsid ZoneSt.isOpen = []) := by
  decide

theorem witness_NamespacesComplete :
    (let s : State := { admS with nv := { base.nv with ns := [], zones := [] } }
     let f : NsFormat := ⟨0, 0, 0⟩
     let h : List Nat := []
     s.alive = true ∧ s.startable adm = true ∧ s.mayManage adm = true ∧ (s.isPair && decide (s.nv.pairSt ≠ PairSt.paired)) = false ∧
     s.createCheck 1 2 256 f h = none ∧ s.key.kek.isSome = true ∧ s.nv.readOnly = false ∧ s.rd Reg.MEDIA_STATUS_RAW ≠ 1 ∧
     s.overCapacity (1 - 1) (2 == 2) 256 f.lbaf = false ∧ s.freeNsid = some 1 ∧ s.emptySystemSlot = some 6) ∧
    (admS.alive = true ∧ admS.startable adm = true ∧ admS.mayManage adm = true ∧
     (admS.isPair && decide (admS.nv.pairSt ≠ PairSt.paired)) = false ∧ (admS.ns? 1).isSome = true ∧ 1 ≠ 4294967295) ∧
    (let s : State := { admS with nv := { base.nv with attach := [] } }
     let l : List Nat := [1, 4097]
     s.alive = true ∧ s.startable adm = true ∧ s.mayManage adm = true ∧ (s.ns? 1).isSome = true ∧ l ≠ [] ∧
     l.all s.validCtrl = true ∧ (∀ (i : Nat), i ∈ l → s.isAttached (ctrlIdOwner i) 1 = false) ∧
     (∀ (i : Nat), i ∈ l → s.attachRefused 1 (ctrlIdOwner i) = false) ∧ s.ledgersOver 1 (List.map ctrlIdOwner l) = false) ∧
    (let l : List Nat := [1, 4097]
     admS.alive = true ∧ admS.startable adm = true ∧ admS.mayManage adm = true ∧ (admS.ns? 1).isSome = true ∧ l ≠ [] ∧
     l.all admS.validCtrl = true ∧ (∀ (i : Nat), i ∈ l → admS.isAttached (ctrlIdOwner i) 1 = true)) ∧
    (let s : State := { withCmd (pairAt .joining) adm 13 .fetched with freeCtr := 0 }
     s.alive = true ∧ s.startable adm = true ∧ s.mayManage adm = true ∧ s.isPair = true ∧ s.nv.pairSt ≠ PairSt.paired) := by
  decide +kernel

theorem witness_OnlyTheManagerBreaksALock :
    (let s : State := withMbx 51 { owner := 3, fwd := [1#32] }
     s.alive = true ∧ 51 < 52) ∧
    (let a : Agent := .core 1
     base.alive = true ∧ a ≠ Agent.manager) ∧
    (base.alive = true ∧ 0 < 52 ∧ 0 ≠ 19778) := by
  decide

theorem witness_PairLinkCompletes :
    (pairBase.alive = true ∧ pairBase.isPair = true ∧ 4 ≤ 4 ∧ pairBase.boot.bulumWait = false ∧ pairBase.journalBack = true) ∧
    (let s : State := { pairBase with pair := { pairBase.pair with linkUp := false } }
     s.alive = true ∧ s.isPair = true ∧ s.pair.linkUp = false) ∧
    (pairBase.alive = true ∧ pairBase.pair.linkUp = true) ∧
    (pairBase.alive = true ∧ pairBase.pair.linkUp = true ∧ 7 < 8) := by
  decide

theorem witness_PortsAndServePairsComplete_1 :
    (base.alive = true ∧ base.hasPort 1 = true ∧ (base.netPort 1).up = false ∧ base.portPowered 1 = true) ∧
    (let s : State := withQp qp
     s.alive = true ∧ (s.netPort 0).up = true) ∧
    (let s : State := withQp qp
     s.alive = true ∧ (s.netPort 0).up = true ∧ 7 < 8) ∧
    (base.alive = true ∧ 7 < 8) ∧
    (let s : State := { base with net := { base.net with ports := [(0, { up := true, paused := 4 })] } }
     s.alive = true ∧ bit (s.netPort 0).paused 2 = true ∧ bit (s.netPort 0).noted 2 = false) ∧
    (base.alive = true ∧ base.on Reg.NET_SQP_STATUS_BUSY = false ∧ (base.sqp (base.rd Reg.NET_SQP_SEL_HANDLE)).st = SqpSt.idle ∧
     base.sqpOwnerActive 3 = false) := by
  decide

theorem witness_PortsAndServePairsComplete_2 :
    (let s : State := { base with net := { base.net with ports := [(0, { up := true })], addrs := [(0, ⟨true, 1, 24, 0⟩)] } }
     s.alive = true ∧ s.on Reg.NET_SQP_STATUS_BUSY = false ∧ (s.sqp (s.rd Reg.NET_SQP_SEL_HANDLE)).st = SqpSt.idle ∧
     s.sqpOwnerActive 0 = true ∧ (s.netPort (s.rd Reg.NET_SQP_ATTR_PORT)).up = true ∧
     s.hasAddress (s.rd Reg.NET_SQP_ATTR_PORT) = true ∧ s.qpLeft = true) ∧
    (let s : State := { withQp qp with net := { (withQp qp).net with sqps := [(0, { st := .ready, owner := 0, qp := 1 })] } }
     s.alive = true ∧ s.on Reg.NET_SQP_STATUS_BUSY = false ∧ (s.sqp (s.rd Reg.NET_SQP_SEL_HANDLE)).st = SqpSt.ready) ∧
    (let s : State := { withQp qp with net := { (withQp qp).net with sqps := [(0, { st := .connecting, owner := 0, qp := 1 })] } }
     s.alive = true ∧ (s.sqp 0).st = SqpSt.connecting ∧ s.sqpOwnerActive (s.sqp 0).owner = true) ∧
    (let s : State := { withQp qp with net := { (withQp qp).net with sqps := [(0, { st := .connecting, owner := 0, qp := 1 })] } }
     s.alive = true ∧ (s.sqp 0).st = SqpSt.connecting) := by
  decide

theorem witness_PowerStatesComplete_1 :
    (base.alive = true ∧ base.power.psMoving = false ∧ base.psWanted < 3 ∧ base.psWanted = base.rd Reg.PWR_STATUS_PS) ∧
    (let s : State := base.wr Reg.PWR_STATUS_PS 4
     s.alive = true ∧ s.power.psMoving = false ∧ s.psWanted < 3 ∧ 3 ≤ s.rd Reg.PWR_STATUS_PS) ∧
    (let s : State := { base.wr Reg.PWR_STATUS_VP 3 with host := { base.host with ctrls := [(4096, { en := true, ps := 2 })] } }
     s.alive = true ∧ s.power.psMoving = false ∧ s.psWanted < 3 ∧ s.rd Reg.PWR_STATUS_PS < s.psWanted ∧ s.power.vpAsked = none ∧
     s.power.clkAsked = none ∧ (s.fixedRail = true ∨ (psPoint s.psWanted).fst ≤ s.rd Reg.PWR_STATUS_VP) ∧
     s.rd Reg.PWR_CLK_CTRL_CORE_MHZ ≠ (psPoint s.psWanted).snd.fst ∧
     (psPoint s.psWanted).snd.fst ≤ (ceilings (s.rd Reg.PWR_STATUS_VP)).fst ∧
     (psPoint s.psWanted).snd.snd ≤ (ceilings (s.rd Reg.PWR_STATUS_VP)).snd) ∧
    (let s : State := (base.wr Reg.PWR_STATUS_PS 2).wr Reg.PWR_STATUS_VP 1
     s.alive = true ∧ s.power.psMoving = false ∧ s.psWanted < 3 ∧ s.psWanted < s.rd Reg.PWR_STATUS_PS ∧ s.rd Reg.PWR_STATUS_PS < 3 ∧
     s.fixedRail = false ∧ s.rd Reg.PWR_STATUS_VP < (psPoint s.psWanted).fst ∧ s.power.vpAsked = none ∧ s.power.clkAsked = none) ∧
    (let s : State := { base.wr (Reg.PWR_IDLE_TIMER_MS.at 2) 5 with host := { base.host with ctrls := [(4096, { en := true, ps := 3 })] } }
     s.alive = true ∧ (3 = 3 ∨ 3 = 4) ∧ s.mayEnter 3 3 = true) ∧
    (base.alive = true ∧ (4 = 3 ∨ 4 = 4) ∧ base.mayEnter 4 3 = false ∧ base.mayEnter 4 4 = false) := by
  decide

theorem witness_PowerStatesComplete_2 :
    (base.alive = true ∧ (base.ctrl 4096).en = true ∧ 4 ≤ base.npss) := by
  decide

theorem witness_PpsAndTimersComplete_1 :
    (let s : State := withTime { source := 5, pps := { pendingLabel := some 7 } }
     s.alive = true ∧ s.time.source = 5 ∧ s.time.pps.pred = none ∧ s.time.pps.pendingLabel = some 7) ∧
    (let s : State := withTime { source := 5, sid := 1000, lock := .locked, pps := { pred := some ⟨1000, 7⟩ } }
     let p : Prediction := ⟨1000, 7⟩
     s.alive = true ∧ s.time.source = 5 ∧ s.time.pps.pred = some p ∧ s.time.pps.judged = Judged.none ∧
     s.time.lock = LockState.locked ∧ s.time.stepNext = false ∧
     (((s.time.sid + 0 : Nat) : Int) - (p.edge : Int)).natAbs ≤ s.rd Reg.TIME_PPS_WINDOW_NS) ∧
    (let s : State := withTime { source := 5, pps := { pred := some ⟨1000, 7⟩ } }
     let p : Prediction := ⟨1000, 7⟩
     s.alive = true ∧ s.time.source = 5 ∧ s.time.pps.pred = some p ∧ s.time.pps.judged = Judged.none) ∧
    (let s : State := withTime { source := 5, pps := { pred := some ⟨1000, 7⟩, judged := .accepted } }
     let p : Prediction := ⟨1000, 7⟩
     s.alive = true ∧ s.time.source = 5 ∧ s.time.pps.pred = some p ∧ s.time.pps.judged ≠ Judged.none) ∧
    (let s : State := withTime { source := 5, pps := { pred := some ⟨100000000, 7⟩ } }
     let m : Tod := ⟨todBytes⟩
     let p : Prediction := ⟨100000000, 7⟩
     s.alive = true ∧ s.time.source = 5 ∧ s.time.pps.pred = some p ∧ s.time.pps.judged = Judged.none ∧ s.time.sid < p.edge ∧
     m.wellFormed = true ∧ m.valid = true ∧ inSpan (p.edge - s.time.sid) = true ∧ m.seconds = p.label) ∧
    (let s : State := withTime { source := 5, lock := .acquiring }
     s.alive = true ∧ s.time.source = 5 ∧ s.time.lock = LockState.acquiring ∧ s.time.pps.pred = none ∧
     s.time.cameFrom = LockState.unlocked) := by
  decide +kernel

theorem witness_PpsAndTimersComplete_2 :
    (let s : State := withTime { holdStart := some 4, lock := .holdover }
     s.alive = true ∧ s.time.holdStart = some 4 ∧ s.time.holdExpired = false ∧ s.time.lock = LockState.holdover) ∧
    (let s : State := withTime { slewLeft := some 9 }
     s.alive = true ∧ s.time.slewLeft = some (9 : Int)) ∧
    (let s : State := withTime { running := true }
     s.alive = true ∧ s.time.running = true ∧ s.time.nextMeridian ≤ s.time.sid) := by
  decide +kernel

theorem witness_PtpCompletes :
    (let s : State := withTime { source := 1 }
     let m : PtpMaster := ⟨5, 5, 0, 128, 6, 0x21, 0, 128, 0, 0, false, 0⟩
     s.alive = true ∧ s.time.isPtp = true ∧ m.domain = s.rd Reg.TIME_PTP_STAT_DOMAIN) ∧
    (let s : State := withTime { source := 4, ptp := { selected := some 5 } }
     s.alive = true ∧ s.time.isPtp = true ∧ 0 = s.rd Reg.TIME_PTP_STAT_DOMAIN ∧ s.time.ptp.selected = some 5) ∧
    (let s : State := withTime { source := 4, lock := .locked, ptp := { selected := some 5 } }
     s.alive = true ∧ s.time.isPtp = true ∧ 0 = s.rd Reg.TIME_PTP_STAT_DOMAIN ∧ s.time.ptp.selected = some 5 ∧
     s.time.lock = LockState.locked ∧ s.time.stepNext = false ∧ (-10000 : Int).natAbs ≤ 10000) ∧
    (let s : State := withTime { source := 4, lock := .locked, ptp := { selected := some 5, pendingSync := some 3 } }
     s.alive = true ∧ s.time.isPtp = true ∧ 0 = s.rd Reg.TIME_PTP_STAT_DOMAIN ∧ s.time.ptp.selected = some 5 ∧
     s.time.ptp.pendingSync = some (3 : Int) ∧ s.time.lock = LockState.locked ∧ s.time.stepNext = false ∧
     (10000 : Int).natAbs ≤ 10000) ∧
    (let s : State := withTime { source := 4, ptp := { selected := some 5 } }
     s.alive = true ∧ s.time.isPtp = true ∧ s.time.ptp.selected = some 5) ∧
    (let s : State := withTime { source := 4, ptp := { selected := some 5, delayPending := true } }
     s.alive = true ∧ s.time.isPtp = true ∧ 0 = s.rd Reg.TIME_PTP_STAT_DOMAIN ∧ s.time.ptp.selected = some 5 ∧
     s.time.ptp.delayPending = true) := by
  decide

theorem witness_QueueCommandsComplete :
    (admS.alive = true ∧ admS.startable adm = true ∧ admS.isFabric adm.owner = false ∧ 1 ≤ 2 ∧ 2 < admS.queueCount adm.owner ∧
     admS.hasCq adm.owner 2 = false ∧ 1 ≤ 65535 ∧ 65535 ≤ 65535 ∧ 4096 % 4096 = 0 ∧ 2047 < 2048) ∧
    (admS.alive = true ∧ admS.startable adm = true ∧ admS.isFabric adm.owner = false ∧ 1 ≤ 63 ∧ 63 < admS.queueCount adm.owner ∧
     admS.hasSq adm.owner 63 = false ∧ 1 ≤ 1 ∧ 1 ≤ 65535 ∧ 0 % 4096 = 0 ∧ 1 ≤ 1 ∧ 1 < admS.queueCount adm.owner ∧
     admS.hasCq adm.owner 1 = true) ∧
    (admS.alive = true ∧ admS.startable adm = true ∧ adm.sqid = 0 ∧ admS.isFabric adm.owner = false ∧ 1 ≤ 1 ∧
     admS.hasSq adm.owner 1 = true ∧ (admS.qctx adm.owner 1).deleting = none) ∧
    (let s : State := { admS with q := { admS.q with ctx := [(qKey 4096 0, queue 0), (qKey 4096 1, { queue 1 with sqValid := false })] } }
     s.alive = true ∧ s.startable adm = true ∧ s.isFabric adm.owner = false ∧ 1 ≤ 1 ∧ s.hasCq adm.owner 1 = true ∧
     ((s.queuesOf adm.owner).any fun e => e.snd.sqValid && e.snd.sqCqid == 1) = false) := by
  decide

theorem witness_QueueCountChangesOnlyWhileActive :
    (let s : State := { base with q := { base.q with qcount := some (1, 5) } }
     s.alive = true ∧ s.q.qcount = some (1, 5) ∧ (s.tenant 1).phase ≠ TenPhase.active) ∧
    (let s : State := { base with q := { base.q with qcount := some (0, 1) } }
     s.alive = true ∧ s.q.qcount = some (0, 1) ∧ (s.tenant 0).phase = TenPhase.active ∧ 1 ≤ 1 ∧ 1 < s.maxQueues ∧
     (1 + 1 < (s.ctrl 0).queues → ∀ (e : Nat × QCtx), e ∈ s.queuesOf 0 → 1 + 1 ≤ e.fst → s.hasSq 0 e.fst = false ∧ s.hasCq 0 e.fst = false) ∧
     1 + 1 - (s.ctrl 0).queues ≤ s.poolFree (s.poolOf 0)) := by
  decide

theorem witness_ReadsComplete_1 :
    (let s : State := ioS 2
     s.alive = true ∧ s.startable io = true ∧ s.ns? 1 = some zonedNs ∧ s.reaches io 1 = true ∧ s.nsReady 1 = true ∧
     s.isPair = false ∧ 1 ≤ 8 ∧ 8 ≤ 256 * zonedNs.per4k ∧ 1016 + 8 ≤ zonedNs.nsze ∧
     Option.map (fun x => x.opcode) (s.cmd? io) = some 2 ∧
     (∀ (i : Nat), i < 8 → (s.zoneAt 1 ((1016 + i) / s.zoneLbas zonedNs)).st ≠ ZoneSt.offline)) ∧
    (let s : State := withDie { busy := .running (op .read (.hostRead io 0 1)) }
     let o : DieOp := op .read (.hostRead io 0 1)
     s.alive = true ∧ (s.die (dieKey 0 0)).busy = DieBusy.running o ∧ o.kind = OpKind.read ∧ o.purpose = Purpose.hostRead io 0 1 ∧
     io.owner < 65536) ∧
    (let s : State := { runS 2 with md := { base.md with dec := [(0, { dec with step := 1 })], reads := [(cmdKey io, ⟨io, 1, 0, false, [none]⟩)] } }
     let x : Dec := { dec with step := 1 }
     let j : ReadJob := ⟨io, 1, 0, false, [none]⟩
     s.alive = true ∧ mapGet? s.md.dec 0 = some x ∧ x.softLeft = 0 ∧ s.md.job = [] ∧ x.op.purpose = Purpose.hostRead io 0 1 ∧
     mapGet? s.md.reads (cmdKey io) = some j ∧ s.runs io = true ∧ Option.map (fun x => x.opcode) (s.cmd? io) = some 2 ∧
     s.wants (dieKey x.ch x.die) x.op x.cw = true ∧ s.hostBlocks io 0 1 x.cw = some (1, 0, 1) ∧ 0 ≤ 0 ∧
     0 - 0 + 1 ≤ x.op.snap.length ∧
     (∀ (i : Nat), i < j.blocks.length → (j.blocks.getD i none).isSome = true ∨ 0 ≤ j.slba + i ∧ j.slba + i < 0 + 1) ∧ x.step = 1) := by
  decide

theorem witness_ReadsComplete_2 :
    (let s : State := { runS 2 with md := { base.md with dec := [(0, { dec with step := 3 })], reads := [(cmdKey io, ⟨io, 1, 0, false, [none]⟩)] } }
     let x : Dec := { dec with step := 3 }
     let j : ReadJob := ⟨io, 1, 0, false, [none]⟩
     s.alive = true ∧ mapGet? s.md.dec 0 = some x ∧ x.softLeft = 0 ∧ s.md.job = [] ∧ x.op.purpose = Purpose.hostRead io 0 1 ∧
     mapGet? s.md.reads (cmdKey io) = some j ∧ s.runs io = true ∧ Option.map (fun x => x.opcode) (s.cmd? io) = some 2 ∧
     s.wants (dieKey x.ch x.die) x.op x.cw = true ∧ s.hostBlocks io 0 1 x.cw = some (1, 0, 1) ∧ 0 ≤ 0 ∧
     0 - 0 + 1 ≤ x.op.snap.length ∧
     (∀ (i : Nat), i < j.blocks.length → (j.blocks.getD i none).isSome = true ∨ 0 ≤ j.slba + i ∧ j.slba + i < 0 + 1) ∧ x.step = 3 ∧
     (s.domain 33).state = DomState.on) ∧
    (let s : State := { runS 2 with md := { base.md with dec := [(0, { dec with step := 2 })], reads := [(cmdKey io, ⟨io, 1, 0, false, [none]⟩)] } }
     let x : Dec := { dec with step := 2 }
     s.alive = true ∧ mapGet? s.md.dec 0 = some x ∧ x.softLeft = 0 ∧ x.step = 2 ∧ s.dieUp (dieKey x.ch x.die) = true ∧
     s.wants (dieKey x.ch x.die) x.op x.cw = true) ∧
    (let s : State := { runS 2 with nv := { base.nv with rows := [(rowKey (zoneKey 1 0) 0, { parity := true, passed := [0, 1, 2, 3] })] }, md := { base.md with dec := [(0, { dec with step := 3 })], reads := [(cmdKey io, ⟨io, 1, 0, false, [none]⟩)] } }
     let x : Dec := { dec with step := 3 }
     let set : Nat := zoneKey 1 0
     s.alive = true ∧ mapGet? s.md.dec 0 = some x ∧ x.softLeft = 0 ∧ x.step = 3 ∧ x.early = false ∧
     x.op.purpose = Purpose.hostRead io 0 1 ∧ s.wants (dieKey x.ch x.die) x.op x.cw = true ∧ (s.domain 33).state = DomState.on ∧
     s.codewordAt (dieKey x.ch x.die) x.op x.cw = some (set, 0, 1, 1) ∧ s.canRebuild set 0 1 1 = true) := by
  decide

theorem witness_ReadsComplete_3 :
    (let s : State := { runS 2 with md := { base.md with job := [(0, job)], reads := [(cmdKey io, ⟨io, 1, 0, false, [none]⟩)] } }
     let x : ReadJob := ⟨io, 1, 0, false, [none]⟩
     s.alive = true ∧ (s.domain 34).state = DomState.on ∧ mapGet? s.md.job 0 = some job ∧ job.left = [] ∧ job.bad = [] ∧
     job.kind = JobKind.outOfService io 0 1 ∧ job.lane.isSome = true ∧ mapGet? s.md.reads (cmdKey io) = some x ∧ s.runs io = true ∧
     Option.map (fun x => x.opcode) (s.cmd? io) = some 2 ∧
     (∀ (i : Nat), i < x.blocks.length → (x.blocks.getD i none).isSome = true ∨ 0 ≤ x.slba + i ∧ x.slba + i < 0 + job.snap.length)) := by
  decide

theorem witness_ResetsComplete :
    (base.boot.porN = true) ∧
    (let s : State := { State.reset with boot := { State.reset.boot with porN := false } }
     s.boot.porN = false ∧ s.power.tripped = false) ∧
    (base.alive = true ∧ base.boot.resetAsked = none) ∧
    (let s : State := { base with boot := { base.boot with resetAsked := some 2 } }
     s.alive = true ∧ s.boot.resetAsked = some 2) := by
  decide

theorem witness_RestoreCompletes_1 :
    (let s : State := { base with boot := { base.boot with stepsDone := [] } }
     s.alive = true ∧ s.boot.running = true ∧ s.stepOpen 1 = true ∧ s.boot.stepsDone.contains 1 = false ∧
     (1 = 1 ∨ 1 = 4 ∨ 1 = 6 ∨ 1 = 7 ∨ 1 = 8)) ∧
    (let s : State := { base with boot := { base.boot with stepsDone := [1, 2, 3] }, chart := { base.chart with safeInForce := true } }
     s.alive = true ∧ s.boot.running = true ∧ s.stepOpen 4 = true ∧ s.boot.stepsDone.contains 4 = false ∧ s.charted = false ∧
     4 ≤ 4 ∧ 4 ≤ 8) ∧
    (let s : State := { base with boot := { base.boot with stepsDone := [1, 2] }, dram := { base.dram with filled := [(0, 8192)] } }
     s.alive = true ∧ s.boot.running = true ∧ s.stepOpen 3 = true ∧ s.boot.stepsDone.contains 3 = false ∧ s.dramRestored = true) ∧
    (let s : State := { base with boot := { base.boot with stepsDone := [1, 2, 3, 4] } }
     s.alive = true ∧ s.boot.running = true ∧ s.stepOpen 5 = true ∧ s.boot.stepsDone.contains 5 = false ∧ s.charted = true ∧
     (s.isPair && !s.pair.linkUp) = false) ∧
    (let s : State := { pairBase with boot := { base.boot with stepsDone := [1, 2, 3, 4] }, pair := { pairBase.pair with linkUp := false } }
     s.alive = true ∧ s.boot.running = true ∧ s.stepOpen 5 = true ∧ s.boot.stepsDone.contains 5 = false ∧
     (s.isPair && !s.pair.linkUp) = true) ∧
    (let s : State := { pairBase with boot := { base.boot with stepsDone := [1, 2, 3, 4], bulumWait := true, found := some found } }
     s.alive = true ∧ s.boot.bulumWait = true ∧ s.boot.found = some found ∧ s.boot.stepsDone.contains 5 = false) := by
  decide

theorem witness_RestoreCompletes_2 :
    (let s : State := { base with boot := { base.boot with fillHeld := true } }
     s.alive = true ∧ s.boot.fillHeld = true) := by
  decide

theorem witness_ServeStartCompletes :
    (let s : State := ioS serveOpcode
     s.alive = true ∧ s.startable io = true ∧ s.program io = none ∧ s.contextFor io.owner = some 0) ∧
    (let s : State := { ioS serveOpcode with regs := (base.wr Reg.SERVE_CFG_TEN_MAX 0).regs }
     s.alive = true ∧ s.startable io = true ∧ s.program io = none ∧ s.contextFor io.owner = none) ∧
    (let s : State := { withCmd base io 0xC1 (.waiting 0) with serve := { base.serve with waits := [⟨io, none, progWords, 192⟩] } }
     let w : ServeWait := ⟨io, none, progWords, 192⟩
     let p : Program := ⟨1, [0, 0, 0, 0], List.replicate 8 0, [(0, .post false 0)]⟩
     s.alive = true ∧ s.startable io = true ∧ s.program io = none ∧ s.serve.waits = [w] ∧ w.ref = io ∧
     s.contextFor io.owner = some 0 ∧ (s.serveWords io.owner w.slot w.len w.words).bind parseProgram = some p ∧
     (s.programOk p && p.steps.all fun x => s.issuerOk io.owner x.snd) = true) := by
  decide

theorem witness_ServeStepsComplete_1 :
    (let s : State := { runS serveOpcode with serve := { base.serve with runs := [(cmdKey io, prog (.gather 0 0 0 0 2 false [(0, 1)]))] } }
     let x : Run1 := prog (.gather 0 0 0 0 2 false [(0, 1)])
     s.alive = true ∧ s.program io = some x ∧ x.ready = true ∧ s.runs io = true ∧
     Option.map (fun x => x.opcode) (s.cmd? io) = some serveOpcode ∧ x.next = (0, ServeStep.gather 0 0 0 0 2 false [(0, 1)]) ∧
     x.ranges = none ∧ 0 < 2 ^ 64 ∧ 1 ≤ 1 ∧ 1 < 2 ^ 32 ∧ 0 + 1 * s.lbaBytes 2 ≤ x.prog.bufSize 0 ∧ 0 < x.bufs.length ∧
     s.ns? 2 = some flatNs ∧ s.reaches io 2 = true ∧ s.nsReady 2 = true ∧ 0 + 1 ≤ flatNs.nsze ∧ s.isPair = false ∧
     (∀ (e : Nat × Nat), e ∈ s.dram.poisoned → e.fst ≠ cmdKey io) ∧
     (∀ (i : Nat), i < 1 → (s.zoneAt 2 ((0 + i) / s.zoneLbas flatNs)).st ≠ ZoneSt.offline ∧ (s.readBlock flatNs 2 (0 + i)).isSome = true)) ∧
    (let s : State := { runS serveOpcode with serve := { base.serve with runs := [(cmdKey io, prog (.openStep 0 0 1 0 3 0 0 64))] } }
     let x : Run1 := prog (.openStep 0 0 1 0 3 0 0 64)
     s.alive = true ∧ s.program io = some x ∧ x.ready = true ∧ s.runs io = true ∧
     x.next = (0, ServeStep.openStep 0 0 1 0 3 0 0 64) ∧ 64 < 2 ^ 32 ∧ 0 + 64 ≤ x.prog.bufSize 0 ∧
     0 + 28 + 0 + 64 ≤ x.prog.bufSize 1 ∧ 0 < x.bufs.length) := by
  decide

theorem witness_ServeStepsComplete_2 :
    (let s : State := { runS serveOpcode with serve := { base.serve with runs := [(cmdKey io, prog (.cipher 0 0 1 0 3 0 false 64 0 0))] } }
     let x : Run1 := prog (.cipher 0 0 1 0 3 0 false 64 0 0)
     s.alive = true ∧ s.program io = some x ∧ x.ready = true ∧ s.runs io = true ∧
     x.next = (0, ServeStep.cipher 0 0 1 0 3 0 false 64 0 0) ∧ 64 < 2 ^ 32 ∧ 0 + 64 ≤ x.prog.bufSize 0 ∧ 0 < x.bufs.length) ∧
    (let s : State := { runS serveOpcode with serve := { base.serve with runs := [(cmdKey io, prog (.emit 0 0 64 0 1))] } }
     let x : Run1 := prog (.emit 0 0 64 0 1)
     s.alive = true ∧ s.program io = some x ∧ x.ready = true ∧ x.next = (0, ServeStep.emit 0 0 64 0 1) ∧ 0 < x.bufs.length) := by
  decide

theorem witness_ServeStepsComplete_3 :
    (let s : State := { runS serveOpcode with serve := { base.serve with runs := [(cmdKey io, prog (.send 0 0 0 0 0 0 64 0 0 none))] }, net := { (withQp qp).net with sqps := [(0, { st := .ready, owner := 4096, qp := 1 })] } }
     let x : Run1 := prog (.send 0 0 0 0 0 0 64 0 0 none)
     s.alive = true ∧ s.program io = some x ∧ x.ready = true ∧ x.next = (0, ServeStep.send 0 0 0 0 0 0 64 0 0 none) ∧ 1 ≤ 64 ∧
     64 ≤ 67108864 ∧ 0 + 64 ≤ x.prog.bufSize 0 ∧ 0 < 2 ^ 64 ∧ s.readyQp 0 = some (1, qp) ∧ x.sending = none) ∧
    (let s : State := { runS serveOpcode with serve := { base.serve with runs := [(cmdKey io, prog (.post false 5))] } }
     let x : Run1 := prog (.post false 5)
     s.alive = true ∧ s.program io = some x ∧ x.ready = true ∧ s.runs io = true ∧ x.next = (0, ServeStep.post false 5)) := by
  decide

theorem witness_TenantsComplete_1 :
    (base.alive = true ∧ 4 < 4096 ∧ base.on (Reg.TEN_ECL_STATUS_BUSY.at 4) = false ∧ base.isFabric 4 = true) ∧
    (base.alive = true ∧ 0 < 4096 ∧ base.on (Reg.TEN_ECL_STATUS_BUSY.at 0) = false ∧ base.isFabric 0 = false ∧
     (base.tenant 0).phase = TenPhase.active ∧ (base.ctrl 0).en = true ∧ (base.ctrl 0).rdy = true) ∧
    (let s : State := withTen { phase := .eclipsed }
     s.alive = true ∧ 0 < 4096 ∧ s.on (Reg.TEN_ECL_STATUS_BUSY.at 0) = false ∧ (s.tenant 0).phase = TenPhase.eclipsed) ∧
    (let s : State := { base with host := { base.host with ctrls := [] }, q := { base.q with ctx := [(qKey 0 0, queue 0)] } }
     s.alive = true ∧ 0 < 4096 ∧ s.on (Reg.TEN_ECL_STATUS_BUSY.at 0) = false ∧ (s.tenant 0).phase = TenPhase.active ∧
     s.isFabric 0 = false ∧ (s.ctrl 0).en = false ∧
     ((s.queuesOf 0).all fun e => e.fst == 0 || !(e.snd.sqValid || e.snd.cqValid)) = true) ∧
    (let s : State := withTen { phase := .quiesce }
     s.alive = true ∧ (s.tenant 0).phase = TenPhase.quiesce ∧ (s.tenant 0).frozen = false ∧ s.drained 0 = true) ∧
    (let s : State := withTen { phase := .quiesce }
     s.alive = true ∧ (s.tenant 0).phase = TenPhase.quiesce ∧ (s.tenant 0).frozen = false ∧ (s.tenant 0).force = false) := by
  decide +kernel

theorem witness_TenantsComplete_2 :
    (let s : State := withTen { phase := .quiesce, force := true }
     s.alive = true ∧ (s.tenant 0).phase = TenPhase.quiesce ∧ (s.tenant 0).frozen = false ∧ (s.tenant 0).force = true) ∧
    (let s : State := { withTen { phase := .quiesce, frozen := true } with regs := (base.wr (Reg.TEN_ECL_STATUS_BUSY.at 0) 1).regs }
     s.alive = true ∧ (s.tenant 0).frozen = true ∧ s.on (Reg.TEN_ECL_STATUS_BUSY.at 0) = true ∧
     (s.tenant 0).phase = TenPhase.quiesce) ∧
    (let s : State := withTen { phase := .restoring }
     s.alive = true ∧ (s.tenant 0).phase = TenPhase.restoring) ∧
    (let s : State := { withTen { phase := .restoring } with regs := (base.wr (Reg.TEN_REC_MAX_BYTES.at 0) 4096).regs }
     let l : List Nat := List.replicate 256 0
     let r : EclRecord := EclRecord.read (List.replicate 256 0)
     s.alive = true ∧ (s.tenant 0).phase = TenPhase.restoring ∧ r = EclRecord.read (List.take (s.rd (Reg.TEN_REC_MAX_BYTES.at 0)) l)) ∧
    (base.alive = true ∧ 4095 < 4096) ∧
    (base.alive = true ∧ 4 < 4096 ∧ base.isFabric 4 = true) := by
  decide +kernel

theorem witness_ThermalCompletes :
    (base.alive = true ∧ -160 ≤ (-160 : Int) ∧ (-160 : Int) ≤ 600 ∧ base.power.faulty = false ∧
     (-160 : Int) < ((base.rd Reg.THERM_THRESH1_TRIP : Nat) : Int) * 4) ∧
    (let s : State := { base with power := { base.power with hot := 1 } }
     s.alive = true ∧ -160 ≤ (600 : Int) ∧ (600 : Int) ≤ 600 ∧ s.power.faulty = false ∧
     ((s.rd Reg.THERM_THRESH1_TRIP : Nat) : Int) * 4 ≤ (600 : Int) ∧ 1 ≤ s.power.hot) ∧
    (let s : State := base.wr Reg.THERM_STATUS_LEVEL 3
     s.alive = true ∧ s.rd Reg.THERM_STATUS_LEVEL ≤ 3) := by
  decide

theorem witness_TransportCompletes_1 :
    (let s : State := withQp qp
     s.alive = true ∧ mapGet? s.net.qps 1 = some qp ∧ qp.port < 16 ∧ s.on Reg.NET_CC_CFG_ENABLE = true) ∧
    (let s : State := withQp { qp with steps := 4 }
     let q : Qp := { qp with steps := 4 }
     s.alive = true ∧ mapGet? s.net.qps 1 = some q ∧ q.port < 16 ∧ s.on Reg.NET_CC_CFG_ENABLE = true ∧ q.steps < 5) ∧
    (let s : State := withQp qp
     let k : RocePacket := ⟨0, 100, none, 0, false, 0, .send 1 0 true⟩
     s.alive = true ∧ (s.netPort k.port).up = true ∧ k.bytes ≤ s.chart.cur.ports.mtu ∧ k.occupancy ≤ s.portBuffer k.port ∧
     k.ce = false ∧ k.kind = RoceKind.send 1 0 true ∧ mapGet? s.net.qps 1 = some qp ∧ qp.error = false ∧ 0 = qp.expect ∧
     qp.unacked < 15) ∧
    (let s : State := withQp qp
     let k : RocePacket := ⟨0, 100, none, 0, false, 0, .send 1 3 true⟩
     s.alive = true ∧ (s.netPort k.port).up = true ∧ k.bytes ≤ s.chart.cur.ports.mtu ∧ k.occupancy ≤ s.portBuffer k.port ∧
     k.ce = false ∧ k.kind = RoceKind.send 1 3 true ∧ mapGet? s.net.qps 1 = some qp ∧ qp.error = false ∧ 3 ≠ qp.expect) ∧
    (let s : State := withQp qp
     let k : RocePacket := ⟨0, 100, none, 0, false, 10000000000, .send 1 3 true⟩
     s.alive = true ∧ (s.netPort k.port).up = true ∧ k.bytes ≤ s.chart.cur.ports.mtu ∧ s.portBuffer k.port < k.occupancy ∧
     k.kind ≠ RoceKind.ptp) ∧
    (let s : State := withQp qp
     let k : RocePacket := ⟨0, 100, none, 0, false, 0, .rdmaWrite 1 0⟩
     s.alive = true ∧ (s.netPort k.port).up = true ∧ k.bytes ≤ s.chart.cur.ports.mtu ∧ k.occupancy ≤ s.portBuffer k.port ∧
     k.ce = false ∧ (k.kind = RoceKind.rdmaRead 1 0 ∨ k.kind = RoceKind.rdmaWrite 1 0) ∧ mapHas s.net.qps 1 = true) := by
  decide

theorem witness_TransportCompletes_2 :
    (let s : State := withQp qp
     s.alive = true ∧ mapGet? s.net.qps 1 = some qp ∧ qp.unacked ≠ 0) ∧
    (let s : State := withQp qp
     s.alive = true ∧ mapGet? s.net.qps 1 = some qp ∧ qp.ahead 3 < qp.next - qp.acked) ∧
    (let s : State := withQp qp
     s.alive = true ∧ mapGet? s.net.qps 1 = some qp ∧ qp.ahead 3 < qp.next - qp.acked ∧ qp.error = false ∧ qp.ahead 3 ≠ 0 ∧
     1 ≤ qp.retryCnt) ∧
    (let s : State := withQp qp
     s.alive = true ∧ mapGet? s.net.qps 1 = some qp ∧ qp.error = false ∧ qp.acked < qp.next ∧
     (qp.rnrRetry = 7 ∨ qp.rnr < qp.rnrRetry)) ∧
    (let s : State := withQp qp
     s.alive = true ∧ mapGet? s.net.qps 1 = some qp ∧ qp.error = false ∧ qp.acked < qp.next ∧ qp.rnrWait = false ∧
     qp.retries < qp.retryCnt) ∧
    (let s : State := withQp { qp with retries := 3 }
     let q : Qp := { qp with retries := 3 }
     s.alive = true ∧ mapGet? s.net.qps 1 = some q ∧ q.error = false ∧ q.acked < q.next ∧ q.rnrWait = false ∧
     q.retryCnt ≤ q.retries ∧ q.use = QpUse.fresh) := by
  decide

theorem witness_TransportCompletes_3 :
    (let s : State := withQp { qp with rnrWait := true }
     let q : Qp := { qp with rnrWait := true }
     s.alive = true ∧ mapGet? s.net.qps 1 = some q ∧ q.rnrWait = true) := by
  decide

theorem witness_WatchdogsComplete :
    (base.alive = true ∧ 1 ≤ 32 ∧ 32 ≤ 32 ∧ base.boot.resetAsked = none ∧ base.net.assocs = []) ∧
    (base.alive = true ∧ base.devWatched = true) ∧
    (base.alive = true ∧ base.devWatched = true ∧ base.boot.resetAsked = none ∧ base.net.assocs = []) ∧
    (let s : State := base.wr Reg.WDT_STATUS_BOOT_RUNNING 1
     s.alive = true ∧ s.on Reg.WDT_STATUS_BOOT_RUNNING = true ∧ s.rd Reg.BOOT_STATUS_STAGE ≠ 9 ∧ s.boot.resetAsked = none ∧
     s.net.assocs = []) := by
  decide

theorem witness_WindowCompletes :
    (base.alive = true ∧ base.windowReached = true ∧ base.managerFlr = false ∧ 3 < 4 ∧ (base.domain 0).state = DomState.on) ∧
    (base.alive = true ∧ base.windowReached = true ∧ base.managerFlr = false ∧ 14 % 16 ≠ 15) ∧
    (base.alive = true ∧ base.windowReached = true ∧ base.managerFlr = false ∧ (base.domain 0).state = DomState.on) ∧
    (base.alive = true ∧ base.windowReached = true ∧ base.managerFlr = false ∧ base.boot.recovery = false ∧
     base.inWarmReset = false ∧ base.chart.phase ≠ ChartPhase.loading ∧ (base.domain 6).state = DomState.on) ∧
    (let s : State := { base with host := { base.host with ctrls := [(4096, { en := true, rdy := true, queues := 4, flr := true })] } }
     s.alive = true ∧ s.windowReached = true ∧ s.managerFlr = true) := by
  decide

theorem witness_WriteDataAndFlushComplete :
    (let s : State := { runS 1 with wp := { base.wp with wr := [(0, { wr with got := false, needAck := false })], next := 1 } }
     s.alive = true ∧ s.runs io = true ∧ (∃ e, e ∈ s.wp.wr ∧ e.snd.ref = io ∧ e.snd.completed = none ∧ e.snd.got = false) ∧
     (∀ (e : Nat × Wr), e ∈ s.wp.wr → e.snd.ref = io → e.snd.fua = false ∧ e.snd.needAck = false ∧ (s.ns? e.snd.nsid).isSome = true) ∧
     Option.map (fun x => x.opcode) (s.cmd? io) = some 1) ∧
    (let s : State := { runS 1 with wp := { base.wp with wr := [(0, { wr with got := false })], next := 1 } }
     s.alive = true ∧ s.runs io = true ∧ (∃ e, e ∈ s.wp.wr ∧ e.snd.ref = io ∧ e.snd.completed = none ∧ e.snd.got = false)) ∧
    (let s : State := ioS 0
     s.alive = true ∧ s.startable io = true ∧ s.ns? 2 = some flatNs ∧ s.reaches io 2 = true ∧ s.nsReady 2 = true ∧
     s.isPair = false ∧ 2 ≠ 4294967295 ∧ s.unseenBy io 2 = false) ∧
    (let s : State := { ioS 0 with nv := { base.nv with ns := [(2, { flatNs with deferred := { total := 1 } })] } }
     let n : Ns := { flatNs with deferred := { total := 1 } }
     s.alive = true ∧ s.startable io = true ∧ s.ns? 2 = some n ∧ s.reaches io 2 = true ∧ s.nsReady 2 = true ∧ s.isPair = false ∧
     2 ≠ 4294967295 ∧ s.unseenBy io 2 = true) := by
  decide

theorem witness_WritesComplete_1 :
    (let s : State := ioS 1
     let k : WriteKind := .write
     s.alive = true ∧ s.startable io = true ∧ s.ns? 1 = some zonedNs ∧ s.reaches io 1 = true ∧ s.nsReady 1 = true ∧
     s.isPair = false ∧ zonedNs.zoned = true ∧ s.unseenBy io 1 = false ∧ 1 ≤ 1 ∧ 1 ≤ 256 * zonedNs.per4k ∧ 4 + 1 ≤ zonedNs.nsze ∧
     (k = WriteKind.write ∨ k = WriteKind.append) ∧ s.zoneChecks zonedNs 1 4 1 k = none ∧ s.writeHeld io zonedNs 4 1 = false ∧
     s.keyAllows (zonedNs.keySlot.getD 0) (units4k zonedNs 4 1) = true ∧ (s.zoneAt 1 (4 / s.zoneLbas zonedNs)).st.isOpen = true ∧
     (mapAny s.zone.resets fun _ w => w.nsid == 1 && w.zones.contains (4 / s.zoneLbas zonedNs)) = false) ∧
    (let s : State := ioS 1
     let st : Status := .zoneIsFull
     s.alive = true ∧ s.startable io = true ∧ s.ns? 1 = some zonedNs ∧ s.reaches io 1 = true ∧ s.nsReady 1 = true ∧
     s.isPair = false ∧ zonedNs.zoned = true ∧ s.unseenBy io 1 = false ∧ 1 ≤ 1 ∧ 1 ≤ 256 * zonedNs.per4k ∧ 256 + 1 ≤ zonedNs.nsze ∧
     s.zoneChecks zonedNs 1 256 1 WriteKind.write = some (3, st)) ∧
    (let s : State := ioS 1
     s.alive = true ∧ s.startable io = true ∧ s.ns? 2 = some flatNs ∧ s.reaches io 2 = true ∧ s.nsReady 2 = true ∧
     s.isPair = false ∧ flatNs.zoned = false ∧ s.unseenBy io 2 = false ∧ 1 ≤ 256 ∧ 256 ≤ 256 * flatNs.per4k ∧
     768 + 256 ≤ flatNs.nsze ∧ s.writeProtected flatNs = false ∧ s.writeHeld io flatNs 768 256 = false ∧
     s.keyAllows (flatNs.keySlot.getD 0) (units4k flatNs 768 256) = true) := by
  decide

theorem witness_WritesComplete_2 :
    (let s : State := ioS 8
     s.alive = true ∧ s.startable io = true ∧ s.ns? 2 = some flatNs ∧ s.reaches io 2 = true ∧ s.nsReady 2 = true ∧
     s.isPair = false ∧ flatNs.zoned = false ∧ s.unseenBy io 2 = false ∧ 0 + 1024 ≤ flatNs.nsze ∧ s.writeProtected flatNs = false ∧
     flatNs.secure = false) ∧
    (let s : State := ioS 8
     s.alive = true ∧ s.startable io = true ∧ s.ns? 2 = some flatNs ∧ s.reaches io 2 = true ∧ s.nsReady 2 = true ∧
     s.isPair = false ∧ flatNs.zoned = false ∧ s.unseenBy io 2 = false ∧ 1 ≤ 4 ∧ 0 + 4 ≤ flatNs.nsze ∧
     s.writeProtected flatNs = false ∧ s.writeHeld io flatNs 0 4 = false ∧
     s.keyAllows (flatNs.keySlot.getD 0) (units4k flatNs 0 4) = true ∧ (∀ (e : Nat × Wr), e ∈ s.wp.wr → e.snd.ref ≠ io) ∧
     Option.map (fun x => x.opcode) (s.cmd? io) = some 8) ∧
    (let s : State := ioS 9
     let ranges : List (Nat × Nat) := [(0, 1024)]
     s.alive = true ∧ s.startable io = true ∧ s.ns? 2 = some flatNs ∧ s.reaches io 2 = true ∧ s.nsReady 2 = true ∧
     s.isPair = false ∧ flatNs.zoned = false ∧ s.writeProtected flatNs = false ∧ flatNs.secure = false ∧
     (∀ (x : Nat × Nat), x ∈ ranges → x.fst + x.snd ≤ flatNs.nsze)) := by
  decide

theorem witness_ZoneCommandsComplete_1 :
    (let s : State := ioS 0x79
     s.alive = true ∧ s.startable io = true ∧ s.ns? 1 = some zonedNs ∧ s.reaches io 1 = true ∧ s.nsReady 1 = true ∧
     s.isPair = false ∧ zonedNs.zoned = true ∧ 0 < zonedNs.nsze ∧ 0 % s.zoneLbas zonedNs = 0 ∧ s.writeProtected zonedNs = false ∧
     (s.zoneAt 1 (0 / s.zoneLbas zonedNs)).st = ZoneSt.iopen) ∧
    (let s : State := ioS 0x79
     s.alive = true ∧ s.startable io = true ∧ s.ns? 1 = some zonedNs ∧ s.reaches io 1 = true ∧ s.nsReady 1 = true ∧
     s.isPair = false ∧ zonedNs.zoned = true ∧ 256 < zonedNs.nsze ∧ 256 % s.zoneLbas zonedNs = 0 ∧
     s.writeProtected zonedNs = false ∧ (s.zoneAt 1 (256 / s.zoneLbas zonedNs)).st = ZoneSt.full) ∧
    (let s : State := ioS 0x79
     s.alive = true ∧ s.startable io = true ∧ s.ns? 1 = some zonedNs ∧ s.reaches io 1 = true ∧ s.nsReady 1 = true ∧
     s.isPair = false ∧ zonedNs.zoned = true ∧ 0 < zonedNs.nsze ∧ 0 % s.zoneLbas zonedNs = 0 ∧
     (s.zoneAt 1 (0 / s.zoneLbas zonedNs)).st.isOpen = true) := by
  decide

theorem witness_ZoneCommandsComplete_2 :
    (let s : State := ioS 0x79
     s.alive = true ∧ s.startable io = true ∧ s.ns? 1 = some zonedNs ∧ s.reaches io 1 = true ∧ s.nsReady 1 = true ∧
     s.isPair = false ∧ zonedNs.zoned = true ∧ 768 < zonedNs.nsze ∧ 768 % s.zoneLbas zonedNs = 0 ∧
     s.writeProtected zonedNs = false ∧
     ((s.zoneAt 1 (768 / s.zoneLbas zonedNs)).st.active || (s.zoneAt 1 (768 / s.zoneLbas zonedNs)).st == ZoneSt.empty) = true) ∧
    (let s : State := ioS 0x79
     s.alive = true ∧ s.startable io = true ∧ s.ns? 1 = some zonedNs ∧ s.reaches io 1 = true ∧ s.nsReady 1 = true ∧
     s.isPair = false ∧ zonedNs.zoned = true ∧ 0 < zonedNs.nsze ∧ 0 % s.zoneLbas zonedNs = 0 ∧ s.writeProtected zonedNs = false ∧
     (s.zoneAt 1 (0 / s.zoneLbas zonedNs)).st.active = true ∧ zonedNs.secure = false ∧
     s.rangesPending 1 (0 / s.zoneLbas zonedNs) = false) ∧
    (let s : State := ioS 0x79
     let sets : List Nat := base.zoneSetKeys (base.zoneAt 1 0)
     s.alive = true ∧ s.startable io = true ∧ s.ns? 1 = some zonedNs ∧ s.reaches io 1 = true ∧ s.nsReady 1 = true ∧
     s.isPair = false ∧ s.secureOffered = true ∧ zonedNs.zoned = true ∧ 0 < zonedNs.nsze ∧ 0 % s.zoneLbas zonedNs = 0 ∧
     s.writeProtected zonedNs = false ∧ (s.zoneAt 1 (0 / s.zoneLbas zonedNs)).st.active = true ∧
     s.rangesPending 1 (0 / s.zoneLbas zonedNs) = false ∧
     sets = s.zoneSetKeys (s.zoneAt 1 (0 / s.zoneLbas zonedNs)) ++ s.relocKeys (zoneKey 1 (0 / s.zoneLbas zonedNs)) ∧
     s.secureFull zonedNs sets = false ∧ sets ≠ []) := by
  decide

theorem witness_ZoneCommandsComplete_3 :
    (let s : State := { ioS 0x79 with chart := { base.chart with cur := chartOf 2 } }
     s.alive = true ∧ s.startable io = true ∧ s.secureOffered = false) ∧
    (let s : State := ioS 0x7A
     s.alive = true ∧ s.startable io = true ∧ s.ns? 1 = some zonedNs ∧ s.reaches io 1 = true ∧ s.nsReady 1 = true ∧
     s.isPair = false ∧ zonedNs.zoned = true ∧ 1023 < zonedNs.nsze) := by
  decide

theorem witness_ZoneEventsComplete_1 :
    (let s : State := { runS 0x79 with zone := { base.zone with resets := [(cmdKey io, ⟨io, 1, [0], false, [], false, false, [], 0⟩)] } }
     let k : Nat := cmdKey io
     let w : ZoneWait := ⟨io, 1, [0], false, [], false, false, [], 0⟩
     s.alive = true ∧ s.zone.resets = [(k, w)] ∧ w.nsid = 1 ∧ w.zones = [0] ∧ w.secure = false ∧ s.ns? 1 = some zonedNs ∧
     s.rangesPending 1 0 = false) ∧
    (let s : State := { runS 0x79 with zone := { base.zone with resets := [(cmdKey io, ⟨io, 1, [], true, [], false, false, [], 0⟩)] } }
     let w : ZoneWait := ⟨io, 1, [], true, [], false, false, [], 0⟩
     s.alive = true ∧ s.runs io = true ∧ mapGet? s.zone.resets (cmdKey io) = some w ∧ w.ref = io ∧ w.secure = true) ∧
    (let s : State := { runS 0x79 with zone := { base.zone with secureWaits := [cmdKey io], resets := [(cmdKey io, ⟨io, 1, [0], true, [], false, false, [], 0⟩)] } }
     let k : Nat := cmdKey io
     let w : ZoneWait := ⟨io, 1, [0], true, [], false, false, [], 0⟩
     let sets : List Nat := base.zoneSetKeys (base.zoneAt 1 0)
     s.alive = true ∧ s.zone.secureWaits = [k] ∧ mapGet? s.zone.resets k = some w ∧ w.zones = [0] ∧ w.granules = [] ∧
     w.secure = true ∧ s.ns? w.nsid = some zonedNs ∧ zonedNs.cons = 0 ∧ s.rangesPending w.nsid 0 = false ∧ s.isPair = false ∧
     sets = s.zoneSetKeys (s.zoneAt w.nsid 0) ++ s.relocKeys (zoneKey w.nsid 0) ∧ s.secureFull zonedNs sets = false) := by
  decide

theorem witness_ZoneEventsComplete_2 :
    (let s : State := { runS 0x79 with zone := { base.zone with openWaits := [(zoneKey 1 2, io)] }, nv := { base.nv with ns := [(1, { zonedNs with activeM1 := 0 })] } }
     let n : Ns := { zonedNs with activeM1 := 0 }
     let c : Cmd := cmdOf io 0x79 .accepted
     s.alive = true ∧ s.zone.openWaits = [(zoneKey 1 2, io)] ∧ s.ns? 1 = some n ∧ s.cmd? io = some c ∧ s.runs io = true ∧
     c.opcode = 121 ∧ (s.zoneAt 1 2).st = ZoneSt.empty ∧ s.activeFull 1 n = true) ∧
    (base.alive = true ∧ base.on Reg.ZONE_HOT_SIZE_BUSY = false ∧ base.charted = true ∧ base.chart.cur.dram.hotMinGiB ≤ 2 ∧
     2 ≤ base.chart.cur.dram.hotMaxGiB ∧ 2 < 256) ∧
    (let s : State := base.wr Reg.ZONE_HOT_SIZE_BUSY 1
     s.alive = true ∧ s.on Reg.ZONE_HOT_SIZE_BUSY = true) := by
  decide


/-! ### An ill-formed command for every check -/

theorem test_ill_formed_parts :
    [Instr.linkDown 8, .perstAssert 2, .tenWeightWrite 4096 0, .ccEnable 4104 15 15 0 0 0, .vectorUnmask (.vf 0 0) (.vector 0 false), .warm (2 ^ 32),
      .idleLevelCheck 128 false, .holdMsReached 0 32, .isolationComplete 16, .mbxTimeout 52, .netLinkUp 16,
      .pfcFrame 0 8 0].all (fun c => !wellFormed c) = true := by decide

theorem test_ill_formed_registers :
    [Instr.autoRetainIdle 36, .loRegisterRead 2, .loRegisterRead (2 ^ 26), .registerWrite 0 0#32 16, .evtPendingClear 36 0 [],
      .almListWrite 256 0 false 0, .almListWrite 0 12 false 0, .homeConfirm 256 false, .wholeBufferHold 3, .ack 0 (2 ^ 24),
      .dramRequest ⟨1, none, 0, 0, false, .other, .clean⟩].all (fun c => !wellFormed c) = true := by decide

theorem test_ill_formed_operands :
    [Instr.fetchReadComplete 0 0 (some [⟨0, 256, 0, 0, 0⟩]), .identify ⟨0, 65536, 0⟩ 0 0 0, .hotReset 9, .flrComplete (.vf 0 0),
      .completionTimeout 0 (.entryFetch 0 65536), .mbxRecv 0 (.core 0), .dieQueueEntry ⟨0, 32, .read, [], 0, .scrub none, none⟩,
      .rocePacket ⟨0, 64, none, 64, false, 0, .other⟩, .capsule 0 0 ⟨65536, 0, 0, 0, 0⟩,
      .porNDeassert { (default : Straps) with vreg := 4 } base.boot.pins none].all (fun c => !wellFormed c) = true := by decide

theorem test_well_formed :
    [Instr.linkDown 7, .tenWeightWrite 4095 0, .isolationComplete 15, .mbxRecv 51 (.core 32), .loRegisterRead (2 ^ 26 - 4),
      .flrComplete (.vf 7 1), .ccEnable 4103 15 15 0 0 0].all wellFormed = true := by decide

/-! ### The spec's worked examples -/

/-- Chart of the examples of 16 members of 8 channels. -/
def bigChart : Chart :=
  { chartOf 1 with
    dies := { (chartOf 1).dies with chans := (List.range 128).map fun c => (c, ⟨255, 2, 0⟩) }
    ports := { (chartOf 1).ports with h0Split := 1, h1Split := 0, vfCount := [600, 423, 0, 0, 1000] }
    dram := { (chartOf 1).dram with channels := 8, gibPerChannel := 32 }
    media := { (chartOf 1).media with spareMin := 40, finalReserve := 8 } }
def big : State := { base with chart := { base.chart with cur := bigChart } }

/-- spec/10: row 10 of a zone on column 69 has its parity at position 15, which is die F122.1.1. -/
theorem test_parity_of_row_10 : big.parityPos 69 10 = 15 ∧ columnDie 15 69 = dieKey 122 5 := by decide +kernel

/-- spec/08: F017.3.1 is on column 45. -/
theorem test_column_of_die : columnOf (dieKey 17 (3 * 4 + 1)) = 45 := by decide

/-- spec/04: the slots of H0.1 begin at 600 and those of H1.0 at 1,023; controller ID 0x03FF is slot 1,022. -/
theorem test_slots_of_links : big.firstSlot 1 = 600 ∧ big.firstSlot 4 = 1023 ∧ ctrlIdOwner 0x03FF = 1022 := by decide

/-- spec/15: address 0x12_3456_7840 is on D0, subchannel A, bank group 3, bank 2. -/
theorem test_dram_hash :
    let s : State := { big with dram := { base.dram with masks := (List.range 9).map resetMask } }
    s.dramChannel 0x48D159E1 = 0 ∧ s.dramSub 0x48D159E1 = 0 ∧ s.dramBank 0x48D159E1 = 3 + 8 * 2 := by decide

/-- spec/08, Table DSC-4: 420 per mille of 250 µs are 105 die-µs, the reserve's 120 are 30, in units of 1/256. -/
theorem test_grants :
    let s : State := { base with md := { base.md with shares := [100, 420, 120, 80, 60, 20, 60, 20, 120] } }
    s.grantOf 1 = 105 * 256 ∧ s.grantOf 8 = 30 * 256 := by decide

/-- spec/03: an entry offset of 30 ns and 30 s at 1,000 ppb bound the offset at 30,080 ns. -/
theorem test_hold_bound :
    ({ lock := .holdover, holdStart := some 0, now := 30000000000, entryOffset := 30 } : TimeState).holdBound 1000 = 30080 := by decide

/-- spec/03: a deadline field of 25 is 50 µs after the stamp. -/
theorem test_deadline :
    ({ cmdOf io 2 .fetched with dl := 0x19, stamp := some 1700000000000120000, fetchedAt := 1700000000000121000 } : Cmd).deadlineAtFetch =
      .live 1700000000000170000 := by decide

/-- spec/09: with 180 spares at format and 100 left the die reports 53, against a threshold of 19. -/
theorem test_spare_terms :
    let s : State := { big with nv := { ({} : Nv) with
                                        spare0 := [(0, 180)], blocks := (List.range 100).map fun i => (i, { pool := 1 }) } }
    s.spareTerm 0 = 53 ∧ s.thresholdTerm 0 = 19 := by decide +kernel

/-- spec/20, Table REG-2: the window address of TEN_WEIGHT of slot 212. -/
theorem test_window_address : (Reg.TEN_WEIGHT_WEIGHT.at 212).addr = 0x0020D408 := by decide

/-! ### Single steps -/

/-- What holds of the next state, if there is one. -/
def after (o : Host.Outcome State Fault Refusal) (p : State → Bool) : Bool :=
  match o with
  | .next t => p t
  | _ => false

/-- spec/18, Table MBX-2, steps 1, 5, 7 and 8: a lock held by a dead core. -/
theorem test_mailbox_lock :
    after (step { base with pending := [.mbxLockRead 5 (.core 13)] })
      (fun t => t.out = [.regValue 0#32] && (t.mailbox 5).owner = 13) = true := by decide +kernel

theorem test_mailbox_held :
    after (step { withMbx 5 { owner := 13 } with pending := [.mbxLockRead 5 (.core 20)] })
      (fun t => t.out = [.regValue 13#32] && (t.mailbox 5).owner = 13) = true := by decide +kernel

theorem test_mailbox_break :
    after (step { withMbx 5 { owner := 13, rep := [1#32], tx := true } with pending := [.mbxBreak 5 .manager 0x4D42] })
      (fun t => t.mailbox 5 = { broken := true } && t.rd Reg.EVT_STATUS_LAST = 1113) = true := by decide +kernel

/-- R123, R128: a write of one block at the write pointer of an open zone reserves the block. -/
theorem test_zone_write :
    after (step { ioS 1 with pending := [.write io 1 4 1 false 0 0] })
      (fun t => (t.zoneAt 1 0).reserved = 5 && (t.zoneAt 1 0).wp = 4 && t.runs io) = true := by decide +kernel

/-- Table ZON-4: a write below the reserved place of the zone is refused. -/
theorem test_zone_write_below :
    after (step { ioS 1 with pending := [.write io 1 3 1 false 0 0] })
      (fun t => (t.zoneAt 1 0).reserved = 4 && t.ended io = some (.zoneInvalidWrite, 0, 0)) = true := by decide +kernel

/-- Table ZON-3: a close of an implicitly opened zone leaves it CLOSED. -/
theorem test_zone_close :
    after (step { ioS 0x79 with pending := [.zoneClose io 1 0 false false] })
      (fun t => (t.zoneAt 1 0).st = .closed && t.ended io = some (.success, 0, 0)) = true := by decide +kernel

/-- R111: a weight of 0 is recorded, and the one applied stays until the meridian. -/
theorem test_weight_recorded :
    after (step { base with pending := [.tenWeightWrite 17 0] })
      (fun t => t.weight 17 = 0 && t.weightNow 17 = base.weightNow 17) = true := by decide +kernel

/-- R477: a write with a byte enable clear has no effect and is counted. -/
theorem test_partial_write :
    after (step { base with pending := [.registerWrite 0x20 5#32 7] })
      (fun t => t.rd (Reg.DEV_SCRATCH_DATA.at 0) = 0 && t.rd Reg.DEV_ACC_ERR_PARTIAL = 1) = true := by decide +kernel

/-- spec/21, the worked balls of R506: member 0's slice from ball 14.1 on, ball 25.33, and D5's block from ball 28.67 on. -/
theorem test_balls :
    ballAt 14 1 = some (.rail (.vccqMg 0)) ∧ ballAt 13 1 = some (.rail .vss) ∧ ballAt 10 1 = some (.flash 0 (.dq 0)) ∧
      ballAt 12 2 = some (.flash 0 .dqsT) ∧ ballAt 25 33 = some (.sideband "POR_N") ∧ ballAt 28 67 = some (.dram 5 false .ckT) ∧
      ballAt 28 55 = some (.rail .vddqDdr) := by decide +kernel

end Sys2Proof.Tests
end

namespace Sys2Proof.Machine

/-! ### Queue counts (R97, R337) -/

/-- A delivery writes the event's own word of pending bits only (R445). -/
theorem State.rd_deliver_of_ne_pending (s : State) {n : Nat} {g : Field} (hk : g.key ≠ (Reg.EVT_PENDING_BITS.at (n / 32)).key) :
    (s.deliver n).rd g = s.rd g := by
  unfold State.deliver
  extract_lets a f w b
  have ha : a.rd g = s.rd g := by
    unfold a
    split <;> rfl
  have hb : b.rd g = s.rd g := (State.rd_wr_ne a _ hk).trans ha
  split
  · split
    · exact ha
    · split
      · exact (State.rd_congr (State.msix_regs ..) g).trans hb
      · exact hb
  · exact ha

/-- EVT_STATUS.LAST names the event that occurred last (R444). -/
theorem State.rd_event_last (s : State) (n : Nat) (d : List Int) (c : Nat) :
    (s.event n d c).rd Reg.EVT_STATUS_LAST = n % 2048 := by
  have hk : Reg.EVT_STATUS_LAST.key ≠ (Reg.EVT_PENDING_BITS.at (n / 32)).key := by
    simp only [Field.key, Field.at, Reg.EVT_STATUS_LAST, Reg.EVT_PENDING_BITS]
    omega
  unfold State.event State.occurs
  exact (State.rd_deliver_of_ne_pending _ hk).trans (State.rd_wr_self ..)

/-- A change of a controller that leaves its queue count alone leaves every controller's. -/
theorem State.ctrl_modCtrl_queues (s : State) (o p : Nat) {f : Ctrl → Ctrl} (hf : ∀ c, (f c).queues = c.queues) :
    ((s.modCtrl o f).ctrl p).queues = (s.ctrl p).queues := by
  by_cases h : p = o
  · rw [h, State.ctrl_modCtrl_self, hf]
  · rw [State.ctrl_modCtrl_ne _ _ h]

/-- An asynchronous event leaves the queue counts alone (R166). -/
theorem State.ctrl_aen_queues (s : State) (o kind info page p : Nat) :
    ((s.aen o kind info page).ctrl p).queues = (s.ctrl p).queues := by
  unfold State.aen
  extract_lets c
  split
  · split
    · exact State.ctrl_modCtrl_queues _ _ _ fun c => by split <;> rfl
    · exact State.ctrl_modCtrl_queues s o p (f := fun c => { c with aers := _, aenMasked := _ }) fun _ => rfl
  · exact State.ctrl_modCtrl_queues _ _ _ fun c => by split <;> rfl

theorem State.ctrl_holdContexts_queues (s : State) (t n : Nat) : ((s.holdContexts t n).ctrl t).queues = n := by
  unfold State.holdContexts
  rw [State.ctrl_modCtrl_self]

/-- RESULT 4 is the first check (R97), so no other one matters on a slot that is not ACTIVE (R337). -/
theorem State.qcountResult_not_active {s : State} {slot : Nat} (h : (s.tenant slot).phase ≠ .active) (count : Nat) :
    s.qcountResult slot count = 4 := if_pos h

/-- A request that passes every check of R97 succeeds. -/
theorem State.qcountResult_success {s : State} {slot count : Nat} (ha : (s.tenant slot).phase = .active)
    (hlo : 2 ≤ count) (hhi : count ≤ s.maxQueues)
    (hshrink : count < (s.ctrl slot).queues → ∀ e ∈ s.queuesOf slot, count ≤ e.1 → s.hasSq slot e.1 = false ∧ s.hasCq slot e.1 = false)
    (hgrow : count - (s.ctrl slot).queues ≤ s.poolFree (s.poolOf slot)) :
    s.qcountResult slot count = 0 := by
  unfold State.qcountResult
  rw [if_neg fun hne => hne ha, if_neg (by omega)]
  split
  next hlt =>
    refine if_neg fun hany => ?_
    obtain ⟨e, he, hlive⟩ := List.any_eq_true.mp hany
    simp only [Bool.and_eq_true, decide_eq_true_eq, Bool.or_eq_true] at hlive
    have := hshrink hlt e he hlive.1
    simp [this] at hlive
  next => exact if_neg (Nat.not_lt.mpr hgrow)

/-- The state in which the change of a slot has ended with its RESULT, before an event tells of it (R97). -/
def State.qcountClosed (s : State) (slot m r : Nat) : State :=
  let t := s.updQ fun q => { q with qcount := none }
  let u := if r = 0 then t.holdContexts slot (m + 1) else t
  let v := (u.set Reg.QENG_QCOUNT_STATUS_BUSY false).wr Reg.QENG_QCOUNT_STATUS_RESULT r
  (v.wr Reg.QENG_QCOUNT_STATUS_SLOT slot).wr Reg.QENG_QCOUNT_STATUS_COUNT ((v.ctrl slot).queues - 1)

theorem State.rd_qcountClosed_result (s : State) (slot m : Nat) {r : Nat} (hr : r < 8) :
    (s.qcountClosed slot m r).rd Reg.QENG_QCOUNT_STATUS_RESULT = r := by
  unfold State.qcountClosed
  rw [State.rd_wr_ne _ _ (by decide), State.rd_wr_ne _ _ (by decide), State.rd_wr_self]
  exact Nat.mod_eq_of_lt hr

theorem State.on_qcountClosed_busy (s : State) (slot m r : Nat) :
    (s.qcountClosed slot m r).on Reg.QENG_QCOUNT_STATUS_BUSY = false := by
  unfold State.qcountClosed
  rw [State.on_wr_ne _ _ (by decide), State.on_wr_ne _ _ (by decide), State.on_wr_ne _ _ (by decide), State.on_set_self]

/-- The count becomes the one asked for on RESULT 0, and a refusal leaves it (R97). -/
theorem State.ctrl_qcountClosed_queues (s : State) (slot m r : Nat) :
    ((s.qcountClosed slot m r).ctrl slot).queues = if r = 0 then m + 1 else (s.ctrl slot).queues := by
  unfold State.qcountClosed
  extract_lets t u v
  change (u.ctrl slot).queues = _
  unfold u
  split
  · exact State.ctrl_holdContexts_queues ..
  · rfl

/-- How the change of a slot ends (R97): closed with its RESULT; a success posts Queue Count Changed and records EV0167, a refusal
records EV0168. -/
theorem exec_qcountChangeDone {s : State} {slot m r : Nat} (halive : s.alive = true) (hq : s.q.qcount = some (slot, m))
    (hr : s.qcountResult slot (m + 1) = r) :
    exec .qcountChangeDone s = .next (if r = 0 then
      ((s.quiet.qcountClosed slot m r).nextFree.aen slot 7 0xC0 ((s.quiet.qcountClosed slot m r).fresh % 256)).event 167 [slot]
    else (s.quiet.qcountClosed slot m r).event 168 [slot, r]) := by
  have hq' : s.quiet.q.qcount = some (slot, m) := hq
  subst hr
  change execQcountChangeDone s = _
  unfold execQcountChangeDone
  rw [effect_on halive, hq']
  rfl

/-- Settles O15: a slot that is not ACTIVE fails the first check, so its change ends refused with RESULT 4; a request that passes
every check ends with the count in force. -/
theorem queueCountChangesOnlyWhileActive : Obligations.QueueCountChangesOnlyWhileActive := by
  unfold Obligations.QueueCountChangesOnlyWhileActive Completes
  refine ⟨fun s slot n halive hq hphase => ?_, fun s slot n halive hq hphase hlo hhi hshrink hgrow => ?_⟩
  · rw [exec_qcountChangeDone halive hq (State.qcountResult_not_active hphase _), if_neg (by decide)]
    refine ⟨_, rfl, ?_, ?_, ?_, State.rd_event_last ..⟩
    · rw [State.rd_event _ (by decide)]
      exact State.rd_qcountClosed_result s.quiet slot n (by decide)
    · rw [State.on_event _ (by decide)]
      exact State.on_qcountClosed_busy s.quiet slot n 4
    · rw [State.ctrl_event_queues]
      exact State.ctrl_qcountClosed_queues s.quiet slot n 4
  · rw [exec_qcountChangeDone halive hq (State.qcountResult_success hphase (Nat.succ_le_succ hlo) hhi hshrink hgrow), if_pos rfl]
    refine ⟨_, rfl, ?_, ?_, ?_, State.rd_event_last ..⟩
    · rw [State.rd_event _ (by decide), State.rd_congr (State.aen_regs ..)]
      exact State.rd_qcountClosed_result s.quiet slot n (by decide)
    · rw [State.on_event _ (by decide), State.on_congr (State.aen_regs ..)]
      exact State.on_qcountClosed_busy s.quiet slot n 0
    · rw [State.ctrl_event_queues, State.ctrl_aen_queues]
      exact State.ctrl_qcountClosed_queues s.quiet slot n 0

end Sys2Proof.Machine

namespace Sys2Proof.Machine

/-! ### Mailboxes (R437, R439, R442) -/

@[simp] theorem State.mailbox_modMbx_self (s : State) (m : Nat) (f : Mailbox → Mailbox) :
    (s.modMbx m f).mailbox m = f (s.mailbox m) := mapGet_mapPut_self ..

theorem State.mailbox_modMbx_ne (s : State) {m k : Nat} (f : Mailbox → Mailbox) (h : k ≠ m) :
    (s.modMbx m f).mailbox k = s.mailbox k := mapGet_mapPut_ne _ _ _ _ h

/-- The block stays on where neither POR_N nor the trip changes (R429, R495). -/
theorem State.alive_congr {s t : State} (hboot : t.boot = s.boot) (hpower : t.power = s.power) : t.alive = s.alive := by
  unfold State.alive
  rw [hboot, hpower]

/-- A rate-limited event writes no fields but those of the event itself, whether it is recorded or suppressed (R444). -/
theorem State.rd_eventPer (s : State) {n k p : Nat} {d : List Int} {g : Field} (hk : g.key ∉ eventKeys n) :
    (s.eventPer n k p d).rd g = s.rd g := by
  have hlast : g.key ≠ Reg.EVT_STATUS_LAST.key := fun e => hk (by simp [eventKeys, occurKeys, e])
  unfold State.eventPer
  extract_lets key
  split
  · split
    · exact State.rd_wr_ne _ _ hlast
    · exact State.rd_event s hk
  · exact State.rd_event s hk

/-- The refusal counters lie apart from every field that EV1114 writes. -/
theorem mbxRefused_key_not_mem (m : Nat) : (Reg.MBX_STAT_REFUSED.at m).key ∉ eventKeys 1114 := by
  simp only [eventKeys, occurKeys, List.mem_append, List.mem_cons, List.not_mem_nil, Field.key, Field.at, Reg.MBX_STAT_REFUSED,
    Reg.EVT_STATUS_LAST, Reg.EVT_PENDING_BITS, Reg.ALM_DROPPED_OVERWRITTEN, Reg.ALM_DROPPED_DROPPED, or_false]
  omega

@[simp] theorem State.mbxRefuse_mbx (s : State) (m : Nat) : (s.mbxRefuse m).mbx = s.mbx :=
  (State.mbxRefuse_keeps ..).parts .mbx rfl

/-- A refused access is counted in MBX_STAT.REFUSED, which saturates (R437). -/
theorem State.rd_mbxRefuse_refused (s : State) (m : Nat) :
    (s.mbxRefuse m).rd (Reg.MBX_STAT_REFUSED.at m) =
      min (s.rd (Reg.MBX_STAT_REFUSED.at m) + 1) (2 ^ Reg.MBX_STAT_REFUSED.width - 1) :=
  (State.rd_eventPer _ (mbxRefused_key_not_mem m)).trans (State.rd_bump_self ..)

theorem State.regValue_mem_returns (s : State) (v : Nat) : Out.regValue (BitVec.ofNat 32 v) ∈ (s.returns v).out :=
  List.mem_append_right _ (List.mem_singleton.mpr rfl)

section
variable {s : State} {m : Nat} {a : Agent}

theorem exec_mbxBreak {u : Nat} : exec (.mbxBreak m a u) s = effect s fun s => s.mbxBreak m a u := rfl
theorem exec_mbxSend {w : Word} : exec (.mbxSend m a w) s = effect s fun s => s.mbxSend m a w := rfl
theorem exec_mbxReplyRecv : exec (.mbxReplyRecv m a) s = effect s fun s => s.mbxReplyRecv m a := rfl
theorem exec_mbxRing : exec (.ring m a) s = effect s fun s => s.mbxRing m a := rfl
theorem exec_mbxFlush : exec (.flushMailbox m a) s = effect s fun s => s.mbxFlush m a := rfl
theorem exec_mbxLockRead : exec (.mbxLockRead m a) s = effect s fun s => s.mbxLockRead m a := rfl

/-! What the owner alone may do is refused to any other agent (R439). -/

theorem State.mbxSend_not_owner (hm : m < 52) (ho : (s.mailbox m).owner ≠ agentId a) (w : Word) :
    s.mbxSend m a w = s.mbxRefuse m := (if_neg (by omega)).trans (if_pos ho)

theorem State.mbxReplyRecv_not_owner (hm : m < 52) (ho : (s.mailbox m).owner ≠ agentId a) :
    s.mbxReplyRecv m a = (s.mbxRefuse m).returns 0 := (if_neg (by omega)).trans (if_pos ho)

theorem State.mbxRing_not_owner (hm : m < 52) (ho : (s.mailbox m).owner ≠ agentId a) :
    s.mbxRing m a = s.mbxRefuse m := (if_neg (by omega)).trans (if_pos ho)

theorem State.mbxFlush_not_owner (hm : m < 52) (ho : (s.mailbox m).owner ≠ agentId a) :
    s.mbxFlush m a = s.mbxRefuse m := (if_neg (by omega)).trans (if_pos ho)

/-- A permitted sender's read takes a free lock (R437). -/
theorem State.mbxLockRead_acquires (hm : m < 52) (hfree : (s.mailbox m).owner = 0) (hsend : Machine.maySend m a = true) :
    ((s.mbxLockRead m a).mailbox m).owner = agentId a := by
  have hmbx : (s.mbxLockRead m a).mbx = (s.modMbx m fun b => { b with owner := agentId a }).mbx := by
    unfold State.mbxLockRead
    extract_lets b t
    rw [if_neg (by omega), if_pos ⟨hfree, hsend⟩]
    split <;> rfl
  rw [State.mailbox_congr hmbx, State.mailbox_modMbx_self]

/-! ### Breaking a lock (R442) -/

/-- A mailbox whose lock the manager has broken. -/
def brokenMailbox (b : Mailbox) : Mailbox :=
  { b with owner := 0, fwd := [], rep := [], rx := false, tx := false, broken := true, timed := none, wire := 0 }

/-- A break acts on its mailbox and records EV1113; what it tells the companion changes neither mailboxes nor registers. -/
theorem State.mbxBreak_manager (hm : m < 52) :
    (s.mbxBreak m .manager 0x4D42).mbx = (s.modMbx m brokenMailbox).mbx ∧
    (s.mbxBreak m .manager 0x4D42).regs = ((s.modMbx m brokenMailbox).event 1113 [m]).regs := by
  unfold State.mbxBreak
  rw [if_neg (by simp [hm]), State.unlocked_ok rfl]
  extract_lets t
  have ht : t = (s.modMbx m brokenMailbox).event 1113 [m] := rfl
  have hmbx : t.mbx = (s.modMbx m brokenMailbox).mbx := by rw [ht, State.event_mbx]
  split
  · exact ⟨hmbx, rfl⟩
  · exact ⟨hmbx, rfl⟩

theorem State.mailbox_mbxBreak_self (hm : m < 52) : (s.mbxBreak m .manager 0x4D42).mailbox m = brokenMailbox (s.mailbox m) := by
  rw [State.mailbox_congr (State.mbxBreak_manager hm).1, State.mailbox_modMbx_self]

theorem State.mailbox_mbxBreak_ne (hm : m < 52) {k : Nat} (hk : k ≠ m) :
    (s.mbxBreak m .manager 0x4D42).mailbox k = s.mailbox k := by
  rw [State.mailbox_congr (State.mbxBreak_manager hm).1, State.mailbox_modMbx_ne _ _ hk]

theorem State.rd_mbxBreak_last (hm : m < 52) : (s.mbxBreak m .manager 0x4D42).rd Reg.EVT_STATUS_LAST = 1113 := by
  rw [State.rd_congr (State.mbxBreak_manager hm).2, State.rd_event_last]

theorem State.mbxBreak_alive (s : State) (m : Nat) (a : Agent) (u : Nat) : (s.mbxBreak m a u).alive = s.alive :=
  State.alive_congr ((State.mbxBreak_keeps ..).parts .boot rfl) ((State.mbxBreak_keeps ..).parts .power rfl)

theorem State.mbxBreak_not_manager (ha : a ≠ .manager) (u : Nat) : s.mbxBreak m a u = s := if_pos (.inr ha)

/-- Another UNLOCK value is ignored and counted (R481). -/
theorem State.mbxBreak_bad_unlock (hm : m < 52) {u : Nat} (hu : u ≠ 0x4D42) :
    s.mbxBreak m .manager u = s.bump Reg.DEV_ACC_ERR_UNLOCK := by
  unfold State.mbxBreak
  rw [if_neg (by simp [hm]), State.unlocked_bad hu]

end

/-- Settles O55: a break leaves no owner, so each of the former owner's accesses is one by an agent that does not own the lock,
and its next read of MBX_LOCK finds the lock free. -/
theorem onlyTheManagerBreaksALock : Obligations.OnlyTheManagerBreaksALock := by
  unfold Obligations.OnlyTheManagerBreaksALock
  refine ⟨fun s m halive hm => ?_, fun s m a u halive ha => ?_, fun s m u halive hm hu => ?_⟩
  · refine .of_effect halive exec_mbxBreak ?_
    have hbroken := State.mailbox_mbxBreak_self (s := s.quiet) hm
    have hon : (s.quiet.mbxBreak m .manager 0x4D42).alive = true := (State.mbxBreak_alive ..).trans halive
    refine ⟨by rw [hbroken]; rfl, by rw [hbroken]; rfl, by rw [hbroken]; rfl, by rw [hbroken]; rfl, by rw [hbroken]; rfl,
      by rw [hbroken]; rfl, State.rd_mbxBreak_last hm, fun k hk => State.mailbox_mbxBreak_ne hm hk, fun a w _ ha => ?_⟩
    generalize s.quiet.mbxBreak m .manager 0x4D42 = t at hbroken hon ⊢
    have hfree : (t.quiet.mailbox m).owner = 0 := congrArg Mailbox.owner hbroken
    have hnot : (t.quiet.mailbox m).owner ≠ agentId a := hfree ▸ ha.symm
    refine ⟨.of_effect hon exec_mbxSend ?_, .of_effect hon exec_mbxReplyRecv ?_, .of_effect hon exec_mbxRing ?_,
      .of_effect hon exec_mbxFlush ?_, fun hsend => .of_effect hon exec_mbxLockRead (State.mbxLockRead_acquires hm hfree hsend)⟩
    · rw [State.mbxSend_not_owner hm hnot]
      exact ⟨State.mbxRefuse_mbx .., State.rd_mbxRefuse_refused ..⟩
    · rw [State.mbxReplyRecv_not_owner hm hnot]
      exact ⟨State.mbxRefuse_mbx .., State.regValue_mem_returns ..⟩
    · rw [State.mbxRing_not_owner hm hnot]
      exact State.mbxRefuse_mbx ..
    · rw [State.mbxFlush_not_owner hm hnot]
      exact State.mbxRefuse_mbx ..
  · refine .of_effect halive exec_mbxBreak ?_
    rw [State.mbxBreak_not_manager ha]
    exact ⟨rfl, rfl⟩
  · refine .of_effect halive exec_mbxBreak ?_
    rw [State.mbxBreak_bad_unlock hm hu]
    rfl

end Sys2Proof.Machine
